-- ==== Sys2Proof/Word.lean ====
section
/-! DEFINITION. The word types of the device and their plainest arithmetic: bytes, 32-bit and 64-bit
words, and the byte order of R39 and R54 (least significant byte first). -/

namespace Sys2Proof

/-- One byte. -/
abbrev Byte := BitVec 8

/-- One 32-bit word of the host address space (R39). -/
abbrev Word := BitVec 32

/-- A 64-bit value. -/
abbrev Dword := BitVec 64

/-- The two local paths into the host address space (R39). -/
inductive Path
  | pcie | qspi
deriving DecidableEq, Repr

/-- The `n` bytes of a number, least significant first (R54). -/
def leBytes : Nat → Nat → List Byte
  | 0, _ => []
  | n + 1, x => BitVec.ofNat 8 x :: leBytes n (x / 256)

/-- The number that bytes spell, least significant first (R54). -/
def leNat : List Byte → Nat
  | [] => 0
  | b :: bs => b.toNat + 256 * leNat bs

/-- The number that bytes spell, most significant first (QSPI addresses R41, network fields). -/
def beNat (bs : List Byte) : Nat := leNat bs.reverse

/-- The `n` bytes of a number, most significant first. -/
def beBytes (n x : Nat) : List Byte := (leBytes n x).reverse

/-- Bits [hi:lo] of a number. -/
def bits (x hi lo : Nat) : Nat := (x >>> lo) % 2 ^ (hi + 1 - lo)

/-- Bit `n` of a number. -/
def bit (x n : Nat) : Bool := x.testBit n

/-- A Bool as a number. -/
def b2n (b : Bool) : Nat := if b then 1 else 0

/-- Two's complement reading of the low `w` bits. -/
def toSigned (w x : Nat) : Int :=
  let y := x % 2 ^ w
  if y < 2 ^ (w - 1) then (y : Int) else (y : Int) - (2 ^ w : Nat)

/-- Two's complement encoding in `w` bits. -/
def ofSigned (w : Nat) (x : Int) : Nat := (x % ((2 ^ w : Nat) : Int)).toNat

/-- An integer held inside a closed interval. -/
def clampInt (lo hi x : Int) : Int := if x < lo then lo else if hi < x then hi else x

/-- A rational held inside a closed interval. -/
def clampRat (lo hi x : Rat) : Rat := if x < lo then lo else if hi < x then hi else x

/-- Saturation to the signed range of `w` bits. -/
def satSigned (w : Nat) (x : Int) : Int :=
  clampInt (-((2 ^ (w - 1) : Nat) : Int)) (((2 ^ (w - 1) : Nat) : Int) - 1) x

/-- Absolute value of a rational. -/
def rabs (x : Rat) : Rat := if x < 0 then -x else x

/-- The sign of a rational, as -1, 0 or 1. -/
def rsgn (x : Rat) : Rat := if x < 0 then -1 else if x = 0 then 0 else 1

/-- Milliseconds in nanoseconds. -/
def ms (n : Nat) : Nat := n * 1000000

/-- Microseconds in nanoseconds. -/
def us (n : Nat) : Nat := n * 1000

/-- Seconds in nanoseconds. -/
def secs (n : Nat) : Nat := n * 1000000000

end Sys2Proof
end

