-- ==== Sys2Proof/Syntax.lean ====
section
/-! DEFINITION. The commands of the device: one constructor per row of the opcode table, in the table's order.
`tm` is the device time at which the command comes (ns, R16); the other operands are what the sender
of the command or the outside world supplies with it. -/

namespace Sys2Proof

/-- The commands.  Each docstring names the row of the table and its rule. -/
inductive Instr
  /-- QSPI_READ (R41). -/
  | qspiRead (off words tm : Nat)
  /-- QSPI_QREAD (R41). -/
  | qspiQread (off words tm : Nat)
  /-- QSPI_WRITE (R41). -/
  | qspiWrite (off : Nat) (bytes : List Byte) (tm : Nat)
  /-- QSPI_QWRITE (R41). -/
  | qspiQwrite (off : Nat) (bytes : List Byte) (tm : Nat)
  /-- REGISTER_WRITE (R39). -/
  | registerWrite (p : Path) (off : Nat) (v : Word) (tm : Nat)
  /-- WIDE_REGISTER_LOW_READ (R42). -/
  | wideRegisterLowRead (p : Path) (off tm : Nat)
  /-- PCIE_LINK_DOWN (R40). -/
  | pcieLinkDown (tm : Nat)
  /-- PCIE_PERST (R534). -/
  | pciePerst (tm : Nat)
  /-- MBX_CLAIM (R48). -/
  | mbxClaim (p : Path) (m : Fin 16)
  /-- MBX_RELEASE (R48). -/
  | mbxRelease (p : Path) (m : Fin 16)
  /-- MBX_DOORBELL (R49). -/
  | mbxDoorbell (p : Path) (m : Fin 16) (tm : Nat)
  /-- MBX_TAKE (R49). -/
  | mbxTake (m : Fin 16) (tm : Nat)
  /-- MBX_AUTO_BUSY (R49). -/
  | mbxAutoBusy (m : Fin 16) (tm : Nat)
  /-- MBX_RESPONSE (R49). -/
  | mbxResponse (m : Fin 16) (tm : Nat)
  /-- MBX_DEADLINE (R49). -/
  | mbxDeadline (m : Fin 16) (tm : Nat)
  /-- IRQ_STATUS_WRITE (R44). -/
  | irqStatusWrite (v : Word)
  /-- IRQ_ENABLE_WRITE (R44). -/
  | irqEnableWrite (v : Word)
  /-- IRQ_VECTOR_WRITE (R44). -/
  | irqVectorWrite (v : Word)
  /-- IRQ_TEST (R44). -/
  | irqTest (v : Word)
  /-- HOST_WDOG_KICK (R65). -/
  | hostWdogKick (tm : Nat)
  /-- HOST_WDOG_EXPIRY (R65). -/
  | hostWdogExpiry (tm : Nat)
  /-- EVT_POP (R46). -/
  | evtPop
  /-- EVT_LOST_READ (R46). -/
  | evtLostRead
  /-- TS_TAKE (R45). -/
  | tsTake (tm : Nat)
  /-- TS_ON_TICK (R45). -/
  | tsOnTick
  /-- PI_CTRL_WRITE (R63). -/
  | piCtrlWrite (p : Path) (v : Word)
  /-- PI_HANDOVER (R63). -/
  | piHandover (p : Path) (tm : Nat)
  /-- PI_BANK_WRITE (R63). -/
  | piBankWrite (p : Path) (off : Nat) (v : Word) (tm : Nat)
  /-- PI_STATUS_UPDATE (R64). -/
  | piStatusUpdate (tm : Nat)
  /-- PI_TIMEOUT (R64). -/
  | piTimeout
  /-- GET (R53). -/
  | get (m : Fin 16) (tm : Nat)
  /-- SET (R58). -/
  | set (m : Fin 16) (tm : Nat)
  /-- GET_MULTI (R53). -/
  | getMulti (m : Fin 16) (tm : Nat)
  /-- SET_MULTI (R58). -/
  | setMulti (m : Fin 16) (tm : Nat)
  /-- SUBSCRIBE (R53). -/
  | subscribe (m : Fin 16) (tm : Nat)
  /-- FILE_OPEN (R53). -/
  | fileOpen (m : Fin 16) (tm : Nat)
  /-- FILE_WRITE (R53). -/
  | fileWrite (m : Fin 16) (tm : Nat)
  /-- FILE_READ (R53). -/
  | fileRead (m : Fin 16) (tm : Nat)
  /-- FILE_CLOSE (R53). -/
  | fileClose (m : Fin 16) (tm : Nat)
  /-- ECHO (R53). -/
  | echo (m : Fin 16) (tm : Nat)
  /-- HELLO (R487). -/
  | hello (m : Fin 16) (tm : Nat)
  /-- PROVE (R487). -/
  | prove (m : Fin 16) (tm : Nat)
  /-- END (R489). -/
  | endSession (m : Fin 16) (tm : Nat)
  /-- ENROL (R484). -/
  | enrol (m : Fin 16) (tm : Nat)
  /-- LOGIN (R428). -/
  | login (m : Fin 16) (tm : Nat)
  /-- LOGOUT (R426). -/
  | logout (m : Fin 16) (tm : Nat)
  /-- STAGE (R426). -/
  | stage (m : Fin 16) (tm : Nat)
  /-- VALIDATE (R427). -/
  | validate (m : Fin 16) (tm : Nat)
  /-- ACTIVATE (R427). -/
  | activate (m : Fin 16) (tm : Nat)
  /-- DISCARD (R426). -/
  | discard (m : Fin 16) (tm : Nat)
  /-- SET_PASSWORD (R428). -/
  | setPassword (m : Fin 16) (tm : Nat)
  /-- SAFETY_RESET (R408). -/
  | safetyReset (m : Fin 16) (tm : Nat)
  /-- SYS_SAVE (R61). -/
  | sysSave (m : Fin 16) (tm : Nat)
  /-- TRP_CLEAR (R129). -/
  | trpClear (m : Fin 16) (tm : Nat)
  /-- AX_COM_HALL_LEARN (R136). -/
  | axComHallLearn (m : Fin 16) (tm : Nat)
  /-- AX_FBK_SET_POS (R190). -/
  | axFbkSetPos (m : Fin 16) (tm : Nat)
  /-- AX_MOT_SAT_CLR (R200). -/
  | axMotSatClr (m : Fin 16) (tm : Nat)
  /-- AX_RPT_CLEAR (R215). -/
  | axRptClear (m : Fin 16) (tm : Nat)
  /-- AX_INJ_START (R218). -/
  | axInjStart (m : Fin 16) (tm : Nat)
  /-- AX_INJ_STOP (R218). -/
  | axInjStop (m : Fin 16) (tm : Nat)
  /-- AX_PRF_APPEND (R230). -/
  | axPrfAppend (m : Fin 16) (tm : Nat)
  /-- AX_PRF_FLUSH (R240). -/
  | axPrfFlush (m : Fin 16) (tm : Nat)
  /-- AX_PRF_RESUME (R238). -/
  | axPrfResume (m : Fin 16) (tm : Nat)
  /-- AX_PRF_PAUSE (R237). -/
  | axPrfPause (m : Fin 16) (tm : Nat)
  /-- AX_HOM_START (R241). -/
  | axHomStart (m : Fin 16) (tm : Nat)
  /-- AX_HOM_ABORT (R244). -/
  | axHomAbort (m : Fin 16) (tm : Nat)
  /-- AX_GEA_ENGAGE (R246). -/
  | axGeaEngage (m : Fin 16) (tm : Nat)
  /-- AX_GEA_DISENGAGE (R247). -/
  | axGeaDisengage (m : Fin 16) (tm : Nat)
  /-- TRK_CREATE (R282). -/
  | trkCreate (m : Fin 16) (tm : Nat)
  /-- TRK_DELETE (R282). -/
  | trkDelete (m : Fin 16) (tm : Nat)
  /-- TRK_MODIFY (R282). -/
  | trkModify (m : Fin 16) (tm : Nat)
  /-- TRK_SET_EV (R294). -/
  | trkSetEv (m : Fin 16) (tm : Nat)
  /-- TRK_READ (R282). -/
  | trkRead (m : Fin 16) (tm : Nat)
  /-- TRK_FLUSH (R282). -/
  | trkFlush (m : Fin 16) (tm : Nat)
  /-- AX_CMP_ARM (R300). -/
  | axCmpArm (m : Fin 16) (tm : Nat)
  /-- AX_CMP_DISARM (R302). -/
  | axCmpDisarm (m : Fin 16) (tm : Nat)
  /-- FIO_OUT_WRITE (R315). -/
  | fioOutWrite (m : Fin 16) (tm : Nat)
  /-- FIO_OUT_REARM (R320). -/
  | fioOutRearm (m : Fin 16) (tm : Nat)
  /-- FIO_DIAG (R322). -/
  | fioDiag (m : Fin 16) (tm : Nat)
  /-- CAP_ARM (R339). -/
  | capArm (m : Fin 16) (tm : Nat)
  /-- CAP_FORCE (R337). -/
  | capForce (m : Fin 16) (tm : Nat)
  /-- CAP_STOP (R339). -/
  | capStop (m : Fin 16) (tm : Nat)
  /-- PTP_SET_TIME (R366). -/
  | ptpSetTime (m : Fin 16) (tm : Nat)
  /-- TWIN_SWITCH (R399). -/
  | twinSwitch (m : Fin 16) (tm : Nat)
  /-- TWIN_REJOIN (R387). -/
  | twinRejoin (m : Fin 16) (tm : Nat)
  /-- TWIN_TAKE (R387). -/
  | twinTake (m : Fin 16) (tm : Nat)
  /-- FLOG_CLEAR (R445). -/
  | flogClear (m : Fin 16) (tm : Nat)
  /-- PWR_OPERATE (R459). -/
  | pwrOperate (m : Fin 16) (tm : Nat)
  /-- PWR_CONFIG (R459). -/
  | pwrConfig (m : Fin 16) (tm : Nat)
  /-- PWR_RESET (R471). -/
  | pwrReset (m : Fin 16) (tm : Nat)
  /-- PWR_SLEEP (R462). -/
  | pwrSleep (m : Fin 16) (tm : Nat)
  /-- PWR_WAKE (R463). -/
  | pwrWake (m : Fin 16) (tm : Nat)
  /-- SEC_FW_ACTIVATE (R480). -/
  | secFwActivate (m : Fin 16) (tm : Nat)
  /-- SEC_FW_COMMIT (R481). -/
  | secFwCommit (m : Fin 16) (tm : Nat)
  /-- SEC_TRANSFER (R485). -/
  | secTransfer (m : Fin 16) (tm : Nat)
  /-- SEC_RELEASE (R485). -/
  | secRelease (m : Fin 16) (tm : Nat)
  /-- SEC_OPER_SET (R486). -/
  | secOperSet (m : Fin 16) (tm : Nat)
  /-- SEC_LINEKEY_SET (R492). -/
  | secLinekeySet (m : Fin 16) (tm : Nat)
  /-- SEC_LINEKEY_CLEAR (R492). -/
  | secLinekeyClear (m : Fin 16) (tm : Nat)
  /-- SEC_DEBUG_UNLOCK (R495). -/
  | secDebugUnlock (m : Fin 16) (tm : Nat)
  /-- AGE_CLUSTER_TEST (R510). -/
  | ageClusterTest (m : Fin 16) (tm : Nat)
  /-- AGE_PORT_LOOP (R512). -/
  | agePortLoop (m : Fin 16) (tm : Nat)
  /-- AGE_AXIS_RESET (R511). -/
  | ageAxisReset (m : Fin 16) (tm : Nat)
  /-- AGE_FW_RESTART (R513). -/
  | ageFwRestart (m : Fin 16) (tm : Nat)
  /-- FRAME_TICK (R21). -/
  | frameTick
  /-- ENGINE_RUN (R201). -/
  | engineRun (c : Fin 8) (ns : Nat)
  /-- SCHEDULE_FRAME_SEND (R26). -/
  | scheduleFrameSend (c : Fin 8)
  /-- FRAME_OVERRUN (R36). -/
  | frameOverrun (c : Fin 8)
  /-- CLUSTER_OVERRUN (R37). -/
  | clusterOverrun (c : Fin 8)
  /-- TRAJECTORY_RUN (R225). -/
  | trajectoryRun (c : Fin 8)
  /-- DWELL_END (R232). -/
  | dwellEnd (a : Fin 128) (tm : Nat)
  /-- TARGET_REACHED (R235). -/
  | targetReached (a : Fin 128) (tm : Nat)
  /-- HOMING_STALL (R242). -/
  | homingStall (a : Fin 128) (tm : Nat)
  /-- SETPOINT_LOST (R252). -/
  | setpointLost (a : Fin 128) (tm : Nat)
  /-- STOP_TIMEOUT (R438). -/
  | stopTimeout (a : Fin 128) (tm : Nat)
  /-- L3_STOP_END (R435). -/
  | l3StopEnd (a : Fin 128) (tm : Nat)
  /-- CATCH_LISTEN_END (R147). -/
  | catchListenEnd (a : Fin 128) (tm : Nat)
  /-- BRAKE_ON_ELAPSED (R146). -/
  | brakeOnElapsed (a : Fin 128) (tm : Nat)
  /-- BRAKE_TIMEOUT (R146). -/
  | brakeTimeout (a : Fin 128) (tm : Nat)
  /-- IPD_DONE (R150). -/
  | ipdDone (a : Fin 128) (tm : Nat)
  /-- ALIGN_ELAPSED (R146). -/
  | alignElapsed (a : Fin 128) (tm : Nat)
  /-- START_ZC_REACHED (R146). -/
  | startZcReached (a : Fin 128) (tm : Nat)
  /-- START_TRY_FAIL (R152). -/
  | startTryFail (a : Fin 128) (tm : Nat)
  /-- START_PAUSE_END (R146). -/
  | startPauseEnd (a : Fin 128) (tm : Nat)
  /-- ROTOR_LOST (R153). -/
  | rotorLost (a : Fin 128) (tm : Nat)
  /-- COAST_STOP_QUIET (R146). -/
  | coastStopQuiet (a : Fin 128) (tm : Nat)
  /-- HALL_LEARN_STEP (R136). -/
  | hallLearnStep (a : Fin 128) (tm : Nat)
  /-- KE_RATIO_UPDATE (R156). -/
  | keRatioUpdate (a : Fin 128) (tm : Nat)
  /-- CURRENT_BLIND (R138). -/
  | currentBlind (a : Fin 128) (tm : Nat)
  /-- ZERO_TIMEOUT (R180). -/
  | zeroTimeout (a : Fin 128) (tm : Nat)
  /-- FBK_LOST (R183). -/
  | fbkLost (a : Fin 128) (tm : Nat)
  /-- FBK_FROZEN (R184). -/
  | fbkFrozen (a : Fin 128) (tm : Nat)
  /-- FOLLOWING_ERROR (R202). -/
  | followingError (a : Fin 128) (tm : Nat)
  /-- NUMERIC_SAT (R199). -/
  | numericSat (a : Fin 128) (tm : Nat)
  /-- VBUS_LOW (R206). -/
  | vbusLow (a : Fin 128) (tm : Nat)
  /-- INJ_DONE (R218). -/
  | injDone (a : Fin 128) (tm : Nat)
  /-- STP_HOLD (R264). -/
  | stpHold (a : Fin 128) (tm : Nat)
  /-- STP_FORCED (R267). -/
  | stpForced (a : Fin 128) (tm : Nat)
  /-- STP_FORCED_END (R267). -/
  | stpForcedEnd (a : Fin 128) (tm : Nat)
  /-- STP_BLEND_END (R268). -/
  | stpBlendEnd (a : Fin 128) (tm : Nat)
  /-- STP_ALIGN_END (R269). -/
  | stpAlignEnd (a : Fin 128) (tm : Nat)
  /-- STP_RATE (R260). -/
  | stpRate (a : Fin 128) (tm : Nat)
  /-- STALL (R272). -/
  | stall (a : Fin 128) (tm : Nat)
  /-- PHASE_OPEN (R273). -/
  | phaseOpen (a : Fin 128) (tm : Nat)
  /-- TRACKING_RUN (R284). -/
  | trackingRun
  /-- HANDOFF_FRAME (R374). -/
  | handoffFrame (tm : Nat)
  /-- HANDOFF_RETRY (R305). -/
  | handoffRetry (tm : Nat)
  /-- LATCH_EDGE (R301). -/
  | latchEdge (a : Fin 128) (n : Fin 2) (rising : Bool) (stamp : Nat)
  /-- SYNC_SEND (R73). -/
  | syncSend (l : Fin 32) (tm : Nat)
  /-- DREQ_SEND (R75). -/
  | dreqSend (l : Fin 32) (tm : Nat)
  /-- DRSP_RECEIVE (R75). -/
  | drspReceive (l : Fin 32) (turn tm : Nat)
  /-- TIME_UNSTABLE (R75). -/
  | timeUnstable (l : Fin 32) (tm : Nat)
  /-- UPSTREAM_PACKET (R85). -/
  | upstreamPacket (l : Fin 32) (viol : Bool) (syms : Nat) (bytes : List Byte) (tm : Nat)
  /-- TRIP_SEQUENCE (R127). -/
  | tripSequence (l : Fin 32) (mask : BitVec 4) (tm : Nat)
  /-- LINK_ERRORS (R106). -/
  | linkErrors (l : Fin 32) (tm : Nat)
  /-- LATE_RECORDS (R106). -/
  | lateRecords (l : Fin 32) (tm : Nat)
  /-- UP_OVERBUDGET (R106). -/
  | upOverbudget (l : Fin 32) (tm : Nat)
  /-- LINK_UP (R99). -/
  | linkUp (l : Fin 32) (tm : Nat)
  /-- LINK_LOST (R99). -/
  | linkLost (l : Fin 32) (tm : Nat)
  /-- SERVICE_FRAME_SEND (R83). -/
  | serviceFrameSend (l : Fin 32) (tm : Nat)
  /-- SLOT_CFG_UNANSWERED (R544). -/
  | slotCfgUnanswered (l : Fin 32) (slot : Fin 4) (tm : Nat)
  /-- DEADTIME_UNACKED (R119). -/
  | deadtimeUnacked (l : Fin 32) (tm : Nat)
  /-- DT_ADAPT (R118). -/
  | dtAdapt (a : Fin 128) (tm : Nat)
  /-- DT_LIMIT (R118). -/
  | dtLimit (a : Fin 128) (tm : Nat)
  /-- TRIP_PIN_ACTIVATION (R124). -/
  | tripPinActivation (p : Fin 8) (instant tm : Nat)
  /-- BLANK_WINDOW_END (R126). -/
  | blankWindowEnd (p : Fin 8) (tm : Nat)
  /-- KILL_REPEAT (R89). -/
  | killRepeat (l : Fin 32) (tm : Nat)
  /-- TRIP_NOISE (R126). -/
  | tripNoise (p : Fin 8) (tm : Nat)
  /-- LINE_ENCODER_LATCH (R162). -/
  | lineEncoderLatch
  /-- LE_EDGE (R172). -/
  | leEdge (port : Fin 4) (a b : Bool) (tm : Nat)
  /-- LE_Z_EDGE (R172). -/
  | leZEdge (port : Fin 4) (tm : Nat)
  /-- LE_SIGNAL (R173). -/
  | leSignal (port : Fin 4) (wire : Bool) (tm : Nat)
  /-- CHANNEL_F_FRAME (R310). -/
  | channelFFrame (valid : Bool) (ins : BitVec 40) (pins thermal : BitVec 16) (fv24 tm : Nat)
  /-- CHANNEL_F_LOST (R310). -/
  | channelFLost (tm : Nat)
  /-- DIE_OUTPUTS_OFF (R310). -/
  | dieOutputsOff (tm : Nat)
  /-- FIELD_INPUT_EDGE (R313). -/
  | fieldInputEdge (i : Fin 40) (tm : Nat)
  /-- FIELD_OUTPUT_CHANGE (R315). -/
  | fieldOutputChange (tm : Nat)
  /-- FV24_LOW (R318). -/
  | fv24Low (tm : Nat)
  /-- FV24_OFF (R318). -/
  | fv24Off (tm : Nat)
  /-- FV24_RECOVER (R318). -/
  | fv24Recover (tm : Nat)
  /-- CF_REARM_READY (R321). -/
  | cfRearmReady (tm : Nat)
  /-- OUTPUTS_ON (R320). -/
  | outputsOn (tm : Nat)
  /-- OUTPUT_FAULT (R317). -/
  | outputFault (tm : Nat)
  /-- FIO_DIAG_TEST (R322). -/
  | fioDiagTest (tm : Nat)
  /-- CAPTURE_SAMPLE (R329). -/
  | captureSample (tm : Nat)
  /-- ETH_FRAME_RECEIVE (R351). -/
  | ethFrameReceive (port : Fin 4) (fcsOk : Bool) (bytes : List Byte) (tm : Nat)
  /-- PORT_UP (R383). -/
  | portUp (port : Fin 4) (speed : Fin 4) (full : Bool) (tm : Nat)
  /-- PORT_DOWN (R383). -/
  | portDown (port : Fin 4) (tm : Nat)
  /-- PORT_CONFIG (R349). -/
  | portConfig (port : Fin 4) (tm : Nat)
  /-- NET_DROP (R353). -/
  | netDrop (port : Fin 4) (tm : Nat)
  /-- GCL_CYCLE_START (R354). -/
  | gclCycleStart (port : Fin 4) (tm : Nat)
  /-- PTP_SYNC (R362). -/
  | ptpSync (tm : Nat)
  /-- FOLLOW_UP (R361). -/
  | followUp (tm : Nat)
  /-- PDELAY_MEASURE (R360). -/
  | pdelayMeasure (port : Fin 4) (t1 t2 t3 t4 tm : Nat)
  /-- ANNOUNCE (R360). -/
  | announce (tm : Nat)
  /-- SYNC_LOSS (R364). -/
  | syncLoss (net : Fin 2) (tm : Nat)
  /-- HOLDOVER_EXPIRY (R365). -/
  | holdoverExpiry (tm : Nat)
  /-- TIME_DRIVER (R364). -/
  | timeDriver (tm : Nat)
  /-- TIME_DIVERGENCE (R362). -/
  | timeDivergence (tm : Nat)
  /-- TICK_UNALIGNED (R23). -/
  | tickUnaligned (tm : Nat)
  /-- TSQ_ENTRY_EXPIRE (R358). -/
  | tsqEntryExpire (port : Fin 4) (tm : Nat)
  /-- TSQ_OVERFLOW (R358). -/
  | tsqOverflow (tm : Nat)
  /-- AUTH_FAIL (R368). -/
  | authFail (port : Fin 4) (tm : Nat)
  /-- SETPOINT (R370). -/
  | setpoint (tm : Nat)
  /-- CHANNEL_RECEIVE (R372). -/
  | channelReceive (tm : Nat)
  /-- STATUS_SEND (R371). -/
  | statusSend (tm : Nat)
  /-- CHANNEL_SEND (R372). -/
  | channelSend (tm : Nat)
  /-- CYC_ONE_NETWORK (R369). -/
  | cycOneNetwork (tm : Nat)
  /-- WAKE_FRAME (R375). -/
  | wakeFrame (tm : Nat)
  /-- ARP_REQUEST (R376). -/
  | arpRequest (tm : Nat)
  /-- ICMP_ECHO (R376). -/
  | icmpEcho (tm : Nat)
  /-- CLEAR_DATAGRAM (R378). -/
  | clearDatagram (tm : Nat)
  /-- PROTECTED_DATAGRAM (R378). -/
  | protectedDatagram (tm : Nat)
  /-- EVENT_DATAGRAM_SEND (R379). -/
  | eventDatagramSend (sid tm : Nat)
  /-- TWIN_SNAPSHOT (R390). -/
  | twinSnapshot (tm : Nat)
  /-- TWIN_BURST_RECEIVE (R392). -/
  | twinBurstReceive (k : Fin 2) (fc : Nat) (bytes : List Byte) (tm : Nat)
  /-- TWIN_IMAGE_COMMIT (R393). -/
  | twinImageCommit (tm : Nat)
  /-- TWIN_RETURN_BLOCK (R392). -/
  | twinReturnBlock (k : Fin 2) (pair : Bool) (bytes : List Byte) (tm : Nat)
  /-- PARTNER_LOST (R392). -/
  | partnerLost (tm : Nat)
  /-- TWIN_LINK (R395). -/
  | twinLink (k : Fin 2) (tm : Nat)
  /-- SPLIT_END (R395). -/
  | splitEnd (tm : Nat)
  /-- TAKEOVER (R397). -/
  | takeover (tm : Nat)
  /-- TWIN_START_WAIT (R387). -/
  | twinStartWait (tm : Nat)
  /-- PAIR_SYNCED (R387). -/
  | pairSynced (tm : Nat)
  /-- IMAGE_STALE (R387). -/
  | imageStale (tm : Nat)
  /-- LEASE_SPLIT (R398). -/
  | leaseSplit (tm : Nat)
  /-- TRK_DIVERGED (R394). -/
  | trkDiverged (tm : Nat)
  /-- SAFETY_INPUT_SAMPLE (R416). -/
  | safetyInputSample (ch : Fin 2) (sp sn : BitVec 8) (tm : Nat)
  /-- DISCREPANCY (R416). -/
  | discrepancy (pair : Fin 8) (tm : Nat)
  /-- CROSS_CHECK_SEND (R402). -/
  | crossCheckSend (ch : Fin 2) (tm : Nat)
  /-- CROSS_CHECK_RECEIVE (R403). -/
  | crossCheckReceive (ch : Fin 2) (valid : Bool) (tm : Nat)
  /-- XCHK_LOST (R404). -/
  | xchkLost (ch : Fin 2) (tm : Nat)
  /-- CHANNEL_DISAGREE (R404). -/
  | channelDisagree (tm : Nat)
  /-- SELFTEST (R404). -/
  | selftest (ch : Fin 2) (tm : Nat)
  /-- SS1_EXPIRY (R411). -/
  | ss1Expiry (ch : Fin 2) (g : Fin 16) (tm : Nat)
  /-- SLS_RAMP_END (R413). -/
  | slsRampEnd (ch : Fin 2) (g : Fin 16) (tm : Nat)
  /-- AXIS_WORD_RECEIVE (R412). -/
  | axisWordReceive (ch : Fin 2) (a : Fin 128) (word : Dword) (tm : Nat)
  /-- AXIS_WORD (R412). -/
  | axisWord (a : Fin 128) (tm : Nat)
  /-- SLS_VIOLATION (R413). -/
  | slsViolation (a : Fin 128) (tm : Nat)
  /-- SDI_VIOLATION (R414). -/
  | sdiViolation (a : Fin 128) (tm : Nat)
  /-- SAFE_TELEGRAM_COPY (R419). -/
  | safeTelegramCopy (tm : Nat)
  /-- TEL_SKEW (R420). -/
  | telSkew (tm : Nat)
  /-- TEL_ONE_NET (R420). -/
  | telOneNet (net : Fin 2) (tm : Nat)
  /-- TEL_TIMEOUT (R421). -/
  | telTimeout (tm : Nat)
  /-- SO_TEST (R422). -/
  | soTest (n : Fin 2) (ch : Fin 2) (ok conducting : Bool) (tm : Nat)
  /-- L_TEMP (R423). -/
  | lTemp (temp : Int) (monitor : Bool) (tm : Nat)
  /-- DEGRADED_EXIT (R424). -/
  | degradedExit (tm : Nat)
  /-- DEGRADED_EXPIRED (R424). -/
  | degradedExpired (tm : Nat)
  /-- DEGRADED_TIMER_RESET (R424). -/
  | degradedTimerReset (tm : Nat)
  /-- LOGIN_IDLE_END (R426). -/
  | loginIdleEnd (tm : Nat)
  /-- LOGIN_LOCKOUT_END (R428). -/
  | loginLockoutEnd (tm : Nat)
  /-- SUPPLY_VALID (R449). -/
  | supplyValid (i : Fin 16) (tm : Nat)
  /-- SUPPLY_INVALID (R449). -/
  | supplyInvalid (i : Fin 16) (tm : Nat)
  /-- NRESET_ASSERT (R454). -/
  | nresetAssert (tm : Nat)
  /-- NRESET_RELEASE (R454). -/
  | nresetRelease (tm : Nat)
  /-- CLOCK_MISSING (R452). -/
  | clockMissing (tm : Nat)
  /-- RESET_OUT_RELEASE (R454). -/
  | resetOutRelease (pos claim : Bool) (tm : Nat)
  /-- FORWARDING_START (R355). -/
  | forwardingStart (tm : Nat)
  /-- BOOT_VERIFY (R478). -/
  | bootVerify (tm : Nat)
  /-- PAGE_CHECK_FAIL (R478). -/
  | pageCheckFail (tm : Nat)
  /-- RISTRETTO (R456). -/
  | ristretto (tm : Nat)
  /-- PARAM_RESTORE (R457). -/
  | paramRestore (tm : Nat)
  /-- FULL_SERVICE (R458). -/
  | fullService (tm : Nat)
  /-- DOMAIN_READY (R460). -/
  | domainReady (i : Fin 16) (tm : Nat)
  /-- AUTO_SLEEP (R462). -/
  | autoSleep (c : Fin 8) (tm : Nat)
  /-- DOZE_TRAFFIC_STOP (R462). -/
  | dozeTrafficStop (c : Fin 8) (tm : Nat)
  /-- AX_DOMAIN_OFF (R462). -/
  | axDomainOff (c : Fin 8) (tm : Nat)
  /-- BEACON (R103). -/
  | beacon (l : Fin 32) (valid : Bool) (zl : BitVec 8) (tm : Nat)
  /-- BEACON_LOST (R103). -/
  | beaconLost (l : Fin 32) (tm : Nat)
  /-- PERCOLATOR_SAMPLE (R467). -/
  | percolatorSample (tm : Nat)
  /-- PERC_TIMER (R469). -/
  | percTimer (r : Fin 32) (tm : Nat)
  /-- DEEP_SLEEP_ENTRY (R464). -/
  | deepSleepEntry (tm : Nat)
  /-- DEEP_SLEEP_EXIT (R464). -/
  | deepSleepExit (tm : Nat)
  /-- BYPASS_LEAD_END (R356). -/
  | bypassLeadEnd (net : Fin 2) (tm : Nat)
  /-- AVS_UPDATE (R500). -/
  | avsUpdate (slack : Int) (tm : Nat)
  /-- SUPPLY_DROOP (R501). -/
  | supplyDroop (mv tm : Nat)
  /-- EYE_TUNE (R502). -/
  | eyeTune (l : Fin 32) (eye : Nat) (viol : Bool) (tm : Nat)
  /-- JUNCTION_SAMPLE (R499). -/
  | junctionSample (tj : Int) (tm : Nat)
  /-- LIFE_FLUSH (R499). -/
  | lifeFlush (tm : Nat)
  /-- DERATE_UPDATE (R503). -/
  | derateUpdate (a : Fin 128) (tm : Nat)
  /-- KE_SCALE_UPDATE (R504). -/
  | keScaleUpdate (a : Fin 128) (tm : Nat)
  /-- DAILY_UPDATE (R506). -/
  | dailyUpdate (tm : Nat)
  /-- ENGINE_TEST_SLICE (R508). -/
  | engineTestSlice (ok : Bool) (tm : Nat)
  /-- MICROCODE_CRC (R508). -/
  | microcodeCrc (c : Fin 8) (ok : Bool) (tm : Nat)
  /-- ENGINE_TEST (R509). -/
  | engineTest (c : Fin 8) (tm : Nat)
  /-- FW_WATCHDOG (R513). -/
  | fwWatchdog (lockstep : Bool) (tm : Nat)
  /-- SERVICE_LEAVE (R515). -/
  | serviceLeave (tm : Nat)
  /-- SESSION_IDLE (R489). -/
  | sessionIdle (sid tm : Nat)
  /-- HELLO_LOCKOUT_END (R491). -/
  | helloLockoutEnd (tm : Nat)
  /-- CALL_RESET (R471). -/
  | callReset (tm : Nat)
  /-- CLUSTER_TEST_DONE (R510). -/
  | clusterTestDone (c : Fin 8) (fail : Bool) (item tm : Nat)
  /-- PORT_LOOP_DONE (R512). -/
  | portLoopDone (errors sum tm : Nat)
  /-- MASTER_SYNC (R381). -/
  | masterSync (net : Fin 2) (tm : Nat)
  /-- UV_WARN_END (R318). -/
  | uvWarnEnd (tm : Nat)
  /-- TRIP_PIN_RELEASE (R129). -/
  | tripPinRelease (p : Fin 8) (tm : Nat)
  /-- FW_ALIVE (R43). -/
  | fwAlive (tm : Nat)
deriving DecidableEq, Repr

end Sys2Proof
end

