-- ==== Sys2Proof/Machine/Parts/Frame.lean ====
section
/-! DEFINITION. The state of the frame (chapter 02) and the record of what leaves the device. -/

namespace Sys2Proof.Machine

/-- Frame state: the tick, the frame period and the overrun counts (R21 to R38). -/
structure FrameSt where
  /-- Device time of the latest tick. -/
  tick : Nat := 0
  fc : Nat := 0
  /-- Ticks have begun since the device reset. -/
  ticking : Bool := false
  /-- `SYS.FRAME.PERIOD` in force: 0 = 25 µs, 1 = 50 µs, 2 = 100 µs. -/
  tf : Nat := 1
  /-- A committed period that waits for a whole 100 µs of NT (R24). -/
  tfNext : Option Nat := none
  ovr : Vector Nat 8 := Vector.replicate 8 0
  engMax : Vector Nat 8 := Vector.replicate 8 0
  /-- Consecutive overruns of each cluster (R37, R38). -/
  consec : Vector Nat 8 := Vector.replicate 8 0
  reduced : BitVec 8 := 0
  /-- The cluster's links send repeat frames with SLOTMAP 0 until the fault is cleared (R37). -/
  gatesOff : BitVec 8 := 0
  /-- The engine has written its last schedule in this frame. -/
  finished : BitVec 8 := 0
  /-- The cluster overran in this frame (R36). -/
  overran : BitVec 8 := 0
  /-- The cluster's downstream frame of this frame has left. -/
  sent : BitVec 8 := 0
  /-- The trajectory unit was asked while the engine of its cluster still computed (R225, R36). -/
  traj : BitVec 8 := 0
  /-- Device time at which each engine has written the last schedule of its frame (R26). -/
  doneAt : Vector Nat 8 := Vector.replicate 8 0
  /-- Device time since which ALIGNED has been false in OPERATE (R23). -/
  unalignedFrom : Option Nat := none
deriving DecidableEq, Repr

/-- A symbol of a Dunar data pair (R69, R70): a control symbol, as the byte of its code, or a data byte. -/
inductive Sym
  | k (c : Nat)
  | d (b : Byte)
deriving DecidableEq, Repr

/-- Something that left the device (the model's own record; the newest is last). -/
inductive Out
  /-- An MSI write on a vector (R44). -/
  | msi (v : Nat)
  /-- A downstream frame or symbol sequence of a link (R70), after `idle` IDLE symbols (R69). -/
  | link (l : Nat) (idle : Nat) (syms : List Sym)
  /-- The sequence in progress on a link was aborted: only its first `n` symbols left (R89). -/
  | linkCut (l : Nat) (n : Nat)
  /-- An Ethernet frame on a port: its bytes from the destination MAC on, without the FCS (R351). -/
  | eth (port : Nat) (bytes : List Byte)
  /-- A UDP datagram: network, MAC, address, port, payload (R376, R377). -/
  | udp (net mac ip port : Nat) (bytes : List Byte)
  /-- What leaves on the twin links, with the line code of R69 (R390, R392): a burst on link 0 or 1, or a return block
  on link 0 (kind 2) or 1 (kind 3). -/
  | twin (kind : Nat) (syms : List Sym)
  /-- A word on a cross-check line: 0 from the P-channel, 1 from the L-channel (R402). -/
  | xchk (chan : Nat) (bytes : List Byte)
  /-- Axis words to a safety channel (R412). -/
  | axisWords (chan : Nat) (words : List Nat)
  /-- An AVSBus voltage command in mV (R500). -/
  | avs (mv : Nat)
deriving DecidableEq, Repr

end Sys2Proof.Machine
end

