-- ==== Sys2Proof/Machine/LineCode.lean ====
section
/-! DEFINITION. The symbols of a Dunar data pair (R69, R70) and their 8b/10b code groups (IEEE 802.3 Clause 36, which
R69 names; its tables are PRESUMED, log 152). -/

namespace Sys2Proof.Machine

/-! Control symbols (R70), as the bytes of their codes. -/

/-- FM, K27.7. -/
def symFm : Nat := 0xFB
/-- EM, K29.7. -/
def symEm : Nat := 0xFD
/-- KILL, K30.7. -/
def symKill : Nat := 0xFE
/-- SYNC, K28.0. -/
def symSync : Nat := 0x1C
/-- DREQ, K28.2. -/
def symDreq : Nat := 0x5C
/-- WAKE, K28.6. -/
def symWake : Nat := 0xDC
/-- IDLE, K28.5. -/
def symIdle : Nat := 0xBC

/-- The duration of a symbol, ns (R69). -/
def symNs : Nat := 25

/-- The symbols of a frame between FM and EM (R78, R83). -/
def framed (b : List Byte) : List Sym := .k symFm :: b.map .d ++ [.k symEm]

/-- Sub-blocks 5b/6b of D.0 to D.31 at negative running disparity, first bit the most significant. -/
def sixBits : List Nat :=
  [0b100111, 0b011101, 0b101101, 0b110001, 0b110101, 0b101001, 0b011001, 0b111000] ++
  [0b111001, 0b100101, 0b010101, 0b110100, 0b001101, 0b101100, 0b011100, 0b010111] ++
  [0b011011, 0b100011, 0b010011, 0b110010, 0b001011, 0b101010, 0b011010, 0b111010] ++
  [0b110011, 0b100110, 0b010110, 0b110110, 0b001110, 0b101110, 0b011110, 0b101011]

/-- Sub-blocks 3b/4b of D.x.0 to D.x.7 at negative running disparity. -/
def fourBits : List Nat := [0b1011, 0b1001, 0b0101, 0b1100, 0b1101, 0b1010, 0b0110, 0b1110]

/-- The ones of a word's low bits. -/
def ones (n w : Nat) : Nat := (List.range n).foldl (fun c i => c + b2n (bit w i)) 0

/-- A sub-block of `n` bits at a running disparity (true: positive): its negative form, or the complement where the form
is unbalanced or `flips`; and the disparity after it. -/
def subBlock (n w : Nat) (flips rd : Bool) : Nat × Bool :=
  let level := decide (2 * ones n w = n)
  (if rd && (!level || flips) then 2 ^ n - 1 - w else w, if level then rd else !rd)

/-- The code group of a data byte. -/
def dataGroup (rd : Bool) (b : Nat) : Nat × Bool :=
  let x := b % 32
  let y := b / 32
  let (six, r) := subBlock 6 (sixBits.getD x 0) (x == 7) rd
  let alt := y == 7 && (if r then x == 11 || x == 13 || x == 14 else x == 17 || x == 18 || x == 20)
  let (four, r) := subBlock 4 (if alt then 0b0111 else fourBits.getD y 0) (y == 3) r
  (six * 16 + four, r)

/-- The code groups of the control symbols at negative running disparity. -/
def controlGroup (c : Nat) : Nat :=
  match c with
  | 0x1C => 0b0011110100
  | 0x3C => 0b0011111001
  | 0x5C => 0b0011110101
  | 0x7C => 0b0011110011
  | 0x9C => 0b0011110010
  | 0xBC => 0b0011111010
  | 0xDC => 0b0011110110
  | 0xFB => 0b1101101000
  | 0xFD => 0b1011101000
  | _ => 0b0111101000

/-- The code group of a symbol at a running disparity, first bit the most significant, and the disparity after it. -/
def Sym.group (rd : Bool) : Sym → Nat × Bool
  | .d b => dataGroup rd b.toNat
  | .k c => subBlock 10 (controlGroup c) true rd

/-- The code groups of a sequence of symbols, and the running disparity after them. -/
def codeGroups (rd : Bool) : List Sym → List Nat × Bool
  | [] => ([], rd)
  | x :: l =>
    let (g, r) := x.group rd
    let (gs, r) := codeGroups r l
    (g :: gs, r)

end Sys2Proof.Machine
end

