-- ==== Sys2Proof/Machine/Dict.lean ====
section
/-! DEFINITION. The parameter dictionary: one row per parameter (or family of parameters) of the
spec's parameter tables (R24, R65 and the parameter tables of the chapters that R56 names), in the
spec's order.  A row's ID is class [31:24], instance [23:16], index [15:0] (R56). -/

namespace Sys2Proof.Machine

/-- The parameter types of R54, in the order of their TYPE codes 0x01 to 0x0E. -/
inductive PTyp
  | u8 | u16 | u32 | u64 | s8 | s16 | s32 | s64 | f32 | bool | enum | str | d32 | d64
deriving DecidableEq, Repr

/-- The access codes of R5, coded 0 to 4 in a descriptor (R54). -/
inductive PAcc
  | ro | rw | rws | rwx | wo
deriving DecidableEq, Repr

/-- The Range column of a parameter table.  `flts` bounds are numerators over the denominator `den`. -/
inductive PRng
  | any
  | ints (lo hi : Int)
  | intsOr (x lo hi : Int)
  | steps (lo hi st : Int)
  | pow2 (lo hi : Int)
  | sets (l : List (Int × Int))
  | nonzero
  | flts (lo hi : Int) (den : Nat)
  | fltsOr0 (lo hi : Int) (den : Nat)
  | fpos
  | fnneg
  /-- A range that depends on other parameters; `rangeDep` computes it. -/
  | dep
deriving DecidableEq, Repr

/-- The Default column: a number (F32 values as their IEEE-754 bit pattern), none, a formula of other
parameters (R543), or derived at basic level (R57). -/
inductive PDflt
  | num (raw : Int)
  | none
  | formula
  | derived
deriving DecidableEq, Repr

/-- One row of the dictionary.  The index of the row's parameters is
`base + k1 * s1 + k2 * s2` with `k1 < n1` and `k2 < n2`; the name is `pre`, then `k1 + o1` when `n1 > 1`,
then `suf`, then `k2` when `n2 > 1`. -/
structure PRow where
  pre : String
  suf : String
  cls : Nat
  base : Nat
  n1 : Nat
  s1 : Nat
  o1 : Nat
  n2 : Nat
  s2 : Nat
  acc : PAcc
  typ : PTyp
  rng : PRng
  dflt : PDflt
  expert : Bool
  flash : Bool
deriving DecidableEq, Repr

/-- Rows of class 0x01. -/
def rows01 : List PRow := [
  ⟨"SYS.FRAME.PERIOD", "", 0x01, 0x0010, 1, 1, 0, 1, 0, .rwx, .enum, .ints 0 2, .num 1, false, true⟩,
  ⟨"SYS.FRAME.FC", "", 0x01, 0x0011, 1, 1, 0, 1, 0, .ro, .u32, .any, .none, false, false⟩,
  ⟨"SYS.FRAME.ALIGNED", "", 0x01, 0x0012, 1, 1, 0, 1, 0, .ro, .bool, .any, .num 0, false, false⟩,
  ⟨"SYS.FRAME.COMMIT_DEFER", "", 0x01, 0x0013, 1, 1, 0, 1, 0, .ro, .u32, .any, .num 0, true, false⟩,
  ⟨"SYS.FRAME.STAT_CLR", "", 0x01, 0x0014, 1, 1, 0, 1, 0, .wo, .bool, .ints 1 1, .none, true, false⟩,
  ⟨"SYS.FRAME.OVR", "", 0x01, 0x0018, 1, 0, 0, 8, 1, .ro, .u32, .any, .num 0, true, false⟩,
  ⟨"SYS.FRAME.ENGMAX", "", 0x01, 0x0020, 1, 0, 0, 8, 1, .ro, .u16, .any, .num 0, true, false⟩,
  ⟨"SYS.FRAME.FWSHARE", "", 0x01, 0x0028, 1, 1, 0, 1, 0, .ro, .u8, .any, .none, true, false⟩]

/-- Rows of class 0x02. -/
def rows02 : List PRow := [
  ⟨"HOST.MBX.NET_COUNT", "", 0x02, 0x0010, 1, 1, 0, 1, 0, .rwx, .u8, .ints 0 16, .num 4, false, true⟩,
  ⟨"HOST.WDOG.TIME", "", 0x02, 0x0020, 1, 1, 0, 1, 0, .rws, .u16, .intsOr 0 1 10000, .num 0, false, true⟩,
  ⟨"HOST.PI.AXMASK_LO", "", 0x02, 0x0030, 1, 1, 0, 1, 0, .rws, .u64, .any, .num 0, false, true⟩,
  ⟨"HOST.PI.AXMASK_HI", "", 0x02, 0x0031, 1, 1, 0, 1, 0, .rws, .u64, .any, .num 0, false, true⟩,
  ⟨"HOST.PI.TIMEOUT", "", 0x02, 0x0032, 1, 1, 0, 1, 0, .rws, .u16, .intsOr 0 2 1000, .num 20, false, true⟩,
  ⟨"HOST.EVT.FAULT_MIN", "", 0x02, 0x0040, 1, 1, 0, 1, 0, .rws, .enum, .ints 0 5, .num 2, true, true⟩]

/-- Rows of class 0x20. -/
def rows20 : List PRow := [
  ⟨"LNK.ENABLE", "", 0x20, 0x0001, 1, 1, 0, 1, 0, .rwx, .bool, .ints 0 1, .num 1, false, true⟩,
  ⟨"LNK.STATE", "", 0x20, 0x0002, 1, 1, 0, 1, 0, .ro, .enum, .any, .num 0, false, false⟩,
  ⟨"LNK.ASYM", "", 0x20, 0x0010, 1, 1, 0, 1, 0, .rws, .s32, .ints (-20000) 20000, .num 0, false, true⟩,
  ⟨"LNK.DELAY", "", 0x20, 0x0011, 1, 1, 0, 1, 0, .ro, .u32, .any, .none, false, false⟩,
  ⟨"LNK.EQ", "", 0x20, 0x0020, 1, 1, 0, 1, 0, .rws, .u8, .intsOr 255 0 15, .num 255, true, true⟩,
  ⟨"LNK.EYE", "", 0x20, 0x0021, 1, 1, 0, 1, 0, .ro, .u8, .any, .none, true, false⟩,
  ⟨"LNK.CRC_ERR", "", 0x20, 0x0030, 1, 1, 0, 1, 0, .ro, .u32, .any, .num 0, true, false⟩,
  ⟨"LNK.LATE_REC", "", 0x20, 0x0031, 1, 1, 0, 1, 0, .ro, .u32, .any, .num 0, true, false⟩,
  ⟨"LNK.UP_MAX", "", 0x20, 0x0032, 1, 1, 0, 1, 0, .ro, .u16, .any, .num 0, true, false⟩,
  ⟨"LNK.DROP", "", 0x20, 0x0033, 1, 1, 0, 1, 0, .ro, .u32, .any, .num 0, true, false⟩,
  ⟨"LNK.STAGE_SERIAL", "", 0x20, 0x0040, 1, 1, 0, 1, 0, .ro, .u64, .any, .num 0, false, false⟩,
  ⟨"LNK.ZFILT", "", 0x20, 0x0050, 1, 0, 0, 4, 1, .rwx, .u16, .ints 0 1000, .num 0, false, true⟩,
  ⟨"LNK.LEVEL", "", 0x20, 0xFFFF, 1, 1, 0, 1, 0, .rws, .enum, .ints 0 1, .num 0, false, true⟩]

/-- Rows of class 0x1D. -/
def rows1D : List PRow := [
  ⟨"AX.PWM.M", "", 0x1D, 0x0001, 1, 1, 0, 1, 0, .rwx, .enum, .ints 0 2, .num 1, false, true⟩,
  ⟨"AX.PWM.M_EXP", "", 0x1D, 0x0002, 1, 1, 0, 1, 0, .rwx, .enum, .ints 0 2, .num 1, true, true⟩,
  ⟨"AX.PWM.VARIANT", "", 0x1D, 0x0003, 1, 1, 0, 1, 0, .rws, .enum, .ints 0 2, .num 0, true, true⟩,
  ⟨"AX.PWM.TMIN", "", 0x1D, 0x0010, 1, 1, 0, 1, 0, .rws, .u16, .dep, .num 300, true, true⟩,
  ⟨"AX.PWM.SHORTPULSE", "", 0x1D, 0x0011, 1, 1, 0, 1, 0, .rws, .enum, .ints 0 2, .num 0, true, true⟩,
  ⟨"AX.PWM.DT_MODE", "", 0x1D, 0x0020, 1, 1, 0, 1, 0, .rws, .enum, .ints 0 1, .num 0, true, true⟩,
  ⟨"AX.PWM.DT_FIXED", "", 0x1D, 0x0021, 1, 1, 0, 1, 0, .rws, .u16, .ints 20 2000, .num 500, true, true⟩,
  ⟨"AX.PWM.DT_MIN", "", 0x1D, 0x0022, 1, 1, 0, 1, 0, .rws, .u16, .dep, .num 50, true, true⟩,
  ⟨"AX.PWM.DT_MAX", "", 0x1D, 0x0023, 1, 1, 0, 1, 0, .rws, .u16, .dep, .num 1000, true, true⟩,
  ⟨"AX.PWM.DT_MARGIN", "", 0x1D, 0x0024, 1, 1, 0, 1, 0, .rws, .u16, .ints 0 500, .num 60, true, true⟩,
  ⟨"AX.PWM.DT_COMP", "", 0x1D, 0x0025, 1, 1, 0, 1, 0, .rws, .bool, .ints 0 1, .num 1, true, true⟩,
  ⟨"AX.PWM.DT", "", 0x1D, 0x0028, 1, 0, 0, 4, 1, .ro, .u16, .any, .none, true, false⟩,
  ⟨"AX.PWM.SWAP", "", 0x1D, 0x0030, 1, 1, 0, 1, 0, .rwx, .enum, .ints 0 4, .num 0, true, true⟩,
  ⟨"AX.PWM.INVERT", "", 0x1D, 0x0031, 1, 1, 0, 1, 0, .rwx, .u8, .ints 0 3, .num 0, true, true⟩,
  ⟨"AX.PWM.SHORT_CNT", "", 0x1D, 0x0040, 1, 1, 0, 1, 0, .ro, .u32, .any, .num 0, true, false⟩,
  ⟨"AX.PWM.CARRY_LOST", "", 0x1D, 0x0041, 1, 1, 0, 1, 0, .ro, .u32, .any, .num 0, true, false⟩,
  ⟨"AX.PWM.TRIP_STAT", "", 0x1D, 0x0050, 1, 1, 0, 1, 0, .ro, .u8, .any, .num 0, false, false⟩,
  ⟨"AX.PWM.TRIP_STAMP", "", 0x1D, 0x0051, 1, 1, 0, 1, 0, .ro, .u64, .any, .num 0, false, false⟩,
  ⟨"AX.PWM.LEVEL", "", 0x1D, 0xFFFF, 1, 1, 0, 1, 0, .rws, .enum, .ints 0 1, .num 0, false, true⟩]

/-- Rows of class 0x21. -/
def rows21 : List PRow := [
  ⟨"TRP.P", ".ENABLE", 0x21, 0x0100, 8, 16, 0, 1, 0, .rwx, .bool, .ints 0 1, .num 0, false, true⟩,
  ⟨"TRP.P", ".ACTIVE", 0x21, 0x0101, 8, 16, 0, 1, 0, .rwx, .enum, .ints 0 1, .num 0, false, true⟩,
  ⟨"TRP.P", ".FILTER", 0x21, 0x0102, 8, 16, 0, 1, 0, .rwx, .u8, .steps 0 100 10, .num 40, false, true⟩,
  ⟨"TRP.P", ".MASK", 0x21, 0x0103, 8, 16, 0, 1, 0, .rwx, .u16, .any, .num 65535, false, true⟩,
  ⟨"TRP.P", ".BLANK", 0x21, 0x0104, 8, 16, 0, 1, 0, .rws, .enum, .ints 0 5, .num 1, false, true⟩,
  ⟨"TRP.P", ".BLANK_EXT", 0x21, 0x0105, 8, 16, 0, 1, 0, .rws, .u16, .ints 0 1000, .num 150, false, true⟩,
  ⟨"TRP.P", ".STAT", 0x21, 0x0106, 8, 16, 0, 1, 0, .ro, .u8, .any, .num 0, false, false⟩,
  ⟨"TRP.P", ".STAMP", 0x21, 0x0107, 8, 16, 0, 1, 0, .ro, .u64, .any, .num 0, false, false⟩,
  ⟨"TRP.P", ".COUNT", 0x21, 0x0108, 8, 16, 0, 1, 0, .ro, .u32, .any, .num 0, true, false⟩,
  ⟨"TRP.P", ".BLANKED", 0x21, 0x0109, 8, 16, 0, 1, 0, .ro, .u32, .any, .num 0, true, false⟩,
  ⟨"TRP.RECLEAR", "", 0x21, 0x0010, 1, 1, 0, 1, 0, .rws, .u32, .ints 100 100000, .num 1000, false, true⟩,
  ⟨"TRP.STAGE_SPREAD", "", 0x21, 0x0011, 1, 1, 0, 1, 0, .rws, .enum, .ints 0 2, .num 0, false, true⟩,
  ⟨"TRP.STAGE_LO", "", 0x21, 0x0020, 1, 1, 0, 1, 0, .ro, .u64, .any, .num 0, false, false⟩,
  ⟨"TRP.STAGE_HI", "", 0x21, 0x0021, 1, 1, 0, 1, 0, .ro, .u64, .any, .num 0, false, false⟩]

/-- Rows of class 0x11. -/
def rows11a : List PRow := [
  ⟨"AX.COM.SOURCE", "", 0x11, 0x0001, 1, 1, 0, 1, 0, .rwx, .enum, .ints 0 2, .num 1, false, true⟩,
  ⟨"AX.COM.HALL_MAP", "", 0x11, 0x0002, 1, 1, 0, 1, 0, .rwx, .u32, .dep, .num 4093977375, true, true⟩,
  ⟨"AX.COM.SL_MIN", "", 0x11, 0x0010, 1, 1, 0, 1, 0, .rws, .u16, .ints 1 50, .num 5, false, true⟩,
  ⟨"AX.COM.CATCH_MIN", "", 0x11, 0x0011, 1, 1, 0, 1, 0, .rws, .u16, .ints 1 50, .num 5, false, true⟩,
  ⟨"AX.COM.BRAKE_MIN", "", 0x11, 0x0012, 1, 1, 0, 1, 0, .rws, .u16, .ints 1 100, .num 10, false, true⟩,
  ⟨"AX.COM.CATCH_LISTEN", "", 0x11, 0x0013, 1, 1, 0, 1, 0, .rws, .u16, .ints 1 20, .num 2, true, true⟩,
  ⟨"AX.COM.CATCH_QUIET", "", 0x11, 0x0014, 1, 1, 0, 1, 0, .rws, .u16, .ints 5 500, .num 60, true, true⟩,
  ⟨"AX.COM.BRAKE_I", "", 0x11, 0x0015, 1, 1, 0, 1, 0, .rws, .u16, .ints 10 100, .num 50, true, true⟩,
  ⟨"AX.COM.BRAKE_ON", "", 0x11, 0x0016, 1, 1, 0, 1, 0, .rws, .u16, .ints 1 100, .num 10, true, true⟩,
  ⟨"AX.COM.BRAKE_TMAX", "", 0x11, 0x0017, 1, 1, 0, 1, 0, .rws, .u16, .ints 100 10000, .num 2000, true, true⟩,
  ⟨"AX.COM.IPD_MODE", "", 0x11, 0x0020, 1, 1, 0, 1, 0, .rws, .enum, .ints 0 1, .num 1, true, true⟩,
  ⟨"AX.COM.IPD_T", "", 0x11, 0x0021, 1, 1, 0, 1, 0, .rws, .u32, .dep, .num 15000, true, true⟩,
  ⟨"AX.COM.IPD_MARGIN", "", 0x11, 0x0022, 1, 1, 0, 1, 0, .rws, .u8, .ints 1 50, .num 5, true, true⟩,
  ⟨"AX.COM.START_SECTOR", "", 0x11, 0x0023, 1, 1, 0, 1, 0, .rws, .u8, .ints 0 5, .num 0, true, true⟩,
  ⟨"AX.COM.ALIGN_T", "", 0x11, 0x0024, 1, 1, 0, 1, 0, .rws, .u16, .ints 10 1000, .num 100, true, true⟩,
  ⟨"AX.COM.START_F0", "", 0x11, 0x0030, 1, 1, 0, 1, 0, .rws, .f32, .flts 1 500 10, .num 1073741824, true, true⟩,
  ⟨"AX.COM.START_WIN", "", 0x11, 0x0031, 1, 1, 0, 1, 0, .rws, .u16, .ints 10 5000, .num 100, true, true⟩,
  ⟨"AX.COM.START_ZC", "", 0x11, 0x0032, 1, 1, 0, 1, 0, .rws, .u8, .ints 2 12, .num 3, true, true⟩,
  ⟨"AX.COM.START_I0", "", 0x11, 0x0038, 1, 0, 0, 1, 0, .rws, .u16, .ints 10 200, .num 100, true, true⟩,
  ⟨"AX.COM.START_I1", "", 0x11, 0x0039, 1, 0, 0, 1, 0, .rws, .u16, .ints 10 200, .num 130, true, true⟩]

/-- Rows of class 0x11. -/
def rows11b : List PRow := [
  ⟨"AX.COM.START_I2", "", 0x11, 0x003A, 1, 0, 0, 1, 0, .rws, .u16, .ints 10 200, .num 160, true, true⟩,
  ⟨"AX.COM.START_RAMP0", "", 0x11, 0x003C, 1, 0, 0, 1, 0, .rws, .u16, .ints 10 5000, .num 200, true, true⟩,
  ⟨"AX.COM.START_RAMP1", "", 0x11, 0x003D, 1, 0, 0, 1, 0, .rws, .u16, .ints 10 5000, .num 300, true, true⟩,
  ⟨"AX.COM.START_RAMP2", "", 0x11, 0x003E, 1, 0, 0, 1, 0, .rws, .u16, .ints 10 5000, .num 450, true, true⟩,
  ⟨"AX.COM.START_FEND0", "", 0x11, 0x0040, 1, 0, 0, 1, 0, .rws, .u16, .ints 1 50, .num 10, true, true⟩,
  ⟨"AX.COM.START_FEND1", "", 0x11, 0x0041, 1, 0, 0, 1, 0, .rws, .u16, .ints 1 50, .num 10, true, true⟩,
  ⟨"AX.COM.START_FEND2", "", 0x11, 0x0042, 1, 0, 0, 1, 0, .rws, .u16, .ints 1 50, .num 8, true, true⟩,
  ⟨"AX.COM.ZC_BLANK", "", 0x11, 0x0048, 1, 1, 0, 1, 0, .rws, .u8, .ints 3 24, .num 12, true, true⟩,
  ⟨"AX.COM.ADV_F0", "", 0x11, 0x0050, 1, 0, 0, 1, 0, .rws, .u16, .dep, .num 0, true, true⟩,
  ⟨"AX.COM.ADV_F1", "", 0x11, 0x0051, 1, 0, 0, 1, 0, .rws, .u16, .dep, .num 50, true, true⟩,
  ⟨"AX.COM.ADV_F2", "", 0x11, 0x0052, 1, 0, 0, 1, 0, .rws, .u16, .dep, .num 100, true, true⟩,
  ⟨"AX.COM.ADV_F3", "", 0x11, 0x0053, 1, 0, 0, 1, 0, .rws, .u16, .dep, .num 150, true, true⟩,
  ⟨"AX.COM.ADV_F4", "", 0x11, 0x0054, 1, 0, 0, 1, 0, .rws, .u16, .dep, .num 200, true, true⟩,
  ⟨"AX.COM.ADV_F5", "", 0x11, 0x0055, 1, 0, 0, 1, 0, .rws, .u16, .dep, .num 250, true, true⟩,
  ⟨"AX.COM.ADV_F6", "", 0x11, 0x0056, 1, 0, 0, 1, 0, .rws, .u16, .dep, .num 300, true, true⟩,
  ⟨"AX.COM.ADV_F7", "", 0x11, 0x0057, 1, 0, 0, 1, 0, .rws, .u16, .dep, .num 350, true, true⟩,
  ⟨"AX.COM.ADV_F8", "", 0x11, 0x0058, 1, 0, 0, 1, 0, .rws, .u16, .dep, .num 400, true, true⟩,
  ⟨"AX.COM.ADV_F9", "", 0x11, 0x0059, 1, 0, 0, 1, 0, .rws, .u16, .dep, .num 450, true, true⟩,
  ⟨"AX.COM.ADV_F10", "", 0x11, 0x005A, 1, 0, 0, 1, 0, .rws, .u16, .dep, .num 500, true, true⟩,
  ⟨"AX.COM.ADV_F11", "", 0x11, 0x005B, 1, 0, 0, 1, 0, .rws, .u16, .dep, .num 550, true, true⟩]

/-- Rows of class 0x11. -/
def rows11c : List PRow := [
  ⟨"AX.COM.ADV_F12", "", 0x11, 0x005C, 1, 0, 0, 1, 0, .rws, .u16, .dep, .num 600, true, true⟩,
  ⟨"AX.COM.ADV_F13", "", 0x11, 0x005D, 1, 0, 0, 1, 0, .rws, .u16, .dep, .num 650, true, true⟩,
  ⟨"AX.COM.ADV_F14", "", 0x11, 0x005E, 1, 0, 0, 1, 0, .rws, .u16, .dep, .num 700, true, true⟩,
  ⟨"AX.COM.ADV_F15", "", 0x11, 0x005F, 1, 0, 0, 1, 0, .rws, .u16, .dep, .num 750, true, true⟩,
  ⟨"AX.COM.ADV", "", 0x11, 0x0060, 1, 0, 0, 16, 1, .rws, .u16, .ints 0 200, .num 0, true, true⟩,
  ⟨"AX.COM.F_MAX", "", 0x11, 0x0070, 1, 1, 0, 1, 0, .ro, .f32, .any, .none, false, false⟩,
  ⟨"AX.COM.PHASE", "", 0x11, 0x0080, 1, 1, 0, 1, 0, .ro, .enum, .any, .num 0, false, false⟩,
  ⟨"AX.COM.SECTOR", "", 0x11, 0x0081, 1, 1, 0, 1, 0, .ro, .u8, .any, .num 7, false, false⟩,
  ⟨"AX.COM.SPEED_E", "", 0x11, 0x0082, 1, 1, 0, 1, 0, .ro, .f32, .any, .num 0, false, false⟩,
  ⟨"AX.COM.SPEED_ZC", "", 0x11, 0x0086, 1, 1, 0, 1, 0, .ro, .f32, .any, .num 0, false, false⟩,
  ⟨"AX.COM.START_TRY", "", 0x11, 0x0083, 1, 1, 0, 1, 0, .ro, .u8, .any, .num 0, false, false⟩,
  ⟨"AX.COM.IPD_RESULT", "", 0x11, 0x0084, 1, 1, 0, 1, 0, .ro, .u8, .any, .num 0, true, false⟩,
  ⟨"AX.COM.CATCH_SPEED", "", 0x11, 0x0085, 1, 1, 0, 1, 0, .ro, .f32, .any, .num 0, false, false⟩,
  ⟨"AX.COM.KE_RATIO", "", 0x11, 0x0088, 1, 1, 0, 1, 0, .ro, .f32, .any, .num 1065353216, false, false⟩,
  ⟨"AX.COM.MISSED_SAMPLE", "", 0x11, 0x0090, 1, 1, 0, 1, 0, .ro, .u32, .any, .num 0, true, false⟩,
  ⟨"AX.COM.ZC_MISS", "", 0x11, 0x0091, 1, 1, 0, 1, 0, .ro, .u32, .any, .num 0, true, false⟩,
  ⟨"AX.COM.ZC_OFF", "", 0x11, 0x0092, 1, 1, 0, 1, 0, .ro, .u32, .any, .num 0, true, false⟩,
  ⟨"AX.COM.RECATCH", "", 0x11, 0x0093, 1, 1, 0, 1, 0, .ro, .u32, .any, .num 0, true, false⟩,
  ⟨"AX.COM.LEVEL", "", 0x11, 0xFFFF, 1, 1, 0, 1, 0, .rws, .enum, .ints 0 1, .num 0, false, true⟩]

/-- Rows of class 0x61. -/
def rows61 : List PRow := [
  ⟨"LE.P", ".MODE", 0x61, 0x0100, 4, 16, 0, 1, 0, .rwx, .enum, .ints 0 2, .num 0, false, true⟩,
  ⟨"LE.P", ".FILTER", 0x61, 0x0101, 4, 16, 0, 1, 0, .rwx, .u8, .steps 0 200 10, .num 20, false, true⟩,
  ⟨"LE.P", ".TMIN", 0x61, 0x0102, 4, 16, 0, 1, 0, .rws, .u16, .ints 20 10000, .num 80, false, true⟩,
  ⟨"LE.P", ".DIR", 0x61, 0x0103, 4, 16, 0, 1, 0, .rwx, .bool, .ints 0 1, .num 0, false, true⟩,
  ⟨"LE.P", ".SETUP", 0x61, 0x0104, 4, 16, 0, 1, 0, .rws, .u8, .ints 10 200, .num 50, false, true⟩,
  ⟨"LE.P", ".EDGE_LIMIT", 0x61, 0x0105, 4, 16, 0, 1, 0, .rws, .u16, .ints 1 1000, .num 8, false, true⟩,
  ⟨"LE.P", ".ZARM", 0x61, 0x0106, 4, 16, 0, 1, 0, .rw, .bool, .ints 0 1, .num 0, false, false⟩,
  ⟨"LE.P", ".COUNT", 0x61, 0x0108, 4, 16, 0, 1, 0, .ro, .s64, .any, .num 0, false, false⟩,
  ⟨"LE.P", ".STAMP", 0x61, 0x0109, 4, 16, 0, 1, 0, .ro, .u64, .any, .num 0, false, false⟩,
  ⟨"LE.P", ".ZLATCH", 0x61, 0x010A, 4, 16, 0, 1, 0, .ro, .s64, .any, .num 0, false, false⟩,
  ⟨"LE.P", ".ZSTAMP", 0x61, 0x010B, 4, 16, 0, 1, 0, .ro, .u64, .any, .num 0, false, false⟩,
  ⟨"LE.P", ".STAT", 0x61, 0x010C, 4, 16, 0, 1, 0, .ro, .u8, .any, .num 0, false, false⟩,
  ⟨"LE.P", ".EDGE_CNT", 0x61, 0x010D, 4, 16, 0, 1, 0, .ro, .u32, .any, .num 0, true, false⟩]

/-- Rows of class 0x1C. -/
def rows1Ca : List PRow := [
  ⟨"AX.FBK.SOURCE", "", 0x1C, 0x0001, 1, 1, 0, 1, 0, .rwx, .enum, .ints 0 6, .num 0, false, true⟩,
  ⟨"AX.FBK.LE_PORT", "", 0x1C, 0x0002, 1, 1, 0, 1, 0, .rwx, .u8, .ints 0 3, .num 0, false, true⟩,
  ⟨"AX.FBK.DIR", "", 0x1C, 0x0003, 1, 1, 0, 1, 0, .rwx, .bool, .ints 0 1, .num 0, false, true⟩,
  ⟨"AX.FBK.CPR", "", 0x1C, 0x0004, 1, 1, 0, 1, 0, .rwx, .u32, .ints 4 2147483647, .num 4096, false, true⟩,
  ⟨"AX.FBK.MODULO", "", 0x1C, 0x0005, 1, 1, 0, 1, 0, .rwx, .enum, .ints 0 1, .num 0, false, true⟩,
  ⟨"AX.FBK.MOD_REVS", "", 0x1C, 0x0006, 1, 1, 0, 1, 0, .rwx, .u16, .ints 1 65535, .num 1, false, true⟩,
  ⟨"AX.FBK.OFFSET", "", 0x1C, 0x0007, 1, 1, 0, 1, 0, .rws, .s64, .any, .num 0, false, true⟩,
  ⟨"AX.FBK.TMIN", "", 0x1C, 0x0010, 1, 1, 0, 1, 0, .rws, .u16, .ints 10 10000, .num 80, true, true⟩,
  ⟨"AX.FBK.EDGE_LIMIT", "", 0x1C, 0x0011, 1, 1, 0, 1, 0, .rws, .u16, .ints 1 1000, .num 8, true, true⟩,
  ⟨"AX.FBK.EDGE_CNT", "", 0x1C, 0x0012, 1, 1, 0, 1, 0, .ro, .u32, .any, .num 0, true, false⟩,
  ⟨"AX.FBK.SC_NOM", "", 0x1C, 0x0018, 1, 1, 0, 1, 0, .rwx, .u16, .ints 1000 32767, .num 16384, false, true⟩,
  ⟨"AX.FBK.AMIN", "", 0x1C, 0x0019, 1, 1, 0, 1, 0, .rws, .u8, .ints 30 95, .num 60, true, true⟩,
  ⟨"AX.FBK.AMAX", "", 0x1C, 0x001A, 1, 1, 0, 1, 0, .rws, .u8, .ints 105 200, .num 125, true, true⟩,
  ⟨"AX.FBK.SC_INTERP", "", 0x1C, 0x001B, 1, 1, 0, 1, 0, .rwx, .u32, .pow2 4 65536, .num 1024, false, true⟩,
  ⟨"AX.FBK.SC_AMP", "", 0x1C, 0x001C, 1, 1, 0, 1, 0, .ro, .f32, .any, .num 0, false, false⟩,
  ⟨"AX.FBK.SER_ST_BITS", "", 0x1C, 0x0020, 1, 1, 0, 1, 0, .rwx, .u8, .ints 1 31, .num 17, false, true⟩,
  ⟨"AX.FBK.SER_MT_BITS", "", 0x1C, 0x0021, 1, 1, 0, 1, 0, .rwx, .u8, .ints 0 32, .num 0, false, true⟩,
  ⟨"AX.FBK.SER_OFS", "", 0x1C, 0x0022, 1, 1, 0, 1, 0, .rwx, .u8, .ints 0 56, .num 0, true, true⟩,
  ⟨"AX.FBK.SER_GRAY", "", 0x1C, 0x0023, 1, 1, 0, 1, 0, .rwx, .bool, .ints 0 1, .num 0, false, true⟩,
  ⟨"AX.FBK.SER_TOL", "", 0x1C, 0x0024, 1, 1, 0, 1, 0, .rws, .u8, .ints 1 8, .num 2, true, true⟩]

/-- Rows of class 0x1C. -/
def rows1Cb : List PRow := [
  ⟨"AX.FBK.SER_ERR", "", 0x1C, 0x0025, 1, 1, 0, 1, 0, .ro, .u32, .any, .num 0, true, false⟩,
  ⟨"AX.FBK.SER_CLK", "", 0x1C, 0x0026, 1, 1, 0, 1, 0, .rwx, .u8, .ints 10 100, .num 100, false, true⟩,
  ⟨"AX.FBK.ZERO_TIMEOUT", "", 0x1C, 0x0028, 1, 1, 0, 1, 0, .rws, .u16, .ints 1 1000, .num 20, false, true⟩,
  ⟨"AX.FBK.VFILT", "", 0x1C, 0x0029, 1, 1, 0, 1, 0, .rws, .u16, .ints 0 10000, .num 200, true, true⟩,
  ⟨"AX.FBK.LOSS_ACTION", "", 0x1C, 0x0030, 1, 1, 0, 1, 0, .rws, .enum, .ints 0 2, .num 1, false, true⟩,
  ⟨"AX.FBK.FROZEN_V", "", 0x1C, 0x0031, 1, 1, 0, 1, 0, .rws, .u8, .ints 1 50, .num 5, true, true⟩,
  ⟨"AX.FBK.FROZEN_I", "", 0x1C, 0x0032, 1, 1, 0, 1, 0, .rws, .u8, .ints 10 200, .num 50, true, true⟩,
  ⟨"AX.FBK.FROZEN_CTS", "", 0x1C, 0x0033, 1, 1, 0, 1, 0, .rws, .u16, .ints 1 65535, .num 2, true, true⟩,
  ⟨"AX.FBK.STATUS", "", 0x1C, 0x0040, 1, 1, 0, 1, 0, .ro, .u16, .any, .num 4, false, false⟩,
  ⟨"AX.FBK.POS", "", 0x1C, 0x0041, 1, 1, 0, 1, 0, .ro, .s64, .any, .num 0, false, false⟩,
  ⟨"AX.FBK.VEL", "", 0x1C, 0x0042, 1, 1, 0, 1, 0, .ro, .s64, .any, .num 0, false, false⟩,
  ⟨"AX.FBK.TURNS", "", 0x1C, 0x0043, 1, 1, 0, 1, 0, .ro, .s64, .any, .num 0, false, false⟩,
  ⟨"AX.FBK.WRAPS", "", 0x1C, 0x0044, 1, 1, 0, 1, 0, .ro, .s32, .any, .num 0, true, false⟩,
  ⟨"AX.FBK.LEVEL", "", 0x1C, 0xFFFF, 1, 1, 0, 1, 0, .rws, .enum, .ints 0 1, .num 0, false, true⟩]

/-- Rows of class 0x14. -/
def rows14 : List PRow := [
  ⟨"AX.POS.BW", "", 0x14, 0x0001, 1, 1, 0, 1, 0, .rws, .f32, .dep, .num 1092616192, false, true⟩,
  ⟨"AX.POS.FE_MAX", "", 0x14, 0x0002, 1, 1, 0, 1, 0, .rws, .u32, .ints 1 1073741824, .num 16384, false, true⟩,
  ⟨"AX.POS.FE_TIME", "", 0x14, 0x0003, 1, 1, 0, 1, 0, .rws, .u16, .ints 0 1000, .num 10, false, true⟩,
  ⟨"AX.POS.KP", "", 0x14, 0x0020, 1, 1, 0, 1, 0, .rws, .f32, .flts 0 1000 1, .derived, true, true⟩,
  ⟨"AX.POS.KVFF", "", 0x14, 0x0021, 1, 1, 0, 1, 0, .rws, .f32, .flts 0 3 2, .num 1065353216, true, true⟩,
  ⟨"AX.POS.BW_MAX", "", 0x14, 0x0040, 1, 1, 0, 1, 0, .ro, .f32, .any, .none, false, false⟩,
  ⟨"AX.POS.LEVEL", "", 0x14, 0xFFFF, 1, 1, 0, 1, 0, .rws, .enum, .ints 0 1, .num 0, false, true⟩]

/-- Rows of class 0x13. -/
def rows13 : List PRow := [
  ⟨"AX.VEL.BW", "", 0x13, 0x0001, 1, 1, 0, 1, 0, .rws, .f32, .dep, .num 1112014848, false, true⟩,
  ⟨"AX.VEL.VMAX", "", 0x13, 0x0002, 1, 1, 0, 1, 0, .rws, .f32, .flts 1 100000 100, .formula, false, true⟩,
  ⟨"AX.VEL.KP", "", 0x13, 0x0020, 1, 1, 0, 1, 0, .rws, .f32, .flts 1 10000000000 1000000, .derived, true, true⟩,
  ⟨"AX.VEL.KI", "", 0x13, 0x0021, 1, 1, 0, 1, 0, .rws, .f32, .flts 0 10000 1, .derived, true, true⟩,
  ⟨"AX.VEL.KAFF", "", 0x13, 0x0022, 1, 1, 0, 1, 0, .rws, .f32, .flts 0 100 1, .derived, true, true⟩,
  ⟨"AX.VEL.KFRIC", "", 0x13, 0x0023, 1, 1, 0, 1, 0, .rws, .f32, .dep, .num 0, true, true⟩,
  ⟨"AX.VEL.FRIC_BAND", "", 0x13, 0x0024, 1, 1, 0, 1, 0, .rws, .f32, .flts 1 10000 1000, .num 1028443341, true, true⟩,
  ⟨"AX.VEL.BW_MAX", "", 0x13, 0x0040, 1, 1, 0, 1, 0, .ro, .f32, .any, .none, false, false⟩,
  ⟨"AX.VEL.LEVEL", "", 0x13, 0xFFFF, 1, 1, 0, 1, 0, .rws, .enum, .ints 0 1, .num 0, false, true⟩]

/-- Rows of class 0x12. -/
def rows12 : List PRow := [
  ⟨"AX.CUR.BW", "", 0x12, 0x0001, 1, 1, 0, 1, 0, .rws, .f32, .dep, .num 1148846080, false, true⟩,
  ⟨"AX.CUR.ILIM", "", 0x12, 0x0002, 1, 1, 0, 1, 0, .rws, .f32, .dep, .formula, false, true⟩,
  ⟨"AX.CUR.KP", "", 0x12, 0x0020, 1, 1, 0, 1, 0, .rws, .f32, .flts 1 1000000 1000, .derived, true, true⟩,
  ⟨"AX.CUR.KI", "", 0x12, 0x0021, 1, 1, 0, 1, 0, .rws, .f32, .flts 0 100000 1, .derived, true, true⟩,
  ⟨"AX.CUR.FF_R", "", 0x12, 0x0022, 1, 1, 0, 1, 0, .rws, .bool, .ints 0 1, .num 1, true, true⟩,
  ⟨"AX.CUR.FF_EMF", "", 0x12, 0x0023, 1, 1, 0, 1, 0, .rws, .bool, .ints 0 1, .num 1, true, true⟩,
  ⟨"AX.CUR.VBUS_COMP", "", 0x12, 0x0024, 1, 1, 0, 1, 0, .rws, .enum, .ints 0 1, .num 1, true, true⟩,
  ⟨"AX.CUR.BW_MAX", "", 0x12, 0x0040, 1, 1, 0, 1, 0, .ro, .f32, .any, .none, false, false⟩,
  ⟨"AX.CUR.LEVEL", "", 0x12, 0xFFFF, 1, 1, 0, 1, 0, .rws, .enum, .ints 0 1, .num 0, false, true⟩]

/-- Rows of class 0x15. -/
def rows15 : List PRow := [
  ⟨"AX.FLT.F1.TYPE", "", 0x15, 0x0010, 1, 0, 0, 1, 0, .rws, .enum, .ints 0 4, .num 1, true, true⟩,
  ⟨"AX.FLT.F2.TYPE", "", 0x15, 0x0020, 1, 0, 0, 1, 0, .rws, .enum, .ints 0 4, .num 0, true, true⟩,
  ⟨"AX.FLT.F1.FREQ", "", 0x15, 0x0011, 1, 0, 0, 1, 0, .rws, .f32, .dep, .derived, true, true⟩,
  ⟨"AX.FLT.F2.FREQ", "", 0x15, 0x0021, 1, 0, 0, 1, 0, .rws, .f32, .dep, .num 1148846080, true, true⟩,
  ⟨"AX.FLT.F", ".DAMP", 0x15, 0x0012, 2, 16, 1, 1, 0, .rws, .f32, .flts 1 40 20, .num 1060437492, true, true⟩,
  ⟨"AX.FLT.F", ".DEPTH", 0x15, 0x0013, 2, 16, 1, 1, 0, .rws, .f32, .flts 0 1 1, .num 1036831949, true, true⟩,
  ⟨"AX.FLT.F", ".RATIO", 0x15, 0x0014, 2, 16, 1, 1, 0, .rws, .f32, .flts 1 100 10, .num 1073741824, true, true⟩,
  ⟨"AX.FLT.F", ".B0", 0x15, 0x0018, 2, 16, 1, 1, 0, .rws, .f32, .dep, .derived, true, true⟩,
  ⟨"AX.FLT.F", ".B1", 0x15, 0x0019, 2, 16, 1, 1, 0, .rws, .f32, .dep, .derived, true, true⟩,
  ⟨"AX.FLT.F", ".B2", 0x15, 0x001A, 2, 16, 1, 1, 0, .rws, .f32, .dep, .derived, true, true⟩,
  ⟨"AX.FLT.F", ".A1", 0x15, 0x001B, 2, 16, 1, 1, 0, .rws, .f32, .dep, .derived, true, true⟩,
  ⟨"AX.FLT.F", ".A2", 0x15, 0x001C, 2, 16, 1, 1, 0, .rws, .f32, .dep, .derived, true, true⟩,
  ⟨"AX.FLT.LEVEL", "", 0x15, 0xFFFF, 1, 1, 0, 1, 0, .rws, .enum, .ints 0 1, .num 0, false, true⟩]

/-- Rows of class 0x16. -/
def rows16 : List PRow := [
  ⟨"AX.RPT.ENABLE", "", 0x16, 0x0001, 1, 1, 0, 1, 0, .rws, .bool, .ints 0 1, .num 0, false, true⟩,
  ⟨"AX.RPT.PERIOD", "", 0x16, 0x0002, 1, 1, 0, 1, 0, .rwx, .u32, .ints 256 1073741824, .num 4096, false, true⟩,
  ⟨"AX.RPT.FREEZE", "", 0x16, 0x0003, 1, 1, 0, 1, 0, .rws, .bool, .ints 0 1, .num 0, false, false⟩,
  ⟨"AX.RPT.GAIN", "", 0x16, 0x0020, 1, 1, 0, 1, 0, .rws, .f32, .flts 0 1 2, .num 1028443341, true, true⟩,
  ⟨"AX.RPT.FORGET", "", 0x16, 0x0021, 1, 1, 0, 1, 0, .rws, .f32, .flts 0 1 100, .num 953267991, true, true⟩,
  ⟨"AX.RPT.LEAD_T", "", 0x16, 0x0022, 1, 1, 0, 1, 0, .rws, .f32, .flts 0 1000 1, .derived, true, true⟩,
  ⟨"AX.RPT.VMIN", "", 0x16, 0x0023, 1, 1, 0, 1, 0, .rws, .f32, .flts 0 100 1, .derived, true, true⟩,
  ⟨"AX.RPT.LIMIT", "", 0x16, 0x0024, 1, 1, 0, 1, 0, .rws, .f32, .dep, .derived, true, true⟩,
  ⟨"AX.RPT.STAT", "", 0x16, 0x0040, 1, 1, 0, 1, 0, .ro, .u8, .any, .num 0, false, false⟩,
  ⟨"AX.RPT.RMS", "", 0x16, 0x0041, 1, 1, 0, 1, 0, .ro, .f32, .any, .num 0, false, false⟩,
  ⟨"AX.RPT.LEVEL", "", 0x16, 0xFFFF, 1, 1, 0, 1, 0, .rws, .enum, .ints 0 1, .num 0, false, true⟩]

/-- Rows of class 0x17. -/
def rows17 : List PRow := [
  ⟨"AX.INJ.POINT", "", 0x17, 0x0001, 1, 1, 0, 1, 0, .rws, .enum, .ints 0 4, .num 0, false, false⟩,
  ⟨"AX.INJ.SHAPE", "", 0x17, 0x0002, 1, 1, 0, 1, 0, .rws, .enum, .ints 0 3, .num 1, false, false⟩,
  ⟨"AX.INJ.AMP", "", 0x17, 0x0003, 1, 1, 0, 1, 0, .rws, .f32, .dep, .num 0, false, false⟩,
  ⟨"AX.INJ.TIME", "", 0x17, 0x0004, 1, 1, 0, 1, 0, .rws, .u32, .ints 1 600000, .num 2000, false, false⟩,
  ⟨"AX.INJ.F0", "", 0x17, 0x0010, 1, 1, 0, 1, 0, .rws, .f32, .dep, .derived, true, false⟩,
  ⟨"AX.INJ.F1", "", 0x17, 0x0011, 1, 1, 0, 1, 0, .rws, .f32, .dep, .derived, true, false⟩,
  ⟨"AX.INJ.PRBS_N", "", 0x17, 0x0012, 1, 1, 0, 1, 0, .rws, .u8, .ints 7 15, .num 11, true, false⟩,
  ⟨"AX.INJ.PRBS_HOLD", "", 0x17, 0x0013, 1, 1, 0, 1, 0, .rws, .u8, .ints 1 16, .num 1, true, false⟩,
  ⟨"AX.INJ.STAT", "", 0x17, 0x0040, 1, 1, 0, 1, 0, .ro, .u8, .any, .num 0, false, false⟩,
  ⟨"AX.INJ.LEVEL", "", 0x17, 0xFFFF, 1, 1, 0, 1, 0, .rws, .enum, .ints 0 1, .num 0, false, false⟩]

/-- Rows of class 0x10. -/
def rows10 : List PRow := [
  ⟨"AX.MOT.TYPE", "", 0x10, 0x0001, 1, 1, 0, 1, 0, .rwx, .enum, .ints 0 2, .num 0, false, true⟩,
  ⟨"AX.MOT.POLES", "", 0x10, 0x0002, 1, 1, 0, 1, 0, .rwx, .u8, .ints 1 64, .num 1, false, true⟩,
  ⟨"AX.MOT.KE", "", 0x10, 0x0003, 1, 1, 0, 1, 0, .rwx, .f32, .fltsOr0 1 100000 100000, .num 0, false, true⟩,
  ⟨"AX.MOT.I_RATED", "", 0x10, 0x0004, 1, 1, 0, 1, 0, .rwx, .f32, .fltsOr0 1 10000 100, .num 0, false, true⟩,
  ⟨"AX.MOT.I_PEAK", "", 0x10, 0x0005, 1, 1, 0, 1, 0, .rwx, .f32, .dep, .num 0, false, true⟩,
  ⟨"AX.MOT.N_RATED", "", 0x10, 0x0006, 1, 1, 0, 1, 0, .rwx, .f32, .flts 1 60000 1, .num 1161527296, false, true⟩,
  ⟨"AX.MOT.R", "", 0x10, 0x0007, 1, 1, 0, 1, 0, .rwx, .f32, .fltsOr0 1 100000 1000, .num 0, false, true⟩,
  ⟨"AX.MOT.L", "", 0x10, 0x0008, 1, 1, 0, 1, 0, .rwx, .f32, .fltsOr0 1 1000000 1000000, .num 0, false, true⟩,
  ⟨"AX.MOT.J", "", 0x10, 0x0009, 1, 1, 0, 1, 0, .rws, .f32, .fltsOr0 1 100000000 10000000, .num 0, false, true⟩,
  ⟨"AX.MOT.VBUS_NOM", "", 0x10, 0x000A, 1, 1, 0, 1, 0, .rwx, .f32, .flts 12 60 1, .num 1103101952, false, true⟩,
  ⟨"AX.MOT.KT", "", 0x10, 0x0020, 1, 1, 0, 1, 0, .ro, .f32, .any, .none, false, false⟩,
  ⟨"AX.MOT.I_LIMIT", "", 0x10, 0x0021, 1, 1, 0, 1, 0, .ro, .f32, .any, .none, false, false⟩,
  ⟨"AX.MOT.ENG_STAT", "", 0x10, 0x0040, 1, 1, 0, 1, 0, .ro, .u64, .any, .none, true, false⟩]

/-- Rows of class 0x18. -/
def rows18a : List PRow := [
  ⟨"AX.PRF.MODE", "", 0x18, 0x0001, 1, 1, 0, 1, 0, .rws, .enum, .ints 0 4, .num 0, false, true⟩,
  ⟨"AX.PRF.SCALE_NUM", "", 0x18, 0x0002, 1, 1, 0, 1, 0, .rwx, .u32, .ints 1 2147483647, .num 1, false, true⟩,
  ⟨"AX.PRF.SCALE_DEN", "", 0x18, 0x0003, 1, 1, 0, 1, 0, .rwx, .u32, .ints 1 2147483647, .num 1, false, true⟩,
  ⟨"AX.PRF.VMAX", "", 0x18, 0x0010, 1, 1, 0, 1, 0, .rws, .f32, .fpos, .num 1148846080, false, true⟩,
  ⟨"AX.PRF.ACC", "", 0x18, 0x0011, 1, 1, 0, 1, 0, .rws, .f32, .fpos, .num 1176256512, false, true⟩,
  ⟨"AX.PRF.DEC", "", 0x18, 0x0012, 1, 1, 0, 1, 0, .rws, .f32, .fpos, .num 1176256512, false, true⟩,
  ⟨"AX.PRF.JERK_T", "", 0x18, 0x0013, 1, 1, 0, 1, 0, .rws, .f32, .flts 0 1000 1, .num 0, false, true⟩,
  ⟨"AX.PRF.BLEND", "", 0x18, 0x0014, 1, 1, 0, 1, 0, .rws, .bool, .ints 0 1, .num 1, false, true⟩,
  ⟨"AX.PRF.WINDOW", "", 0x18, 0x0015, 1, 1, 0, 1, 0, .rws, .u32, .ints 0 1073741824, .num 8, false, true⟩,
  ⟨"AX.PRF.WINDOW_T", "", 0x18, 0x0016, 1, 1, 0, 1, 0, .rws, .u16, .ints 0 1000, .num 5, false, true⟩,
  ⟨"AX.PRF.POS_MIN", "", 0x18, 0x0017, 1, 1, 0, 1, 0, .rws, .s64, .any, .num (-4611686018427387904), false, true⟩,
  ⟨"AX.PRF.POS_MAX", "", 0x18, 0x0018, 1, 1, 0, 1, 0, .rws, .s64, .dep, .num 4611686018427387904, false, true⟩,
  ⟨"AX.PRF.LIMIT_EN", "", 0x18, 0x0019, 1, 1, 0, 1, 0, .rws, .bool, .ints 0 1, .num 0, false, true⟩,
  ⟨"AX.PRF.JERK", "", 0x18, 0x0020, 1, 1, 0, 1, 0, .rws, .f32, .fnneg, .derived, true, true⟩,
  ⟨"AX.PRF.KEEP", "", 0x18, 0x0021, 1, 1, 0, 1, 0, .rws, .bool, .ints 0 1, .num 1, true, true⟩,
  ⟨"AX.PRF.IPO_MODE", "", 0x18, 0x0030, 1, 1, 0, 1, 0, .rws, .enum, .ints 0 2, .num 1, false, true⟩,
  ⟨"AX.PRF.IPO_TMAX", "", 0x18, 0x0031, 1, 1, 0, 1, 0, .rws, .u16, .ints 1 1000, .num 40, false, true⟩,
  ⟨"AX.PRF.STATE", "", 0x18, 0x0040, 1, 1, 0, 1, 0, .ro, .enum, .any, .num 0, false, false⟩,
  ⟨"AX.PRF.QUEUE_FREE", "", 0x18, 0x0041, 1, 1, 0, 1, 0, .ro, .u8, .any, .num 8, false, false⟩,
  ⟨"AX.PRF.ENTRY_ID", "", 0x18, 0x0042, 1, 1, 0, 1, 0, .ro, .u16, .any, .num 0, false, false⟩]

/-- Rows of class 0x18. -/
def rows18b : List PRow := [
  ⟨"AX.PRF.REMAIN", "", 0x18, 0x0043, 1, 1, 0, 1, 0, .ro, .s64, .any, .num 0, false, false⟩,
  ⟨"AX.PRF.LATE_JOINT", "", 0x18, 0x0044, 1, 1, 0, 1, 0, .ro, .u32, .any, .num 0, true, false⟩,
  ⟨"AX.PRF.IPO_EXTRAP", "", 0x18, 0x0045, 1, 1, 0, 1, 0, .ro, .u32, .any, .num 0, true, false⟩,
  ⟨"AX.PRF.IPO_DISC", "", 0x18, 0x0046, 1, 1, 0, 1, 0, .ro, .u32, .any, .num 0, true, false⟩,
  ⟨"AX.PRF.LEVEL", "", 0x18, 0xFFFF, 1, 1, 0, 1, 0, .rws, .enum, .ints 0 1, .num 0, false, true⟩]

/-- Rows of class 0x19. -/
def rows19 : List PRow := [
  ⟨"AX.HOM.METHOD", "", 0x19, 0x0001, 1, 1, 0, 1, 0, .rws, .enum, .ints 0 4, .num 1, false, true⟩,
  ⟨"AX.HOM.DIR", "", 0x19, 0x0002, 1, 1, 0, 1, 0, .rws, .enum, .ints 0 1, .num 1, false, true⟩,
  ⟨"AX.HOM.SW_SRC", "", 0x19, 0x0003, 1, 1, 0, 1, 0, .rws, .u8, .ints 0 40, .num 0, false, true⟩,
  ⟨"AX.HOM.SW_LEVEL", "", 0x19, 0x0004, 1, 1, 0, 1, 0, .rws, .enum, .ints 0 1, .num 1, false, true⟩,
  ⟨"AX.HOM.V_FAST", "", 0x19, 0x0005, 1, 1, 0, 1, 0, .rws, .f32, .fpos, .num 1140457472, false, true⟩,
  ⟨"AX.HOM.V_SLOW", "", 0x19, 0x0006, 1, 1, 0, 1, 0, .rws, .f32, .fpos, .num 1112014848, false, true⟩,
  ⟨"AX.HOM.POS", "", 0x19, 0x0008, 1, 1, 0, 1, 0, .rws, .s64, .any, .num 0, false, true⟩,
  ⟨"AX.HOM.MAX_DIST", "", 0x19, 0x0009, 1, 1, 0, 1, 0, .rws, .s64, .ints 1 9223372036854775807, .num 429496729600000, false, true⟩,
  ⟨"AX.HOM.LE_PORT", "", 0x19, 0x000C, 1, 1, 0, 1, 0, .rws, .u8, .ints 0 3, .num 0, false, true⟩,
  ⟨"AX.HOM.ACC", "", 0x19, 0x0020, 1, 1, 0, 1, 0, .rws, .f32, .fpos, .derived, true, true⟩,
  ⟨"AX.HOM.STOP_I", "", 0x19, 0x0021, 1, 1, 0, 1, 0, .rws, .u8, .ints 5 100, .num 30, true, true⟩,
  ⟨"AX.HOM.STOP_T", "", 0x19, 0x0022, 1, 1, 0, 1, 0, .rws, .u16, .ints 5 2000, .num 50, true, true⟩,
  ⟨"AX.HOM.STAT", "", 0x19, 0x0040, 1, 1, 0, 1, 0, .ro, .u8, .any, .num 0, false, false⟩,
  ⟨"AX.HOM.REF_STAMP", "", 0x19, 0x0041, 1, 1, 0, 1, 0, .ro, .u64, .any, .num 0, false, false⟩,
  ⟨"AX.HOM.LEVEL", "", 0x19, 0xFFFF, 1, 1, 0, 1, 0, .rws, .enum, .ints 0 1, .num 0, false, true⟩]

/-- Rows of class 0x1A. -/
def rows1A : List PRow := [
  ⟨"AX.GEA.SRC", "", 0x1A, 0x0001, 1, 1, 0, 1, 0, .rwx, .enum, .ints 0 3, .num 0, false, true⟩,
  ⟨"AX.GEA.MASTER", "", 0x1A, 0x0002, 1, 1, 0, 1, 0, .rwx, .u8, .dep, .num 0, false, true⟩,
  ⟨"AX.GEA.NUM", "", 0x1A, 0x0003, 1, 1, 0, 1, 0, .rwx, .s32, .nonzero, .num 1, false, true⟩,
  ⟨"AX.GEA.DEN", "", 0x1A, 0x0004, 1, 1, 0, 1, 0, .rwx, .u32, .ints 1 2147483647, .num 1, false, true⟩,
  ⟨"AX.GEA.ENG_MODE", "", 0x1A, 0x0005, 1, 1, 0, 1, 0, .rws, .enum, .ints 0 1, .num 0, false, true⟩,
  ⟨"AX.GEA.ENG_POS", "", 0x1A, 0x0006, 1, 1, 0, 1, 0, .rws, .s64, .any, .num 0, false, true⟩,
  ⟨"AX.GEA.CLUTCH", "", 0x1A, 0x0007, 1, 1, 0, 1, 0, .rws, .u64, .any, .num 0, false, true⟩,
  ⟨"AX.GEA.DIS_MODE", "", 0x1A, 0x0008, 1, 1, 0, 1, 0, .rws, .enum, .ints 0 2, .num 0, false, true⟩,
  ⟨"AX.GEA.DIS_POS", "", 0x1A, 0x0009, 1, 1, 0, 1, 0, .rws, .s64, .any, .num 0, false, true⟩,
  ⟨"AX.GEA.STAT", "", 0x1A, 0x0040, 1, 1, 0, 1, 0, .ro, .u8, .any, .num 0, false, false⟩,
  ⟨"AX.GEA.MVAL", "", 0x1A, 0x0041, 1, 1, 0, 1, 0, .ro, .s64, .any, .num 0, false, false⟩,
  ⟨"AX.GEA.LEVEL", "", 0x1A, 0xFFFF, 1, 1, 0, 1, 0, .rws, .enum, .ints 0 1, .num 0, false, true⟩]

/-- Rows of class 0x1B. -/
def rows1Ba : List PRow := [
  ⟨"AX.STP.MICRO", "", 0x1B, 0x0001, 1, 1, 0, 1, 0, .rwx, .u16, .pow2 1 256, .num 16, false, true⟩,
  ⟨"AX.STP.I_RUN", "", 0x1B, 0x0002, 1, 1, 0, 1, 0, .rws, .u8, .ints 10 100, .num 70, false, true⟩,
  ⟨"AX.STP.I_HOLD", "", 0x1B, 0x0003, 1, 1, 0, 1, 0, .rws, .u8, .ints 0 100, .num 35, false, true⟩,
  ⟨"AX.STP.T_HOLD", "", 0x1B, 0x0004, 1, 1, 0, 1, 0, .rwx, .f32, .fltsOr0 1 100000 1000, .num 0, false, true⟩,
  ⟨"AX.STP.MODE", "", 0x1B, 0x0005, 1, 1, 0, 1, 0, .rws, .enum, .ints 0 2, .num 2, false, true⟩,
  ⟨"AX.STP.LOOP", "", 0x1B, 0x0006, 1, 1, 0, 1, 0, .rwx, .enum, .ints 0 1, .num 0, false, true⟩,
  ⟨"AX.STP.STEP_SRC", "", 0x1B, 0x0007, 1, 1, 0, 1, 0, .rwx, .enum, .ints 0 1, .num 0, false, true⟩,
  ⟨"AX.STP.STEP_PORT", "", 0x1B, 0x0008, 1, 1, 0, 1, 0, .rwx, .u8, .ints 0 3, .num 0, false, true⟩,
  ⟨"AX.STP.STEP_MULT", "", 0x1B, 0x0009, 1, 1, 0, 1, 0, .rwx, .u16, .ints 1 256, .num 16, false, true⟩,
  ⟨"AX.STP.HOLD_T", "", 0x1B, 0x000A, 1, 1, 0, 1, 0, .rws, .u16, .ints 10 10000, .num 200, false, true⟩,
  ⟨"AX.STP.V_SWITCH", "", 0x1B, 0x0020, 1, 1, 0, 1, 0, .rws, .f32, .flts 1 100000 100, .derived, true, true⟩,
  ⟨"AX.STP.BLEND_N", "", 0x1B, 0x0021, 1, 1, 0, 1, 0, .rws, .u8, .ints 1 255, .num 32, true, true⟩,
  ⟨"AX.STP.QSTOP_ACC", "", 0x1B, 0x0022, 1, 1, 0, 1, 0, .rws, .f32, .fpos, .derived, true, true⟩,
  ⟨"AX.STP.STALL_ANG", "", 0x1B, 0x0023, 1, 1, 0, 1, 0, .rws, .u8, .ints 45 170, .num 120, true, true⟩,
  ⟨"AX.STP.STALL_EMF", "", 0x1B, 0x0024, 1, 1, 0, 1, 0, .rws, .u8, .ints 10 90, .num 40, true, true⟩,
  ⟨"AX.STP.STALL_FMIN", "", 0x1B, 0x0025, 1, 1, 0, 1, 0, .rws, .f32, .dep, .derived, true, true⟩,
  ⟨"AX.STP.HOLD_RAMP", "", 0x1B, 0x0026, 1, 1, 0, 1, 0, .rws, .u16, .ints 0 1000, .num 100, true, true⟩,
  ⟨"AX.STP.F_MAX", "", 0x1B, 0x0040, 1, 1, 0, 1, 0, .ro, .f32, .any, .none, false, false⟩,
  ⟨"AX.STP.STATUS", "", 0x1B, 0x0041, 1, 1, 0, 1, 0, .ro, .u16, .any, .num 0, false, false⟩,
  ⟨"AX.STP.COUNT", "", 0x1B, 0x0042, 1, 1, 0, 1, 0, .ro, .s64, .any, .num 0, false, false⟩]

/-- Rows of class 0x1B. -/
def rows1Bb : List PRow := [
  ⟨"AX.STP.VWORD", "", 0x1B, 0x0043, 1, 1, 0, 1, 0, .ro, .s64, .any, .num 0, true, false⟩,
  ⟨"AX.STP.FBK_OFS", "", 0x1B, 0x0044, 1, 1, 0, 1, 0, .ro, .u16, .any, .num 0, true, false⟩,
  ⟨"AX.STP.RATE_CLAMP", "", 0x1B, 0x0045, 1, 1, 0, 1, 0, .ro, .u32, .any, .num 0, true, false⟩,
  ⟨"AX.STP.LEVEL", "", 0x1B, 0xFFFF, 1, 1, 0, 1, 0, .rws, .enum, .ints 0 1, .num 0, false, true⟩]

/-- Rows of class 0x1E. -/
def rows1E : List PRow := [
  ⟨"AX.CMP.U", ".MODE", 0x1E, 0x0000, 2, 16, 0, 1, 0, .rws, .enum, .ints 0 2, .num 0, false, true⟩,
  ⟨"AX.CMP.U", ".POS", 0x1E, 0x0001, 2, 16, 0, 1, 0, .rws, .s64, .any, .num 0, false, false⟩,
  ⟨"AX.CMP.U", ".STEP", 0x1E, 0x0002, 2, 16, 0, 1, 0, .rws, .s64, .nonzero, .num 17592186044416, false, true⟩,
  ⟨"AX.CMP.U", ".DIR", 0x1E, 0x0003, 2, 16, 0, 1, 0, .rws, .enum, .ints 0 2, .num 1, false, true⟩,
  ⟨"AX.CMP.U", ".ACT", 0x1E, 0x0004, 2, 16, 0, 1, 0, .rws, .u16, .dep, .num 17, false, true⟩,
  ⟨"AX.CMP.U", ".WIDTH", 0x1E, 0x0005, 2, 16, 0, 1, 0, .rws, .u32, .intsOr 0 100 1000000, .num 0, false, true⟩,
  ⟨"AX.CMP.U", ".LATE", 0x1E, 0x0006, 2, 16, 0, 1, 0, .rws, .enum, .ints 0 2, .num 0, false, true⟩,
  ⟨"AX.CMP.U", ".STAT", 0x1E, 0x0007, 2, 16, 0, 1, 0, .ro, .u8, .any, .num 0, false, false⟩,
  ⟨"AX.CMP.U", ".FIRED", 0x1E, 0x0008, 2, 16, 0, 1, 0, .ro, .u64, .any, .num 0, false, false⟩,
  ⟨"AX.CMP.U", ".SKIP", 0x1E, 0x0009, 2, 16, 0, 1, 0, .ro, .u32, .any, .num 0, false, false⟩,
  ⟨"AX.CMP.L", ".SRC", 0x1E, 0x0100, 2, 16, 0, 1, 0, .rws, .u8, .sets [(0, 41), (48, 51)], .num 0, false, true⟩,
  ⟨"AX.CMP.L", ".EDGE", 0x1E, 0x0101, 2, 16, 0, 1, 0, .rws, .enum, .ints 0 2, .num 0, false, true⟩,
  ⟨"AX.CMP.L", ".MODE", 0x1E, 0x0102, 2, 16, 0, 1, 0, .rws, .enum, .ints 0 1, .num 0, false, true⟩,
  ⟨"AX.CMP.L", ".POS", 0x1E, 0x0103, 2, 16, 0, 1, 0, .ro, .s64, .any, .num 0, false, false⟩,
  ⟨"AX.CMP.L", ".STAMP", 0x1E, 0x0104, 2, 16, 0, 1, 0, .ro, .u64, .any, .num 0, false, false⟩,
  ⟨"AX.CMP.L", ".COUNT", 0x1E, 0x0105, 2, 16, 0, 1, 0, .ro, .u32, .any, .num 0, false, false⟩,
  ⟨"AX.CMP.L", ".STAT", 0x1E, 0x0106, 2, 16, 0, 1, 0, .ro, .u8, .any, .num 0, false, false⟩]

/-- Rows of class 0x40. -/
def rows40 : List PRow := [
  ⟨"TRK.ENABLE", "", 0x40, 0x0001, 1, 1, 0, 1, 0, .rws, .bool, .ints 0 1, .num 0, false, true⟩,
  ⟨"TRK.DRIVE_PT", "", 0x40, 0x0002, 1, 1, 0, 1, 0, .rwx, .enum, .ints 0 2, .num 1, false, true⟩,
  ⟨"TRK.CMP_LATE", "", 0x40, 0x0003, 1, 1, 0, 1, 0, .rws, .enum, .ints 0 1, .num 0, false, true⟩,
  ⟨"TRK.EST_CMP", "", 0x40, 0x0004, 1, 1, 0, 1, 0, .rws, .enum, .ints 0 1, .num 0, false, true⟩,
  ⟨"TRK.MISS_MAX", "", 0x40, 0x0005, 1, 1, 0, 1, 0, .rws, .u8, .ints 1 16, .num 2, false, true⟩,
  ⟨"TRK.BACK_MAX", "", 0x40, 0x0006, 1, 1, 0, 1, 0, .rws, .u32, .ints 0 10000000, .num 500000, false, true⟩,
  ⟨"TRK.HO_TIMEOUT", "", 0x40, 0x0010, 1, 1, 0, 1, 0, .rws, .u16, .ints 1 100, .num 2, true, true⟩,
  ⟨"TRK.HO_RETRY", "", 0x40, 0x0011, 1, 1, 0, 1, 0, .rws, .u8, .ints 0 16, .num 4, true, true⟩,
  ⟨"TRK.ACTIVE", "", 0x40, 0x0040, 1, 1, 0, 1, 0, .ro, .u16, .any, .num 0, false, false⟩,
  ⟨"TRK.DEFERRED", "", 0x40, 0x0041, 1, 1, 0, 1, 0, .ro, .u32, .any, .num 0, true, false⟩,
  ⟨"TRK.LATE_CNT", "", 0x40, 0x0042, 1, 1, 0, 1, 0, .ro, .u32, .any, .num 0, true, false⟩]

/-- Rows of class 0x41. -/
def rows41a : List PRow := [
  ⟨"TOPO.Z", ".KIND", 0x41, 0x0000, 160, 256, 0, 1, 0, .rwx, .enum, .ints 0 4, .num 0, false, true⟩,
  ⟨"TOPO.Z", ".SRC", 0x41, 0x0001, 160, 256, 0, 1, 0, .rwx, .u8, .dep, .num 0, false, true⟩,
  ⟨"TOPO.Z", ".LENGTH", 0x41, 0x0002, 160, 256, 0, 1, 0, .rwx, .u32, .ints 10000 100000000, .num 1000000, false, true⟩,
  ⟨"TOPO.Z", ".NUM", 0x41, 0x0003, 160, 256, 0, 1, 0, .rwx, .s32, .nonzero, .num 1, false, true⟩,
  ⟨"TOPO.Z", ".DEN", 0x41, 0x0004, 160, 256, 0, 1, 0, .rwx, .u32, .ints 1 2147483647, .num 1, false, true⟩,
  ⟨"TOPO.Z", ".SPEED", 0x41, 0x0005, 160, 256, 0, 1, 0, .rws, .s32, .ints (-20000000) 20000000, .num 0, false, true⟩,
  ⟨"TOPO.Z", ".NEXT0", 0x41, 0x0006, 160, 256, 0, 1, 0, .rwx, .u8, .intsOr 255 0 159, .num 255, false, true⟩,
  ⟨"TOPO.Z", ".NEXT1", 0x41, 0x0007, 160, 256, 0, 1, 0, .rwx, .u8, .intsOr 255 0 159, .num 255, false, true⟩,
  ⟨"TOPO.Z", ".BRANCH", 0x41, 0x0008, 160, 256, 0, 1, 0, .rwx, .u8, .intsOr 255 0 31, .num 255, false, true⟩,
  ⟨"TOPO.Z", ".SENSOR", 0x41, 0x0009, 160, 256, 0, 1, 0, .rwx, .u8, .sets [(0, 40), (128, 255)], .num 0, false, true⟩,
  ⟨"TOPO.Z", ".SENS_POS", 0x41, 0x000A, 160, 256, 0, 1, 0, .rwx, .u32, .dep, .num 0, false, true⟩,
  ⟨"TOPO.Z", ".SENS_LEVEL", 0x41, 0x000B, 160, 256, 0, 1, 0, .rws, .enum, .ints 0 1, .num 1, false, true⟩,
  ⟨"TOPO.Z", ".SENS_DELAY", 0x41, 0x000C, 160, 256, 0, 1, 0, .rws, .u32, .ints 0 100000000, .num 0, false, true⟩,
  ⟨"TOPO.Z", ".WIN", 0x41, 0x000D, 160, 256, 0, 1, 0, .rws, .u32, .ints 1000 500000, .num 50000, false, true⟩,
  ⟨"TOPO.Z", ".LEN_TOL", 0x41, 0x000E, 160, 256, 0, 1, 0, .rws, .u32, .ints 0 500000, .num 30000, false, true⟩,
  ⟨"TOPO.Z", ".CREATE", 0x41, 0x000F, 160, 256, 0, 1, 0, .rwx, .bool, .ints 0 1, .num 0, false, true⟩,
  ⟨"TOPO.Z", ".EXPORT", 0x41, 0x0010, 160, 256, 0, 1, 0, .rwx, .bool, .ints 0 1, .num 0, false, true⟩,
  ⟨"TOPO.Z", ".IMPORT", 0x41, 0x0011, 160, 256, 0, 1, 0, .rwx, .bool, .ints 0 1, .num 0, false, true⟩,
  ⟨"TOPO.Z", ".PEER", 0x41, 0x0012, 160, 256, 0, 1, 0, .rwx, .enum, .ints 0 1, .num 0, false, true⟩,
  ⟨"TOPO.Z", ".PEER_ZONE", 0x41, 0x0013, 160, 256, 0, 1, 0, .rwx, .u8, .ints 0 159, .num 0, false, true⟩]

/-- Rows of class 0x41. -/
def rows41b : List PRow := [
  ⟨"TOPO.Z", ".MATCHED", 0x41, 0x0020, 160, 256, 0, 1, 0, .ro, .u32, .any, .num 0, true, false⟩,
  ⟨"TOPO.Z", ".UNEXP", 0x41, 0x0021, 160, 256, 0, 1, 0, .ro, .u32, .any, .num 0, true, false⟩,
  ⟨"TOPO.Z", ".MISSED", 0x41, 0x0022, 160, 256, 0, 1, 0, .ro, .u32, .any, .num 0, true, false⟩]

/-- Rows of class 0x60. -/
def rows60 : List PRow := [
  ⟨"FIO.B", ".MODE", 0x60, 0x0100, 5, 16, 0, 1, 0, .rwx, .enum, .ints 0 1, .num 0, false, true⟩,
  ⟨"FIO.B", ".PERIOD", 0x60, 0x0101, 5, 16, 0, 1, 0, .rws, .u16, .steps 100 10000 100, .num 1000, false, true⟩,
  ⟨"FIO.B", ".FILTER", 0x60, 0x0102, 5, 16, 0, 1, 0, .rws, .u32, .ints 0 100000, .num 100, false, true⟩,
  ⟨"FIO.IN.INVERT", "", 0x60, 0x0010, 1, 1, 0, 1, 0, .rws, .u64, .ints 0 1099511627775, .num 0, false, true⟩,
  ⟨"FIO.IN.EVT_MASK", "", 0x60, 0x0011, 1, 1, 0, 1, 0, .rws, .u64, .ints 0 1099511627775, .num 0, false, true⟩,
  ⟨"FIO.OUT.RESTART", "", 0x60, 0x0020, 1, 1, 0, 1, 0, .rws, .enum, .ints 0 1, .num 0, false, true⟩,
  ⟨"FIO.DIAG.T_STEP", "", 0x60, 0x0021, 1, 1, 0, 1, 0, .rws, .u16, .ints 1 50, .num 2, true, true⟩,
  ⟨"FIO.STATUS", "", 0x60, 0x0040, 1, 1, 0, 1, 0, .ro, .u16, .any, .num 2, false, false⟩,
  ⟨"FIO.IN.STATE", "", 0x60, 0x0041, 1, 1, 0, 1, 0, .ro, .u64, .any, .num 0, false, false⟩,
  ⟨"FIO.OUT.CMD", "", 0x60, 0x0042, 1, 1, 0, 1, 0, .ro, .u16, .any, .num 0, false, false⟩,
  ⟨"FIO.FV24", "", 0x60, 0x0043, 1, 1, 0, 1, 0, .ro, .u16, .any, .num 0, false, false⟩,
  ⟨"FIO.OUT.DEFER", "", 0x60, 0x0044, 1, 1, 0, 1, 0, .ro, .u32, .any, .num 0, true, false⟩,
  ⟨"FIO.DIAG.RESULT", "", 0x60, 0x0045, 1, 1, 0, 1, 0, .ro, .u32, .any, .num 0, false, false⟩]

/-- Rows of class 0x50. -/
def rows50a : List PRow := [
  ⟨"CAP.MODE", "", 0x50, 0x0001, 1, 1, 0, 1, 0, .rwx, .enum, .ints 0 2, .num 0, false, true⟩,
  ⟨"CAP.RUN", "", 0x50, 0x0002, 1, 1, 0, 1, 0, .rwx, .enum, .ints 0 1, .num 0, false, true⟩,
  ⟨"CAP.REDUCE", "", 0x50, 0x0003, 1, 1, 0, 1, 0, .rwx, .enum, .ints 0 2, .num 0, false, true⟩,
  ⟨"CAP.DECIM", "", 0x50, 0x0004, 1, 1, 0, 1, 0, .rwx, .u16, .ints 1 65535, .num 1, false, true⟩,
  ⟨"CAP.PERIOD", "", 0x50, 0x0005, 1, 1, 0, 1, 0, .rwx, .u32, .steps 160 1000000000 10, .num 1000, false, true⟩,
  ⟨"CAP.REC.SEL", "", 0x50, 0x0006, 1, 1, 0, 1, 0, .rwx, .u32, .dep, .num 1, false, true⟩,
  ⟨"CAP.PRE", "", 0x50, 0x0010, 1, 1, 0, 1, 0, .rwx, .u32, .ints 0 4294967295, .num 0, false, true⟩,
  ⟨"CAP.POST", "", 0x50, 0x0011, 1, 1, 0, 1, 0, .rwx, .u32, .ints 1 4294967295, .num 1024, false, true⟩,
  ⟨"CAP.TRIG.COMBINE", "", 0x50, 0x0012, 1, 1, 0, 1, 0, .rwx, .enum, .ints 0 2, .num 0, false, true⟩,
  ⟨"CAP.SEQ.SAME_OK", "", 0x50, 0x0013, 1, 1, 0, 1, 0, .rwx, .bool, .ints 0 1, .num 0, true, true⟩,
  ⟨"CAP.SEQ.WITHIN", "", 0x50, 0x0014, 1, 1, 0, 1, 0, .rwx, .u32, .intsOr 0 1 4294967295, .num 0, true, true⟩,
  ⟨"CAP.MASK.EN", "", 0x50, 0x0020, 1, 1, 0, 1, 0, .rwx, .u16, .any, .num 0, false, true⟩,
  ⟨"CAP.MASK.SEG_LEN", "", 0x50, 0x0021, 1, 1, 0, 1, 0, .rwx, .u32, .ints 1 16777216, .num 64, false, true⟩,
  ⟨"CAP.MASK.ACTION", "", 0x50, 0x0022, 1, 1, 0, 1, 0, .rwx, .enum, .ints 0 2, .num 0, false, true⟩,
  ⟨"CAP.CH", ".SRC", 0x50, 0x0100, 16, 16, 0, 1, 0, .rwx, .u32, .dep, .num 0, false, true⟩,
  ⟨"CAP.T", ".SRC", 0x50, 0x0200, 4, 16, 0, 1, 0, .rwx, .u32, .dep, .num 0, false, true⟩,
  ⟨"CAP.T", ".TYPE", 0x50, 0x0201, 4, 16, 0, 1, 0, .rwx, .enum, .ints 0 8, .num 0, false, true⟩,
  ⟨"CAP.T", ".LEVEL", 0x50, 0x0202, 4, 16, 0, 1, 0, .rwx, .f32, .any, .num 0, false, true⟩,
  ⟨"CAP.T", ".LEVEL2", 0x50, 0x0203, 4, 16, 0, 1, 0, .rwx, .f32, .dep, .num 0, false, true⟩,
  ⟨"CAP.T", ".HYST", 0x50, 0x0204, 4, 16, 0, 1, 0, .rwx, .f32, .fnneg, .num 0, true, true⟩]

/-- Rows of class 0x50. -/
def rows50b : List PRow := [
  ⟨"CAP.T", ".MASK", 0x50, 0x0205, 4, 16, 0, 1, 0, .rwx, .u32, .any, .num 4294967295, true, true⟩,
  ⟨"CAP.STATUS", "", 0x50, 0x0040, 1, 1, 0, 1, 0, .ro, .u32, .any, .num 0, false, false⟩,
  ⟨"CAP.PRE_ACT", "", 0x50, 0x0041, 1, 1, 0, 1, 0, .ro, .u32, .any, .num 0, false, false⟩,
  ⟨"CAP.COUNT", "", 0x50, 0x0042, 1, 1, 0, 1, 0, .ro, .u32, .any, .num 0, false, false⟩,
  ⟨"CAP.START", "", 0x50, 0x0043, 1, 1, 0, 1, 0, .ro, .u32, .any, .num 0, false, false⟩,
  ⟨"CAP.TRIG_IDX", "", 0x50, 0x0044, 1, 1, 0, 1, 0, .ro, .u32, .any, .num 0, false, false⟩,
  ⟨"CAP.TRIG_NT", "", 0x50, 0x0045, 1, 1, 0, 1, 0, .ro, .u64, .any, .num 0, false, false⟩,
  ⟨"CAP.CAPACITY", "", 0x50, 0x0046, 1, 1, 0, 1, 0, .ro, .u32, .any, .none, false, false⟩,
  ⟨"CAP.RUNS", "", 0x50, 0x0047, 1, 1, 0, 1, 0, .ro, .u32, .any, .num 0, false, false⟩,
  ⟨"CAP.MASK.FIRST", "", 0x50, 0x0048, 1, 1, 0, 1, 0, .ro, .u64, .any, .num 0, false, false⟩]

/-- Rows of class 0x30. -/
def rows30a : List PRow := [
  ⟨"NET.NODE_ID", "", 0x30, 0x0001, 1, 1, 0, 1, 0, .rwx, .u16, .intsOr 0 1 65533, .num 0, false, true⟩,
  ⟨"NET.ETHERTYPE", "", 0x30, 0x0002, 1, 1, 0, 1, 0, .rwx, .u16, .sets [(1536, 35062), (35064, 65535)], .num 34997, false, true⟩,
  ⟨"NET.VLAN", "", 0x30, 0x0003, 1, 1, 0, 1, 0, .rwx, .u16, .intsOr 0 1 4094, .num 0, false, true⟩,
  ⟨"NET.PCP", "", 0x30, 0x0004, 1, 1, 0, 1, 0, .rws, .u32, .dep, .num 468054, true, true⟩,
  ⟨"NET.UDP_PORT", "", 0x30, 0x0005, 1, 1, 0, 1, 0, .rwx, .u16, .ints 1 65535, .num 50210, false, true⟩,
  ⟨"NET.A.IP", "", 0x30, 0x0010, 1, 1, 0, 1, 0, .rwx, .u32, .any, .num 0, false, true⟩,
  ⟨"NET.B.IP", "", 0x30, 0x0018, 1, 1, 0, 1, 0, .rwx, .u32, .any, .num 0, false, true⟩,
  ⟨"NET.A.MAC", "", 0x30, 0x0012, 1, 1, 0, 1, 0, .ro, .u64, .any, .none, false, false⟩,
  ⟨"NET.B.MAC", "", 0x30, 0x001A, 1, 1, 0, 1, 0, .ro, .u64, .any, .none, false, false⟩,
  ⟨"NET.BYPASS_LEAD", "", 0x30, 0x0020, 1, 1, 0, 1, 0, .rws, .u16, .ints 0 1000, .num 20, false, true⟩,
  ⟨"NET.EVT_PERIOD", "", 0x30, 0x0021, 1, 1, 0, 1, 0, .rws, .u16, .ints 1 1000, .num 10, true, true⟩,
  ⟨"NET.UDP_REJ", "", 0x30, 0x0040, 1, 1, 0, 1, 0, .ro, .u32, .any, .num 0, true, false⟩,
  ⟨"NET.P", ".ENABLE", 0x30, 0x0100, 4, 16, 0, 1, 0, .rws, .bool, .ints 0 1, .num 1, false, true⟩,
  ⟨"NET.P", ".PHY_RX", 0x30, 0x0101, 4, 16, 0, 1, 0, .rws, .u32, .ints 0 2000000, .num 0, false, true⟩,
  ⟨"NET.P", ".PHY_TX", 0x30, 0x0102, 4, 16, 0, 1, 0, .rws, .u32, .ints 0 2000000, .num 0, false, true⟩,
  ⟨"NET.P", ".ASYM", 0x30, 0x0103, 4, 16, 0, 1, 0, .rws, .s32, .ints (-1000000) 1000000, .num 0, true, true⟩,
  ⟨"NET.P", ".GCL_CYCLE", 0x30, 0x0104, 4, 16, 0, 1, 0, .rws, .u32, .intsOr 0 10000 100000000, .num 0, true, true⟩,
  ⟨"NET.P", ".STAT", 0x30, 0x0108, 4, 16, 0, 1, 0, .ro, .u8, .any, .num 0, false, false⟩,
  ⟨"NET.P", ".DROP", 0x30, 0x0109, 4, 16, 0, 1, 0, .ro, .u32, .any, .num 0, true, false⟩,
  ⟨"NET.P", ".AUTH_ERR", 0x30, 0x010A, 4, 16, 0, 1, 0, .ro, .u32, .any, .num 0, true, false⟩]

/-- Rows of class 0x30. -/
def rows30b : List PRow := [
  ⟨"NET.P", ".GCL", 0x30, 0x0200, 4, 16, 0, 16, 1, .rws, .u32, .dep, .num 4278190080, true, true⟩]

/-- Rows of class 0x31. -/
def rows31a : List PRow := [
  ⟨"PTP.PROFILE", "", 0x31, 0x0001, 1, 1, 0, 1, 0, .rwx, .enum, .ints 0 2, .num 0, false, true⟩,
  ⟨"PTP.STEP_MODE", "", 0x31, 0x0002, 1, 1, 0, 1, 0, .rwx, .enum, .ints 0 1, .num 0, false, true⟩,
  ⟨"PTP.DOMAIN", "", 0x31, 0x0003, 1, 1, 0, 1, 0, .rwx, .u8, .ints 0 127, .num 0, false, true⟩,
  ⟨"PTP.ROLE", "", 0x31, 0x0004, 1, 1, 0, 1, 0, .rwx, .enum, .ints 0 1, .num 0, false, true⟩,
  ⟨"PTP.PRIORITY1", "", 0x31, 0x0005, 1, 1, 0, 1, 0, .rwx, .u8, .ints 0 255, .num 246, true, true⟩,
  ⟨"PTP.LOG_SYNC", "", 0x31, 0x0006, 1, 1, 0, 1, 0, .rwx, .s8, .ints (-7) 0, .num (-3), true, true⟩,
  ⟨"PTP.LOG_PDELAY", "", 0x31, 0x0007, 1, 1, 0, 1, 0, .rwx, .s8, .ints (-3) 3, .num 0, true, true⟩,
  ⟨"PTP.SOURCE", "", 0x31, 0x0010, 1, 1, 0, 1, 0, .rws, .enum, .ints 0 2, .num 2, false, true⟩,
  ⟨"PTP.KP", "", 0x31, 0x0011, 1, 1, 0, 1, 0, .rws, .f32, .flts 1 100 100, .num 1056964608, true, true⟩,
  ⟨"PTP.KI", "", 0x31, 0x0012, 1, 1, 0, 1, 0, .rws, .f32, .flts 0 1 2, .num 1036831949, true, true⟩,
  ⟨"PTP.STEP_THR", "", 0x31, 0x0013, 1, 1, 0, 1, 0, .rws, .u32, .intsOr 0 1000 1000000000, .num 10000, false, true⟩,
  ⟨"PTP.SYNC_LOSS", "", 0x31, 0x0014, 1, 1, 0, 1, 0, .rws, .u8, .ints 2 16, .num 3, true, true⟩,
  ⟨"PTP.HOLDOVER_T", "", 0x31, 0x0015, 1, 1, 0, 1, 0, .rws, .u16, .ints 1 3600, .num 60, false, true⟩,
  ⟨"PTP.A.STATE", "", 0x31, 0x0040, 1, 1, 0, 1, 0, .ro, .enum, .any, .num 0, false, false⟩,
  ⟨"PTP.B.STATE", "", 0x31, 0x0041, 1, 1, 0, 1, 0, .ro, .enum, .any, .num 0, false, false⟩,
  ⟨"PTP.A.OFFSET", "", 0x31, 0x0042, 1, 1, 0, 1, 0, .ro, .s64, .any, .num 0, false, false⟩,
  ⟨"PTP.B.OFFSET", "", 0x31, 0x0043, 1, 1, 0, 1, 0, .ro, .s64, .any, .num 0, false, false⟩,
  ⟨"PTP.AB_DIFF", "", 0x31, 0x0044, 1, 1, 0, 1, 0, .ro, .s64, .any, .num 0, false, false⟩,
  ⟨"PTP.DRIVER", "", 0x31, 0x0045, 1, 1, 0, 1, 0, .ro, .enum, .any, .num 0, false, false⟩,
  ⟨"PTP.TSQ_OVF", "", 0x31, 0x0046, 1, 1, 0, 1, 0, .ro, .u32, .any, .num 0, true, false⟩]

/-- Rows of class 0x31. -/
def rows31b : List PRow := [
  ⟨"PTP.P", ".PDELAY", 0x31, 0x0100, 4, 16, 0, 1, 0, .ro, .u32, .any, .num 0, false, false⟩]

/-- Rows of class 0x32. -/
def rows32 : List PRow := [
  ⟨"CYC.DUAL", "", 0x32, 0x0001, 1, 1, 0, 1, 0, .rws, .bool, .ints 0 1, .num 1, false, true⟩,
  ⟨"CYC.STAT_DIV", "", 0x32, 0x0002, 1, 1, 0, 1, 0, .rws, .u16, .intsOr 0 1 1000, .num 0, false, true⟩,
  ⟨"CYC.STAT_DST", "", 0x32, 0x0003, 1, 1, 0, 1, 0, .rws, .u16, .ints 1 65535, .num 65535, false, true⟩,
  ⟨"CYC.STAT_MASK_LO", "", 0x32, 0x0004, 1, 1, 0, 1, 0, .rws, .u64, .any, .num 0, false, true⟩,
  ⟨"CYC.STAT_MASK_HI", "", 0x32, 0x0005, 1, 1, 0, 1, 0, .rws, .u64, .any, .num 0, false, true⟩,
  ⟨"CYC.PUB_LEAD", "", 0x32, 0x0006, 1, 1, 0, 1, 0, .rws, .u8, .ints 2 16, .num 2, false, true⟩,
  ⟨"CYC.PUB.C", "", 0x32, 0x0100, 16, 16, 0, 1, 0, .rws, .u32, .dep, .num 0, false, true⟩,
  ⟨"CYC.SUB.M", "", 0x32, 0x0200, 16, 16, 0, 1, 0, .rws, .u32, .dep, .num 0, false, true⟩,
  ⟨"CYC.LATE", "", 0x32, 0x0040, 1, 1, 0, 1, 0, .ro, .u32, .any, .num 0, true, false⟩,
  ⟨"CYC.MISMATCH", "", 0x32, 0x0041, 1, 1, 0, 1, 0, .ro, .u32, .any, .num 0, true, false⟩]

/-- Rows of class 0xB0. -/
def rowsB0 : List PRow := [
  ⟨"TWIN.ENABLE", "", 0xB0, 0x0001, 1, 1, 0, 1, 0, .rwx, .bool, .ints 0 1, .num 0, false, true⟩,
  ⟨"TWIN.PARTNER_SERIAL", "", 0xB0, 0x0002, 1, 1, 0, 1, 0, .rwx, .u64, .any, .num 0, false, true⟩,
  ⟨"TWIN.START_WAIT", "", 0xB0, 0x0003, 1, 1, 0, 1, 0, .rws, .u16, .ints 100 60000, .num 2000, false, true⟩,
  ⟨"TWIN.STALE_MAX", "", 0xB0, 0x0004, 1, 1, 0, 1, 0, .rws, .u16, .ints 10 65535, .num 2000, false, true⟩,
  ⟨"TWIN.RESIGN_LINK", "", 0xB0, 0x0005, 1, 1, 0, 1, 0, .rws, .bool, .ints 0 1, .num 1, false, true⟩,
  ⟨"TWIN.STATE", "", 0xB0, 0x0040, 1, 1, 0, 1, 0, .ro, .enum, .any, .num 0, false, false⟩,
  ⟨"TWIN.POS", "", 0xB0, 0x0041, 1, 1, 0, 1, 0, .ro, .u8, .any, .none, false, false⟩,
  ⟨"TWIN.EPOCH", "", 0xB0, 0x0042, 1, 1, 0, 1, 0, .ro, .u32, .any, .num 0, false, false⟩,
  ⟨"TWIN.PARTNER_STATE", "", 0xB0, 0x0043, 1, 1, 0, 1, 0, .ro, .enum, .any, .num 5, false, false⟩,
  ⟨"TWIN.IMG_SIZE", "", 0xB0, 0x0044, 1, 1, 0, 1, 0, .ro, .u32, .any, .num 0, true, false⟩,
  ⟨"TWIN.IMG_MISS", "", 0xB0, 0x0045, 1, 1, 0, 1, 0, .ro, .u32, .any, .num 0, true, false⟩,
  ⟨"TWIN.IMG_BAD", "", 0xB0, 0x0046, 1, 1, 0, 1, 0, .ro, .u32, .any, .num 0, true, false⟩,
  ⟨"TWIN.LINK_STAT", "", 0xB0, 0x0047, 1, 1, 0, 1, 0, .ro, .u8, .any, .num 0, false, false⟩,
  ⟨"TWIN.FAILOVERS", "", 0xB0, 0x0048, 1, 1, 0, 1, 0, .ro, .u32, .any, .num 0, false, false⟩]

/-- Rows of class 0x70. -/
def rows70a : List PRow := [
  ⟨"SAF.ADDR", "", 0x70, 0x0001, 1, 1, 0, 1, 0, .ro, .d32, .any, .num 0, false, false⟩,
  ⟨"SAF.RESET_SRC", "", 0x70, 0x0002, 1, 1, 0, 1, 0, .ro, .d32, .any, .num 1, false, false⟩,
  ⟨"SAF.XCHK_T", "", 0x70, 0x0003, 1, 1, 0, 1, 0, .ro, .d32, .any, .num 10, false, false⟩,
  ⟨"SAF.TEL.USE", "", 0x70, 0x0010, 1, 1, 0, 1, 0, .ro, .d32, .any, .num 0, false, false⟩,
  ⟨"SAF.TEL.SRC", "", 0x70, 0x0011, 1, 1, 0, 1, 0, .ro, .d32, .any, .num 0, false, false⟩,
  ⟨"SAF.TEL.CONN", "", 0x70, 0x0012, 1, 1, 0, 1, 0, .ro, .d32, .any, .num 0, false, false⟩,
  ⟨"SAF.TEL.TIMEOUT", "", 0x70, 0x0013, 1, 1, 0, 1, 0, .ro, .d32, .any, .num 50, false, false⟩,
  ⟨"SAF.TEL.SEQ_WIN", "", 0x70, 0x0014, 1, 1, 0, 1, 0, .ro, .d32, .any, .num 4, false, false⟩,
  ⟨"SAF.TEL.SKEW", "", 0x70, 0x0015, 1, 1, 0, 1, 0, .ro, .d32, .any, .num 20, false, false⟩,
  ⟨"SAF.TEL.ONE_NET_T", "", 0x70, 0x0016, 1, 1, 0, 1, 0, .ro, .d32, .any, .num 200, false, false⟩,
  ⟨"SAF.TEL.LOSS_ACT", "", 0x70, 0x0017, 1, 1, 0, 1, 0, .ro, .d32, .any, .num 0, false, false⟩,
  ⟨"SAF.DEGRADED.SLS", "", 0x70, 0x0020, 1, 1, 0, 1, 0, .ro, .d32, .any, .num 1024, false, false⟩,
  ⟨"SAF.DEGRADED.TMAX", "", 0x70, 0x0021, 1, 1, 0, 1, 0, .ro, .d32, .any, .num 120, false, false⟩,
  ⟨"SAF.G", ".SS1_T", 0x70, 0x0100, 16, 16, 0, 1, 0, .ro, .d32, .any, .num 500, false, false⟩,
  ⟨"SAF.G", ".VIOL_ACT", 0x70, 0x0101, 16, 16, 0, 1, 0, .ro, .d32, .any, .num 0, false, false⟩,
  ⟨"SAF.G", ".SLS_RAMP", 0x70, 0x0102, 16, 16, 0, 1, 0, .ro, .d32, .any, .num 1000, false, false⟩,
  ⟨"SAF.G", ".RESTART", 0x70, 0x0103, 16, 16, 0, 1, 0, .ro, .d32, .any, .num 0, false, false⟩,
  ⟨"SAF.L", ".GROUP", 0x70, 0x0300, 32, 1, 0, 1, 0, .ro, .d32, .any, .num 255, false, false⟩,
  ⟨"SAF.SI", ".FUNC", 0x70, 0x0400, 8, 16, 0, 1, 0, .ro, .d32, .any, .num 0, false, false⟩,
  ⟨"SAF.SI", ".GROUPS", 0x70, 0x0401, 8, 16, 0, 1, 0, .ro, .d32, .any, .num 0, false, false⟩]

/-- Rows of class 0x70. -/
def rows70b : List PRow := [
  ⟨"SAF.SI", ".FILTER", 0x70, 0x0402, 8, 16, 0, 1, 0, .ro, .d32, .any, .num 1000, false, false⟩,
  ⟨"SAF.SI", ".DISC", 0x70, 0x0403, 8, 16, 0, 1, 0, .ro, .d32, .any, .num 50, false, false⟩,
  ⟨"SAF.SO", ".MASK", 0x70, 0x0500, 2, 16, 0, 1, 0, .ro, .d32, .any, .num 0, false, false⟩,
  ⟨"SAF.SO", ".TEST_T", 0x70, 0x0501, 2, 16, 0, 1, 0, .ro, .d32, .any, .num 1000, false, false⟩,
  ⟨"SAF.SO", ".PULSE", 0x70, 0x0502, 2, 16, 0, 1, 0, .ro, .d32, .any, .num 300, false, false⟩,
  ⟨"SAF.A", ".SLS_LIM", 0x70, 0x1000, 128, 1, 0, 1, 0, .ro, .d32, .any, .num 0, false, false⟩,
  ⟨"SAF.A", ".SDI_VTOL", 0x70, 0x1100, 128, 1, 0, 1, 0, .ro, .d32, .any, .num 51, false, false⟩,
  ⟨"SAF.A", ".SDI_SIGN", 0x70, 0x1200, 128, 1, 0, 1, 0, .ro, .d32, .any, .num 0, false, false⟩,
  ⟨"SAF.STATUS", "", 0x70, 0x0040, 1, 1, 0, 1, 0, .ro, .u16, .any, .num 0, false, false⟩,
  ⟨"SAF.GROUP_STO", "", 0x70, 0x0041, 1, 1, 0, 1, 0, .ro, .d32, .any, .num 65535, false, false⟩,
  ⟨"SAF.GROUP_SS1", "", 0x70, 0x0042, 1, 1, 0, 1, 0, .ro, .d32, .any, .num 0, false, false⟩,
  ⟨"SAF.GROUP_SLS", "", 0x70, 0x0043, 1, 1, 0, 1, 0, .ro, .d32, .any, .num 0, false, false⟩,
  ⟨"SAF.GROUP_SDI", "", 0x70, 0x0044, 1, 1, 0, 1, 0, .ro, .d32, .any, .num 0, false, false⟩,
  ⟨"SAF.CRC", "", 0x70, 0x0045, 1, 1, 0, 1, 0, .ro, .u32, .any, .num 0, false, false⟩,
  ⟨"SAF.LCRC", "", 0x70, 0x0046, 1, 1, 0, 1, 0, .ro, .u16, .any, .num 0, false, false⟩,
  ⟨"SAF.DEG_LEFT", "", 0x70, 0x0047, 1, 1, 0, 1, 0, .ro, .u32, .any, .num 0, false, false⟩,
  ⟨"SAF.LOCKOUT_LEFT", "", 0x70, 0x0048, 1, 1, 0, 1, 0, .ro, .u32, .any, .num 0, false, false⟩,
  ⟨"SAF.L_TEMP", "", 0x70, 0x0049, 1, 1, 0, 1, 0, .ro, .s16, .any, .none, false, false⟩,
  ⟨"SAF.LOG.COUNT", "", 0x70, 0x004A, 1, 1, 0, 1, 0, .ro, .u32, .any, .num 0, false, false⟩]

/-- Rows of class 0x1F. -/
def rows1F : List PRow := [
  ⟨"AX.REA.STOP_TMAX", "", 0x1F, 0x0001, 1, 1, 0, 1, 0, .rws, .u16, .ints 100 60000, .num 2000, false, true⟩,
  ⟨"AX.REA.STOP_V", "", 0x1F, 0x0002, 1, 1, 0, 1, 0, .rws, .u8, .ints 1 20, .num 1, true, true⟩,
  ⟨"AX.REA.I_RAMP", "", 0x1F, 0x0003, 1, 1, 0, 1, 0, .rws, .u16, .ints 1 1000, .num 20, true, true⟩,
  ⟨"AX.REA.OVR", "", 0x1F, 0x0010, 1, 0, 0, 8, 1, .rws, .u32, .dep, .num 0, true, true⟩,
  ⟨"AX.REA.FIRST", "", 0x1F, 0x0040, 1, 1, 0, 1, 0, .ro, .u64, .any, .num 0, false, false⟩,
  ⟨"AX.REA.ACTIVE", "", 0x1F, 0x0041, 1, 1, 0, 1, 0, .ro, .u8, .any, .num 7, false, false⟩,
  ⟨"AX.REA.CAUSE", "", 0x1F, 0x0042, 1, 1, 0, 1, 0, .ro, .u16, .any, .num 0, false, false⟩]

/-- Rows of class 0xF0. -/
def rowsF0 : List PRow := [
  ⟨"FLOG.OVR", "", 0xF0, 0x0010, 1, 0, 0, 16, 1, .rws, .u32, .dep, .num 0, true, true⟩,
  ⟨"FLOG.COUNT", "", 0xF0, 0x0040, 1, 1, 0, 1, 0, .ro, .u32, .any, .num 0, false, false⟩,
  ⟨"FLOG.LOST", "", 0xF0, 0x0041, 1, 1, 0, 1, 0, .ro, .u32, .any, .num 0, true, false⟩,
  ⟨"FLOG.IN_FORCE", "", 0xF0, 0x0042, 1, 1, 0, 1, 0, .ro, .u16, .any, .num 0, false, false⟩,
  ⟨"FLOG.FIRST", "", 0xF0, 0x0050, 1, 0, 0, 13, 1, .ro, .u64, .any, .num 0, false, false⟩]

/-- Rows of class 0x08. -/
def rows08 : List PRow := [
  ⟨"PWR.START_STATE", "", 0x08, 0x0001, 1, 1, 0, 1, 0, .rws, .enum, .ints 0 1, .num 1, false, true⟩,
  ⟨"PWR.FW_SLEEP", "", 0x08, 0x0010, 1, 1, 0, 1, 0, .rws, .bool, .ints 0 1, .num 0, false, true⟩,
  ⟨"PWR.FW_IDLE_T", "", 0x08, 0x0011, 1, 1, 0, 1, 0, .rws, .u32, .ints 10 86400, .num 300, false, true⟩,
  ⟨"PWR.BEACON_MS", "", 0x08, 0x0012, 1, 1, 0, 1, 0, .rws, .u8, .ints 1 100, .num 10, false, true⟩,
  ⟨"PWR.C", ".AUTO_SLEEP", 0x08, 0x0100, 8, 16, 0, 1, 0, .rws, .bool, .ints 0 1, .num 0, false, true⟩,
  ⟨"PWR.C", ".IDLE_T", 0x08, 0x0101, 8, 16, 0, 1, 0, .rws, .u32, .ints 1 86400, .num 600, false, true⟩,
  ⟨"PWR.DOMAINS", "", 0x08, 0x0040, 1, 1, 0, 1, 0, .ro, .u16, .any, .none, false, false⟩,
  ⟨"PWR.SUPPLY", "", 0x08, 0x0041, 1, 1, 0, 1, 0, .ro, .u16, .any, .none, false, false⟩,
  ⟨"PWR.RISTRETTO_T", "", 0x08, 0x0042, 1, 1, 0, 1, 0, .ro, .u32, .any, .none, true, false⟩,
  ⟨"PWR.FULL_T", "", 0x08, 0x0043, 1, 1, 0, 1, 0, .ro, .u32, .any, .none, true, false⟩]

/-- Rows of class 0x09. -/
def rows09 : List PRow := [
  ⟨"PERC.R", "", 0x09, 0x0100, 32, 1, 0, 1, 0, .rws, .u64, .dep, .num 0, false, true⟩,
  ⟨"PERC.TIMER", "", 0x09, 0x0200, 4, 1, 0, 1, 0, .rws, .u32, .ints 1 86400, .num 3600, false, true⟩,
  ⟨"PERC.WAKE_CAUSE", "", 0x09, 0x0040, 1, 1, 0, 1, 0, .ro, .u32, .any, .num 0, false, false⟩,
  ⟨"PERC.WAKE_IGN", "", 0x09, 0x0041, 1, 1, 0, 1, 0, .ro, .u32, .any, .num 0, true, false⟩]

/-- Rows of class 0x80. -/
def rows80 : List PRow := [
  ⟨"SEC.STATE", "", 0x80, 0x0001, 1, 1, 0, 1, 0, .ro, .enum, .any, .num 0, false, false⟩,
  ⟨"SEC.OWNER_EPOCH", "", 0x80, 0x0002, 1, 1, 0, 1, 0, .ro, .u32, .any, .num 0, false, false⟩,
  ⟨"SEC.OWNER_ID", "", 0x80, 0x0003, 1, 1, 0, 1, 0, .ro, .u64, .any, .num 0, false, false⟩,
  ⟨"SEC.SVN_MIN", "", 0x80, 0x0004, 1, 1, 0, 1, 0, .ro, .u8, .any, .none, false, false⟩,
  ⟨"SEC.FW.CUR", "", 0x80, 0x0005, 1, 1, 0, 1, 0, .ro, .u8, .any, .none, false, false⟩,
  ⟨"SEC.FW.VER0", "", 0x80, 0x0006, 1, 1, 0, 1, 0, .ro, .u32, .any, .num 0, false, false⟩,
  ⟨"SEC.FW.VER1", "", 0x80, 0x0007, 1, 1, 0, 1, 0, .ro, .u32, .any, .num 0, false, false⟩,
  ⟨"SEC.SESSION.IDLE", "", 0x80, 0x0010, 1, 1, 0, 1, 0, .rws, .u16, .ints 10 3600, .num 600, false, true⟩,
  ⟨"SEC.SESSION.COUNT", "", 0x80, 0x0011, 1, 1, 0, 1, 0, .ro, .u8, .any, .num 0, false, false⟩,
  ⟨"SEC.SESSION.FAIL", "", 0x80, 0x0012, 1, 1, 0, 1, 0, .ro, .u32, .any, .num 0, true, false⟩,
  ⟨"SEC.LINEKEY.TX", "", 0x80, 0x0020, 1, 1, 0, 1, 0, .rws, .u8, .ints 0 3, .num 0, false, true⟩,
  ⟨"SEC.LINEKEY.PRESENT", "", 0x80, 0x0021, 1, 1, 0, 1, 0, .ro, .u8, .any, .num 0, false, false⟩,
  ⟨"SEC.BUNDLE.LAST", "", 0x80, 0x0030, 1, 1, 0, 1, 0, .ro, .u32, .any, .num 0, false, false⟩,
  ⟨"SEC.DEBUG", "", 0x80, 0x0040, 1, 1, 0, 1, 0, .ro, .enum, .any, .num 0, false, false⟩]

/-- Rows of class 0x0A. -/
def rows0Aa : List PRow := [
  ⟨"AGE.AVS.ENABLE", "", 0x0A, 0x0001, 1, 1, 0, 1, 0, .rws, .bool, .ints 0 1, .num 1, false, true⟩,
  ⟨"AGE.AVS.SLACK_TGT", "", 0x0A, 0x0002, 1, 1, 0, 1, 0, .rws, .u16, .ints 30 200, .num 60, false, true⟩,
  ⟨"AGE.AVS.VMAX", "", 0x0A, 0x0003, 1, 1, 0, 1, 0, .rws, .u16, .ints 800 900, .num 900, false, true⟩,
  ⟨"AGE.DROOP_MAX", "", 0x0A, 0x0004, 1, 1, 0, 1, 0, .rws, .u16, .ints 10 100, .num 40, false, true⟩,
  ⟨"AGE.EYE_MIN", "", 0x0A, 0x0005, 1, 1, 0, 1, 0, .rws, .u8, .ints 25 90, .num 40, false, true⟩,
  ⟨"AGE.DERATE", "", 0x0A, 0x0010, 1, 1, 0, 1, 0, .rws, .bool, .ints 0 1, .num 1, false, true⟩,
  ⟨"AGE.DERATE_T0", "", 0x0A, 0x0011, 1, 1, 0, 1, 0, .rws, .s16, .ints 50 140, .num 90, false, true⟩,
  ⟨"AGE.DERATE_T1", "", 0x0A, 0x0012, 1, 1, 0, 1, 0, .rws, .s16, .dep, .num 115, false, true⟩,
  ⟨"AGE.DERATE_MIN", "", 0x0A, 0x0013, 1, 1, 0, 1, 0, .rws, .u8, .ints 10 100, .num 50, false, true⟩,
  ⟨"AGE.BRIDGE_LIFE", "", 0x0A, 0x0014, 1, 1, 0, 1, 0, .rws, .u32, .ints 1000 500000, .num 87600, false, true⟩,
  ⟨"AGE.SL_SCALE", "", 0x0A, 0x0015, 1, 1, 0, 1, 0, .rws, .bool, .ints 0 1, .num 1, false, true⟩,
  ⟨"AGE.RON_MAX", "", 0x0A, 0x0016, 1, 1, 0, 1, 0, .rws, .u16, .ints 100 5000, .num 1000, false, true⟩,
  ⟨"AGE.TTL_WARN", "", 0x0A, 0x0020, 1, 1, 0, 1, 0, .rws, .u32, .ints 100 100000, .num 2000, false, true⟩,
  ⟨"AGE.XTAL_WARN", "", 0x0A, 0x0021, 1, 1, 0, 1, 0, .rws, .u16, .ints 10 450, .num 100, false, true⟩,
  ⟨"AGE.TJ_WARN", "", 0x0A, 0x0022, 1, 1, 0, 1, 0, .rws, .s16, .ints 85 124, .num 115, false, true⟩,
  ⟨"AGE.FW.WDOG_T", "", 0x0A, 0x0023, 1, 1, 0, 1, 0, .rws, .u16, .ints 20 1000, .num 100, true, true⟩,
  ⟨"AGE.VDD_CORE", "", 0x0A, 0x0040, 1, 1, 0, 1, 0, .ro, .u16, .any, .none, false, false⟩,
  ⟨"AGE.SLACK", "", 0x0A, 0x0041, 1, 1, 0, 1, 0, .ro, .s16, .any, .none, false, false⟩,
  ⟨"AGE.LIFE", "", 0x0A, 0x0042, 1, 1, 0, 1, 0, .ro, .f32, .any, .num 0, false, false⟩,
  ⟨"AGE.TJ", "", 0x0A, 0x0043, 1, 1, 0, 1, 0, .ro, .s16, .any, .none, false, false⟩]

/-- Rows of class 0x0A. -/
def rows0Ab : List PRow := [
  ⟨"AGE.ETEST.CYCLES", "", 0x0A, 0x0044, 1, 1, 0, 1, 0, .ro, .u32, .any, .num 0, true, false⟩,
  ⟨"AGE.ISOLATED", "", 0x0A, 0x0045, 1, 1, 0, 1, 0, .ro, .u8, .any, .num 0, false, false⟩,
  ⟨"AGE.FW_RESTARTS", "", 0x0A, 0x0046, 1, 1, 0, 1, 0, .ro, .u32, .any, .num 0, false, false⟩]

/-- The rows of a class (R56); an undefined class has none. -/
def classRows (cls : Nat) : List PRow :=
  match cls with
  | 0x01 => rows01
  | 0x02 => rows02
  | 0x20 => rows20
  | 0x1D => rows1D
  | 0x21 => rows21
  | 0x11 => rows11a ++ rows11b ++ rows11c
  | 0x61 => rows61
  | 0x1C => rows1Ca ++ rows1Cb
  | 0x14 => rows14
  | 0x13 => rows13
  | 0x12 => rows12
  | 0x15 => rows15
  | 0x16 => rows16
  | 0x17 => rows17
  | 0x10 => rows10
  | 0x18 => rows18a ++ rows18b
  | 0x19 => rows19
  | 0x1A => rows1A
  | 0x1B => rows1Ba ++ rows1Bb
  | 0x1E => rows1E
  | 0x40 => rows40
  | 0x41 => rows41a ++ rows41b
  | 0x60 => rows60
  | 0x50 => rows50a ++ rows50b
  | 0x30 => rows30a ++ rows30b
  | 0x31 => rows31a ++ rows31b
  | 0x32 => rows32
  | 0xB0 => rowsB0
  | 0x70 => rows70a ++ rows70b
  | 0x1F => rows1F
  | 0xF0 => rowsF0
  | 0x08 => rows08
  | 0x09 => rows09
  | 0x80 => rows80
  | 0x0A => rows0Aa ++ rows0Ab
  | _ => []

/-- The defined classes, in the order of R56. -/
def classList : List Nat :=
  [0x01, 0x02, 0x08, 0x09, 0x0A, 0x10, 0x11, 0x12, 0x13, 0x14, 0x15, 0x16, 0x17, 0x18, 0x19, 0x1A, 0x1B, 0x1C, 0x1D, 0x1E, 0x1F, 0x20, 0x21, 0x30, 0x31, 0x32, 0x40, 0x41, 0x50, 0x60, 0x61, 0x70, 0x80, 0xB0, 0xF0]

end Sys2Proof.Machine
end

