-- ==== Sys2Proof/Machine/Parts/Fault.lean ====
section
/-! DEFINITION. The state of fault handling (chapter 17): faults in force, the log, the first-fault
latches, and each axis's reaction record. -/

namespace Sys2Proof.Machine

/-- A fault in force (R440): the pair of code and INSTANCE, and the level on each target axis. -/
structure InForce where
  code : Nat
  inst : Nat
  dflt : Nat
  level : Nat
  targets : List (Nat × Nat)
  /-- Device time of the raise, after which the reaction applies (R436). -/
  tm : Nat
  /-- The raising rule set the level (R434). -/
  fixed : Bool := false
  /-- Entry number of the pair's latest log entry, when one was written. -/
  seq : Option Nat := none
  /-- FLOG.CLEAR accepted it; it leaves force at the next tick (R445). -/
  clearing : Bool := false
  /-- The clear came through the twin image (R446). -/
  copied : Bool := false
deriving DecidableEq, Repr

/-- The KIND of a log entry (R444). -/
inductive LogKind
  | raised | cleared | refused | reset
deriving DecidableEq, Repr

/-- A fault log entry (R444). -/
structure LogEntry where
  seq : Nat
  nt : Nat
  fc : Nat
  code : Nat
  inst : Nat
  applied : Nat
  dflt : Nat
  override : Bool
  first : Bool
  kind : LogKind
  merged : Bool := false
  preempted : Bool := false
  service : Bool := false
  twinCopy : Bool := false
  count : Nat := 1
  data : Nat := 0
deriving DecidableEq, Repr

/-- A first-fault latch (R443); code 0 is empty. -/
structure Latch where
  fc : Nat := 0
  preReset : Bool := false
  level : Nat := 0
  inst : Nat := 0
  code : Nat := 0
deriving DecidableEq, Repr

/-- The fault unit (R440 to R445). -/
structure FaultSt where
  inForce : List InForce := []
  log : List LogEntry := []
  nextSeq : Nat := 0
  lost : Nat := 0
  /-- Class latches FLOG.FIRST0 to FIRST12 (R448). -/
  classLatch : Vector Latch 13 := Vector.replicate 13 {}
deriving DecidableEq, Repr

/-- The state of an axis (R62): the codes of STATUS [3:0]. -/
inductive AxState
  | off | ready | catching | starting | run | stop | hold | fault | sto
deriving DecidableEq, Repr

/-- The reaction record of an axis (R435, R440, R442). -/
structure ReaSt where
  /-- Level in force, 7 none (`AX.REA.ACTIVE`). -/
  level : Nat := 7
  /-- Code that set the level (`AX.REA.CAUSE`). -/
  cause : Nat := 0
  /-- Device time of the raise that set the level (R436). -/
  tm : Nat := 0
  /-- The level that the engine carries out, 7 none. -/
  applied : Nat := 7
  /-- The state held when the first reaction of L2 or higher began (R442). -/
  before : AxState := .off
  /-- The stop has ended (R435). -/
  stopDone : Bool := false
  /-- Device time at which the stop in progress began (R438), 0 none. -/
  stopFrom : Nat := 0
  /-- Device time since which the L3 end condition holds (R435). -/
  quietFrom : Option Nat := none
  /-- A sensorless coast ended the motion (R442). -/
  coasted : Bool := false
  /-- The stop in progress is that of a reaction whose faults have been cleared (R442). -/
  cleared : Bool := false
  first : Latch := {}
deriving DecidableEq, Repr

end Sys2Proof.Machine
end

