-- ==== Sys2Proof/Machine/Parts/Link.lean ====
section
/-! DEFINITION. The state of the Dunar links (chapter 04), of the switching schedules, dead times and
trips (chapter 05), and the upstream records (R86, R87). -/

namespace Sys2Proof.Machine

/-- Link states of R99, in the order of `LNK.STATE`. -/
inductive LnkState
  | down | train | up | doze | retrain
deriving DecidableEq, Repr

/-- The capability record of a stage (R100). -/
structure CapRec where
  serial : Nat := 0
  model : Nat := 0
  proto : Nat := 1
  ports : Nat := 0
  slots : Nat := 0
  sensors : Nat := 0
  /-- mA at code 2,047. -/
  iFs : Nat := 0
  /-- 10 mV at code 4,095. -/
  vFs : Nat := 0
  dtMin : Nat := 20
  io : Nat := 0
deriving DecidableEq, Repr

/-- A STAT record (R87). -/
structure StatRec where
  slots : Nat := 0
  port : Nat := 0
  epoch : Nat := 0
  leaseLeft : Nat := 0
  flags : Nat := 0
  vbus : Nat := 0
  temp : Vector Int 4 := Vector.replicate 4 0
  turn : Nat := 0
deriving DecidableEq, Repr

/-- An upstream record other than STAT and SRV (R86); offsets are ns from the actuation instant. -/
inductive UpRec
  | cur (idx : Nat) (clip skipped : Bool) (val : Int)
  | volt (idx : Nat) (val : Nat)
  | zc (rising : Bool) (ofs : Nat)
  | dly (hb : Nat) (vals : List Nat)
  | hall (state ofs : Nat)
  | inc (count faults ofs : Nat) (dir : Bool)
  | sincos (sine cosine : Int)
  | serial (status data nbits : Nat)
  | zone (level : Bool) (ofs : Nat)
  | tripr (cause ofs : Nat)
deriving DecidableEq, Repr

/-- A record held for the engine, with its device time stamp and the device time of its arrival (R35). -/
structure Stamped where
  stamp : Nat
  rcd : UpRec
  arr : Nat := 0
deriving DecidableEq, Repr

/-- The device's view of one slot's SLOT_CFG (R84, R544). -/
structure SlotCfgSt where
  /-- The configuration last sent. -/
  content : List Byte := []
  /-- Sendings not yet answered. -/
  sent : Nat := 0
  /-- Frame tick of the last sending. -/
  sentTick : Nat := 0
  /-- A sending is due in the next service window. -/
  due : Bool := false
  /-- Answered with status OK since the last change or UP. -/
  ok : Bool := false
  /-- Refused, or unanswered after the third sending: the axis cannot leave OFF. -/
  refused : Bool := false
  /-- Fault 0x2003 was raised for it. -/
  raised : Bool := false
deriving DecidableEq, Repr

/-- A DEADTIME message in flight (R119). -/
structure DtMsg where
  fc : Nat
  sentTick : Nat
  vals : List Nat
  answered : Bool := false
  /-- The answer did not come in time: the larger of the old and the new DTs hold until an answer comes. -/
  stale : Bool := false
  /-- It is to be sent again. -/
  due : Bool := false
deriving DecidableEq, Repr

/-- An output change waiting for a link's OUTPUT field (R82, R295). -/
structure OutChange where
  slot : Nat
  level : Bool
  /-- Instant in 4 ns from the actuation instant. -/
  inst4 : Nat
  /-- Frame whose actuation it refers to. -/
  fc : Nat
  /-- The return change of a pulse. -/
  ret : Bool := false
  /-- The width of the pulse that this change begins, ns; 0 for a level. -/
  width : Nat := 0
deriving DecidableEq, Repr

/-- One link (R66 to R106, R119, R544). -/
structure LinkSt where
  state : LnkState := .down
  /-- The last 16 accepted round trips, latest first, in 0.25 ns (R75). -/
  rts : List Int := []
  discards : Nat := 0
  /-- Departure time of the DREQ not yet answered. -/
  t1 : Option Nat := none
  cap : Option CapRec := none
  /-- The stage's DT_MIN as an input of derivations: of the record received before the latest commit (R57). -/
  dtMinIn : Nat := 20
  /-- A capability record arrived since the link left DOWN or UP. -/
  capNew : Bool := false
  serial : Nat := 0
  slotCfg : Vector SlotCfgSt 4 := Vector.replicate 4 {}
  dtMsg : Option DtMsg := none
  dtLastTick : Nat := 0
  dtUnanswered : Nat := 0
  /-- A DEADTIME has been answered since the last UP (R119). -/
  dtAcked : Bool := false
  /-- The DTs last acknowledged by the stage. -/
  dtStage : List Nat := []
  stat : Option StatRec := none
  /-- Start of the period of the latest STAT: the tick of its frame. -/
  statTick : Nat := 0
  /-- Consecutive STATs that show the heartbeat at the own port while the group is in STO (R407). -/
  hbRun : Nat := 0
  /-- Tick of the first frame with the present epoch on this link since UP, when one was sent (R396). -/
  firstTick : Option Nat := none
  /-- Device times of discarded packets within the last second, latest first (R106). -/
  crcAt : List Nat := []
  crcErr : Nat := 0
  lateAt : List Nat := []
  lateRec : Nat := 0
  upSyms : Nat := 0
  upTick : Nat := 0
  upMax : Nat := 0
  drop : Nat := 0
  dropRun : Nat := 0
  /-- Slots the P-channel or L-channel kills on this link (R89, R406). -/
  killSaf : BitVec 4 := 0
  /-- KCLR slots to carry in the next schedule (R91). -/
  kclr : BitVec 4 := 0
  outQ : List OutChange := []
  /-- DOZE sent and not yet answered; answered. -/
  dozeSent : Bool := false
  dozeAns : Bool := false
  trafficOff : Bool := false
  beaconMs : Nat := 10
  beaconAt : Nat := 0
  beaconLost : Bool := false
  /-- Slots whose SWAP or INVERT was committed since the last schedule (R122). -/
  overrideNew : BitVec 4 := 0
  /-- The last sequence on the downstream pair, the departure of its first symbol, and the running disparity before it
  (true: positive; R69). -/
  tx : List Sym := []
  txFrom : Nat := 0
  rd : Bool := false
  /-- Actuation instant of the last SCHEDULE or REPEAT frame (R95). -/
  sentAct : Nat := 0
  /-- Departure of the last kill sequence (R89). -/
  killAt : Nat := 0
  /-- Frames of the last SYNC and of the last DREQ (R77). -/
  syncTick : Option Nat := none
  dreqTick : Option Nat := none
  /-- Equaliser in use and eye margin of the receiver (R502). -/
  eq : Nat := 0
  eye : Nat := 0
  /-- The latest measurement of the eye (R498). -/
  eyeAt : Option Nat := none
  /-- Since when the eye has been below EYE_MIN; a setting on trial: the one before and its eye; settings tried. -/
  eyeLow : Option Nat := none
  eqTrial : Option (Nat × Nat) := none
  eqTried : List Nat := []
deriving DecidableEq, Repr

/-- A half-bridge command (R79, R80): mode and edge words. -/
structure HbCmd where
  mode : Nat := 0
  tOn : Nat := 0
  tOff : Nat := 0
deriving DecidableEq, Repr

/-- What the engine leaves for a slot's block (R79). -/
structure SlotCmd where
  /-- SLOTMAP kind: 0 none, 1 six-step, 2 stepper. -/
  kind : Nat := 0
  hb : Vector HbCmd 4 := Vector.replicate 4 {}
  cs : Vector Nat 4 := Vector.replicate 4 0
  vs : Vector Nat 2 := Vector.replicate 2 0
  float : Nat := 3
  zcEn : Bool := false
  zcBlank : Bool := false
deriving DecidableEq, Repr

/-- A physical half-bridge (R115 to R120). -/
structure HbSt where
  carry : Int := 0
  lastMode : Nat := 0
  /-- The adaptive dead time, which starts at the default of `AX.PWM.DT_MAX` (R117, R511). -/
  dt : Nat := 1000
  /-- Hard-switched OFF edges and the longest of their delays in the running 16 frames (R118). -/
  hardN : Nat := 0
  hardMax : Nat := 0
  overRun : Nat := 0
  /-- The last 8 delays of ON and OFF edges by current polarity, latest first (R120). -/
  onPos : List Nat := []
  onNeg : List Nat := []
  offPos : List Nat := []
  offNeg : List Nat := []
deriving DecidableEq, Repr

/-- The PWM state of an axis (R108 to R123, R127). -/
structure PwmSt where
  hb : Vector HbSt 4 := Vector.replicate 4 {}
  shortCnt : Nat := 0
  carryLost : Nat := 0
  /-- Sector, variant and policy of the previous frame (R116). -/
  lastSector : Nat := 7
  lastVariant : Nat := 0
  lastPolicy : Nat := 0
  /-- The axis was in RUN, START or STOP in the previous frame (R116). -/
  inRun : Bool := false
  /-- Single carry of BRAKE (R111). -/
  brakeCarry : Int := 0
  cmd : SlotCmd := {}
  /-- The physical commands in force from `liveAt` on, those of the frame before, and of the one before that (R25,
  R125, R139). -/
  live : SlotCmd := {}
  livePrev : SlotCmd := {}
  livePrev2 : SlotCmd := {}
  liveAt : Nat := 0
  adaptTick : Nat := 0
  /-- Fault 0x1020 for a stage DT_MIN above `AX.PWM.DT_MAX` was raised since the link went UP (R117). -/
  dtLimited : Bool := false
  /-- The stage-trip latch (R127 to R129). -/
  trip : Bool := false
  tripCause : Nat := 0
  tripStamp : Nat := 0
  tripRefused : Bool := false
  /-- A STAT of the link has arrived since the TRIP sequence. -/
  tripStat : Bool := false
  /-- The latest STAT shows the slot's trip bit. -/
  tripBit : Bool := false
  /-- End of the last period whose STAT showed the bit. -/
  tripBitEnd : Nat := 0
  /-- `TRP.CLEAR` accepted: the latch goes at the next tick (R129). -/
  clearReq : Bool := false
deriving DecidableEq, Repr

/-- A trip pin (R124 to R130). -/
structure PinSt where
  active : Bool := false
  /-- The activation instant of the present activation. -/
  activeFrom : Nat := 0
  inactiveFrom : Nat := 0
  latched : Bool := false
  refused : Bool := false
  late : Bool := false
  stamp : Nat := 0
  count : Nat := 0
  blanked : Nat := 0
  /-- An activation inside a blanking window waits for its end: the activation instant. -/
  waiting : Option Nat := none
  ignoredAt : List Nat := []
  /-- `TRP.CLEAR` accepted: the latch goes at the next tick (R129). -/
  clearReq : Bool := false
deriving DecidableEq, Repr

end Sys2Proof.Machine
end

