-- ==== Sys2Proof/Machine/Parts/Axis.lean ====
section
/-! DEFINITION. The state of an axis: commutation (chapter 06), feedback (07), engine stages (08),
trajectory, homing and gearing (09) and stepper drive (10).  Positions are integers in units of
2^-32 cts; times are device time in ns; speeds, currents and voltages are exact rationals. -/

namespace Sys2Proof.Machine

/-- `AX.COM.PHASE` (R158), in code order. -/
inductive ComPhase
  | none | listen | brake | ipd | align | ramp | pause | hall | sensorless | coastStop
deriving DecidableEq, Repr

/-- A crossing seen in LISTEN (R147): phase 0 U, 1 V, 2 W. -/
structure Crossing where
  ph : Nat
  rising : Bool
  tm : Nat
deriving DecidableEq, Repr

/-- A running HALL_LEARN call (R136). -/
structure LearnSt where
  n : Nat := 0
  stepFrom : Nat := 0
  seen : List Nat := []
deriving DecidableEq, Repr

/-- Commutation state (chapter 06). -/
structure ComSt where
  phase : ComPhase := .none
  sector : Nat := 7
  /-- The requested direction is negative (R133). -/
  neg : Bool := false
  /-- Latest Hall state reported, the last valid one, and whether one came since the start request. -/
  hallState : Nat := 0
  hallNow : Bool := false
  hallValid : Option Nat := none
  hallSince : Bool := false
  /-- The last two transition intervals (ns, latest first), the last transition and its direction. -/
  hallIv : List Nat := []
  hallAt : Option Nat := none
  hallDir : Int := 0
  hallFwd : Nat := 0
  /-- Transitions in one direction since the Hall speed became 0 (R135). -/
  hallSince0 : Nat := 0
  hallZero : Bool := true
  /-- The last accepted crossing, the last two intervals and the direction (R140, R547). -/
  zcAt : Option Nat := none
  zcIv : List Nat := []
  zcDir : Int := 0
  zcRun : Nat := 0
  zcValid : Bool := false
  /-- A crossing was accepted in the present sector; and in the present frame, inside its window. -/
  zcGot : Bool := false
  zcFrame : Bool := false
  missRun : Nat := 0
  offRun : Nat := 0
  /-- Actuation instant of the latest change of sector, and the sector before it. -/
  sectorAt : Nat := 0
  prevSector : Nat := 7
  /-- The acceptance window of the sector before is still to be judged, and whether it had a crossing. -/
  prevOpen : Bool := false
  prevGot : Bool := false
  /-- The present sector's window has closed. -/
  closed : Bool := false
  /-- The predicted crossing of the present sector (R140), and of the sector before. -/
  zcPred : Option Nat := none
  prevPred : Option Nat := none
  listenFrom : Nat := 0
  heard : List Crossing := []
  brakeFrom : Nat := 0
  brakeTotal : Nat := 0
  ipdFrame : Nat := 0
  /-- Actuation instant of the first test pulse. -/
  ipdAt : Nat := 0
  ipdI : Vector Rat 6 := Vector.replicate 6 0
  startTry : Nat := 0
  /-- The retry entry in force: current %, ramp ms, end speed % (read when the try enters IPD). -/
  entryI : Nat := 0
  entryRamp : Nat := 0
  entryFend : Nat := 0
  alignFrom : Nat := 0
  rampFrom : Nat := 0
  /-- The forced angle in °e (R151). -/
  theta : Rat := 0
  rampZc : Nat := 0
  backRun : Nat := 0
  /-- A backward crossing came after an accepted forward one (R152). -/
  backAfter : Bool := false
  pauseFrom : Nat := 0
  coastFrom : Nat := 0
  /-- Device times of re-catches in the sliding second (R153). -/
  recatchAt : List Nat := []
  hallAgree : Nat := 0
  missed : Nat := 0
  blindRun : Nat := 0
  zcMiss : Nat := 0
  zcOff : Nat := 0
  recatch : Nat := 0
  catchSpeed : Rat := 0
  ipdResult : Nat := 0
  keRatio : Rat := 1
  keSum : Rat := 0
  keN : Nat := 0
  keFrom : Nat := 0
  learn : Option LearnSt := none
  /-- Frames in which |i| exceeded I_LIMIT with u at 0 (R205). -/
  overI : Nat := 0
deriving DecidableEq, Repr

/-- The motion of an axis in a frame (R277, R278): latch instant, displacement in 2^-32 cts, speed in cts/s, whether it is
an estimate, and whether the sample is valid. -/
structure AxMove where
  tm : Nat := 0
  d : Int := 0
  v : Rat := 0
  est : Bool := false
  ok : Bool := false
deriving DecidableEq, Repr

/-- Feedback state (chapter 07). -/
structure FbkSt where
  seeded : Bool := false
  /-- The extended reading, in 2^-32 cts. -/
  ext : Int := 0
  /-- The last raw sample: Hall sector, count, or serial position. -/
  raw : Int := 0
  hallBad : Nat := 0
  /-- Edge faults per frame over the last 10 ms, latest first (R166). -/
  tally : List Nat := []
  edgeCnt : Nat := 0
  stageFaults : Nat := 0
  /-- Line encoder port edge faults already taken. -/
  portFaults : Nat := 0
  phi : Rat := 0
  freq : Rat := 0
  periods : Int := 0
  /-- s² + c² of the last sin/cos sample (R167). -/
  amp2 : Nat := 0
  lowRun : Nat := 0
  highRun : Nat := 0
  serFails : Nat := 0
  serErr : Nat := 0
  serFirst : Bool := true
  pos : Int := 0
  posPrev : Int := 0
  /-- The refined position at the two latest latch instants (R277). -/
  fine : Int := 0
  finePrev : Int := 0
  /-- The latch instant of the position. -/
  posAt : Nat := 0
  posAtPrev : Nat := 0
  /-- The motion of the two latest frames, as zones take it (R277). -/
  move : AxMove := {}
  movePrev : AxMove := {}
  turns : Int := 0
  wraps : Int := 0
  /-- Speed of the last frame in cts/s; the last speed R179 formed. -/
  vel : Rat := 0
  vLast : Rat := 0
  te : Nat := 0
  ref : Option (Int × Nat) := none
  dir : Int := 0
  reversal : Option (Int × Nat) := none
  fresh : Nat := 0
  usedPos : Int := 0
  usedAt : Nat := 0
  cause : Nat := 0
  serWarn : Bool := false
  serFail : Bool := false
  wire : Bool := false
  ampHigh : Bool := false
  ampLow : Bool := false
  frozen : Bool := false
  estimated : Bool := false
  unref : Bool := true
  speedValid : Bool := false
  /-- SPEED_VALID but for LOST (R181, R182, R546). -/
  edgeOk : Bool := false
  valid : Bool := false
  noData : Nat := 0
  /-- Start of the running 20 ms with motion shown, and the position then (R184). -/
  frozenFrom : Option (Nat × Int) := none
  /-- Consecutive frames of valid samples (R187). -/
  goodRun : Nat := 0
  /-- Estimated speed in cts/s while lost (R185). -/
  vEst : Rat := 0
  /-- `AX.FBK.SET_POS` waits for the next tick (R190). -/
  setPos : Option Int := none
  /-- It applies at the latch instant of the present tick. -/
  setPosDue : Option Int := none
deriving DecidableEq, Repr

/-- The seven stages of an axis (R196): exponents and mantissas.  An exponent resets to its floor (R200), here that of
the default parameters. -/
structure StageSt where
  posE : Int := 15
  posEp : Int := 0
  posYp : Int := 0
  velE : Int := 7
  velEv : Int := 0
  velXv : Int := 0
  velYv : Int := 0
  curE : Int := 7
  /-- e_i, x_i, u and i_pred of phase A (the only set on a six-step axis) and of phase B. -/
  ei : Vector Int 2 := Vector.replicate 2 0
  xi : Vector Int 2 := Vector.replicate 2 0
  u : Vector Int 2 := Vector.replicate 2 0
  ip : Vector Int 2 := Vector.replicate 2 0
  ffE : Int := -32
  ia : Int := 0
  ifr : Int := 0
  iff : Int := 0
  rptE : Int := -32
  /-- The 256 bins, the mean M and the output r. -/
  bins : List Int := List.replicate 256 0
  mean : Int := 0
  r : Int := 0
  fltE : Vector Int 2 := Vector.replicate 2 (-32)
  s1 : Vector Int 2 := Vector.replicate 2 0
  s2 : Vector Int 2 := Vector.replicate 2 0
  fo : Vector Int 2 := Vector.replicate 2 0
  /-- The input of each filter in the last frame (R204). -/
  fx : Vector Rat 2 := Vector.replicate 2 0
deriving DecidableEq, Repr

/-- Injection states of R218, in the code order of `AX.INJ.STAT` [1:0]. -/
inductive InjState
  | idle | running | done | aborted
deriving DecidableEq, Repr

/-- Engine state of an axis outside its stages. -/
structure EngSt where
  st : StageSt := {}
  /-- Sticky SAT bits POS, VEL, CUR, FF, RPT, FLT1, FLT2 (R200), and those of the last frame. -/
  sticky : BitVec 7 := 0
  sat : BitVec 7 := 0
  /-- Consecutive frames in which each stage saturated (R199). -/
  satRun : Vector Nat 7 := Vector.replicate 7 0
  satClr : Bool := false
  posSp : Int := 0
  /-- v_ff of the present frame, cts/s. -/
  vFf : Rat := 0
  ep : Int := 0
  vCmd : Rat := 0
  vAct : Rat := 0
  iSp : Rat := 0
  iAct : Rat := 0
  iActB : Rat := 0
  /-- The winding current of the driven pair of a six-step axis, A (R138). -/
  iWind : Rat := 0
  /-- u and d of phase A and B. -/
  d : Rat := 0
  dB : Rat := 0
  vbusC : Rat := 0
  vbusLow : Nat := 0
  /-- Device time since which |e_p| exceeds FE_MAX (R202). -/
  feFrom : Option Nat := none
  rptPos : Int := 0
  /-- The frame of the last RPT update, and the bins, M and exponent before it (R36). -/
  rptWas : Option (Nat × List Int × Int × Int) := none
  learning : Bool := false
  overspeed : Bool := false
  clamped : Bool := false
  rptClr : Bool := false
  inj : InjState := .idle
  injCause : Nat := 0
  injPoint : Nat := 0
  injShape : Nat := 0
  injAmp : Rat := 0
  injTime : Nat := 0
  injF0 : Rat := 0
  injF1 : Rat := 0
  injN : Nat := 11
  injHold : Nat := 1
  injFrames : Nat := 0
  injPhase : Rat := 0
  prbs : Nat := 0
  injS : Rat := 0
  /-- A voltage that the current loop is to start from, per phase (R148, R268). -/
  preset : Vector (Option Rat) 2 := Vector.replicate 2 none
  /-- The next frame drives COAST (R153, R205). -/
  coastNext : Bool := false
  /-- The set current of the next frame of the loops starts from 0 (R148). -/
  fromZero : Bool := false
  /-- The VEL stage ran in the last frame. -/
  velOn : Bool := false
  /-- Device time at which `AX.INJ.START` was accepted (R218). -/
  injAccept : Nat := 0
  /-- DC-link average current (R138), A. -/
  iDc : Rat := 0
deriving DecidableEq, Repr

/-- A queue entry (R230), with its defaults taken, in cts and 2^-32 cts; the end point once fixed (R232). -/
structure QEntry where
  id : Nat := 0
  typ : Nat := 0
  blend : Bool := false
  /-- End position or distance in 2^-32 cts; dwell time in µs. -/
  target : Int := 0
  v : Rat := 0
  acc : Rat := 1
  dec : Rat := 1
  jerk : Rat := 0
  tgt : Option Int := none
deriving DecidableEq, Repr

/-- A piece of a planned profile of constant jerk (R229): times in s, cts, cts/s, cts/s², cts/s³. -/
structure Seg where
  dur : Rat
  v0 : Rat
  a0 : Rat
  j : Rat
deriving DecidableEq, Repr

/-- `AX.PRF.STATE` (R253), in code order. -/
inductive PrfState
  | idle | moving | pausing | paused | homing | geared | cyclic
deriving DecidableEq, Repr

/-- A network cyclic set-point (R250): position and velocity in 32.32, current in mA, and its arrival. -/
structure NetSp where
  fc : Nat
  pos : Int
  vel : Int
  cur : Int := 0
  tm : Nat := 0
deriving DecidableEq, Repr

/-- The two newest set-points of a stream, and the last extrapolated one (R250, R252). -/
structure Ipo where
  a : Option NetSp := none
  b : Option NetSp := none
  last : Option NetSp := none
  /-- Frames extrapolated in a row. -/
  run : Nat := 0
deriving DecidableEq, Repr

/-- Set-points of a frame: position in 2^-32 cts, speeds in cts/s, acceleration in cts/s², currents in A. -/
structure SetP where
  /-- Formed by the trajectory unit, whatever the cyclic set-points say. -/
  own : Bool := false
  pos : Int := 0
  v : Rat := 0
  a : Rat := 0
  velSp : Rat := 0
  curSp : Rat := 0
  curFf : Rat := 0
deriving DecidableEq, Repr

/-- Trajectory state (chapter 09). -/
structure PrfSt where
  mode : Nat := 0
  queue : List QEntry := []
  /-- The head of the queue is in force. -/
  running : Bool := false
  nextId : Nat := 0
  entryId : Nat := 0
  lastEnd : Option Int := none
  state : PrfState := .idle
  /-- The plan in force, the device time it starts from and its start position (2^-32 cts). -/
  plan : List Seg := []
  planAt : Rat := 0
  planPos : Int := 0
  /-- The speed at the start of the plan, cts/s, and the joint speed that it was planned with (R233). -/
  planV : Rat := 0
  planVj : Rat := 0
  /-- Time in s from the start of the plan at which its last deceleration begins. -/
  planDec : Rat := 0
  /-- The plan ends at speed 0 although its entry has BLEND set: the next was not in the queue (R234). -/
  planStop : Bool := false
  /-- An entry with BLEND has ended at speed 0 because none followed: the next one is late (R234). -/
  lateWait : Bool := false
  /-- The entry in force was interrupted and its plan is gone: it is planned again when motion resumes (R237, R239). -/
  kept : Bool := false
  /-- The plan brings the set-point to rest outside an entry. -/
  runOut : Bool := false
  /-- Set-points of the present frame and of the next. -/
  now : SetP := {}
  next : SetP := {}
  /-- Ticks of the frames in which the requests were read and the set-points of the next frame formed. -/
  reqTick : Option Nat := none
  spTick : Option Nat := none
  dwellUntil : Option Nat := none
  dwellLeft : Nat := 0
  /-- The row of R237 in force, 0 none, and whether only RUN, HALT or PAUSE caused it. -/
  stopRow : Nat := 0
  stopSoft : Bool := false
  /-- Motion resumes in this frame (R239). -/
  resumed : Bool := false
  /-- Requests not yet read. -/
  pauseReq : Bool := false
  resumeReq : Bool := false
  flushReq : Bool := false
  /-- A fault of L3 or higher has arrived in this frame (R240). -/
  hardFault : Bool := false
  /-- The axis has reached OFF with ENABLE clear (R240). -/
  offFlush : Bool := false
  seqEcho : Nat := 0
  queueFull : Bool := false
  reached : Bool := false
  inWinFrom : Option Nat := none
  lateJoint : Nat := 0
  ipo : Ipo := {}
  spIn : List NetSp := []
  extrap : Nat := 0
  disc : Nat := 0
  /-- A mode change away from 4 waits for the stop (R240). -/
  modeWait : Option Nat := none
  /-- The current ramp of a stop in mode 3: start time and value (R435). -/
  iRamp : Option (Nat × Rat) := none
  /-- UNREFERENCED as the last trajectory run saw it (R240). -/
  unrefSeen : Bool := true
deriving DecidableEq, Repr

/-- Homing state (R241 to R244). -/
structure HomSt where
  /-- 0 none, 1 SEEK, 2 BACK, 3 INDEX, 4 PUSH, 5 FINISH. -/
  phase : Nat := 0
  /-- `AX.HOM.START` accepted; the sequence begins in the next trajectory run. -/
  startReq : Bool := false
  method : Nat := 0
  done : Bool := false
  failed : Bool := false
  cause : Nat := 0
  refStamp : Nat := 0
  startPos : Int := 0
  indexFrom : Int := 0
  pushFrom : Nat := 0
  stallFrom : Option Nat := none
  zPort : Option Nat := none
  /-- The reference position, once known: applied in the next tick (R243). -/
  refPos : Option Int := none
  /-- Stamp of a reference event whose enclosing latch instants are awaited. -/
  refWait : Option Nat := none
  /-- The reference has been applied; FINISH ends at speed 0. -/
  refDone : Bool := false
  abortReq : Bool := false
  /-- PUSH has ended in a stall: the set-point takes pos_act. -/
  snap : Bool := false
deriving DecidableEq, Repr

/-- Gear state (R245 to R249). -/
structure GeaSt where
  /-- 0 off, 1 waiting, 2 clutching, 3 locked. -/
  stat : Nat := 0
  disengaging : Bool := false
  /-- The clutch-out waits for `AX.GEA.DIS_POS`. -/
  disWait : Bool := false
  s0 : Int := 0
  m0 : Int := 0
  m1 : Int := 0
  mval : Int := 0
  /-- The master stood below the engage or disengage point at the call. -/
  below : Bool := false
  engReq : Bool := false
  disReq : Bool := false
  /-- The output at the start of the clutch-out. -/
  out1 : Int := 0
  /-- Queue moves added to the gear output (R248). -/
  add : Int := 0
  addV : Rat := 0
deriving DecidableEq, Repr

/-- Stepper state (chapter 10). -/
structure StpSt where
  /-- The accumulator A at the actuation instant of the present frame, modulo 2^64 (R258), and that frame's tick. -/
  a : BitVec 64 := 0
  aTick : Nat := 0
  /-- The velocity word in force. -/
  v : Int := 0
  /-- Microsteps that the set-point's conversion is behind A (R261), in 2^-32, on an axis with feedback. -/
  ofs : Int := 0
  clampRun : Nat := 0
  clamped : Bool := false
  rateClamp : Nat := 0
  /-- Device time since which V is 0, and at which the fall to the holding amplitude began (R264). -/
  zeroFrom : Option Nat := none
  holdFrom : Option Nat := none
  /-- Voltage mode; a change decided for the next frame; frames of the running blend; the last change (R268). -/
  volt : Bool := false
  turn : Option Bool := none
  blend : Option Nat := none
  /-- Stop row, reaction level and `AX.STP.MODE` as the blend began. -/
  blendKey : Nat × Nat × Nat := (0, 7, 0)
  /-- The word at the start of a stop of row 3, and the tick of that frame (R271). -/
  qFrom : Option (Int × Nat) := none
  changeAt : Option Nat := none
  /-- Device time at which current mode was forced (R267), and frames over 1.25 I. -/
  forced : Option Nat := none
  overRun : Nat := 0
  aligned : Bool := false
  alignFrom : Option Nat := none
  fbkOfs : Nat := 0
  /-- The step input is attached, with D in 2^-32 microsteps (R262). -/
  attached : Bool := false
  attachD : Int := 0
  /-- Frames beyond the stall angle, and the time since which the back-EMF is too low (R272). -/
  stallRun : Nat := 0
  stallFrom : Option Nat := none
  /-- Largest |i| of each phase since the window began, its start and the angle then (R273). -/
  maxA : Rat := 0
  maxB : Rat := 0
  cycFrom : Nat := 0
  cycAng : Int := 0
  /-- The last whole window shows phase A, or B, open. -/
  candA : Bool := false
  candB : Bool := false
  openA : Bool := false
  openB : Bool := false
  iA : Rat := 0
  iB : Rat := 0
  uA : Rat := 0
  uB : Rat := 0
  noDet : Bool := false
deriving DecidableEq, Repr

/-- A compare unit of an axis (R299, R300). -/
structure CmpUnit where
  armed : Bool := false
  done : Bool := false
  late : Bool := false
  skipped : Bool := false
  target : Int := 0
  fired : Nat := 0
  skip : Nat := 0
  /-- CMPn_ARM and CMPn_POS of the process image as last taken. -/
  piArm : Bool := false
  piPos : Int := 0
  /-- Arm or disarm requested for the next tick (R302). -/
  armReq : Option Bool := none
  /-- The target lay behind at arming: it fires at the next window start (R300). -/
  lateNow : Bool := false
  /-- Position up to which crossings have been looked for. -/
  seen : Int := 0
deriving DecidableEq, Repr

/-- A latch unit of an axis (R301). -/
structure LatchUnit where
  armed : Bool := false
  new : Bool := false
  est : Bool := false
  pos : Int := 0
  stamp : Nat := 0
  count : Nat := 0
  /-- Arm or disarm requested for the next tick (R302). -/
  armReq : Option Bool := none
  /-- Stamps of edges that lie after the latest latch instant. -/
  waits : List Nat := []
deriving DecidableEq, Repr

/-- The set-points of an axis's process image record, as last taken (R62, R63), and the latest edge of RUN. -/
structure AxIn where
  mode : Nat := 0
  seq : Nat := 0
  pos : Int := 0
  vel : Int := 0
  cur : Int := 0
  ff : Int := 0
  cmpPos : Vector Int 2 := Vector.replicate 2 0
  cmpArm : Vector Bool 2 := Vector.replicate 2 false
  /-- RUN went from 0 to 1 at this tick (R238). -/
  runEdge : Bool := false
deriving DecidableEq, Repr

/-- Everything the device keeps for one axis. -/
structure Axis where
  inp : AxIn := {}
  state : AxState := .off
  /-- ENABLE as last read, the fresh edge, and RUN, HALT and QSTOP as last read (R62, R238). -/
  enable : Bool := false
  /-- A fresh rising edge of ENABLE is needed before OFF can be left (R442). -/
  needEdge : Bool := false
  run : Bool := false
  halt : Bool := false
  qstop : Bool := false
  /-- Records of the slot held for the next engine run. -/
  inbox : List Stamped := []
  /-- The slot's zone input as last reported, and its edges not yet seen by the trajectory unit. -/
  zone : Bool := false
  zoneEdges : List (Bool × Nat) := []
  /-- Edges of the field input that homing watches, not yet seen by the trajectory unit. -/
  swEdges : List (Bool × Nat) := []
  com : ComSt := {}
  fbk : FbkSt := {}
  eng : EngSt := {}
  prf : PrfSt := {}
  hom : HomSt := {}
  gea : GeaSt := {}
  stp : StpSt := {}
  cmp : Vector CmpUnit 2 := Vector.replicate 2 {}
  lat : Vector LatchUnit 2 := Vector.replicate 2 {}
  pwm : PwmSt := {}
  rea : ReaSt := {}
deriving DecidableEq, Repr, Inhabited

/-- A line encoder port (R172 to R174). -/
structure PortSt where
  /-- Count of accepted edges, and the count at the last latch instant. -/
  count : Int := 0
  latched : Int := 0
  latchAt : Nat := 0
  /-- The refined position at the three latest latch instants, and speed and instant of the one before the last (R277). -/
  fine : Int := 0
  finePrev : Int := 0
  finePrev2 : Int := 0
  velPrev : Rat := 0
  latchAtPrev : Nat := 0
  stamp : Nat := 0
  latchStamp : Nat := 0
  /-- Stamps of the last accepted edge per input A, B and levels (R172). -/
  stampA : Option Nat := none
  stampB : Option Nat := none
  levelA : Bool := false
  levelB : Bool := false
  /-- Device times of the changes of the direction level within the last SETUP time, latest first. -/
  dirAts : List Nat := []
  /-- Since the last latch instant: edges that count, the direction of the last, and whether both occurred. -/
  moved : Bool := false
  edgeDir : Int := 0
  mixed : Bool := false
  /-- The same as of the last latch instant. -/
  latchMoved : Bool := false
  latchDir : Int := 0
  latchMixed : Bool := false
  speedOk : Bool := true
  zlatch : Int := 0
  zstamp : Nat := 0
  zarm : Bool := false
  zarmed : Bool := false
  znew : Bool := false
  wire : Bool := false
  /-- Edge faults of the last 10 ms (device times) and since reset. -/
  faultAt : List Nat := []
  edgeCnt : Nat := 0
  /-- Port speed of R179 to R181 at the last latch instant, cts/s. -/
  vel : Rat := 0
  vLast : Rat := 0
  ref : Option (Int × Nat) := none
  dir : Int := 0
  reversal : Option (Int × Nat) := none
deriving DecidableEq, Repr

end Sys2Proof.Machine
end

