-- ==== Sys2Proof/Config.lean ====
section
/-! DEFINITION. What an implementation fixes and the spec leaves open: every constant here is opaque, so
nothing can be proved of its value.  They stand for the cryptographic unit, for layouts that belong to the firmware,
and for values the spec leaves undefined. -/

namespace Sys2Proof

/-- A fresh number where the spec states none; the argument is the step's free-value counter. -/
opaque Config.freeNat : Nat → Nat

/-- A fresh truth value where the spec states none. -/
opaque Config.freeBool : Nat → Bool

/-- A fresh rational where the spec states none. -/
opaque Config.freeRat : Nat → Rat

/-- What a 32-bit counter reads after 2^32 - 1, where the spec states neither wrap nor saturation. -/
opaque Config.counterTop : Nat → Nat

/-- The lowest firmware share of the state SRAM in a frame of the last second, above its guarantee (R32), at a device
time: the arbitration of R30 is not modelled. -/
opaque Config.fwShare : Nat → Nat

/-- The share of a new value that a first-order filter with a time constant takes per step: step and time
constant in ns (R182). -/
opaque Config.filterShare : Nat → Nat → Rat

/-- SHA-256. -/
opaque Config.sha256 : List Byte → List Byte

/-- ECDSA P-256 verification: public key, digest, signature. -/
opaque Config.ecdsaVerify : List Byte → List Byte → List Byte → Bool

/-- The device's signature with its identity key over a digest; the second argument is the nonce drawn. -/
opaque Config.idSign : List Byte → Nat → List Byte

/-- The ephemeral public key of draw n. -/
opaque Config.ephemeral : Nat → List Byte

/-- The x-coordinate of the ECDH product of the ephemeral key of draw n with a peer key. -/
opaque Config.ecdh : Nat → List Byte → List Byte

/-- HKDF-SHA256: input key, salt, info, length. -/
opaque Config.hkdf : List Byte → List Byte → List Byte → Nat → List Byte

/-- AES-256-GCM encryption: key, nonce, associated data, plain text; cipher text and tag. -/
opaque Config.gcmSeal : List Byte → List Byte → List Byte → List Byte → List Byte

/-- AES-256-GCM decryption: key, nonce, associated data, cipher text and tag. -/
opaque Config.gcmOpen : List Byte → List Byte → List Byte → List Byte → Option (List Byte)

/-- AES-CMAC: key and message. -/
opaque Config.cmac : List Byte → List Byte → List Byte

/-- CTR-DRBG output: draw number and length. -/
opaque Config.drbg : Nat → Nat → List Byte

/-- The device certificate and the CA chain written at manufacture (R482). -/
opaque Config.idCert : List Byte

/-- The Crepra device CA chain (R482). -/
opaque Config.caCert : List Byte

/-- FWKEY_HASH of key i (R475). -/
opaque Config.fwKeyHash : Nat → List Byte

/-- Whether a page of a firmware image agrees with its page-table entry (R478). -/
opaque Config.pagesGood : List Byte → Bool

/-- A closed image may follow the running one live: same dictionary version, same P-channel program (R516). -/
opaque Config.liveOk : List Byte → List Byte → Bool

/-- The best master clock algorithm (R360): own clock identity, priority1, master-capable, port (0 UP, 1 DOWN), the
Announce, and whether the device is master now.  0: the device is grandmaster; 1 and 2: UP or DOWN becomes the slave
port; 3: no change. -/
opaque Config.bmca : List Byte → Nat → Bool → Nat → List Byte → Bool → Nat

/-- The layout of a VAR item of the twin image: kind and fields to bytes (R390). -/
opaque Config.varPack : Nat → List Nat → List Byte

/-- The kind and the fields of a VAR item (R390). -/
opaque Config.varUnpack : List Byte → Nat × List Nat

/-- The layout of a run of items, each a number and its bytes, in the VAR section and in BULK (R390, R392). -/
opaque Config.itemsPack : List (Nat × List Byte) → List Byte

/-- The items of such a run. -/
opaque Config.itemsUnpack : List Byte → List (Nat × List Byte)

/-- The AXIS record of an axis, of which 80 bytes are sent (R390). -/
opaque Config.axisImage : Machine.Axis → List Byte

/-- What the firmware reads from an AXIS record (R390). -/
opaque Config.axisOfImage : List Byte → Machine.Axis

/-- The RPT slice of an axis, of which 28 bytes are sent (R390): exponent, mean and the eight bins. -/
opaque Config.rptImage : List Int → List Byte

/-- The mean and the eight bins that the firmware reads from an RPT slice (R390). -/
opaque Config.rptOfImage : List Byte → Int × List Int

/-- The first 8 bytes of the TRK section: the contexts whose records follow (R390). -/
opaque Config.trkHead : List Nat → List Byte

/-- The contexts that those 8 bytes name. -/
opaque Config.trkNamed : List Byte → List Nat

end Sys2Proof
end

