-- ==== Sys2Proof/Machine/Parts/Ageing.lean ====
section
/-! DEFINITION. The state of ageing, margins, engine tests and service (chapter 20). -/

namespace Sys2Proof.Machine

/-- A margin item (R506): kind and instance, the day's accumulator, the daily means (latest first), the
warning and whether the latest re-plan was within 24 h. -/
structure Margin where
  kind : Nat
  inst : Nat
  sum : Rat := 0
  n : Nat := 0
  days : List Rat := []
  first : Option Rat := none
  warnTtl : Bool := false
  warnRest : Bool := false
  fitValid : Bool := false
  slope : Rat := 0
  ttl : Nat := 0xFFFFFFFF
  replannedAt : Option Nat := none
deriving DecidableEq, Repr

/-- The ageing record of an axis (R498, R499, R503, R504). -/
structure AgeAx where
  /-- Bridge time-at-temperature histogram in ns, 20 bins (R499). -/
  hist : List Nat := List.replicate 20 0
  /-- Derating factor f and the last f_H for which 0x9003 was raised. -/
  f : Rat := 1
  fAt : Nat := 0
  fhRaised : Rat := 1
  below : Bool := false
  /-- Scaling factor k of the sensorless thresholds, and its accumulator. -/
  k : Rat := 1
  keSum : Rat := 0
  keN : Nat := 0
  kAt : Nat := 0
  /-- The f and the k in force, which change only at a commit (R503 to R505). -/
  fNow : Rat := 1
  kNow : Rat := 1
  /-- Friction: start of the steady second and its sums. -/
  fricFrom : Option (Nat × Rat) := none
  fricAcc : Rat := 0
  fricCnt : Nat := 0
  /-- Means of such seconds of the day, and how many. -/
  fricSum : Rat := 0
  fricN : Nat := 0
deriving DecidableEq, Repr

/-- A rolling-test failure being repeated (R509). -/
structure EtestSt where
  slice : Nat
  tries : Nat
  fails : Nat
deriving DecidableEq, Repr

/-- A running cluster test (R510) with its mailbox. -/
structure CltSt where
  since : Nat
  mbx : Nat
deriving DecidableEq, Repr

/-- A running port loop (R512). -/
structure LoopSt where
  port : Nat
  mode : Nat
  since : Nat
  mbx : Nat
deriving DecidableEq, Repr

/-- Ageing and service state. -/
structure AgeSt where
  axes : Vector AgeAx 128 := Vector.replicate 128 {}
  items : List Margin := []
  lastDaily : Nat := 0
  /-- The hottest junction sensor's time-at-temperature histogram in ns (R499). -/
  hist : List Nat := List.replicate 20 0
  flushAt : Nat := 0
  /-- The copy in flash: device histogram and the bridges' (R499). -/
  flashHist : List Nat := List.replicate 20 0
  flashAx : Vector (List Nat) 128 := Vector.replicate 128 (List.replicate 20 0)
  vdd : Nat := 800
  vddAt : Nat := 0
  slack : Int := 0
  droopAt : List Nat := []
  stagger : Nat := 1
  tj : Int := 0
  tjWarn : Bool := false
  tjHot : Option Nat := none
  tjVery : Option Nat := none
  slice : Nat := 0
  /-- The frame in which the last slice ran (R508). -/
  sliceTick : Option Nat := none
  cycles : Nat := 0
  etest : Vector (Option EtestSt) 8 := Vector.replicate 8 none
  mcFail : BitVec 8 := 0
  isolated : BitVec 8 := 0
  clt : Vector (Option CltSt) 8 := Vector.replicate 8 none
  loop : Option LoopSt := none
  fwRestarts : Nat := 0
  /-- Device times of watchdog restarts within the last hour (R513). -/
  wdogAt : List Nat := []
  fwStuck : Bool := false
  serviceFrom : Nat := 0
  /-- Firmware runs in SERVICE restart: AGE.FW.RESTART answered (R513). -/
  restartReq : Option Nat := none
  xtalSum : Rat := 0
  xtalN : Nat := 0
  xtalWarn : Bool := false
deriving DecidableEq, Repr

end Sys2Proof.Machine
end

