-- ==== Sys2Proof/Machine/Parts/Capture.lean ====
section
/-! DEFINITION. The state of the capture unit (chapter 13). -/

namespace Sys2Proof.Machine

/-- Capture states (R339), in the code order of `CAP.STATUS` [3:0]. -/
inductive CapState
  | idle | fill | wait | post | done | stopped
deriving DecidableEq, Repr

/-- A value of a source sample: the exact number of an F32 source, its absence, or a U32 word. -/
inductive CapVal
  | f (v : Rat)
  | nan
  | u (w : Word)
deriving DecidableEq, Repr

/-- The configuration latched at arming (R339). -/
structure CapCfg where
  mode : Nat := 0
  rep : Bool := false
  reduce : Nat := 0
  decim : Nat := 1
  period : Nat := 1000
  recSel : Nat := 1
  combine : Nat := 0
  sameOk : Bool := false
  within : Nat := 0
  maskEn : Nat := 0
  segLen : Nat := 64
  maskAct : Nat := 0
  src : Vector Nat 16 := Vector.replicate 16 0
  /-- Conditions A to D: SRC, TYPE, LEVEL, LEVEL2, HYST, MASK. -/
  tsrc : Vector Nat 4 := Vector.replicate 4 0
  ttyp : Vector Nat 4 := Vector.replicate 4 0
  level : Vector Rat 4 := Vector.replicate 4 0
  level2 : Vector Rat 4 := Vector.replicate 4 0
  hyst : Vector Rat 4 := Vector.replicate 4 0
  tmask : Vector Nat 4 := Vector.replicate 4 0xFFFFFFFF
  mask : List Byte := []
  /-- Settled P, Q and capacity C, and words per sample W (R333, R338). -/
  p : Nat := 0
  q : Nat := 1024
  cap : Nat := 65536
  w : Nat := 1
deriving DecidableEq, Repr

/-- The memory of a condition of type 1 or 2 (R334). -/
structure CondSt where
  prev : Option Rat := none
  primed : Bool := false
deriving DecidableEq, Repr

/-- Capture state. -/
structure CapSt where
  state : CapState := .idle
  cfg : CapCfg := {}
  /-- The arming tick. -/
  armTick : Nat := 0
  /-- The carafe: words by ring offset, zero where nothing is listed. -/
  carafe : List (Nat × Word) := []
  /-- Next ring index, stored samples held (up to C), and samples of the capture since the trigger. -/
  wr : Nat := 0
  held : Nat := 0
  post : Nat := 0
  /-- Source samples of the group in progress, latest first, with the instant of its first. -/
  group : List (List CapVal) := []
  groupAt : Nat := 0
  groupN : Nat := 0
  conds : Vector CondSt 4 := Vector.replicate 4 {}
  /-- Instant of the previous source sample, and events seen since (kind, argument, instant). -/
  lastAt : Nat := 0
  events : List (Nat × Nat × Nat) := []
  seqA : Bool := false
  seqN : Nat := 0
  forced : Bool := false
  forceNext : Bool := false
  /-- Calls that the next tick applies: 1 ARM, 2 FORCE, 3 STOP, with the mailbox to answer. -/
  calls : List (Nat × Nat) := []
  /-- No further run starts by itself: CAP.STOP in repeat mode, or a violation that ended the run. -/
  stopAfter : Bool := false
  clamped : Bool := false
  mtch : BitVec 4 := 0
  maskFail : Bool := false
  srcGap : Bool := false
  preAct : Nat := 0
  count : Nat := 0
  start : Nat := 0
  trigIdx : Nat := 0
  trigNt : Nat := 0
  firstNt : Nat := 0
  runs : Nat := 0
  maskFirst : Nat := 0
  /-- The mask file (R342), 8,192 bytes, zero where nothing was written. -/
  maskFile : List Byte := []
  /-- Records that clock record mode and wait: stamp, value, flags. -/
  recs : List (Nat × CapVal × Nat) := []
  /-- Source samples taken since arming, which numbers timer mode (R329). -/
  n : Nat := 0
  /-- Stored samples' instants by ring index, for NT_FIRST (R345). -/
  times : List (Nat × Nat) := []
deriving DecidableEq, Repr

end Sys2Proof.Machine
end

