-- ==== Sys2Proof/Machine/Parts/FieldIo.lean ====
section
/-! DEFINITION. The state of the isolated field inputs and outputs (chapter 12). -/

namespace Sys2Proof.Machine

/-- A field input (R312 to R319). -/
structure FinSt where
  /-- Level at the die, before the filter, and the time since which it holds. -/
  raw : Bool := false
  since : Nat := 0
  /-- The filtered level; frozen while INVALID. -/
  level : Bool := false
  /-- The stamp of the edge that gave it. -/
  edgeAt : Nat := 0
deriving DecidableEq, Repr

/-- A timed output change (R315): output, level, instant, whether it comes from a compare, and whether it is the
return change of a pulse. -/
structure FoutChange where
  out : Nat
  level : Bool
  tm : Nat
  cmp : Bool
  ret : Bool := false
deriving DecidableEq, Repr

/-- A running diagnosis (R322). -/
structure DiagSt where
  allow : BitVec 16
  cand : BitVec 16
  /-- The set inverted in the present test, 0 between tests. -/
  test : BitVec 16 := 0
  /-- The confirming test runs. -/
  confirm : Bool := false
  steps : Nat := 0
  /-- The commands that the die held when the diagnosis began. -/
  held : BitVec 16
  /-- The actuation instant at which the present half begins. -/
  since : Nat
  /-- The die has the commands of the present half. -/
  applied : Bool := false
  /-- The test set is inverted; otherwise the commands are restored and the second half runs. -/
  inverted : Bool := true
  /-- Decided result, waiting for the end of the second half. -/
  result : Option (Nat × Nat) := none
deriving DecidableEq, Repr

/-- Field I/O state. -/
structure FioSt where
  ins : Vector FinSt 40 := Vector.replicate 40 {}
  invalid : Bool := true
  /-- The filtered levels at the latest tick - 0.5 µs, as the process image carries them (R314). -/
  cut : BitVec 40 := 0
  /-- FV24 in 10 mV. -/
  fv24 : Nat := 0
  uvWarn : Bool := false
  uvOff : Bool := false
  cfLost : Bool := false
  outOff : Bool := false
  rearmReady : Bool := false
  common : Bool := false
  /-- The common bit rose and 0x6003 has not yet been raised for it (R317). -/
  rise : Bool := false
  /-- Times since which FV24 is below 18.0 V, and above 19.0 V. -/
  lowFrom : Option Nat := none
  highFrom : Option Nat := none
  /-- The latest valid frame at the controller side and at the die (R310). -/
  lastUp : Nat := 0
  lastDown : Nat := 0
  /-- Start of the present run of valid frames after a loss (R321). -/
  goodFrom : Option Nat := none
  /-- Latest command of each output from any source, and the command the die holds. -/
  latest : BitVec 16 := 0
  cmd : BitVec 16 := 0
  /-- The die has switched the outputs off for want of frames (R310). -/
  dieOff : Bool := false
  /-- Pin levels and thermal shutdowns as measured at the die. -/
  pins : BitVec 16 := 0
  thermal : BitVec 16 := 0
  changedAt : Vector Nat 16 := Vector.replicate 16 0
  mismatchFrom : Vector (Option Nat) 16 := Vector.replicate 16 none
  changes : List FoutChange := []
  /-- Calls FIO.OUT.WRITE that the next tick applies: mask and value. -/
  writes : List (Nat × Nat) := []
  defer : Nat := 0
  /-- FIO_OUT_MASK and FIO_OUT of the latest swap (R62). -/
  mask : BitVec 16 := 0
  piOut : BitVec 16 := 0
  /-- Outputs are restored at this actuation instant; the restore was automatic (R320). -/
  restoreAt : Option (Nat × Bool) := none
  diag : Option DiagSt := none
  /-- An aborted diagnosis gives its outputs their latest commands at this actuation instant (R324). -/
  diagBack : Option (Nat × BitVec 16) := none
  diagResult : Nat := 0
deriving DecidableEq, Repr

end Sys2Proof.Machine
end

