-- ==== Sys2Proof/Machine/Parts/Host.lean ====
section
/-! DEFINITION. The state of the host access of chapter 03: addressed buffers, the register file, the
event queue, the mailboxes, the process image control and the parameter store. -/

namespace Sys2Proof.Machine

/-- Addressed bytes that read 0 where nothing is listed: addresses strictly rising, no listed zero. -/
abbrev Mem := List (Nat × Byte)

/-- MBXn_OWNER.PATH (R47). -/
inductive Owner
  | free | pcie | qspi | net
deriving DecidableEq, Repr

/-- MBXn_STATUS.STATE (R47). -/
inductive MbxState
  | idle | pending | executing | done
deriving DecidableEq, Repr

/-- What a command in EXECUTING waits for before its response is complete. -/
inductive Wait
  /-- Nothing: the firmware has the command in hand. -/
  | none
  /-- The commit of the group with this number (R50). -/
  | group (n : Nat)
  /-- The end of a running call (R49). -/
  | call (id : Nat)
deriving DecidableEq, Repr

/-- One mailbox (R47 to R49): its registers, its buffers and what the firmware holds for it. -/
structure Mbx where
  owner : Owner := .free
  state : MbxState := .idle
  lastSeq : Nat := 0
  lockWrite : Bool := false
  bellIgnored : Bool := false
  autoBusy : Bool := false
  /-- MBXn_DEADLINE in ms, reset 500 (R47). -/
  deadline : Nat := 500
  session : Nat := 0
  cmdCount : Nat := 0
  errCount : Nat := 0
  /-- The command buffer (0x200 bytes). -/
  cmd : Mem := []
  /-- The visible response buffer (0x200 bytes). -/
  resp : Mem := []
  /-- Device time of the accepted doorbell. -/
  bellAt : Nat := 0
  /-- The deadline in force for the command in hand, ms (R47). -/
  deadlineNow : Nat := 500
  /-- The command as copied by the firmware (R49). -/
  copy : List Byte := []
  /-- The response built in the hidden buffer, once complete (R49). -/
  hidden : Option (List Byte) := none
  /-- What the command in hand waits for. -/
  wait : Wait := .none
  /-- A release waits for the end of the command (R48). -/
  releasing : Bool := false
  /-- The response is to be discarded: the session of the command ended (R489). -/
  discard : Bool := false
deriving DecidableEq, Repr

/-- An event record (R46). -/
structure EvtRec where
  code : Nat := 0
  inst : Nat := 0
  lostBefore : Bool := false
  fc : Nat := 0
  data : Nat := 0
deriving DecidableEq, Repr

/-- One subscription of SUBSCRIBE (R53): an event code and an instance, 0xFF for all. -/
structure Sub where
  code : Nat
  inst : Nat
deriving DecidableEq, Repr

/-- What the host has written into the PCIe configuration space, MSI enable and grant aside (R40). -/
structure PcieCfg where
  bar0 : Word := 0
  bar1 : Word := 0
  msiLo : Word := 0
  msiHi : Word := 0
  msiData : Word := 0
deriving DecidableEq, Repr

/-- The register file outside the mailboxes (R43 to R46) and the process image control (R45). -/
structure HostSt where
  irqStatus : Word := 0
  irqEnable : Word := 0
  irqVector : Word := 0xE4
  /-- MSI as the host has set it in the PCIe configuration space (R40). -/
  msiOn : Bool := false
  msiGranted : Nat := 1
  cfg : PcieCfg := {}
  /-- The PCIe link is up (R40). -/
  pcieUp : Bool := true
  /-- The host watchdog's latest restart and whether it has expired (R65). -/
  wdogFrom : Nat := 0
  wdogExpired : Bool := false
  evt : List EvtRec := []
  evtLost : Nat := 0
  evtDropped : Bool := false
  evtRec : EvtRec := {}
  scratch : Word := 0
  fwAlive : Nat := 0
  fwAliveAt : Nat := 0
  /-- High words latched by low-word reads, by path and offset (R42). -/
  hiLatch : List (Path × Nat × Word) := []
  /-- The words a path's latest QSPI or low-word read returned (the model's own field). -/
  rdata : List Word := []
  /-- Calls that answered TIMEOUT with STARTED and still run (R49). -/
  started : List Nat := []
  /-- The mailbox that the firmware took last, for its round-robin (R50). -/
  lastTaken : Nat := 15
  subsPcie : List Sub := []
  subsQspi : List Sub := []
  tsArmed : Bool := false
  tsValid : Bool := false
  tsTick : Bool := false
  tsAligned : Bool := false
  tsNt : Nat := 0
  tsFc : Nat := 0
  tsPhase : Nat := 0
deriving DecidableEq, Repr

/-- The process image (R62 to R64). -/
structure PiSt where
  enable : Bool := false
  handshake : Bool := false
  writer : Nat := 0
  /-- PI_STATUS.HOST_BANK: the host-facing bank is B. -/
  hostB : Bool := false
  /-- ENABLE was set and its commit has not come. -/
  enabling : Bool := false
  handed : Bool := false
  /-- Device time of the handover that is pending. -/
  handedAt : Nat := 0
  running : Bool := false
  fc : Nat := 0
  swaps : Nat := 0
  missed : Nat := 0
  reject : Nat := 0
  late : Nat := 0
  /-- Consecutive ticks without a swap in handshake mode (R64). -/
  dry : Nat := 0
  /-- 0x0111 was raised for the present run without swaps. -/
  dryRaised : Bool := false
  bankA : Mem := []
  bankB : Mem := []
  /-- Frame whose status each bank holds. -/
  fcA : Nat := 0
  fcB : Nat := 0
  /-- The status of the frame before, and that frame (R371). -/
  prev : Mem := []
  prevFc : Nat := 0
  /-- Axes that have taken a set-point from the image since reset (R63). -/
  taken : BitVec 128 := 0
deriving DecidableEq, Repr

/-- A parameter value: a number in the type's encoding, or the bytes of a STR (R54). -/
inductive PVal
  | num (n : Nat)
  | str (bs : List Byte)
deriving DecidableEq, Repr

/-- A value the parameter store holds explicitly.  `written` is the state of R543; a value kept by the
end of derivation (R57) is held and not written. -/
structure PEntry where
  id : Nat
  val : PVal
  written : Bool
deriving DecidableEq, Repr

/-- A validated group marked ready for the hardware copier (R28, R58). -/
structure Group where
  num : Nat
  mbx : Option Nat
  entries : List (Nat × PVal)
  readyAt : Nat
deriving DecidableEq, Repr

/-- The file a handle is open on. -/
inductive FileName
  | flogLog | safLog | safCfg | secIdCert | secCaCert | secFwSlot | secBundle
  | capData | capMask | ageHist | trkCtx | other (nm : List Byte)
deriving DecidableEq, Repr

/-- An open file (R53). -/
structure FileHandle where
  handle : Nat
  owner : Owner
  session : Nat
  file : FileName
  writing : Bool
  /-- The bytes read from, or written so far. -/
  data : List Byte
deriving DecidableEq, Repr

/-- The parameter store and the copier (R5, R28, R57, R61). -/
structure ParSt where
  /-- Committed values, by rising ID. -/
  store : List PEntry := []
  /-- The saved set in flash (R61, R476), absent until one was saved. -/
  flash : Option (List PEntry) := none
  /-- The saved set passes the check of R457 and R483. -/
  flashGood : Bool := true
  /-- The parameters have been restored since the device reset (R456). -/
  restored : Bool := false
  /-- The restore lost values, so that full service begins in CONFIG (R457). -/
  restoreBad : Bool := false
  ready : List Group := []
  nextGroup : Nat := 0
  /-- The RWX parameters that the latest tick has committed (R60). -/
  landed : List Nat := []
  commitDefer : Nat := 0
  statClr : Bool := false
  /-- A SAVE runs, with the set it writes and the mailbox that started it. -/
  saving : Option (List PEntry × Option Nat) := none
  files : List FileHandle := []
  nextHandle : Nat := 1
deriving DecidableEq, Repr

end Sys2Proof.Machine
end

