-- ==== Sys2Proof/Machine/Parts/Network.lean ====
section
/-! DEFINITION. The state of the line networks and network time (chapter 14).  Times of PTP are exact
rationals in ns. -/

namespace Sys2Proof.Machine

/-- An entry of a port's transmit time-stamp queue (R358). -/
structure TsqEntry where
  id : Nat
  /-- t_tx in whole ns. -/
  stamp : Nat
  tm : Nat
deriving DecidableEq, Repr

/-- What the port does as a queued frame leaves (R358, R361). -/
inductive EgAct
  | plain
  /-- correctionField takes t_tx, less the first value, plus the second. -/
  | patch (rx extra : Rat)
  /-- The device's own one-step Sync takes its origin time. -/
  | origin
  /-- A forwarded event message whose stamp the queue records. -/
  | stamp
  /-- The device's own two-step event message, followed by its Follow_Up. -/
  | follow
deriving DecidableEq, Repr

/-- A frame in an egress queue of a port (R352, R353). -/
structure EgFrame where
  prio : Nat
  /-- Earliest device time of its first bit. -/
  ready : Nat
  /-- Time that its gate must stay open for, in ns. -/
  need : Nat
  bytes : List Byte
  act : EgAct
deriving DecidableEq, Repr

/-- A line port (R349 to R358, R380): 0 A UP, 1 A DOWN, 2 B UP, 3 B DOWN. -/
structure NetPort where
  link : Bool := false
  gig : Bool := false
  configErr : Bool := false
  /-- The PHY's in-band status: speed 0 none, 1 10, 2 100, 3 1000 Mbit/s, and full duplex. -/
  inband : Nat := 0
  full : Bool := false
  linkAt : Nat := 0
  drop : Nat := 0
  dropAt : List Nat := []
  authErr : Nat := 0
  authAt : List Nat := []
  /-- The gate list in force: cycle and entries (R354). -/
  gclCycle : Nat := 0
  gcl : List Nat := []
  /-- Frames that wait in the egress queues, oldest first, and the end of the one being sent. -/
  queue : List EgFrame := []
  busyTil : Nat := 0
  tsq : List TsqEntry := []
  /-- Mean link delay in ns, as measured with the stamps at the connector (R357). -/
  pdelay : Rat := 0
  /-- Looped by `AGE.PORT.LOOP` (R512). -/
  looped : Bool := false
deriving DecidableEq, Repr

/-- Time-base unit states (R364), in code order. -/
inductive UnitState
  | listening | locking | locked | holdover | master
deriving DecidableEq, Repr

/-- A two-step Sync that waits for its Follow_Up (R358, R361). -/
structure SyncWait where
  port : Nat
  seq : Nat
  tRx : Rat
  corr : Rat
  log : Int
deriving DecidableEq, Repr

/-- A time-base unit (R362 to R366), and the port states of its network (R360). -/
structure UnitSt where
  state : UnitState := .listening
  /-- The line port in state slave, 0 UP and 1 DOWN, once an Announce has set it. -/
  slave : Option Nat := none
  offset : Rat := 0
  goodRun : Nat := 0
  badRun : Nat := 0
  lastSync : Nat := 0
  /-- Sync interval in ns, of the latest accepted Sync. -/
  interval : Nat := 125000000
  lockedFrom : Option Nat := none
  wait : Option SyncWait := none
  syncSeq : Nat := 0
  masterAt : Nat := 0
deriving DecidableEq, Repr

/-- A pair of sender and TYPE with the last SEQ accepted (R368), the most recent first. -/
structure SeqPair where
  src : Nat
  typ : Nat
  seq : Nat
deriving DecidableEq, Repr

/-- A sender's copies per network (R369): frames of this device since the latest copy. -/
structure Copies where
  src : Nat
  /-- Frame of the sender's first copy. -/
  since : Nat := 0
  lastA : Option Nat := none
  lastB : Option Nat := none
  raised : Bool := false
deriving DecidableEq, Repr

/-- A subscribed master channel (R251, R372): its stream, values that have arrived, and its value and speed for the
next frame. -/
structure SubSt where
  ipo : Ipo := {}
  spIn : List NetSp := []
  est : Bool := false
deriving DecidableEq, Repr

/-- A frame that the switch has passed to HOST: port, device time and stamp, bytes from the destination
MAC on, without the FCS. -/
structure RxFrame where
  port : Nat
  tm : Nat
  stamp : Rat
  bytes : List Byte
deriving DecidableEq, Repr

/-- Network state. -/
structure NetSt where
  ports : Vector NetPort 4 := Vector.replicate 4 {}
  units : Vector UnitSt 2 := Vector.replicate 2 {}
  /-- Frames at HOST not yet taken by their user, oldest first. -/
  rx : List RxFrame := []
  driver : Nat := 0
  integ : Rat := 0
  rate : Int := 0
  /-- The last 16 values of rate, latest first (R365). -/
  rates : List Int := []
  divergeFrom : Option Nat := none
  tsqOvf : Nat := 0
  tsqAt : List Nat := []
  /-- Device time at which the driving unit entered HOLDOVER; HOLDOVER_T has run out. -/
  holdFrom : Option Nat := none
  holdExpired : Bool := false
  seqs : List SeqPair := []
  copies : List Copies := []
  /-- SEQ of the device's own frames by TYPE (R367). -/
  txSeq : Vector Nat 7 := Vector.replicate 7 0
  /-- FC of the latest STATUS and CHANNEL frames sent. -/
  statFc : Option Nat := none
  chanFc : Option Nat := none
  late : Nat := 0
  mismatch : Nat := 0
  sub : Vector SubSt 16 := Vector.replicate 16 {}
  udpRej : Nat := 0
  /-- Clear datagrams waiting for their response: mailbox, network, MAC, address, port. -/
  clear : List (Nat × Nat × Nat × Nat × Nat) := []
deriving DecidableEq, Repr

end Sys2Proof.Machine
end

