-- ==== Sys2Proof/Machine/Parts/Power.lean ====
section
/-! DEFINITION. The state of supplies, resets, bring-up, domains, sleep and the Percolator (chapter 18). -/

namespace Sys2Proof.Machine

/-- The device states of SYS_STATUS [2:0] (R43), in code order. -/
inductive DevState
  | reset | boot | ristretto | config | operate | service | safe
deriving DecidableEq, Repr

/-- The 16 switched domains and their bits in `PWR.DOMAINS` (R472): AX0 to AX7, then CORE, SAFEC,
NETA, NETB, TRK, CAP, CRY, TWIN. -/
abbrev Domains := BitVec 16

/-- A cluster's way into sleep (R462). -/
inductive DozePhase
  | awake
  /-- A sleep decision waits for the next tick. -/
  | requested
  /-- DOZE sent at this tick; answers awaited. -/
  | dozeSent (tick : Nat)
  /-- Downstream traffic stopped at this time. -/
  | trafficOff (tm : Nat)
  | asleep
deriving DecidableEq, Repr

/-- Deep sleep (R464, R465). -/
inductive DeepPhase
  | awake
  /-- Entry requested, with NET. -/
  | requested (net : Bool)
  /-- Deep sleep with both networks on, and the device state to return to. -/
  | asleep (net : Bool) (was : DevState)
  /-- Woken at this time for these clusters; the exit of R464 runs. -/
  | waking (tm clusters : Nat) (was : DevState)
deriving DecidableEq, Repr

/-- The exit from deep sleep runs (R464). -/
def DeepPhase.exits (d : DeepPhase) : Bool :=
  match d with
  | .waking _ _ _ => true
  | .awake | .requested _ | .asleep _ _ => false

/-- A rule of the Percolator (R469): what it has seen of its source. -/
structure RuleSt where
  /-- The accepted level, and the sample count of a candidate level. -/
  level : Bool := false
  seen : Bool := false
  run : Nat := 0
  matched : Bool := false
  /-- Matches since the first, and the time of the first. -/
  count : Nat := 0
  first : Nat := 0
  /-- Commit of the rule, or the latest period (timer rules). -/
  timerFrom : Nat := 0
deriving DecidableEq, Repr

/-- Power state. -/
structure PwrSt where
  /-- Supplies in the order of R449: VDD_AON, VDD_CORE, VDDA_LNK, VDDH_LNK, VDD_SAF, VISO, then VDDIO
  banks from [6] (`PWR.SUPPLY`, R471). -/
  supply : BitVec 16 := 0
  /-- VDDIO banks the board requires: boot flash, RGMII and the host interface in use (R449). -/
  bankReq : BitVec 10 := 7
  t0 : Nat := 0
  state : DevState := .reset
  nReset : Bool := true
  resetAt : Nat := 0
  resetOut : Bool := false
  cause : Nat := 0
  detail : Nat := 0
  resets : Nat := 0
  /-- A `PWR.RESET` call answered; the reset follows (R471). -/
  callReset : Option Nat := none
  /-- The state that SERVICE returns to (R515). -/
  serviceWas : DevState := .config
  strapPos : Nat := 0
  strapClaim : Bool := false
  /-- Pins as the board drives them. -/
  pinPos : Nat := 0
  pinClaim : Bool := false
  domains : Domains := 0
  /-- Domains switched on and not yet usable, with the time of the switch-on command (R460). -/
  switching : List (Nat × Nat) := []
  fwdOkA : Bool := false
  fwdOkB : Bool := false
  forwarding : Bool := false
  verified : Bool := false
  ristrettoT : Nat := 0
  fullT : Nat := 0
  /-- Self-tests of the bring-up passed (R455). -/
  doze : Vector DozePhase 8 := Vector.replicate 8 .awake
  /-- Wake requests that hold axes of a sleeping cluster (R463). -/
  wakeReq : BitVec 8 := 0
  /-- Device time since which every axis of the cluster has been OFF (R462). -/
  offFrom : Vector (Option Nat) 8 := Vector.replicate 8 none
  /-- Sleep and wake masks of PWR.SLEEP and PWR.WAKE, acting at the next tick (R471). -/
  sleepAt : Option (Nat × Bool × Bool) := none
  wakeAt : Option Nat := none
  deep : DeepPhase := .awake
  /-- FWD_OK went low ahead of a NET switch-off at this time (R465). -/
  bypassFrom : Option Nat := none
  /-- Latest mailbox command, for `PWR.FW_IDLE_T` (R464). -/
  lastCmd : Nat := 0
  rules : Vector RuleSt 32 := Vector.replicate 32 {}
  /-- Committed rules and timers as the Percolator reads them in AON (R473), by rule and timer. -/
  ruleWord : Vector Nat 32 := Vector.replicate 32 0
  timerS : Vector Nat 4 := Vector.replicate 4 3600
  /-- Trip pins latched by the AON input stage since the last sample (R467). -/
  aonTrip : BitVec 8 := 0
  /-- Zone levels ZL of the last valid beacon of each link, and change bits (R467). -/
  zl : Vector Nat 32 := Vector.replicate 32 0
  zchg : Vector Nat 32 := Vector.replicate 32 0
  /-- WAKE frames received and not yet sampled: CLUSTERS and FLAGS. -/
  wakeFrames : List (Nat × Nat) := []
  lastSample : Nat := 0
  wakeCause : Nat := 0
  wakeIgn : Nat := 0
  /-- The retention store in AON (R464) and whether its CRC-32C holds. -/
  retention : Option (List PEntry) := none
deriving DecidableEq, Repr

end Sys2Proof.Machine
end

