-- ==== Sys2Proof/Machine/Parts/Safety.lean ====
section
/-! DEFINITION. The state of the two safety channels (chapter 16). -/

namespace Sys2Proof.Machine

/-- State of a group at a channel (R403). -/
inductive GrpState
  | normal | ss1 | sto
deriving DecidableEq, Repr

/-- A safety group at a channel (R405 to R411). -/
structure GrpSt where
  state : GrpState := .sto
  /-- End of a running SS1-t time. -/
  ends : Nat := 0
  /-- The stop came only from input or telegram demands (R408). -/
  demandOnly : Bool := false
  /-- A fault of class 0x70 on the group has its cause present, or awaits a reset. -/
  latched : Bool := false
  /-- SLS requested since (R413), and SLS checking runs. -/
  slsFrom : Option Nat := none
  slsOn : Bool := false
deriving DecidableEq, Repr

/-- An input pair at a channel (R416). -/
structure PairSt where
  p : Bool := false
  n : Bool := false
  /-- Time since which the pair has been out of healthy, healthy, and with both signals equal. -/
  badFrom : Option Nat := none
  goodFrom : Option Nat := none
  sameFrom : Option Nat := none
  demand : Bool := true
  demandFrom : Nat := 0
  /-- 0x7001 latched; the pair passed through demand since. -/
  disc : Bool := false
  discDemand : Bool := false
deriving DecidableEq, Repr

/-- The content of an accepted telegram (R418). -/
structure TelSt where
  seq : Nat := 0
  sto : BitVec 16 := 0
  ss1 : BitVec 16 := 0
  sls : BitVec 16 := 0
  sdi : BitVec 32 := 0
  reset : Bool := false
deriving DecidableEq, Repr

/-- What a channel holds of an axis (R412 to R414). -/
structure SafAx where
  fc : Nat := 0
  got : Bool := false
  /-- Device time at which the latest word that counts arrived. -/
  wordAt : Nat := 0
  missRun : Nat := 0
  slsRun : Nat := 0
  sdiRun : Nat := 0
deriving DecidableEq, Repr

/-- One channel: the P-channel or the L-channel. -/
structure ChanSt where
  groups : Vector GrpSt 16 := Vector.replicate 16 {}
  pairs : Vector PairSt 8 := Vector.replicate 8 {}
  /-- The active configuration block: parameter ID and value. -/
  block : List (Nat × Nat) := []
  configured : Bool := false
  crc : Nat := 0
  tel : TelSt := {}
  telOpen : Bool := false
  /-- New telegrams accepted since the connection opened (R419). -/
  telN : Nat := 0
  telAt : Nat := 0
  telOk : Bool := false
  /-- The reset bit of the previous telegram. -/
  telReset : Bool := false
  discards : Nat := 0
  axes : Vector SafAx 128 := Vector.replicate 128 {}
  /-- The switch of each safety output is closed. -/
  so : Vector Bool 2 := Vector.replicate 2 false
  /-- The other channel's latest cross-check words: time, pairs, SEQ and content, CRC. -/
  rxAt : Nat := 0
  rxPairs : BitVec 8 := 0
  rxTel : TelSt := {}
  rxCrc : Nat := 0
  diffFrom : Option Nat := none
  degraded : Bool := false
  /-- Degraded timer: time used when it last stopped, and start of the present run. -/
  degUsed : Nat := 0
  degFrom : Nat := 0
deriving DecidableEq, Repr

/-- A change-log entry (R429). -/
structure SafLog where
  seq : Nat
  nt : Nat
  kind : Nat
  result : Nat
  path : Nat
  session : Nat
  oldCrc : Nat
  newCrc : Nat
deriving DecidableEq, Repr

/-- Copies of one command telegram (R420): SEQ, first arrival, its bytes, networks whose copy both channels
accept, and whether SKEW has passed. -/
structure TelCopies where
  seq : Nat
  tm : Nat
  bytes : List Byte
  netA : Bool
  netB : Bool
  judged : Bool := false
deriving DecidableEq, Repr

/-- A safety output under test (R422). -/
structure SoSt where
  /-- Consecutive result of the last tests: the switch failed. -/
  failP : Bool := false
  failL : Bool := false
  fail : Bool := false
  nextP : Nat := 0
  nextL : Nat := 0
deriving DecidableEq, Repr

/-- Safety state. -/
structure SafSt where
  /-- Channel P and channel L. -/
  chan : Vector ChanSt 2 := Vector.replicate 2 {}
  staged : Option (List (Nat × Nat)) := none
  /-- A block that the next tick makes active (R427). -/
  activate : Bool := false
  /-- The block in flash and whether its CRC holds. -/
  flash : Option (List (Nat × Nat)) := none
  flashGood : Bool := true
  /-- The cross-check is armed: the L-channel has answered the P-channel's first word (R458). -/
  armed : Bool := false
  password : Option (List Byte × List Byte) := none
  fails : Nat := 0
  lockouts : Nat := 0
  /-- End of the running lockout. -/
  lockedUntil : Option Nat := none
  /-- The session logged in, its latest SAFETY command, and whether the login was without password. -/
  login : Option (Nat × Nat × Bool) := none
  log : List SafLog := []
  logCount : Nat := 0
  copies : List TelCopies := []
  /-- Per network: time since which its copies have been missing while the other's arrive; lost. -/
  missFrom : Vector (Option Nat) 2 := Vector.replicate 2 none
  lost : Vector Bool 2 := Vector.replicate 2 false
  so : Vector SoSt 2 := Vector.replicate 2 {}
  lTemp : Int := 0
  lWarn : Bool := false
  /-- Degraded causes have all been clear since; exit of the last degraded mode. -/
  clearFrom : Option Nat := none
  exitAt : Option Nat := none
  expired : Bool := false
  resetNeeded : Bool := false
  /-- SEQ of the latest report (R421). -/
  reportSeq : Nat := 0
  /-- Groups, SS1 and SLS of the last event 0x7081. -/
  lastEvt : Nat := 0xFFFF
  /-- L3 placed on the engines' reaction inputs by SS1-t, per group (R411). -/
  quick : BitVec 16 := 0
deriving DecidableEq, Repr

end Sys2Proof.Machine
end

