-- ==== Sys2Proof/Machine/Parts/Security.lean ====
section
/-! DEFINITION. The state of security (chapter 19): fuses, boot directory, slots, stored records,
sessions and line keys. -/

namespace Sys2Proof.Machine

/-- A firmware slot (R476 to R478): its header's fields and the checks' outcomes. -/
structure SlotSt where
  /-- The slot's bytes from offset 0, as far as they matter to the checks. -/
  image : List Byte := []
  /-- Bytes written by FILE_WRITE and not yet closed. -/
  version : Nat := 0
  svn : Nat := 0
  keyIdx : Nat := 0
  /-- MAGIC, key hash and revocation, SIG and DIGEST hold (R478). -/
  good : Bool := false
  /-- A page failed its page-table entry (R478). -/
  bad : Bool := false
deriving DecidableEq, Repr

/-- A session (R487 to R489). -/
structure Session where
  id : Nat
  mbx : Nat
  owner : Owner
  /-- Network and address of a network session. -/
  net : Nat := 0
  peerMac : Nat := 0
  peerIp : Nat := 0
  peerPort : Nat := 0
  wanted : Nat := 0
  rights : Nat := 0
  proved : Bool := false
  cred : Nat := 0xFF
  lastCmd : Nat := 0
  /-- H and the device signature, which PROVE verifies against (R487). -/
  hash : List Byte := []
  devSig : List Byte := []
  /-- The 64 derived key bytes of a network session (R488). -/
  keys : List Byte := []
  txCounter : Nat := 1
  rxTop : Nat := 0
  rxSeen : List Nat := []
  subs : List Sub := []
  evts : List EvtRec := []
  evtDropped : Bool := false
  /-- Device time since which a record has waited, and SEQ of the event datagrams (R379). -/
  evtFrom : Nat := 0
  evtSeq : Nat := 0
  /-- The session ends at the tick after the response (R485). -/
  ending : Bool := false
deriving DecidableEq, Repr

/-- A registered operator (R486). -/
structure Operator where
  rights : Nat := 0
  key : List Byte := []
deriving DecidableEq, Repr

/-- Security state. -/
structure SecSt where
  revoke : BitVec 4 := 0
  svnMin : Nat := 0
  cur : Nat := 0
  next : Option Nat := none
  tried : Bool := false
  dirSeq : Nat := 0
  slots : Vector SlotSt 2 := Vector.replicate 2 {}
  running : Nat := 0
  fallback : Bool := false
  rollback : Bool := false
  /-- The slot not CUR was written, closed and found valid (R480). -/
  closedOk : Bool := false
  /-- NEXT takes effect at a live firmware restart (R480). -/
  liveNext : Bool := false
  owned : Bool := false
  ownerKey : List Byte := []
  ownerEpoch : Nat := 0
  operators : Vector Operator 8 := Vector.replicate 8 {}
  sessions : List Session := []
  nextSession : Nat := 1
  /-- Device times of failed PROVEs, latest first (R491). -/
  failAt : List Nat := []
  failCount : Nat := 0
  lockedUntil : Option Nat := none
  lineKeys : Vector (Option (List Byte)) 4 := Vector.replicate 4 none
  /-- Line-key changes that take effect at the next tick (R492). -/
  keyChange : List (Nat × Option (List Byte)) := []
  /-- Latest raise of 0x8005 per index (R492). -/
  keyFaultAt : Vector (Option Nat) 4 := Vector.replicate 4 none
  bundleLast : Nat := 0
  /-- Bundle groups still committing (R494). -/
  bundling : Bool := false
  /-- SAVE runs after the last of them (R494). -/
  bundleSave : Bool := false
  jtagOpen : Bool := true
  /-- Every session ends at the tick after this response (R485). -/
  endAll : Bool := false
deriving DecidableEq, Repr

end Sys2Proof.Machine
end

