-- ==== Sys2Proof/Machine/Parts/Tracking.lean ====
section
/-! DEFINITION. The state of the tracking unit (chapter 11): contexts, zones, compare events and hand-offs.
Path positions are integers in units of 2^-32 µm. -/

namespace Sys2Proof.Machine

/-- STATE of a context (R281), in code order. -/
inductive CtxState
  | free | active | exporting
deriving DecidableEq, Repr

/-- A compare event and its CMPST bits (R281, R292). -/
structure CmpEv where
  zone : Nat := 0
  act : Nat := 0
  target : Nat := 0
  width : Nat := 0
  pos : Nat := 0
  armed : Bool := false
  done : Bool := false
  late : Bool := false
  skipped : Bool := false
  /-- Written since the latest run (R294). -/
  fresh : Bool := false
  /-- The context has been in the event's zone (R292). -/
  been : Bool := false
deriving DecidableEq, Repr

/-- A tracking context (R281). -/
structure Ctx where
  state : CtxState := .free
  flags : BitVec 8 := 0
  zone : Nat := 0
  prev : Nat := 0xFF
  objId : Nat := 0
  pos : Int := 0
  len : Nat := 0
  route : BitVec 32 := 0
  vel : Int := 0
  gen : Nat := 0
  sensed : Nat := 0xFF
  corr : Int := 0
  misses : Nat := 0
  ev : Vector CmpEv 4 := Vector.replicate 4 {}
  age : Nat := 0
  /-- RSEQ echoed in the summary (R306). -/
  rseq : Nat := 0
  /-- Created or imported in this run: step 2 skips it (R284). -/
  fresh : Bool := false
  /-- Entered an export zone in this run (R303). -/
  entered : Bool := false
deriving DecidableEq, Repr

/-- A zone: its motion in the latest run and its counts (R277, R278, R307). -/
structure ZoneSt where
  /-- Displacement and speed of the latest run: 2^-32 µm, and µm/s. -/
  dx : Int := 0
  v : Rat := 0
  /-- Moved on an estimate in the latest run. -/
  est : Bool := false
  /-- Latch instant t0 of the source (R281). -/
  t0 : Nat := 0
  driverRaised : Bool := false
  matched : Nat := 0
  unexp : Nat := 0
  missed : Nat := 0
  /-- Latest 0x4002 and event 0x4086 of the zone (R289). -/
  unexpAt : Option Nat := none
deriving DecidableEq, Repr

/-- A zone sensor edge waiting for the run of its frame (R287): sensor code of `TOPO.Zn.SENSOR`. -/
structure ZEdge where
  sensor : Nat
  level : Bool
  stamp : Nat
deriving DecidableEq, Repr

/-- A pulse's return change (R295): stage output (axis number) or field output, level and instant. -/
structure PulseRet where
  field : Bool
  target : Nat
  level : Bool
  tm : Nat
deriving DecidableEq, Repr

/-- A call that the next tick applies (R282). -/
inductive TrkCall
  | create (zone objId : Nat) (pos : Int) (len route : Nat)
  | delete (ctx gen : Nat)
  | modify (ctx gen mask objId route len : Nat)
  | setEv (ctx gen idx : Nat) (ev : CmpEv)
  | flush
deriving DecidableEq, Repr

/-- A hand-off record sent and not yet acknowledged (R303, R305). -/
structure HandOff where
  seq : Nat
  zone : Nat
  rcd : List Byte
  sentAt : Nat
  tries : Nat := 0
deriving DecidableEq, Repr

/-- Tracking state. -/
structure TrkSt where
  ctx : Vector Ctx 256 := Vector.replicate 256 {}
  zones : Vector ZoneSt 160 := Vector.replicate 160 {}
  edges : List ZEdge := []
  /-- Calls with the mailbox to answer, in order of acceptance. -/
  calls : List (Nat × TrkCall) := []
  /-- Calls that a tick has committed, for the run of its frame. -/
  due : List (Nat × TrkCall) := []
  /-- Contexts that calls, imports or hand-off outcomes have changed, not yet carried by an image (R390). -/
  touched : List Nat := []
  /-- Hand-off and ACK records received: port, arrival time, bytes. -/
  inbox : List (Nat × Nat × List Byte) := []
  out : List HandOff := []
  /-- Sequence number of the next new record (R303). -/
  seq : Nat := 0
  /-- Records imported in the last second: OBJ_ID, NT, and device time (R304). -/
  recent : List (Nat × Nat × Nat) := []
  returns : List PulseRet := []
  deferred : Nat := 0
  lateCnt : Nat := 0
  runFc : Nat := 0
  /-- Requests of events with action 3 and 4 for the next frame's trajectory run (R296): axis, pause. -/
  requests : List (Nat × Bool) := []
deriving DecidableEq, Repr

end Sys2Proof.Machine
end

