-- ==== Sys2Proof/Machine/Parts/Twin.lean ====
section
/-! DEFINITION. The state of a twin pair at one of its devices (chapter 15). -/

namespace Sys2Proof.Machine

/-- Twin states (R387), in code order. -/
inductive TwinState
  | solo | syncing | standby | active | isolated
deriving DecidableEq, Repr

/-- A VAR item (R393): number, and the FC of the image that first carried it. -/
structure VarItem where
  num : Nat
  fc : Option Nat := none
  /-- The parameter group that the item is. -/
  grp : Option Nat := none
  bytes : List Byte := []
deriving DecidableEq, Repr

/-- Twin state of the device. -/
structure TwinSt where
  state : TwinState := .solo
  epoch : Nat := 0
  /-- Highest epoch seen, with the tick of the STAT: the last 4 periods (R396). -/
  seen : List (Nat × Nat) := []
  partner : Nat := 5
  /-- The condition of `TWIN.START_WAIT` has held since. -/
  startFrom : Option Nat := none
  imgSize : Nat := 0
  imgMiss : Nat := 0
  imgBad : Nat := 0
  noCommit : Nat := 0
  commitRun : Nat := 0
  lastFc : Option Nat := none
  /-- The last committed image carried RESIGN. -/
  resigned : Bool := false
  bulk : Bool := false
  bulkDone : Bool := false
  bulkSent : Nat := 0
  split : Bool := false
  splitGood : Nat := 0
  /-- Frames since the last valid burst on each link. -/
  dry : Vector Nat 2 := Vector.replicate 2 4
  /-- Words received on each link for the image being received: FC and bytes. -/
  half : Vector (Option (Nat × List Byte)) 2 := Vector.replicate 2 none
  /-- Device time at which the words of each link arrived. -/
  halfAt : Vector Nat 2 := Vector.replicate 2 0
  retMiss : Nat := 8
  /-- From the return block: last committed FC, links UP, fresh leases (R392). -/
  retFc : Nat := 0
  retUp : BitVec 32 := 0
  retFresh : BitVec 32 := 0
  /-- A return block arrived since the latest tick. -/
  retGot : Bool := false
  /-- Consecutive images that the partner's blocks show committed, and the FC of the block before (R399). -/
  retRun : Nat := 0
  retFcPrev : Nat := 0
  /-- Ticks of the frames in which an image was judged, and a snapshot taken. -/
  comTick : Option Nat := none
  snapTick : Option Nat := none
  /-- What the last image knew of each axis's queue, homing and gear constants (R390). -/
  axSig : Vector (List Nat) 128 := Vector.replicate 128 []
  failovers : Nat := 0
  trkDiff : Nat := 0
  splitLease : Nat := 0
  /-- This device resigns: RESIGN goes into the next image; it has been sent. -/
  resign : Bool := false
  resignSent : Bool := false
  items : List VarItem := []
  nextItem : Nat := 0
  applied : List Nat := []
  /-- Wake decisions of a standby's Percolator on their way to the active (R466). -/
  wakePass : BitVec 8 := 0
  /-- Groups that the latest image carried (R394). -/
  carried : List Nat := []
  slice : Nat := 0
  /-- The conditions of R384 that the partner's blocks show hold. -/
  pairOk : Bool := true
deriving DecidableEq, Repr

end Sys2Proof.Machine
end

