-- ==== Sys2Proof/Machine/State.lean ====
section
/-! DEFINITION. The state of the device: everything the spec gives it, the queue of waiting commands, and
two fields of the model's own (the free-value counter and the record of what left the device). -/

namespace Sys2Proof.Machine

/-- Why the device stops with a fault. No command of the NK9128 stops it: the spec gives every command an
effect or none at all, so this type has one reason that no meaning raises. -/
inductive Fault
  /-- Raised by nothing (safe). -/
  | none
deriving DecidableEq, Repr

/-- Why a command has no meaning in the model. -/
inductive Refusal
  /-- An arm of `exec` whose command has no meaning yet raises it (safe). -/
  | notModelled (mnemonic : String)
deriving DecidableEq, Repr

/-- The state of the device.  Every field after the identity is at its value right after power-on. -/
structure State where
  /-- Device time NT in ns (R16). -/
  nt : Nat := 0
  /-- Order code NK9128-IB; false for the NK9128-IN (R1, R2).  DESIGN CHOICE (log 148): R1 names two order codes and
  neither as the one; the state right after power-on is that of an NK9128-IB. -/
  ib : Bool := true
  /-- Unit serial and MAC addresses, written at manufacture. -/
  serial : Nat := 0
  macA : Nat := 0
  macB : Nat := 0
  frame : FrameSt := {}
  host : HostSt := {}
  pi : PiSt := {}
  mbx : Vector Mbx 16 := Vector.replicate 16 {}
  par : ParSt := {}
  flt : FaultSt := {}
  pwr : PwrSt := {}
  sec : SecSt := {}
  links : Vector LinkSt 32 := Vector.replicate 32 {}
  axes : Vector Axis 128 := Vector.replicate 128 {}
  pins : Vector PinSt 8 := Vector.replicate 8 {}
  ports : Vector PortSt 4 := Vector.replicate 4 {}
  trk : TrkSt := {}
  fio : FioSt := {}
  cap : CapSt := {}
  net : NetSt := {}
  twin : TwinSt := {}
  saf : SafSt := {}
  age : AgeSt := {}
  /-- The model's own: the counter that free values are drawn with. -/
  freeCtr : Nat := 0
  /-- The model's own: what has left the device, oldest first. -/
  out : List Out := []
  /-- The commands that are waiting, first in, first out. -/
  pending : List Instr := []
deriving DecidableEq, Repr

/-- The device right after power-on: in reset, no supply valid, no command waiting. -/
def State.reset : State := {}

end Sys2Proof.Machine
end

