-- ==== Sys2Proof/Machine/Ops.lean ====
section
/-! DEFINITION. The named operations over the state: one update per part, device time, free values, the
frame's instants, and what leaves the device. -/

namespace Sys2Proof.Machine

/-! Updates of one part. -/

/-- Update of the host access. -/
def State.modHost (s : State) (f : HostSt → HostSt) : State := { s with host := f s.host }
/-- Update of the process image control. -/
def State.modPi (s : State) (f : PiSt → PiSt) : State := { s with pi := f s.pi }
/-- Update of the parameter store. -/
def State.modPar (s : State) (f : ParSt → ParSt) : State := { s with par := f s.par }
/-- Update of the fault unit. -/
def State.modFlt (s : State) (f : FaultSt → FaultSt) : State := { s with flt := f s.flt }
/-- Update of the power state. -/
def State.modPwr (s : State) (f : PwrSt → PwrSt) : State := { s with pwr := f s.pwr }
/-- Update of the security state. -/
def State.modSec (s : State) (f : SecSt → SecSt) : State := { s with sec := f s.sec }
/-- Update of the frame. -/
def State.modFrame (s : State) (f : FrameSt → FrameSt) : State := { s with frame := f s.frame }
/-- Update of the tracking unit. -/
def State.modTrk (s : State) (f : TrkSt → TrkSt) : State := { s with trk := f s.trk }
/-- Update of the field I/O. -/
def State.modFio (s : State) (f : FioSt → FioSt) : State := { s with fio := f s.fio }
/-- Update of the capture unit. -/
def State.modCap (s : State) (f : CapSt → CapSt) : State := { s with cap := f s.cap }
/-- Update of the networks. -/
def State.modNet (s : State) (f : NetSt → NetSt) : State := { s with net := f s.net }
/-- Update of the twin state. -/
def State.modTwin (s : State) (f : TwinSt → TwinSt) : State := { s with twin := f s.twin }
/-- Update of the safety channels. -/
def State.modSaf (s : State) (f : SafSt → SafSt) : State := { s with saf := f s.saf }
/-- Update of the ageing state. -/
def State.modAge (s : State) (f : AgeSt → AgeSt) : State := { s with age := f s.age }
/-- Update of mailbox `m`. -/
def State.modMbx (s : State) (m : Fin 16) (f : Mbx → Mbx) : State :=
  { s with mbx := s.mbx.set m (f s.mbx[m]) }
/-- Update of link `l`. -/
def State.modLink (s : State) (l : Fin 32) (f : LinkSt → LinkSt) : State :=
  { s with links := s.links.set l (f s.links[l]) }
/-- Update of axis `a`. -/
def State.modAxis (s : State) (a : Fin 128) (f : Axis → Axis) : State :=
  { s with axes := s.axes.set a (f s.axes[a]) }
/-- Update of trip pin `p`. -/
def State.modPin (s : State) (p : Fin 8) (f : PinSt → PinSt) : State :=
  { s with pins := s.pins.set p (f s.pins[p]) }
/-- Update of line encoder port `p`. -/
def State.modPort (s : State) (p : Fin 4) (f : PortSt → PortSt) : State :=
  { s with ports := s.ports.set p (f s.ports[p]) }

/-! Bounded counters and numbers. -/

/-- A 32-bit count by one: what it reads after 2^32 - 1 is open. -/
def count32 (n : Nat) : Nat := if n + 1 < 2 ^ 32 then n + 1 else Config.counterTop n

/-- A count that saturates at `top`. -/
def countSat (top n : Nat) : Nat := if n < top then n + 1 else top

/-- Times of a list within the last `w` ns before `tm`. -/
def within (w tm : Nat) (l : List Nat) : List Nat := l.filter (fun t => tm < t + w)

/-- The first `n` entries after a new one. -/
def pushN {α : Type} (n : Nat) (x : α) (l : List α) : List α := (x :: l).take n

/-- An index held below a bound. -/
def fin (n : Nat) (h : 0 < n) (i : Nat) : Fin n := ⟨i % n, Nat.mod_lt i h⟩

/-- Axis number `i` modulo 128. -/
def axisNo (i : Nat) : Fin 128 := fin 128 (by decide) i
/-- Link number `i` modulo 32. -/
def linkNo (i : Nat) : Fin 32 := fin 32 (by decide) i
/-- The link of an axis (R12). -/
def linkOf (a : Fin 128) : Fin 32 := linkNo (a.val / 4)
/-- The slot of an axis on its link (R12). -/
def slotOf (a : Fin 128) : Fin 4 := fin 4 (by decide) a.val
/-- The cluster of an axis (R12). -/
def clusterOf (a : Fin 128) : Fin 8 := fin 8 (by decide) (a.val / 16)
/-- The cluster of a link (R12). -/
def clusterOfLink (l : Fin 32) : Fin 8 := fin 8 (by decide) (l.val / 4)
/-- The axis of a slot of a link. -/
def axisAt (l : Fin 32) (k : Nat) : Fin 128 := axisNo (l.val * 4 + k % 4)
/-- The axes of a link. -/
def linkAxes (l : Fin 32) : List (Fin 128) := (List.range 4).map (axisAt l)
/-- The axes of a cluster. -/
def clusterAxes (c : Fin 8) : List (Fin 128) := (List.range 16).map (fun i => axisNo (c.val * 16 + i))
/-- The links of a cluster. -/
def clusterLinks (c : Fin 8) : List (Fin 32) := (List.range 4).map (fun i => linkNo (c.val * 4 + i))
/-- Every axis. -/
def allAxes : List (Fin 128) := (List.range 128).map axisNo
/-- Every link. -/
def allLinks : List (Fin 32) := (List.range 32).map linkNo
/-- Every cluster. -/
def allClusters : List (Fin 8) := (List.range 8).map (fin 8 (by decide))
/-- Every mailbox. -/
def allMbx : List (Fin 16) := (List.range 16).map (fin 16 (by decide))
/-- Every trip pin. -/
def allPins : List (Fin 8) := (List.range 8).map (fin 8 (by decide))

/-- A state change repeated over a list. -/
def State.each {α : Type} (s : State) (l : List α) (f : State → α → State) : State := l.foldl f s

/-! Time. -/

/-- Device time reaches `tm`; it never goes back but by a step of the time base (R366). -/
def State.adv (s : State) (tm : Nat) : State := { s with nt := max s.nt tm }

/-- The frame period in force in ns (R24). -/
def tfOf (code : Nat) : Nat := if code = 0 then 25000 else if code = 1 then 50000 else 100000

/-- Tf in ns. -/
def State.tf (s : State) : Nat := tfOf s.frame.tf

/-- FC of the present frame (R21). -/
def State.fc (s : State) : Nat := s.frame.fc % 2 ^ 32

/-- The actuation instant of the present frame (R25). -/
def State.act (s : State) : Nat := s.frame.tick + 14000

/-- Device time of tick FC + n. -/
def State.tickAt (s : State) (n : Nat) : Nat := s.frame.tick + n * s.tf

/-! Free values. -/

/-- A number the spec leaves open. -/
def State.drawNat (s : State) : Nat × State :=
  (Config.freeNat s.freeCtr, { s with freeCtr := s.freeCtr + 1 })

/-- A truth value the spec leaves open. -/
def State.drawBool (s : State) : Bool × State :=
  (Config.freeBool s.freeCtr, { s with freeCtr := s.freeCtr + 1 })

/-- A rational the spec leaves open. -/
def State.drawRat (s : State) : Rat × State :=
  (Config.freeRat s.freeCtr, { s with freeCtr := s.freeCtr + 1 })

/-- Something leaves the device. -/
def State.emit (s : State) (o : Out) : State := { s with out := s.out ++ [o] }

/-! Domains (R8, R460): AX0 to AX7, CORE, SAFEC, NETA, NETB, TRK, CAP, CRY, TWIN. -/

/-- Domain `d` is switched on and usable. -/
def State.domainOn (s : State) (d : Nat) : Bool :=
  s.pwr.domains.getLsbD d && !(s.pwr.switching.any (fun x => x.1 == d))

/-- The AX domain of a cluster is powered. -/
def State.axOn (s : State) (c : Fin 8) : Bool := s.domainOn c.val

/-- The firmware runs: not in reset, BOOT or SERVICE (R43, R49). -/
def State.fwRuns (s : State) : Bool :=
  match s.pwr.state with
  | .ristretto | .config | .operate | .safe => s.domainOn 8 && !s.pwr.deep.exits
  | .reset | .boot | .service => false

/-- The device drives its stages: SOLO or ACTIVE (R388). -/
def State.drives (s : State) : Bool := s.twin.state == .solo || s.twin.state == .active

/-- Addressed bytes: the byte at `i`, 0 where nothing is listed. -/
def Mem.get (m : Mem) (i : Nat) : Byte :=
  match m with
  | [] => 0
  | (j, b) :: rest => if i = j then b else if i < j then 0 else Mem.get rest i

/-- Addressed bytes after a write: rising addresses, no listed zero. -/
def Mem.put (m : Mem) (i : Nat) (v : Byte) : Mem :=
  match m with
  | [] => if v = 0 then [] else [(i, v)]
  | (j, b) :: rest =>
    if i < j then (if v = 0 then (j, b) :: rest else (i, v) :: (j, b) :: rest)
    else if i = j then (if v = 0 then rest else (i, v) :: rest)
    else (j, b) :: Mem.put rest i v

/-- The canonical form: addresses strictly rising from `lo` on, and no listed zero. -/
def Mem.ok (lo : Nat) : Mem → Bool
  | [] => true
  | (j, b) :: rest => decide (lo ≤ j) && decide (b ≠ 0) && Mem.ok (j + 1) rest

/-- The canonical form of addressed bytes. -/
def Mem.wf (m : Mem) : Bool := Mem.ok 0 m

/-- Bytes written from an offset on. -/
def Mem.puts (m : Mem) (i : Nat) (bs : List Byte) : Mem :=
  match bs with
  | [] => m
  | b :: rest => Mem.puts (Mem.put m i b) (i + 1) rest

/-- `n` bytes from an offset on. -/
def Mem.gets (m : Mem) (i n : Nat) : List Byte := (List.range n).map (fun k => Mem.get m (i + k))

/-- The 32-bit word at an offset. -/
def Mem.word (m : Mem) (i : Nat) : Word := BitVec.ofNat 32 (leNat (Mem.gets m i 4))

/-- Addressed bytes that hold a list of bytes from 0 on. -/
def Mem.ofList (bs : List Byte) : Mem := Mem.puts [] 0 bs

/-- Addressed words: the word at `i`, 0 where nothing is listed. -/
def wordGet (m : List (Nat × Word)) (i : Nat) : Word :=
  match m with
  | [] => 0
  | (j, w) :: rest => if i = j then w else if i < j then 0 else wordGet rest i

/-- Addressed words after a write: rising addresses, no listed zero. -/
def wordPut (m : List (Nat × Word)) (i : Nat) (v : Word) : List (Nat × Word) :=
  match m with
  | [] => if v = 0 then [] else [(i, v)]
  | (j, w) :: rest =>
    if i < j then (if v = 0 then (j, w) :: rest else (i, v) :: (j, w) :: rest)
    else if i = j then (if v = 0 then rest else (i, v) :: rest)
    else (j, w) :: wordPut rest i v

/-- The canonical form of addressed words: addresses rising from `lo` on, no listed zero. -/
def wordsOk (lo : Nat) : List (Nat × Word) → Bool
  | [] => true
  | (j, w) :: rest => decide (lo ≤ j) && decide (w ≠ 0) && wordsOk (j + 1) rest

/-- Words written from an address on. -/
def wordPuts (m : List (Nat × Word)) (i : Nat) : List Word → List (Nat × Word)
  | [] => m
  | w :: rest => wordPuts (wordPut m i w) (i + 1) rest

/-- A field of a byte list: `n` bytes from `i`, least significant first; missing bytes read 0. -/
def fld (bs : List Byte) (i n : Nat) : Nat := leNat ((bs.drop i).take n)

end Sys2Proof.Machine
end

