-- ==== Sys2Proof/Machine/Real.lean ====
section
/-! DEFINITION. The real functions that the spec names (roots, 2 pi, sine, tangent, arc tangent, powers), as
rationals: exact where the value is rational and easily known, else to better than 2^-60 of the value.  The spec
states no rounding for them (assumption log). -/

namespace Sys2Proof.Machine

/-- The digits of an integer square root, from bit `k` down. -/
def isqrtFrom (n : Nat) : Nat → Nat → Nat
  | 0, r => r
  | k + 1, r => let t := r + 2 ^ k; isqrtFrom n k (if t * t ≤ n then t else r)

/-- The integer square root. -/
def isqrt (n : Nat) : Nat := isqrtFrom n (Nat.log2 n / 2 + 1) 0

/-- A square root: exact where the argument is the square of a rational. -/
def sqrtQ (q : Rat) : Rat :=
  let n := q.num.toNat
  let a := isqrt n
  let b := isqrt q.den
  if a * a = n ∧ b * b = q.den then (a : Rat) / (b : Rat)
  else (isqrt (n * q.den * 2 ^ 128) : Rat) / ((q.den * 2 ^ 64 : Nat) : Rat)

/-- Pi. -/
def piQ : Rat := 3141592653589793238462643383279502884197 / 1000000000000000000000000000000000000000

/-- The natural logarithm of 2. -/
def ln2Q : Rat := 693147180559945309417232121458176568076 / 1000000000000000000000000000000000000000

/-- The one of the fixed point in which the series are summed. -/
def fxOne : Int := 2 ^ 96

/-- A rational in that fixed point. -/
def fx (q : Rat) : Int := (q * (fxOne : Rat)).floor

/-- And back. -/
def unfx (i : Int) : Rat := (i : Rat) / (fxOne : Rat)

/-- A product in fixed point. -/
def fxMul (a b : Int) : Int := a * b / fxOne

/-- The terms of a sine or cosine series from `t` = x^k / k! on, with x2 = x^2. -/
def trigSeries (x2 : Int) : Nat → Int → Int → Int
  | 0, _, _ => 0
  | f + 1, k, t => t + trigSeries x2 f (k + 2) (-(fxMul t x2) / ((k + 1) * (k + 2)))

/-- (2 pi)^n times q. -/
def twoPi (n : Int) (q : Rat) : Rat :=
  let p := 2 * piQ
  if 0 ≤ n then p ^ n.toNat * q else q / p ^ n.natAbs

/-- The sine of an angle given in turns. -/
def sineTurns (t : Rat) : Rat :=
  let r := t - (t.floor : Rat)
  let q := (4 * r).floor
  let x := fx (2 * piQ * (r - (q : Rat) / 4))
  let x2 := fxMul x x
  let s := trigSeries x2 24 1 x
  let c := trigSeries x2 24 0 fxOne
  unfx (if q = 0 then s else if q = 1 then c else if q = 2 then -s else -c)

/-- The tangent of pi times the argument. -/
def tanPi (x : Rat) : Rat := sineTurns (x / 2) / sineTurns (x / 2 + 1 / 4)

/-- The terms of z - z^3/3 + z^5/5 ..., with `t` = z^k and z2 = z^2. -/
def atanSeries (z2 : Int) : Nat → Int → Int → Int
  | 0, _, _ => 0
  | f + 1, k, t => t / k + atanSeries z2 f (k + 2) (-(fxMul t z2))

/-- The arc tangent in degrees of an argument from 0 to 1: two half-angle steps, then the series. -/
def atanUnit (z : Rat) : Rat :=
  if z = 0 then 0 else if z = 1 then 45
  else
    let half (y : Rat) : Rat := unfx (fx (y / (1 + sqrtQ (1 + y * y))))
    let w := fx (half (half z))
    4 * unfx (atanSeries (fxMul w w) 24 1 w) * 180 / piQ

/-- The arc tangent in degrees. -/
def atanDeg (q : Rat) : Rat :=
  let a := if q < 0 then -q else q
  let d := if a ≤ 1 then atanUnit a else 90 - atanUnit (1 / a)
  if q < 0 then -d else d

/-- The angle of (sine, cosine) in degrees, in (-180, 180]; 0 where both are 0. -/
def atan2Deg (s c : Int) : Rat :=
  if c = 0 then (if 0 < s then 90 else if s < 0 then -90 else 0)
  else
    let d := atanDeg ((s : Rat) / (c : Rat))
    if 0 < c then d else if 0 ≤ s then d + 180 else d - 180

/-- The terms of e^x from `t` = x^k / k! on. -/
def expSeries (x : Int) : Nat → Int → Int → Int
  | 0, _, _ => 0
  | f + 1, k, t => t + expSeries x f (k + 1) (fxMul t x / (k + 1))

/-- The exponential function. -/
def expQ (x : Rat) : Rat :=
  let n := (x / ln2Q).floor
  let r := unfx (expSeries (fx (x - (n : Rat) * ln2Q)) 32 0 fxOne)
  if 0 ≤ n then r * ((2 ^ n.toNat : Nat) : Rat) else r / ((2 ^ n.natAbs : Nat) : Rat)

/-- The terms of y + y^3/3 + y^5/5 ..., with `t` = y^k and y2 = y^2. -/
def atanhSeries (y2 : Int) : Nat → Int → Int → Int
  | 0, _, _ => 0
  | f + 1, k, t => t / k + atanhSeries y2 f (k + 2) (fxMul t y2)

/-- The natural logarithm of a positive number. -/
def lnQ (b : Rat) : Rat :=
  let e : Int := (Nat.log2 b.num.toNat : Int) - (Nat.log2 b.den : Int)
  let m := if 0 ≤ e then b / ((2 ^ e.toNat : Nat) : Rat) else b * ((2 ^ e.natAbs : Nat) : Rat)
  let y := fx ((m - 1) / (m + 1))
  (e : Rat) * ln2Q + 2 * unfx (atanhSeries (fxMul y y) 40 1 y)

/-- The power b^x of a positive base. -/
def powerQ (b x : Rat) : Rat := if x = 0 then 1 else expQ (x * lnQ b)

end Sys2Proof.Machine
end

