-- ==== Sys2Proof/Machine/Flags.lean ====
section
/-! DEFINITION. The interrupt flags (R44), the event queue (R46), and the checks that ride on data: the
CRCs of chapters 04, 16 and 19, and the F32 format. -/

namespace Sys2Proof.Machine

/-- The interrupt bits mapped to MSI vector `v` (R43, R44): bits [15:0], [16], [18:17] and [24:19]
by the four fields of IRQ_VECTOR, taken modulo the number granted. -/
def irqMask (vec : Word) (granted v : Nat) : Word :=
  let g := if granted = 0 then 1 else granted
  let at_ (lo : Nat) : Bool := bits vec.toNat (lo + 1) lo % g == v
  (if at_ 0 then 0x0000FFFF#32 else 0) ||| (if at_ 2 then 0x00010000#32 else 0) |||
  (if at_ 4 then 0x00060000#32 else 0) ||| (if at_ 6 then 0x01F80000#32 else 0)

/-- nIRQ is driven low (R44). -/
def State.nIrqLow (s : State) : Bool := (s.host.irqStatus &&& s.host.irqEnable) != 0

/-- A change of the interrupt registers, with the MSIs of the first case of R44. -/
def State.irqSet (s : State) (st en vec : Word) : State :=
  let s' := s.modHost fun h => { h with irqStatus := st, irqEnable := en, irqVector := vec }
  if s.host.msiOn && s.host.pcieUp then
    s'.each (List.range s.host.msiGranted) fun t v =>
      let old := s.host.irqStatus &&& s.host.irqEnable &&& irqMask s.host.irqVector s.host.msiGranted v
      let new := st &&& en &&& irqMask vec s.host.msiGranted v
      if old == 0 && new != 0 then t.emit (.msi v) else t
  else s'

/-- A cause sets its bits in IRQ_STATUS (R44). -/
def State.irq (s : State) (b : Word) : State :=
  s.irqSet (s.host.irqStatus ||| b) s.host.irqEnable s.host.irqVector

/-- The bit of an interrupt cause. -/
def irqBit (n : Nat) : Word := 1#32 <<< n

/-- A subscription list names the event (R53). -/
def subscribed (l : List Sub) (code inst : Nat) : Bool :=
  l.any fun x => x.code == code && (x.inst == 0xFF || x.inst == inst)

/-- An event record enters a queue of 64, or is dropped (R46). -/
def queueEvt (q : List EvtRec) (dropped : Bool) (r : EvtRec) : List EvtRec × Bool :=
  if q.length < 64 then (q ++ [{ r with lostBefore := dropped }], false) else (q, true)

/-- An event record enters the shared queue of the local paths (R46). -/
def State.queueLocal (s : State) (r : EvtRec) : State :=
  if s.host.evt.length < 64 then
    (s.modHost fun h =>
      { h with evt := h.evt ++ [{ r with lostBefore := h.evtDropped }], evtDropped := false }).irq (irqBit 16)
  else s.modHost fun h => { h with evtLost := countSat 0xFFFFFFFF h.evtLost, evtDropped := true }

/-- An event record enters the queues of the network sessions that take it (R46, R379). -/
def State.queueNet (s : State) (r : EvtRec) (always : Bool) : State :=
  s.modSec fun k => { k with sessions := k.sessions.map fun x =>
    if x.owner == .net && (always || subscribed x.subs r.code r.inst) then
      let q := queueEvt x.evts x.evtDropped r
      { x with evts := q.1, evtDropped := q.2, evtFrom := if x.evts.isEmpty then s.nt else x.evtFrom }
    else x }

/-- An armed capture unit notes an event of an instant for its conditions of type 8 (R335). -/
def State.capEventAt (s : State) (kind arg tm : Nat) : State :=
  match s.cap.state with
  | .fill | .wait | .post => s.modCap fun c => { c with events := c.events ++ [(kind, arg, tm)] }
  | .idle | .done | .stopped => s

/-- An event of the present instant for the capture unit. -/
def State.capEvent (s : State) (kind arg : Nat) : State := s.capEventAt kind arg s.nt

/-- An event: always queued, or queued for its subscribers (R46).  Tracking and compare events also reach
the capture unit (R335). -/
def State.eventIf (s : State) (always : Bool) (code inst data : Nat) : State :=
  let r : EvtRec := { code := code, inst := inst, fc := s.fc, data := data % 2 ^ 64 }
  let s := if always || subscribed s.host.subsPcie code inst || subscribed s.host.subsQspi code inst
    then s.queueLocal r else s
  let s := s.queueNet r always
  if code / 256 == 0x40 || code / 256 == 0x1E then s.capEvent 6 code else s

/-- An event that only subscribers get (R46). -/
def State.event (s : State) (code inst data : Nat) : State := s.eventIf false code inst data

/-- One bit of a CRC whose register shifts left (R418, R71). -/
def crcStepL (w poly : Nat) (reg : Nat) (b : Bool) : Nat :=
  let top := reg.testBit (w - 1) != b
  let r := (reg * 2) % 2 ^ w
  if top then r ^^^ poly else r

/-- A CRC whose register shifts left, most significant bit of each byte first. -/
def crcL (w poly init : Nat) (bs : List Byte) : Nat :=
  bs.foldl (fun r b => [7, 6, 5, 4, 3, 2, 1, 0].foldl (fun r i => crcStepL w poly r (b.getLsbD i)) r) init

/-- CRC-16 of R418: polynomial 0x8BB7, initial value 0xFFFF, no reflection, no final XOR. -/
def crc16 (bs : List Byte) : Nat := crcL 16 0x8BB7 0xFFFF bs

/-- CRC-32C from a start value, before the final XOR (R418: 0x1EDC6F41 reflected). -/
def crc32cFrom (init : Nat) (bs : List Byte) : Nat :=
  bs.foldl (fun r b => (List.range 8).foldl
    (fun r i => let x := r.testBit 0 != b.getLsbD i
                if x then (r / 2) ^^^ 0x82F63B78 else r / 2) r) init

/-- CRC-32C (R418). -/
def crc32c (bs : List Byte) : Nat := crc32cFrom 0xFFFFFFFF bs ^^^ 0xFFFFFFFF

/-- 2^n as a rational, for a signed exponent. -/
def pow2 (n : Int) : Rat := if n < 0 then 1 / ((2 ^ n.natAbs : Nat) : Rat) else ((2 ^ n.natAbs : Nat) : Rat)

/-- Whether an F32 pattern is a NaN or an infinity. -/
def f32Special (w : Nat) : Bool := bits w 30 23 == 255

/-- The number an F32 pattern stands for; 0 for a NaN or an infinity. -/
def f32Dec (w : Nat) : Rat :=
  let e := bits w 30 23
  let m := bits w 22 0
  let v : Rat := if e = 255 then 0
    else if e = 0 then (m : Rat) * pow2 (-149)
    else ((m + 2 ^ 23 : Nat) : Rat) * pow2 ((e : Int) - 150)
  if bit w 31 then -v else v

/-- Rounding to the nearest integer, ties to even. -/
def roundEven (q : Rat) : Int :=
  let f := q.floor
  let r := q - (f : Rat)
  if r < 1 / 2 then f else if 1 / 2 < r then f + 1 else if f % 2 = 0 then f else f + 1

/-- The F32 pattern of a rational: IEEE-754 rounding to nearest, ties to even (R54; the spec names no rounding). -/
def f32Enc (q : Rat) : Nat :=
  let sg := if q.num < 0 then 2 ^ 31 else 0
  let a : Rat := if q < 0 then -q else q
  if q.num = 0 then 0
  else
    let e0 : Int := (Nat.log2 q.num.natAbs : Int) - (Nat.log2 q.den : Int)
    let e := if a < pow2 e0 then e0 - 1 else e0
    let x := if e < -126 then -126 else e
    let w := (x + 126).toNat * 2 ^ 23 + (roundEven (a * pow2 (23 - x))).toNat
    sg + min w 0x7F800000

/-- Rounding to the nearest integer, ties away from zero. -/
def roundAway (q : Rat) : Int := if q < 0 then -((-q + 1 / 2).floor) else (q + 1 / 2).floor

end Sys2Proof.Machine
end

