-- ==== Sys2Proof/Machine/Pid.lean ====
section
/-! DEFINITION. Parameter IDs by name (R56): class [31:24], instance [23:16], index [15:0].  `a` is the axis, `l` the link;
`i` and `j` count the members of a family from 0, in the order of their indices. -/

namespace Sys2Proof.Machine.Pid

/-- `SYS.FRAME.PERIOD` -/
def sysFramePeriod : Nat := 0x01000010
/-- `SYS.FRAME.STAT_CLR` -/
def sysFrameStatClr : Nat := 0x01000014
/-- `HOST.MBX.NET_COUNT` -/
def hostMbxNetCount : Nat := 0x02000010
/-- `HOST.WDOG.TIME` -/
def hostWdogTime : Nat := 0x02000020
/-- `HOST.PI.AXMASK_LO` -/
def hostPiAxmaskLo : Nat := 0x02000030
/-- `HOST.PI.AXMASK_HI` -/
def hostPiAxmaskHi : Nat := 0x02000031
/-- `HOST.PI.TIMEOUT` -/
def hostPiTimeout : Nat := 0x02000032
/-- `HOST.EVT.FAULT_MIN` -/
def hostEvtFaultMin : Nat := 0x02000040
/-- `LNK.ENABLE` -/
def lnkEnable (l : Nat) : Nat := 0x20000001 + l * 0x10000
/-- `LNK.ASYM` -/
def lnkAsym (l : Nat) : Nat := 0x20000010 + l * 0x10000
/-- `LNK.EQ` -/
def lnkEq (l : Nat) : Nat := 0x20000020 + l * 0x10000
/-- `LNK.ZFILTn` -/
def lnkZfilt (l j : Nat) : Nat := 0x20000050 + l * 0x10000 + j * 1
/-- `AX.PWM.M` -/
def axPwmM (a : Nat) : Nat := 0x1D000001 + a * 0x10000
/-- `AX.PWM.M_EXP` -/
def axPwmMExp (a : Nat) : Nat := 0x1D000002 + a * 0x10000
/-- `AX.PWM.VARIANT` -/
def axPwmVariant (a : Nat) : Nat := 0x1D000003 + a * 0x10000
/-- `AX.PWM.TMIN` -/
def axPwmTmin (a : Nat) : Nat := 0x1D000010 + a * 0x10000
/-- `AX.PWM.SHORTPULSE` -/
def axPwmShortpulse (a : Nat) : Nat := 0x1D000011 + a * 0x10000
/-- `AX.PWM.DT_MODE` -/
def axPwmDtMode (a : Nat) : Nat := 0x1D000020 + a * 0x10000
/-- `AX.PWM.DT_FIXED` -/
def axPwmDtFixed (a : Nat) : Nat := 0x1D000021 + a * 0x10000
/-- `AX.PWM.DT_MIN` -/
def axPwmDtMin (a : Nat) : Nat := 0x1D000022 + a * 0x10000
/-- `AX.PWM.DT_MAX` -/
def axPwmDtMax (a : Nat) : Nat := 0x1D000023 + a * 0x10000
/-- `AX.PWM.DT_MARGIN` -/
def axPwmDtMargin (a : Nat) : Nat := 0x1D000024 + a * 0x10000
/-- `AX.PWM.DT_COMP` -/
def axPwmDtComp (a : Nat) : Nat := 0x1D000025 + a * 0x10000
/-- `AX.PWM.SWAP` -/
def axPwmSwap (a : Nat) : Nat := 0x1D000030 + a * 0x10000
/-- `AX.PWM.INVERT` -/
def axPwmInvert (a : Nat) : Nat := 0x1D000031 + a * 0x10000
/-- `TRP.Pn.ENABLE` -/
def trpPEnable (i : Nat) : Nat := 0x21000100 + i * 16
/-- `TRP.Pn.ACTIVE` -/
def trpPActive (i : Nat) : Nat := 0x21000101 + i * 16
/-- `TRP.Pn.FILTER` -/
def trpPFilter (i : Nat) : Nat := 0x21000102 + i * 16
/-- `TRP.Pn.MASK` -/
def trpPMask (i : Nat) : Nat := 0x21000103 + i * 16
/-- `TRP.Pn.BLANK` -/
def trpPBlank (i : Nat) : Nat := 0x21000104 + i * 16
/-- `TRP.Pn.BLANK_EXT` -/
def trpPBlankExt (i : Nat) : Nat := 0x21000105 + i * 16
/-- `TRP.RECLEAR` -/
def trpReclear : Nat := 0x21000010
/-- `TRP.STAGE_SPREAD` -/
def trpStageSpread : Nat := 0x21000011
/-- `AX.COM.SOURCE` -/
def axComSource (a : Nat) : Nat := 0x11000001 + a * 0x10000
/-- `AX.COM.HALL_MAP` -/
def axComHallMap (a : Nat) : Nat := 0x11000002 + a * 0x10000
/-- `AX.COM.SL_MIN` -/
def axComSlMin (a : Nat) : Nat := 0x11000010 + a * 0x10000
/-- `AX.COM.CATCH_MIN` -/
def axComCatchMin (a : Nat) : Nat := 0x11000011 + a * 0x10000
/-- `AX.COM.BRAKE_MIN` -/
def axComBrakeMin (a : Nat) : Nat := 0x11000012 + a * 0x10000
/-- `AX.COM.CATCH_LISTEN` -/
def axComCatchListen (a : Nat) : Nat := 0x11000013 + a * 0x10000
/-- `AX.COM.CATCH_QUIET` -/
def axComCatchQuiet (a : Nat) : Nat := 0x11000014 + a * 0x10000
/-- `AX.COM.BRAKE_I` -/
def axComBrakeI (a : Nat) : Nat := 0x11000015 + a * 0x10000
/-- `AX.COM.BRAKE_ON` -/
def axComBrakeOn (a : Nat) : Nat := 0x11000016 + a * 0x10000
/-- `AX.COM.BRAKE_TMAX` -/
def axComBrakeTmax (a : Nat) : Nat := 0x11000017 + a * 0x10000
/-- `AX.COM.IPD_MODE` -/
def axComIpdMode (a : Nat) : Nat := 0x11000020 + a * 0x10000
/-- `AX.COM.IPD_T` -/
def axComIpdT (a : Nat) : Nat := 0x11000021 + a * 0x10000
/-- `AX.COM.IPD_MARGIN` -/
def axComIpdMargin (a : Nat) : Nat := 0x11000022 + a * 0x10000
/-- `AX.COM.START_SECTOR` -/
def axComStartSector (a : Nat) : Nat := 0x11000023 + a * 0x10000
/-- `AX.COM.ALIGN_T` -/
def axComAlignT (a : Nat) : Nat := 0x11000024 + a * 0x10000
/-- `AX.COM.START_F0` -/
def axComStartF0 (a : Nat) : Nat := 0x11000030 + a * 0x10000
/-- `AX.COM.START_WIN` -/
def axComStartWin (a : Nat) : Nat := 0x11000031 + a * 0x10000
/-- `AX.COM.START_ZC` -/
def axComStartZc (a : Nat) : Nat := 0x11000032 + a * 0x10000
/-- `AX.COM.START_I0` -/
def axComStartI0 (a : Nat) : Nat := 0x11000038 + a * 0x10000
/-- `AX.COM.START_RAMP0` -/
def axComStartRamp0 (a : Nat) : Nat := 0x1100003C + a * 0x10000
/-- `AX.COM.START_FEND0` -/
def axComStartFend0 (a : Nat) : Nat := 0x11000040 + a * 0x10000
/-- `AX.COM.ZC_BLANK` -/
def axComZcBlank (a : Nat) : Nat := 0x11000048 + a * 0x10000
/-- `AX.COM.ADV_F0` -/
def axComAdvF0 (a : Nat) : Nat := 0x11000050 + a * 0x10000
/-- `AX.COM.ADVn` -/
def axComAdv (a j : Nat) : Nat := 0x11000060 + a * 0x10000 + j * 1
/-- `LE.Pn.MODE` -/
def lePMode (i : Nat) : Nat := 0x61000100 + i * 16
/-- `LE.Pn.TMIN` -/
def lePTmin (i : Nat) : Nat := 0x61000102 + i * 16
/-- `LE.Pn.DIR` -/
def lePDir (i : Nat) : Nat := 0x61000103 + i * 16
/-- `LE.Pn.SETUP` -/
def lePSetup (i : Nat) : Nat := 0x61000104 + i * 16
/-- `LE.Pn.EDGE_LIMIT` -/
def lePEdgeLimit (i : Nat) : Nat := 0x61000105 + i * 16
/-- `AX.FBK.SOURCE` -/
def axFbkSource (a : Nat) : Nat := 0x1C000001 + a * 0x10000
/-- `AX.FBK.LE_PORT` -/
def axFbkLePort (a : Nat) : Nat := 0x1C000002 + a * 0x10000
/-- `AX.FBK.DIR` -/
def axFbkDir (a : Nat) : Nat := 0x1C000003 + a * 0x10000
/-- `AX.FBK.CPR` -/
def axFbkCpr (a : Nat) : Nat := 0x1C000004 + a * 0x10000
/-- `AX.FBK.MODULO` -/
def axFbkModulo (a : Nat) : Nat := 0x1C000005 + a * 0x10000
/-- `AX.FBK.MOD_REVS` -/
def axFbkModRevs (a : Nat) : Nat := 0x1C000006 + a * 0x10000
/-- `AX.FBK.OFFSET` -/
def axFbkOffset (a : Nat) : Nat := 0x1C000007 + a * 0x10000
/-- `AX.FBK.TMIN` -/
def axFbkTmin (a : Nat) : Nat := 0x1C000010 + a * 0x10000
/-- `AX.FBK.EDGE_LIMIT` -/
def axFbkEdgeLimit (a : Nat) : Nat := 0x1C000011 + a * 0x10000
/-- `AX.FBK.SC_NOM` -/
def axFbkScNom (a : Nat) : Nat := 0x1C000018 + a * 0x10000
/-- `AX.FBK.AMIN` -/
def axFbkAmin (a : Nat) : Nat := 0x1C000019 + a * 0x10000
/-- `AX.FBK.AMAX` -/
def axFbkAmax (a : Nat) : Nat := 0x1C00001A + a * 0x10000
/-- `AX.FBK.SC_INTERP` -/
def axFbkScInterp (a : Nat) : Nat := 0x1C00001B + a * 0x10000
/-- `AX.FBK.SER_ST_BITS` -/
def axFbkSerStBits (a : Nat) : Nat := 0x1C000020 + a * 0x10000
/-- `AX.FBK.SER_MT_BITS` -/
def axFbkSerMtBits (a : Nat) : Nat := 0x1C000021 + a * 0x10000
/-- `AX.FBK.SER_OFS` -/
def axFbkSerOfs (a : Nat) : Nat := 0x1C000022 + a * 0x10000
/-- `AX.FBK.SER_GRAY` -/
def axFbkSerGray (a : Nat) : Nat := 0x1C000023 + a * 0x10000
/-- `AX.FBK.SER_TOL` -/
def axFbkSerTol (a : Nat) : Nat := 0x1C000024 + a * 0x10000
/-- `AX.FBK.SER_CLK` -/
def axFbkSerClk (a : Nat) : Nat := 0x1C000026 + a * 0x10000
/-- `AX.FBK.ZERO_TIMEOUT` -/
def axFbkZeroTimeout (a : Nat) : Nat := 0x1C000028 + a * 0x10000
/-- `AX.FBK.VFILT` -/
def axFbkVfilt (a : Nat) : Nat := 0x1C000029 + a * 0x10000
/-- `AX.FBK.LOSS_ACTION` -/
def axFbkLossAction (a : Nat) : Nat := 0x1C000030 + a * 0x10000
/-- `AX.FBK.FROZEN_V` -/
def axFbkFrozenV (a : Nat) : Nat := 0x1C000031 + a * 0x10000
/-- `AX.FBK.FROZEN_I` -/
def axFbkFrozenI (a : Nat) : Nat := 0x1C000032 + a * 0x10000
/-- `AX.FBK.FROZEN_CTS` -/
def axFbkFrozenCts (a : Nat) : Nat := 0x1C000033 + a * 0x10000
/-- `AX.POS.BW` -/
def axPosBw (a : Nat) : Nat := 0x14000001 + a * 0x10000
/-- `AX.POS.FE_MAX` -/
def axPosFeMax (a : Nat) : Nat := 0x14000002 + a * 0x10000
/-- `AX.POS.FE_TIME` -/
def axPosFeTime (a : Nat) : Nat := 0x14000003 + a * 0x10000
/-- `AX.POS.KP` -/
def axPosKp (a : Nat) : Nat := 0x14000020 + a * 0x10000
/-- `AX.POS.KVFF` -/
def axPosKvff (a : Nat) : Nat := 0x14000021 + a * 0x10000
/-- `AX.VEL.BW` -/
def axVelBw (a : Nat) : Nat := 0x13000001 + a * 0x10000
/-- `AX.VEL.VMAX` -/
def axVelVmax (a : Nat) : Nat := 0x13000002 + a * 0x10000
/-- `AX.VEL.KP` -/
def axVelKp (a : Nat) : Nat := 0x13000020 + a * 0x10000
/-- `AX.VEL.KI` -/
def axVelKi (a : Nat) : Nat := 0x13000021 + a * 0x10000
/-- `AX.VEL.KAFF` -/
def axVelKaff (a : Nat) : Nat := 0x13000022 + a * 0x10000
/-- `AX.VEL.KFRIC` -/
def axVelKfric (a : Nat) : Nat := 0x13000023 + a * 0x10000
/-- `AX.VEL.FRIC_BAND` -/
def axVelFricBand (a : Nat) : Nat := 0x13000024 + a * 0x10000
/-- `AX.CUR.BW` -/
def axCurBw (a : Nat) : Nat := 0x12000001 + a * 0x10000
/-- `AX.CUR.ILIM` -/
def axCurIlim (a : Nat) : Nat := 0x12000002 + a * 0x10000
/-- `AX.CUR.KP` -/
def axCurKp (a : Nat) : Nat := 0x12000020 + a * 0x10000
/-- `AX.CUR.KI` -/
def axCurKi (a : Nat) : Nat := 0x12000021 + a * 0x10000
/-- `AX.CUR.FF_R` -/
def axCurFfR (a : Nat) : Nat := 0x12000022 + a * 0x10000
/-- `AX.CUR.FF_EMF` -/
def axCurFfEmf (a : Nat) : Nat := 0x12000023 + a * 0x10000
/-- `AX.CUR.VBUS_COMP` -/
def axCurVbusComp (a : Nat) : Nat := 0x12000024 + a * 0x10000
/-- `AX.FLT.F1.TYPE` -/
def axFltF1Type (a : Nat) : Nat := 0x15000010 + a * 0x10000
/-- `AX.FLT.F2.TYPE` -/
def axFltF2Type (a : Nat) : Nat := 0x15000020 + a * 0x10000
/-- `AX.RPT.ENABLE` -/
def axRptEnable (a : Nat) : Nat := 0x16000001 + a * 0x10000
/-- `AX.RPT.PERIOD` -/
def axRptPeriod (a : Nat) : Nat := 0x16000002 + a * 0x10000
/-- `AX.RPT.FREEZE` -/
def axRptFreeze (a : Nat) : Nat := 0x16000003 + a * 0x10000
/-- `AX.RPT.GAIN` -/
def axRptGain (a : Nat) : Nat := 0x16000020 + a * 0x10000
/-- `AX.RPT.FORGET` -/
def axRptForget (a : Nat) : Nat := 0x16000021 + a * 0x10000
/-- `AX.RPT.LEAD_T` -/
def axRptLeadT (a : Nat) : Nat := 0x16000022 + a * 0x10000
/-- `AX.RPT.VMIN` -/
def axRptVmin (a : Nat) : Nat := 0x16000023 + a * 0x10000
/-- `AX.RPT.LIMIT` -/
def axRptLimit (a : Nat) : Nat := 0x16000024 + a * 0x10000
/-- `AX.INJ.POINT` -/
def axInjPoint (a : Nat) : Nat := 0x17000001 + a * 0x10000
/-- `AX.INJ.SHAPE` -/
def axInjShape (a : Nat) : Nat := 0x17000002 + a * 0x10000
/-- `AX.INJ.AMP` -/
def axInjAmp (a : Nat) : Nat := 0x17000003 + a * 0x10000
/-- `AX.INJ.TIME` -/
def axInjTime (a : Nat) : Nat := 0x17000004 + a * 0x10000
/-- `AX.INJ.F0` -/
def axInjF0 (a : Nat) : Nat := 0x17000010 + a * 0x10000
/-- `AX.INJ.F1` -/
def axInjF1 (a : Nat) : Nat := 0x17000011 + a * 0x10000
/-- `AX.INJ.PRBS_N` -/
def axInjPrbsN (a : Nat) : Nat := 0x17000012 + a * 0x10000
/-- `AX.INJ.PRBS_HOLD` -/
def axInjPrbsHold (a : Nat) : Nat := 0x17000013 + a * 0x10000
/-- `AX.MOT.TYPE` -/
def axMotType (a : Nat) : Nat := 0x10000001 + a * 0x10000
/-- `AX.MOT.POLES` -/
def axMotPoles (a : Nat) : Nat := 0x10000002 + a * 0x10000
/-- `AX.MOT.KE` -/
def axMotKe (a : Nat) : Nat := 0x10000003 + a * 0x10000
/-- `AX.MOT.I_RATED` -/
def axMotIRated (a : Nat) : Nat := 0x10000004 + a * 0x10000
/-- `AX.MOT.I_PEAK` -/
def axMotIPeak (a : Nat) : Nat := 0x10000005 + a * 0x10000
/-- `AX.MOT.N_RATED` -/
def axMotNRated (a : Nat) : Nat := 0x10000006 + a * 0x10000
/-- `AX.MOT.R` -/
def axMotR (a : Nat) : Nat := 0x10000007 + a * 0x10000
/-- `AX.MOT.L` -/
def axMotL (a : Nat) : Nat := 0x10000008 + a * 0x10000
/-- `AX.MOT.J` -/
def axMotJ (a : Nat) : Nat := 0x10000009 + a * 0x10000
/-- `AX.MOT.VBUS_NOM` -/
def axMotVbusNom (a : Nat) : Nat := 0x1000000A + a * 0x10000
/-- `AX.PRF.MODE` -/
def axPrfMode (a : Nat) : Nat := 0x18000001 + a * 0x10000
/-- `AX.PRF.SCALE_NUM` -/
def axPrfScaleNum (a : Nat) : Nat := 0x18000002 + a * 0x10000
/-- `AX.PRF.SCALE_DEN` -/
def axPrfScaleDen (a : Nat) : Nat := 0x18000003 + a * 0x10000
/-- `AX.PRF.VMAX` -/
def axPrfVmax (a : Nat) : Nat := 0x18000010 + a * 0x10000
/-- `AX.PRF.ACC` -/
def axPrfAcc (a : Nat) : Nat := 0x18000011 + a * 0x10000
/-- `AX.PRF.DEC` -/
def axPrfDec (a : Nat) : Nat := 0x18000012 + a * 0x10000
/-- `AX.PRF.JERK_T` -/
def axPrfJerkT (a : Nat) : Nat := 0x18000013 + a * 0x10000
/-- `AX.PRF.BLEND` -/
def axPrfBlend (a : Nat) : Nat := 0x18000014 + a * 0x10000
/-- `AX.PRF.WINDOW` -/
def axPrfWindow (a : Nat) : Nat := 0x18000015 + a * 0x10000
/-- `AX.PRF.WINDOW_T` -/
def axPrfWindowT (a : Nat) : Nat := 0x18000016 + a * 0x10000
/-- `AX.PRF.POS_MIN` -/
def axPrfPosMin (a : Nat) : Nat := 0x18000017 + a * 0x10000
/-- `AX.PRF.POS_MAX` -/
def axPrfPosMax (a : Nat) : Nat := 0x18000018 + a * 0x10000
/-- `AX.PRF.LIMIT_EN` -/
def axPrfLimitEn (a : Nat) : Nat := 0x18000019 + a * 0x10000
/-- `AX.PRF.JERK` -/
def axPrfJerk (a : Nat) : Nat := 0x18000020 + a * 0x10000
/-- `AX.PRF.KEEP` -/
def axPrfKeep (a : Nat) : Nat := 0x18000021 + a * 0x10000
/-- `AX.PRF.IPO_MODE` -/
def axPrfIpoMode (a : Nat) : Nat := 0x18000030 + a * 0x10000
/-- `AX.PRF.IPO_TMAX` -/
def axPrfIpoTmax (a : Nat) : Nat := 0x18000031 + a * 0x10000
/-- `AX.HOM.METHOD` -/
def axHomMethod (a : Nat) : Nat := 0x19000001 + a * 0x10000
/-- `AX.HOM.DIR` -/
def axHomDir (a : Nat) : Nat := 0x19000002 + a * 0x10000
/-- `AX.HOM.SW_SRC` -/
def axHomSwSrc (a : Nat) : Nat := 0x19000003 + a * 0x10000
/-- `AX.HOM.SW_LEVEL` -/
def axHomSwLevel (a : Nat) : Nat := 0x19000004 + a * 0x10000
/-- `AX.HOM.V_FAST` -/
def axHomVFast (a : Nat) : Nat := 0x19000005 + a * 0x10000
/-- `AX.HOM.V_SLOW` -/
def axHomVSlow (a : Nat) : Nat := 0x19000006 + a * 0x10000
/-- `AX.HOM.POS` -/
def axHomPos (a : Nat) : Nat := 0x19000008 + a * 0x10000
/-- `AX.HOM.MAX_DIST` -/
def axHomMaxDist (a : Nat) : Nat := 0x19000009 + a * 0x10000
/-- `AX.HOM.LE_PORT` -/
def axHomLePort (a : Nat) : Nat := 0x1900000C + a * 0x10000
/-- `AX.HOM.ACC` -/
def axHomAcc (a : Nat) : Nat := 0x19000020 + a * 0x10000
/-- `AX.HOM.STOP_I` -/
def axHomStopI (a : Nat) : Nat := 0x19000021 + a * 0x10000
/-- `AX.HOM.STOP_T` -/
def axHomStopT (a : Nat) : Nat := 0x19000022 + a * 0x10000
/-- `AX.GEA.SRC` -/
def axGeaSrc (a : Nat) : Nat := 0x1A000001 + a * 0x10000
/-- `AX.GEA.MASTER` -/
def axGeaMaster (a : Nat) : Nat := 0x1A000002 + a * 0x10000
/-- `AX.GEA.NUM` -/
def axGeaNum (a : Nat) : Nat := 0x1A000003 + a * 0x10000
/-- `AX.GEA.DEN` -/
def axGeaDen (a : Nat) : Nat := 0x1A000004 + a * 0x10000
/-- `AX.GEA.ENG_MODE` -/
def axGeaEngMode (a : Nat) : Nat := 0x1A000005 + a * 0x10000
/-- `AX.GEA.ENG_POS` -/
def axGeaEngPos (a : Nat) : Nat := 0x1A000006 + a * 0x10000
/-- `AX.GEA.CLUTCH` -/
def axGeaClutch (a : Nat) : Nat := 0x1A000007 + a * 0x10000
/-- `AX.GEA.DIS_MODE` -/
def axGeaDisMode (a : Nat) : Nat := 0x1A000008 + a * 0x10000
/-- `AX.GEA.DIS_POS` -/
def axGeaDisPos (a : Nat) : Nat := 0x1A000009 + a * 0x10000
/-- `AX.STP.MICRO` -/
def axStpMicro (a : Nat) : Nat := 0x1B000001 + a * 0x10000
/-- `AX.STP.I_RUN` -/
def axStpIRun (a : Nat) : Nat := 0x1B000002 + a * 0x10000
/-- `AX.STP.I_HOLD` -/
def axStpIHold (a : Nat) : Nat := 0x1B000003 + a * 0x10000
/-- `AX.STP.T_HOLD` -/
def axStpTHold (a : Nat) : Nat := 0x1B000004 + a * 0x10000
/-- `AX.STP.MODE` -/
def axStpMode (a : Nat) : Nat := 0x1B000005 + a * 0x10000
/-- `AX.STP.LOOP` -/
def axStpLoop (a : Nat) : Nat := 0x1B000006 + a * 0x10000
/-- `AX.STP.STEP_SRC` -/
def axStpStepSrc (a : Nat) : Nat := 0x1B000007 + a * 0x10000
/-- `AX.STP.STEP_PORT` -/
def axStpStepPort (a : Nat) : Nat := 0x1B000008 + a * 0x10000
/-- `AX.STP.STEP_MULT` -/
def axStpStepMult (a : Nat) : Nat := 0x1B000009 + a * 0x10000
/-- `AX.STP.HOLD_T` -/
def axStpHoldT (a : Nat) : Nat := 0x1B00000A + a * 0x10000
/-- `AX.STP.V_SWITCH` -/
def axStpVSwitch (a : Nat) : Nat := 0x1B000020 + a * 0x10000
/-- `AX.STP.BLEND_N` -/
def axStpBlendN (a : Nat) : Nat := 0x1B000021 + a * 0x10000
/-- `AX.STP.QSTOP_ACC` -/
def axStpQstopAcc (a : Nat) : Nat := 0x1B000022 + a * 0x10000
/-- `AX.STP.STALL_ANG` -/
def axStpStallAng (a : Nat) : Nat := 0x1B000023 + a * 0x10000
/-- `AX.STP.STALL_EMF` -/
def axStpStallEmf (a : Nat) : Nat := 0x1B000024 + a * 0x10000
/-- `AX.STP.STALL_FMIN` -/
def axStpStallFmin (a : Nat) : Nat := 0x1B000025 + a * 0x10000
/-- `AX.STP.HOLD_RAMP` -/
def axStpHoldRamp (a : Nat) : Nat := 0x1B000026 + a * 0x10000
/-- `AX.CMP.Un.MODE` -/
def axCmpUMode (a i : Nat) : Nat := 0x1E000000 + a * 0x10000 + i * 16
/-- `AX.CMP.Un.POS` -/
def axCmpUPos (a i : Nat) : Nat := 0x1E000001 + a * 0x10000 + i * 16
/-- `AX.CMP.Un.STEP` -/
def axCmpUStep (a i : Nat) : Nat := 0x1E000002 + a * 0x10000 + i * 16
/-- `AX.CMP.Un.DIR` -/
def axCmpUDir (a i : Nat) : Nat := 0x1E000003 + a * 0x10000 + i * 16
/-- `AX.CMP.Un.ACT` -/
def axCmpUAct (a i : Nat) : Nat := 0x1E000004 + a * 0x10000 + i * 16
/-- `AX.CMP.Un.WIDTH` -/
def axCmpUWidth (a i : Nat) : Nat := 0x1E000005 + a * 0x10000 + i * 16
/-- `AX.CMP.Un.LATE` -/
def axCmpULate (a i : Nat) : Nat := 0x1E000006 + a * 0x10000 + i * 16
/-- `AX.CMP.Ln.SRC` -/
def axCmpLSrc (a i : Nat) : Nat := 0x1E000100 + a * 0x10000 + i * 16
/-- `AX.CMP.Ln.EDGE` -/
def axCmpLEdge (a i : Nat) : Nat := 0x1E000101 + a * 0x10000 + i * 16
/-- `AX.CMP.Ln.MODE` -/
def axCmpLMode (a i : Nat) : Nat := 0x1E000102 + a * 0x10000 + i * 16
/-- `TRK.ENABLE` -/
def trkEnable : Nat := 0x40000001
/-- `TRK.DRIVE_PT` -/
def trkDrivePt : Nat := 0x40000002
/-- `TRK.CMP_LATE` -/
def trkCmpLate : Nat := 0x40000003
/-- `TRK.EST_CMP` -/
def trkEstCmp : Nat := 0x40000004
/-- `TRK.MISS_MAX` -/
def trkMissMax : Nat := 0x40000005
/-- `TRK.BACK_MAX` -/
def trkBackMax : Nat := 0x40000006
/-- `TRK.HO_TIMEOUT` -/
def trkHoTimeout : Nat := 0x40000010
/-- `TRK.HO_RETRY` -/
def trkHoRetry : Nat := 0x40000011
/-- `TOPO.Zn.KIND` -/
def topoZKind (i : Nat) : Nat := 0x41000000 + i * 256
/-- `TOPO.Zn.SRC` -/
def topoZSrc (i : Nat) : Nat := 0x41000001 + i * 256
/-- `TOPO.Zn.LENGTH` -/
def topoZLength (i : Nat) : Nat := 0x41000002 + i * 256
/-- `TOPO.Zn.NUM` -/
def topoZNum (i : Nat) : Nat := 0x41000003 + i * 256
/-- `TOPO.Zn.DEN` -/
def topoZDen (i : Nat) : Nat := 0x41000004 + i * 256
/-- `TOPO.Zn.SPEED` -/
def topoZSpeed (i : Nat) : Nat := 0x41000005 + i * 256
/-- `TOPO.Zn.NEXT0` -/
def topoZNext0 (i : Nat) : Nat := 0x41000006 + i * 256
/-- `TOPO.Zn.NEXT1` -/
def topoZNext1 (i : Nat) : Nat := 0x41000007 + i * 256
/-- `TOPO.Zn.BRANCH` -/
def topoZBranch (i : Nat) : Nat := 0x41000008 + i * 256
/-- `TOPO.Zn.SENSOR` -/
def topoZSensor (i : Nat) : Nat := 0x41000009 + i * 256
/-- `TOPO.Zn.SENS_POS` -/
def topoZSensPos (i : Nat) : Nat := 0x4100000A + i * 256
/-- `TOPO.Zn.SENS_LEVEL` -/
def topoZSensLevel (i : Nat) : Nat := 0x4100000B + i * 256
/-- `TOPO.Zn.SENS_DELAY` -/
def topoZSensDelay (i : Nat) : Nat := 0x4100000C + i * 256
/-- `TOPO.Zn.WIN` -/
def topoZWin (i : Nat) : Nat := 0x4100000D + i * 256
/-- `TOPO.Zn.LEN_TOL` -/
def topoZLenTol (i : Nat) : Nat := 0x4100000E + i * 256
/-- `TOPO.Zn.CREATE` -/
def topoZCreate (i : Nat) : Nat := 0x4100000F + i * 256
/-- `TOPO.Zn.EXPORT` -/
def topoZExport (i : Nat) : Nat := 0x41000010 + i * 256
/-- `TOPO.Zn.IMPORT` -/
def topoZImport (i : Nat) : Nat := 0x41000011 + i * 256
/-- `TOPO.Zn.PEER` -/
def topoZPeer (i : Nat) : Nat := 0x41000012 + i * 256
/-- `TOPO.Zn.PEER_ZONE` -/
def topoZPeerZone (i : Nat) : Nat := 0x41000013 + i * 256
/-- `FIO.Bn.MODE` -/
def fioBMode (i : Nat) : Nat := 0x60000100 + i * 16
/-- `FIO.Bn.PERIOD` -/
def fioBPeriod (i : Nat) : Nat := 0x60000101 + i * 16
/-- `FIO.Bn.FILTER` -/
def fioBFilter (i : Nat) : Nat := 0x60000102 + i * 16
/-- `FIO.IN.INVERT` -/
def fioInInvert : Nat := 0x60000010
/-- `FIO.IN.EVT_MASK` -/
def fioInEvtMask : Nat := 0x60000011
/-- `FIO.OUT.RESTART` -/
def fioOutRestart : Nat := 0x60000020
/-- `FIO.DIAG.T_STEP` -/
def fioDiagTStep : Nat := 0x60000021
/-- `CAP.MODE` -/
def capMode : Nat := 0x50000001
/-- `CAP.RUN` -/
def capRun : Nat := 0x50000002
/-- `CAP.REDUCE` -/
def capReduce : Nat := 0x50000003
/-- `CAP.DECIM` -/
def capDecim : Nat := 0x50000004
/-- `CAP.PERIOD` -/
def capPeriod : Nat := 0x50000005
/-- `CAP.REC.SEL` -/
def capRecSel : Nat := 0x50000006
/-- `CAP.PRE` -/
def capPre : Nat := 0x50000010
/-- `CAP.POST` -/
def capPost : Nat := 0x50000011
/-- `CAP.TRIG.COMBINE` -/
def capTrigCombine : Nat := 0x50000012
/-- `CAP.SEQ.SAME_OK` -/
def capSeqSameOk : Nat := 0x50000013
/-- `CAP.SEQ.WITHIN` -/
def capSeqWithin : Nat := 0x50000014
/-- `CAP.MASK.EN` -/
def capMaskEn : Nat := 0x50000020
/-- `CAP.MASK.SEG_LEN` -/
def capMaskSegLen : Nat := 0x50000021
/-- `CAP.MASK.ACTION` -/
def capMaskAction : Nat := 0x50000022
/-- `CAP.CHn.SRC` -/
def capChSrc (i : Nat) : Nat := 0x50000100 + i * 16
/-- `CAP.Tn.SRC` -/
def capTSrc (i : Nat) : Nat := 0x50000200 + i * 16
/-- `CAP.Tn.TYPE` -/
def capTType (i : Nat) : Nat := 0x50000201 + i * 16
/-- `CAP.Tn.LEVEL` -/
def capTLevel (i : Nat) : Nat := 0x50000202 + i * 16
/-- `CAP.Tn.LEVEL2` -/
def capTLevel2 (i : Nat) : Nat := 0x50000203 + i * 16
/-- `CAP.Tn.HYST` -/
def capTHyst (i : Nat) : Nat := 0x50000204 + i * 16
/-- `CAP.Tn.MASK` -/
def capTMask (i : Nat) : Nat := 0x50000205 + i * 16
/-- `NET.NODE_ID` -/
def netNodeId : Nat := 0x30000001
/-- `NET.ETHERTYPE` -/
def netEthertype : Nat := 0x30000002
/-- `NET.VLAN` -/
def netVlan : Nat := 0x30000003
/-- `NET.PCP` -/
def netPcp : Nat := 0x30000004
/-- `NET.UDP_PORT` -/
def netUdpPort : Nat := 0x30000005
/-- `NET.A.IP` -/
def netAIp : Nat := 0x30000010
/-- `NET.B.IP` -/
def netBIp : Nat := 0x30000018
/-- `NET.BYPASS_LEAD` -/
def netBypassLead : Nat := 0x30000020
/-- `NET.EVT_PERIOD` -/
def netEvtPeriod : Nat := 0x30000021
/-- `NET.Pn.ENABLE` -/
def netPEnable (i : Nat) : Nat := 0x30000100 + i * 16
/-- `NET.Pn.PHY_RX` -/
def netPPhyRx (i : Nat) : Nat := 0x30000101 + i * 16
/-- `NET.Pn.PHY_TX` -/
def netPPhyTx (i : Nat) : Nat := 0x30000102 + i * 16
/-- `NET.Pn.ASYM` -/
def netPAsym (i : Nat) : Nat := 0x30000103 + i * 16
/-- `NET.Pn.GCL_CYCLE` -/
def netPGclCycle (i : Nat) : Nat := 0x30000104 + i * 16
/-- `NET.Pn.GCLn` -/
def netPGcl (i j : Nat) : Nat := 0x30000200 + i * 16 + j * 1
/-- `PTP.PROFILE` -/
def ptpProfile : Nat := 0x31000001
/-- `PTP.STEP_MODE` -/
def ptpStepMode : Nat := 0x31000002
/-- `PTP.DOMAIN` -/
def ptpDomain : Nat := 0x31000003
/-- `PTP.ROLE` -/
def ptpRole : Nat := 0x31000004
/-- `PTP.PRIORITY1` -/
def ptpPriority1 : Nat := 0x31000005
/-- `PTP.LOG_SYNC` -/
def ptpLogSync : Nat := 0x31000006
/-- `PTP.SOURCE` -/
def ptpSource : Nat := 0x31000010
/-- `PTP.KP` -/
def ptpKp : Nat := 0x31000011
/-- `PTP.KI` -/
def ptpKi : Nat := 0x31000012
/-- `PTP.STEP_THR` -/
def ptpStepThr : Nat := 0x31000013
/-- `PTP.SYNC_LOSS` -/
def ptpSyncLoss : Nat := 0x31000014
/-- `PTP.HOLDOVER_T` -/
def ptpHoldoverT : Nat := 0x31000015
/-- `CYC.DUAL` -/
def cycDual : Nat := 0x32000001
/-- `CYC.STAT_DIV` -/
def cycStatDiv : Nat := 0x32000002
/-- `CYC.STAT_DST` -/
def cycStatDst : Nat := 0x32000003
/-- `CYC.STAT_MASK_LO` -/
def cycStatMaskLo : Nat := 0x32000004
/-- `CYC.STAT_MASK_HI` -/
def cycStatMaskHi : Nat := 0x32000005
/-- `CYC.PUB_LEAD` -/
def cycPubLead : Nat := 0x32000006
/-- `CYC.PUB.Cn` -/
def cycPubC (i : Nat) : Nat := 0x32000100 + i * 16
/-- `CYC.SUB.Mn` -/
def cycSubM (i : Nat) : Nat := 0x32000200 + i * 16
/-- `TWIN.ENABLE` -/
def twinEnable : Nat := 0xB0000001
/-- `TWIN.START_WAIT` -/
def twinStartWait : Nat := 0xB0000003
/-- `TWIN.STALE_MAX` -/
def twinStaleMax : Nat := 0xB0000004
/-- `TWIN.RESIGN_LINK` -/
def twinResignLink : Nat := 0xB0000005
/-- `SAF.ADDR` -/
def safAddr : Nat := 0x70000001
/-- `SAF.RESET_SRC` -/
def safResetSrc : Nat := 0x70000002
/-- `SAF.XCHK_T` -/
def safXchkT : Nat := 0x70000003
/-- `SAF.TEL.USE` -/
def safTelUse : Nat := 0x70000010
/-- `SAF.TEL.SRC` -/
def safTelSrc : Nat := 0x70000011
/-- `SAF.TEL.CONN` -/
def safTelConn : Nat := 0x70000012
/-- `SAF.TEL.TIMEOUT` -/
def safTelTimeout : Nat := 0x70000013
/-- `SAF.TEL.SEQ_WIN` -/
def safTelSeqWin : Nat := 0x70000014
/-- `SAF.TEL.SKEW` -/
def safTelSkew : Nat := 0x70000015
/-- `SAF.TEL.ONE_NET_T` -/
def safTelOneNetT : Nat := 0x70000016
/-- `SAF.TEL.LOSS_ACT` -/
def safTelLossAct : Nat := 0x70000017
/-- `SAF.DEGRADED.SLS` -/
def safDegradedSls : Nat := 0x70000020
/-- `SAF.DEGRADED.TMAX` -/
def safDegradedTmax : Nat := 0x70000021
/-- `SAF.Gn.SS1_T` -/
def safGSs1T (i : Nat) : Nat := 0x70000100 + i * 16
/-- `SAF.Gn.VIOL_ACT` -/
def safGViolAct (i : Nat) : Nat := 0x70000101 + i * 16
/-- `SAF.Gn.SLS_RAMP` -/
def safGSlsRamp (i : Nat) : Nat := 0x70000102 + i * 16
/-- `SAF.Gn.RESTART` -/
def safGRestart (i : Nat) : Nat := 0x70000103 + i * 16
/-- `SAF.Ln.GROUP` -/
def safLGroup (i : Nat) : Nat := 0x70000300 + i * 1
/-- `SAF.SIn.FUNC` -/
def safSiFunc (i : Nat) : Nat := 0x70000400 + i * 16
/-- `SAF.SIn.GROUPS` -/
def safSiGroups (i : Nat) : Nat := 0x70000401 + i * 16
/-- `SAF.SIn.FILTER` -/
def safSiFilter (i : Nat) : Nat := 0x70000402 + i * 16
/-- `SAF.SIn.DISC` -/
def safSiDisc (i : Nat) : Nat := 0x70000403 + i * 16
/-- `SAF.SOn.MASK` -/
def safSoMask (i : Nat) : Nat := 0x70000500 + i * 16
/-- `SAF.SOn.TEST_T` -/
def safSoTestT (i : Nat) : Nat := 0x70000501 + i * 16
/-- `SAF.An.SLS_LIM` -/
def safASlsLim (i : Nat) : Nat := 0x70001000 + i * 1
/-- `SAF.An.SDI_VTOL` -/
def safASdiVtol (i : Nat) : Nat := 0x70001100 + i * 1
/-- `SAF.An.SDI_SIGN` -/
def safASdiSign (i : Nat) : Nat := 0x70001200 + i * 1
/-- `AX.REA.STOP_TMAX` -/
def axReaStopTmax (a : Nat) : Nat := 0x1F000001 + a * 0x10000
/-- `AX.REA.STOP_V` -/
def axReaStopV (a : Nat) : Nat := 0x1F000002 + a * 0x10000
/-- `AX.REA.I_RAMP` -/
def axReaIRamp (a : Nat) : Nat := 0x1F000003 + a * 0x10000
/-- `AX.REA.OVRn` -/
def axReaOvr (a j : Nat) : Nat := 0x1F000010 + a * 0x10000 + j * 1
/-- `FLOG.OVRn` -/
def flogOvr (j : Nat) : Nat := 0xF0000010 + j * 1
/-- `PWR.START_STATE` -/
def pwrStartState : Nat := 0x08000001
/-- `PWR.FW_SLEEP` -/
def pwrFwSleep : Nat := 0x08000010
/-- `PWR.FW_IDLE_T` -/
def pwrFwIdleT : Nat := 0x08000011
/-- `PWR.BEACON_MS` -/
def pwrBeaconMs : Nat := 0x08000012
/-- `PWR.Cn.AUTO_SLEEP` -/
def pwrCAutoSleep (i : Nat) : Nat := 0x08000100 + i * 16
/-- `PWR.Cn.IDLE_T` -/
def pwrCIdleT (i : Nat) : Nat := 0x08000101 + i * 16
/-- `PERC.Rn` -/
def percR (i : Nat) : Nat := 0x09000100 + i * 1
/-- `PERC.TIMERn` -/
def percTimer (i : Nat) : Nat := 0x09000200 + i * 1
/-- `SEC.SESSION.IDLE` -/
def secSessionIdle : Nat := 0x80000010
/-- `SEC.LINEKEY.TX` -/
def secLinekeyTx : Nat := 0x80000020
/-- `AGE.AVS.ENABLE` -/
def ageAvsEnable : Nat := 0x0A000001
/-- `AGE.AVS.SLACK_TGT` -/
def ageAvsSlackTgt : Nat := 0x0A000002
/-- `AGE.AVS.VMAX` -/
def ageAvsVmax : Nat := 0x0A000003
/-- `AGE.DROOP_MAX` -/
def ageDroopMax : Nat := 0x0A000004
/-- `AGE.EYE_MIN` -/
def ageEyeMin : Nat := 0x0A000005
/-- `AGE.DERATE` -/
def ageDerate : Nat := 0x0A000010
/-- `AGE.DERATE_T0` -/
def ageDerateT0 : Nat := 0x0A000011
/-- `AGE.DERATE_T1` -/
def ageDerateT1 : Nat := 0x0A000012
/-- `AGE.DERATE_MIN` -/
def ageDerateMin : Nat := 0x0A000013
/-- `AGE.BRIDGE_LIFE` -/
def ageBridgeLife : Nat := 0x0A000014
/-- `AGE.SL_SCALE` -/
def ageSlScale : Nat := 0x0A000015
/-- `AGE.RON_MAX` -/
def ageRonMax : Nat := 0x0A000016
/-- `AGE.TTL_WARN` -/
def ageTtlWarn : Nat := 0x0A000020
/-- `AGE.XTAL_WARN` -/
def ageXtalWarn : Nat := 0x0A000021
/-- `AGE.TJ_WARN` -/
def ageTjWarn : Nat := 0x0A000022
/-- `AGE.FW.WDOG_T` -/
def ageFwWdogT : Nat := 0x0A000023

end Sys2Proof.Machine.Pid
end

