-- ==== Sys2Proof/Machine/Params.lean ====
section
/-! DEFINITION. The parameter dictionary and the committed values (R54, R56, R57, R543): finding a row, its
encoding, and the value in force of any parameter, derived values included. -/

namespace Sys2Proof.Machine

/-- Bytes of a type's encoding (R54). -/
def PTyp.bytes : PTyp → Nat
  | .u8 | .s8 | .bool => 1
  | .u16 | .s16 | .enum => 2
  | .u32 | .s32 | .f32 => 4
  | .u64 | .s64 | .d32 => 8
  | .d64 => 16
  | .str => 0

/-- TYPE codes (R54). -/
def PTyp.code : PTyp → Nat
  | .u8 => 1 | .u16 => 2 | .u32 => 3 | .u64 => 4 | .s8 => 5 | .s16 => 6 | .s32 => 7 | .s64 => 8
  | .f32 => 9 | .bool => 10 | .enum => 11 | .str => 12 | .d32 => 13 | .d64 => 14

/-- Types in two's complement. -/
def PTyp.signed : PTyp → Bool
  | .s8 | .s16 | .s32 | .s64 => true
  | .u8 | .u16 | .u32 | .u64 | .f32 | .bool | .enum | .str | .d32 | .d64 => false

/-- The members (k1, k2) of the row's family that an index names. -/
def PRow.hit (r : PRow) (idx : Nat) : Option (Nat × Nat) :=
  if idx < r.base then none else
  let d := idx - r.base
  let k1 := if r.n1 ≤ 1 then 0 else d / r.s1
  let rest := if r.n1 ≤ 1 then d else d % r.s1
  let k2 := if r.n2 ≤ 1 then 0 else rest / r.s2
  let rest := if r.n2 ≤ 1 then rest else rest % r.s2
  if rest = 0 ∧ k1 < max 1 r.n1 ∧ k2 < max 1 r.n2 then some (k1, k2) else none

/-- Class, instance and index of an ID (R56). -/
def idClass (id : Nat) : Nat := id / 0x1000000
/-- Instance of an ID. -/
def idInst (id : Nat) : Nat := id / 0x10000 % 256
/-- Index of an ID. -/
def idIndex (id : Nat) : Nat := id % 0x10000

/-- Instances of a class (R56): axes, links, or 0 only. -/
def instances (cls : Nat) : Nat :=
  if 0x10 ≤ cls && cls ≤ 0x1F then 128 else if cls = 0x20 then 32 else 1

/-- Classes with levels (R56). -/
def levelled (cls : Nat) : Bool := (0x11 ≤ cls && cls ≤ 0x1D) || cls = 0x20

/-- The row of a list that an index names. -/
def rowIn (l : List PRow) (idx : Nat) : Option (PRow × Nat × Nat) :=
  match l with
  | [] => none
  | r :: rest => match r.hit idx with
    | some k => some (r, k)
    | none => rowIn rest idx

/-- The dictionary row of an ID, with the members it names. -/
def findRow (id : Nat) : Option (PRow × Nat × Nat) :=
  if idInst id < instances (idClass id) then rowIn (classRows (idClass id)) (idIndex id) else none

/-- The dictionary row of an ID on this order code (R2): the NK9128-IN has no parameters of class SAF. -/
def State.rowOf (s : State) (id : Nat) : Option (PRow × Nat × Nat) :=
  if !s.ib && idClass id == 0x70 then none else findRow id

/-- The default of a row in its type's encoding; 0 where the column gives none, a formula or Derived. -/
def PRow.dfltRaw (r : PRow) : Nat :=
  match r.dflt with
  | .num v => ofSigned (8 * max 1 r.typ.bytes) v
  | .none | .formula | .derived => 0

/-- The held entry of an ID in a store of rising IDs. -/
def storeGet (l : List PEntry) (id : Nat) : Option PEntry :=
  match l with
  | [] => none
  | e :: rest => if e.id = id then some e else if id < e.id then none else storeGet rest id

/-- A store after a value is held. -/
def storePut (l : List PEntry) (e : PEntry) : List PEntry :=
  match l with
  | [] => [e]
  | x :: rest => if e.id < x.id then e :: x :: rest else if e.id = x.id then e :: rest
                 else x :: storePut rest e

/-- A store after an entry is dropped. -/
def storeDrop (l : List PEntry) (id : Nat) : List PEntry := l.filter (fun e => e.id != id)

/-- A value's number. -/
def PVal.toNat : PVal → Nat
  | .num n => n
  | .str bs => leNat bs

/-- The committed value, or the default: what holds with no derivation and no formula. -/
def State.pbase (s : State) (id : Nat) : Nat :=
  match storeGet s.par.store id with
  | some e => e.val.toNat
  | none => match findRow id with
    | some (r, _) => r.dfltRaw
    | none => 0

/-- The committed value as a number of an F32 parameter. -/
def State.pbaseF (s : State) (id : Nat) : Rat := f32Dec (s.pbase id)

/-- LEVEL of a function is expert (R57). -/
def State.expert (s : State) (cls inst : Nat) : Bool :=
  s.pbase (cls * 0x1000000 + inst * 0x10000 + 0xFFFF) = 1

/-- The smaller and the larger of two rationals. -/
def rmin (a b : Rat) : Rat := if a ≤ b then a else b
/-- The larger of two rationals. -/
def rmax (a b : Rat) : Rat := if a ≤ b then b else a

/-- The code of m in force on the axis's link (R108): m = 2^code. -/
def State.mCode (s : State) (a : Nat) : Nat :=
  if s.expert 0x1D a then s.pbase (Pid.axPwmMExp a) else s.pbase (Pid.axPwmM a)

/-- Carrier periods per frame (R108). -/
def State.mOf (s : State) (a : Nat) : Nat := 2 ^ (s.mCode a % 4)

/-- The frame period that the committed parameter gives, ns: what derivations use (R24, R57). -/
def State.tfPar (s : State) : Nat := tfOf (s.pbase Pid.sysFramePeriod)

/-- The carrier period Tc in ns (R108). -/
def State.tc (s : State) (a : Nat) : Nat := s.tf / s.mOf a

/-- Tf in seconds. -/
def State.tfS (s : State) : Rat := (s.tf : Rat) / 1000000000

/-- Tc by the committed parameters, ns: what derivations and ranges use (R57, R114). -/
def State.tcPar (s : State) (a : Nat) : Nat := s.tfPar / s.mOf a

/-- Tf by the committed parameter, in seconds. -/
def State.tfParS (s : State) : Rat := (s.tfPar : Rat) / 1000000000

/-- Td of R222 in seconds. -/
def State.td (s : State) (a : Nat) : Rat := (14500 + (s.tcPar a : Rat) / 2) / 1000000000

/-- The axis kind: 0 none, 1 six-step, 2 stepper (R221). -/
def State.motType (s : State) (a : Nat) : Nat := s.pbase (Pid.axMotType a)

/-- Pole pairs. -/
def State.poles (s : State) (a : Nat) : Nat := s.pbase (Pid.axMotPoles a)

/-- Rated current. -/
def State.iRated (s : State) (a : Nat) : Rat := s.pbaseF (Pid.axMotIRated a)

/-- Peak current; 0 means twice the rated current (R221). -/
def State.iPeak (s : State) (a : Nat) : Rat :=
  let v := s.pbaseF (Pid.axMotIPeak a)
  if v = 0 then 2 * s.iRated a else v

/-- A parameter that follows a formula until it is written (R543): the written value, or the formula's. -/
def State.follows (s : State) (id : Nat) (formula : Rat) : Nat :=
  match storeGet s.par.store id with
  | some e => e.val.toNat
  | none => f32Enc formula

/-- `AX.CUR.ILIM` as in force, in its encoding. -/
def State.ilimRaw (s : State) (a : Nat) : Nat := s.follows (Pid.axCurIlim a) (s.iPeak a)

/-- `AX.CUR.ILIM` in A. -/
def State.ilim (s : State) (a : Nat) : Rat := f32Dec (s.ilimRaw a)

/-- `AX.VEL.VMAX` as in force, in its encoding: N_RATED ÷ 60, held in 0.01 to 1,000 rev/s. -/
def State.vmaxRaw (s : State) (a : Nat) : Nat :=
  s.follows (Pid.axVelVmax a) (clampRat (1 / 100) 1000 (s.pbaseF (Pid.axMotNRated a) / 60))

/-- `AX.VEL.VMAX` in rev/s. -/
def State.vmax (s : State) (a : Nat) : Rat := f32Dec (s.vmaxRaw a)

/-- Rated speed in rev/s. -/
def State.nRated (s : State) (a : Nat) : Rat := s.pbaseF (Pid.axMotNRated a) / 60

/-- `AX.MOT.KT` (R221, R270) in N·m/A. -/
def State.kt (s : State) (a : Nat) : Rat :=
  if s.motType a = 2 then
    (if s.iRated a = 0 then 0 else s.pbaseF (Pid.axStpTHold a) / s.iRated a)
  else twoPi (-1) (s.pbaseF (Pid.axMotKe a) * 60)

/-- `AX.MOT.KE` as used (R270), V per rpm. -/
def State.ke (s : State) (a : Nat) : Rat :=
  let v := s.pbaseF (Pid.axMotKe a)
  if s.motType a = 2 ∧ v = 0 then twoPi 1 (s.kt a / 60) else v

/-- r_eff of R205. -/
def State.rEff (s : State) (a : Nat) : Rat :=
  (if s.motType a = 2 then 1 else 2) * s.pbaseF (Pid.axMotR a)

/-- l_eff of R205. -/
def State.lEff (s : State) (a : Nat) : Rat :=
  (if s.motType a = 2 then 1 else 2) * s.pbaseF (Pid.axMotL a)

/-- The current limit in force, `AX.MOT.I_LIMIT` (R211, R503, R505). -/
def State.iLimit (s : State) (a : Fin 128) : Rat :=
  if s.pbase Pid.ageDerate = 1 then s.age.axes[a].fNow * s.ilim a.val else s.ilim a.val

/-- Electrical frequency at rated speed (R159), Hz. -/
def State.fRated (s : State) (a : Nat) : Rat := s.nRated a * (s.poles a : Rat)

/-- a_r of R159 in 0.1 °e. -/
def State.advRated (s : State) (a : Nat) : Rat :=
  let er := s.pbaseF (Pid.axMotKe a) * s.pbaseF (Pid.axMotNRated a) / sqrtQ 3
  let x := twoPi 1 (s.fRated a * s.pbaseF (Pid.axMotL a) * s.iRated a) / er
  10 * rmin 20 (atanDeg x)

/-- Breakpoint i of the derived advance table (R159), Hz. -/
def State.advF (s : State) (a i : Nat) : Nat :=
  (roundAway ((i : Rat) * (12 / 10) * s.fRated a / 15)).toNat

/-- CATCH_QUIET of R159 in ms. -/
def State.catchQuiet (s : State) (a : Nat) : Nat :=
  let pct := min (s.pbase (Pid.axComCatchMin a)) (s.pbase (Pid.axComBrakeMin a))
  let f := (pct : Rat) / 100 * s.fRated a
  (roundAway (clampRat 20 500 (1000 * (12 / 10) / 2 / f))).toNat

/-- `AX.STP.F_MAX` (R260), Hz. -/
def State.stpFmax (s : State) : Rat := 1 / (12 * s.tfParS)

/-- V_SWITCH of R274 in rev/s. -/
def State.vSwitch (s : State) (a : Nat) : Rat :=
  let i := (s.pbase (Pid.axStpIRun a) : Rat) / 100 * s.iRated a
  let v := s.pbaseF (Pid.axMotVbusNom a) / 2
  let psi := s.kt a / (s.poles a : Rat)
  let ri := s.pbaseF (Pid.axMotR a) * i
  let w := sqrtQ (v * v - ri * ri) / (s.pbaseF (Pid.axMotL a) * i + psi)
  rmin (twoPi (-1) (w / (s.poles a : Rat))) (s.stpFmax / (s.poles a : Rat))

/-- The stage's DT_MIN from its capability record, or 20 ns before one came (R100, R123). -/
def State.stageDtMin (s : State) (a : Nat) : Nat :=
  match s.links[linkOf (axisNo a)].cap with
  | some c => c.dtMin
  | none => 20

/-- The stage's DT_MIN as derivations use it (R57): of a record received before the latest commit. -/
def State.stageDtMinIn (s : State) (a : Nat) : Nat := s.links[linkOf (axisNo a)].dtMinIn

/-- AX.PWM.DT_MAX as derived (R123). -/
def State.dtMaxD (s : State) (a : Nat) : Nat := min 1000 (s.tcPar a / 8)

/-- A derived value: in an F32 parameter, or as an integer. -/
def dF (q : Rat) : Option Nat := some (f32Enc q)

/-- The basic-level value of an expert parameter that derivation sets (R57, R123, R159, R191, R219, R222,
R253, R254, R274): none where derivation does not set the parameter; `dflt` is its default. -/
def State.derive (s : State) (cls a idx dflt : Nat) : Option Nat :=
  match cls with
  | 0x11 =>
    if idx = 0x0002 then none
    else if 0x0050 ≤ idx && idx ≤ 0x005F then some (s.advF a (idx - 0x50))
    else if 0x0060 ≤ idx && idx ≤ 0x006F then
      let r := if s.fRated a = 0 then 1 else rmin 1 ((s.advF a (idx - 0x60) : Rat) / s.fRated a)
      some (roundAway (s.advRated a * r)).toNat
    else if idx = 0x0014 then some (s.catchQuiet a)
    else some dflt
  | 0x12 =>
    if idx = 0x20 then dF (twoPi 1 (s.pbaseF (Pid.axCurBw a) * s.lEff a))
    else if idx = 0x21 then dF (s.rEff a / s.lEff a)
    else none
  | 0x13 =>
    if idx = 0x20 then dF (twoPi 2 (s.pbaseF (Pid.axVelBw a) * s.pbaseF (Pid.axMotJ a) / s.kt a))
    else if idx = 0x21 then dF (twoPi 1 (s.pbaseF (Pid.axVelBw a) / 4))
    else if idx = 0x22 then dF (twoPi 1 (s.pbaseF (Pid.axMotJ a) / s.kt a))
    else none
  | 0x14 => if idx = 0x20 then dF (twoPi 1 (s.pbaseF (Pid.axPosBw a))) else none
  | 0x15 =>
    if idx = 0x10 then some 1
    else if idx = 0x11 then dF (rmin (5 * s.pbaseF (Pid.axVelBw a)) (4 / 10 / s.tfParS))
    else if idx = 0x12 then some 0x3F34FDF4
    else if idx = 0x20 then some 0
    else none
  | 0x16 =>
    if idx = 0x22 then dF (1000000 * (s.td a + twoPi (-1) (1 / s.pbaseF (Pid.axCurBw a))))
    else if idx = 0x23 then dF (5 / 100 * s.nRated a)
    else if idx = 0x24 then dF (s.iRated a / 4)
    else none
  | 0x17 =>
    if idx = 0x10 then some 0x3F800000
    else if idx = 0x11 then
      let p := s.pbase (Pid.axInjPoint a)
      dF (if 3 ≤ p then rmin (4 / 10 / s.tfParS) (2 * s.pbaseF (Pid.axCurBw a)) else 2 * s.pbaseF (Pid.axVelBw a))
    else if idx = 0x12 then some 11
    else if idx = 0x13 then some 1
    else none
  | 0x18 =>
    if idx = 0x20 then
      let t := s.pbaseF (Pid.axPrfJerkT a)
      dF (if t = 0 then 0 else s.pbaseF (Pid.axPrfAcc a) * 1000 / t)
    else if idx = 0x21 then some 1
    else none
  | 0x19 =>
    if idx = 0x20 then some (s.pbase (Pid.axPrfAcc a))
    else if idx = 0x21 then some 30
    else if idx = 0x22 then some 50
    else none
  | 0x1B =>
    if idx = 0x20 then dF (s.vSwitch a)
    else if idx = 0x22 then
      dF (twoPi (-1) (s.kt a * s.iLimit (axisNo a) / (2 * s.pbaseF (Pid.axMotJ a))))
    else if idx = 0x25 then dF (2 / 10 * s.vSwitch a * (s.poles a : Rat))
    else some dflt
  | 0x1C =>
    if idx = 0x10 then some 80
    else if idx = 0x11 then some 8
    else if idx = 0x19 then some 60
    else if idx = 0x1A then some 125
    else if idx = 0x24 then some 2
    else if idx = 0x29 then some (s.tfPar / 250)
    else if idx = 0x31 then some 5
    else if idx = 0x32 then some 50
    else if idx = 0x33 then some 2
    else none
  | 0x1D =>
    if idx = 0x02 then some (s.pbase (Pid.axPwmM a))
    else if idx = 0x03 then some 0
    else if idx = 0x10 then some 300
    else if idx = 0x11 then some 0
    else if idx = 0x20 then some 0
    else if idx = 0x22 then some (min (max 50 (s.stageDtMinIn a)) (s.dtMaxD a))
    else if idx = 0x23 then some (s.dtMaxD a)
    else if idx = 0x24 then some 60
    else if idx = 0x25 then some 1
    else none
  | 0x20 => if idx = 0x20 then some 255 else none
  | _ => none

/-- Counts per revolution of a source that sets them itself (R161, R191); none for the others. -/
def State.cprFixed (s : State) (a : Nat) : Option Nat :=
  let src := s.pbase (Pid.axFbkSource a)
  if src = 0 then
    if s.motType a = 2 then some (4 * s.pbase (Pid.axStpMicro a) * s.poles a) else some (6 * s.poles a)
  else if src = 1 then some (6 * s.poles a)
  else if src = 4 ∨ src = 5 then some (2 ^ s.pbase (Pid.axFbkSerStBits a))
  else none

/-- A value of class AX.FLT of an axis at its level: held, derived, or the default. -/
def State.fltVal (s : State) (a idx : Nat) : Nat :=
  let id := 0x15000000 + a * 0x10000 + idx
  let d := match findRow id with
    | some (r, _) => r.dfltRaw
    | none => 0
  if s.expert 0x15 a then s.pbase id else (s.derive 0x15 a idx d).getD (s.pbase id)

/-- The coefficients b0, b1, b2, a1, a2 of a filter of types 0 to 3 (R204): i is 1 or 2. -/
def State.fltDerived (s : State) (a i : Nat) : List Rat :=
  let k := 2 / s.tfParS
  let f := f32Dec (s.fltVal a (i * 16 + 1))
  let z := f32Dec (s.fltVal a (i * 16 + 2))
  let w := k * tanPi (f * s.tfParS)
  let biquad (b2 b1 b0 a1 a0 : Rat) : List Rat :=
    let d := k * k + a1 * k + a0
    [(b2 * k * k + b1 * k + b0) / d, 2 * (b0 - b2 * k * k) / d, (b2 * k * k - b1 * k + b0) / d,
     2 * (a0 - k * k) / d, (k * k - a1 * k + a0) / d]
  match s.fltVal a (i * 16) with
  | 1 => biquad 0 0 (w * w) (2 * z * w) (w * w)
  | 2 => biquad 1 (2 * f32Dec (s.fltVal a (i * 16 + 3)) * z * w) (w * w) (2 * z * w) (w * w)
  | 3 =>
    let q := sqrtQ (f32Dec (s.fltVal a (i * 16 + 4)))
    let wz := w / q
    let wp := w * q
    [wp / wz * (k + wz) / (k + wp), wp / wz * (wz - k) / (k + wp), 0, (wp - k) / (k + wp), 0]
  | _ => [1, 0, 0, 0, 0]

/-- Coefficient j of filter i in force, in its encoding: as written for type 4 (R204, R212). -/
def State.fltCoef (s : State) (a i j : Nat) : Nat :=
  if s.fltVal a (i * 16) = 4 then s.pbase (0x15000008 + a * 0x10000 + i * 16 + j)
  else f32Enc ((s.fltDerived a i).getD j 0)

/-- The value in force of a writable parameter, in its encoding (R57, R161, R204, R543). -/
def State.pget (s : State) (id : Nat) : Nat :=
  let cls := idClass id
  let a := idInst id
  if cls = 0x12 ∧ idIndex id = 0x02 then s.ilimRaw a
  else if cls = 0x13 ∧ idIndex id = 0x02 then s.vmaxRaw a
  else if cls = 0x1C ∧ idIndex id = 0x04 then (s.cprFixed a).getD (s.pbase id)
  else if cls = 0x15 ∧ 8 ≤ idIndex id % 16 ∧ idIndex id % 16 ≤ 12 ∧ idIndex id < 0x30 then
    s.fltCoef a (idIndex id / 16) (idIndex id % 16 - 8)
  else match findRow id with
    | none => 0
    | some (r, _) =>
      if levelled cls && r.expert && r.acc != .ro && !s.expert cls a then
        match s.derive cls a (idIndex id) r.dfltRaw with
        | some v => v
        | none => s.pbase id
      else s.pbase id

/-- The value in force as a natural number. -/
def State.pN (s : State) (id : Nat) : Nat := s.pget id

/-- The value in force as an integer of `w` bits in two's complement. -/
def State.pI (s : State) (w id : Nat) : Int := toSigned w (s.pget id)

/-- The value in force of an F32 parameter. -/
def State.pF (s : State) (id : Nat) : Rat := f32Dec (s.pget id)

/-- The value in force of a BOOL parameter. -/
def State.pB (s : State) (id : Nat) : Bool := s.pget id != 0

/-- A percentage parameter as a fraction. -/
def State.pPct (s : State) (id : Nat) : Rat := (s.pget id : Rat) / 100

/-- The axes in the process image mask (R62). -/
def State.inMask (s : State) (a : Nat) : Bool :=
  if a < 64 then bit (s.pN Pid.hostPiAxmaskLo) a else bit (s.pN Pid.hostPiAxmaskHi) (a - 64)

/-- A configuration value of the safety block of a channel, or its default (R430). -/
def State.safV (s : State) (ch : Fin 2) (id : Nat) : Nat :=
  match s.saf.chan[ch].block.find? (fun x => x.1 == id) with
  | some x => x.2
  | none => match findRow id with
    | some (r, _) => r.dfltRaw % 2 ^ 32
    | none => 0

end Sys2Proof.Machine
end

