-- ==== Sys2Proof/Machine/Faults.lean ====
section
/-! DEFINITION. Raising, merging, logging and clearing faults (chapter 17), kill sequences on a link (R89), and what STO does to axes (R406). -/

namespace Sys2Proof.Machine

/-- The Override column of R434: an axis override between two levels, a global one, or none. -/
inductive OvrCol
  | axis (lo hi : Nat)
  | glob
  | no
deriving DecidableEq, Repr

/-- Default level and Override column of a code (R434, R432). -/
def faultRow (code : Nat) : Nat × OvrCol :=
  match code with
  | 0x0104 => (3, .axis 3 4)
  | 0x0110 | 0x0111 => (2, .axis 1 4)
  | 0x0202 => (3, .axis 3 4)
  | 0x0204 => (4, .axis 4 4)
  | 0x1020 | 0x1021 | 0x1036 | 0x1037 | 0x1040 | 0x1052 | 0x1061 | 0x1062 | 0x1080 => (1, .axis 0 4)
  | 0x1031 | 0x1032 | 0x1034 | 0x1041 | 0x1081 | 0x1082 | 0x1090 => (4, .axis 4 4)
  | 0x1050 | 0x1051 => (3, .no)
  | 0x1060 => (3, .axis 3 4)
  | 0x1070 | 0x1072 | 0x1073 | 0x1084 => (2, .axis 2 4)
  | 0x1071 => (2, .axis 1 4)
  | 0x2001 | 0x2004 | 0x2007 | 0x2008 | 0x2101 | 0x2102 => (4, .axis 4 4)
  | 0x2002 | 0x2005 | 0x2006 | 0x200A | 0x2103 | 0x9004 => (1, .axis 0 4)
  | 0x2003 | 0x2009 => (1, .axis 1 4)
  | 0x9005 => (3, .axis 3 4)
  | 0x7004 | 0x7005 | 0x7007 | 0x7012 => (1, .no)
  | 0x7001 | 0x7002 | 0x7003 | 0x7006 | 0x7008 | 0x7009 | 0x700A | 0x700B | 0x700C | 0x700D | 0x700E
  | 0x700F | 0x7010 | 0x7011 => (5, .no)
  | _ => (1, .glob)

/-- The codes of R434 that may stand in an override entry (R439). -/
def faultCodes : List Nat :=
  [0x0101, 0x0102, 0x0103, 0x0104, 0x0105, 0x0110, 0x0111, 0x0201, 0x0202, 0x0203, 0x0204] ++
  [0x1020, 0x1021, 0x1031, 0x1032, 0x1034, 0x1036, 0x1037, 0x1040, 0x1041, 0x1050, 0x1051, 0x1052, 0x1060,
   0x1061, 0x1062, 0x1070, 0x1071, 0x1072, 0x1073, 0x1080, 0x1081, 0x1082, 0x1084, 0x1090] ++
  [0x2001, 0x2002, 0x2003, 0x2004, 0x2005, 0x2006, 0x2007, 0x2008, 0x2009, 0x200A, 0x2101, 0x2102, 0x2103] ++
  [0x3001, 0x3002, 0x3003, 0x3004, 0x3005, 0x3006, 0x3008, 0x3009] ++
  [0x4001, 0x4002, 0x4003, 0x4004, 0x4005, 0x4006, 0x4060, 0x5001, 0x6001, 0x6002, 0x6003, 0x6004] ++
  (List.range 18).map (fun i => 0x7001 + i) ++ [0x8001, 0x8002, 0x8003, 0x8004, 0x8005, 0x8006] ++
  [0x9001, 0x9002, 0x9003, 0x9004, 0x9005, 0x9006] ++ (List.range 9).map (fun i => 0xB001 + i)

/-- The axis override entry of a code on an axis (R439). -/
def State.axisOvr (s : State) (code a : Nat) : Option Nat :=
  ((List.range 8).find? fun j => s.pbase (Pid.axReaOvr a j) / 65536 == code).map
    fun j => s.pbase (Pid.axReaOvr a j) % 8

/-- The global override entry of a code: cluster mask and level (R439). -/
def State.globOvr (s : State) (code : Nat) : Option (Nat × Nat) :=
  ((List.range 16).find? fun j => s.pbase (Pid.flogOvr j) / 65536 == code).map
    fun j => (s.pbase (Pid.flogOvr j) / 256 % 256, s.pbase (Pid.flogOvr j) % 8)

/-- The level of a raise on each target axis, and whether an override set one (R434, R439). -/
def State.raiseLevels (s : State) (code dflt : Nat) (fixed : Bool) (targets : List (Fin 128)) :
    List (Fin 128 × Nat) × Nat × Bool :=
  if fixed then (targets.map (fun a => (a, dflt)), dflt, false) else
  match (faultRow code).2 with
  | .no => (targets.map (fun a => (a, dflt)), dflt, false)
  | .axis _ _ =>
    let l := targets.map fun a => (a, (s.axisOvr code a.val).getD dflt)
    let lv := match l with
      | [] => dflt
      | _ :: _ => l.foldl (fun m x => max m x.2) 0
    (l, lv, targets.any fun a => (s.axisOvr code a.val).isSome)
  | .glob => match s.globOvr code with
    | none => (targets.map (fun a => (a, dflt)), dflt, false)
    | some (mask, lv) =>
      if 2 ≤ lv then
        ((allClusters.filter fun c => bit mask c.val).flatMap fun c =>
          (clusterAxes c).map fun a => (a, lv), lv, true)
      else ([], lv, true)

/-- The class latch of a fault class (R448). -/
def latchIdx (code : Nat) : Option (Fin 13) :=
  match code / 256 with
  | 0x01 => some 0 | 0x02 => some 1 | 0x10 => some 2 | 0x20 => some 3 | 0x21 => some 4 | 0x30 => some 5
  | 0x40 => some 6 | 0x50 => some 7 | 0x60 => some 8 | 0x70 => some 9 | 0x80 => some 10 | 0x90 => some 11
  | 0xB0 => some 12 | _ => none

/-- A latch that the next fault fills (R443). -/
def Latch.free (l : Latch) : Bool := l.code == 0 || l.preReset

/-- Entry numbers of the pairs in force. -/
def FaultSt.forceSeqs (f : FaultSt) : List Nat := f.inForce.filterMap (·.seq)

/-- The log with its oldest entry whose fault is not in force removed; none where every entry's is. -/
def dropOldest (keep : List Nat) : List LogEntry → Option (List LogEntry)
  | [] => none
  | e :: rest => if keep.contains e.seq then (dropOldest keep rest).map (e :: ·) else some rest

/-- The log writer adds an entry (R444); it answers whether the entry was written. -/
def FaultSt.write (f : FaultSt) (e : LogEntry) : FaultSt × Bool :=
  let e := { e with seq := f.nextSeq }
  if f.log.length < 256 then
    ({ f with log := f.log ++ [e], nextSeq := f.nextSeq + 1 }, true)
  else match dropOldest f.forceSeqs f.log with
    | some l => ({ f with log := l ++ [e], nextSeq := f.nextSeq + 1 }, true)
    | none => ({ f with lost := count32 f.lost }, false)

/-- The reaction of one axis to a raise at a level (R440, R442, R443). -/
def Axis.react (x : Axis) (code inst level nt fc : Nat) : Axis :=
  let r := x.rea
  let r := if r.level = 7 ∨ r.level < level then
      { r with level := level, cause := code, tm := nt,
               before := if 2 ≤ level ∧ (r.level = 7 ∨ r.level < 2) then x.state else r.before,
               stopDone := if 2 ≤ level then false else r.stopDone,
               stopFrom := if 2 ≤ level then nt else r.stopFrom,
               quietFrom := if 2 ≤ level then none else r.quietFrom,
               coasted := if 2 ≤ level ∧ (r.level = 7 ∨ r.level < 2) then false else r.coasted }
    else r
  let r := if 2 ≤ level ∧ r.first.free then
      { r with first := { fc := fc, level := level, inst := inst, code := code } } else r
  { x with rea := r }

/-- A repeat of a pair in force, or of an L0 pair within 1 s (R441): its latest entry counts. -/
def FaultSt.repeatOf (f : FaultSt) (code inst : Nat) : FaultSt :=
  match f.log.reverse.find? (fun e => e.code == code && e.inst == inst && e.kind == .raised) with
  | none => f
  | some x => { f with log := f.log.map fun e =>
      if e.seq = x.seq then { e with count := min 65535 (e.count + 1) } else e }

/-- A fault is raised (R434, R439 to R444): `fixed` where the raising rule sets the level. -/
def State.raiseAt (s : State) (code inst : Nat) (targets : List (Fin 128)) (data : Nat)
    (dflt : Nat) (fixed : Bool) : State :=
  let (lv, level, ovr) := s.raiseLevels code dflt fixed targets
  if s.flt.inForce.any (fun x => x.code == code && x.inst == inst) then
    s.modFlt fun f => f.repeatOf code inst
  else if level = 0 ∧ (s.flt.log.any fun e => e.code == code && e.inst == inst && e.kind == .raised &&
      decide (s.nt < e.nt + 1000000000)) then
    s.modFlt fun f => f.repeatOf code inst
  else
    let merged := lv.any fun x => s.axes[x.1].rea.level != 7 && decide (x.2 ≤ s.axes[x.1].rea.level)
    let preempt := lv.any fun x => s.axes[x.1].rea.level != 7 && decide (s.axes[x.1].rea.level < x.2)
    let firstAx := lv.any fun x => decide (2 ≤ x.2) && s.axes[x.1].rea.first.free
    let firstCl := match latchIdx code with
      | some i => decide (1 ≤ level) && (s.flt.classLatch[i]).free
      | none => false
    let e : LogEntry :=
      { seq := 0, nt := s.nt, fc := s.fc, code := code, inst := inst, applied := level,
        dflt := dflt, override := ovr, first := firstAx || firstCl, kind := .raised, merged := merged,
        preempted := preempt, service := s.pwr.state == .service, data := data }
    let (f, ok) := s.flt.write e
    let p : InForce :=
      { code := code, inst := inst, dflt := dflt, level := level, fixed := fixed, tm := s.nt,
        targets := lv.map (fun x => (x.1.val, x.2)), seq := if ok then some s.flt.nextSeq else none }
    let f := if 1 ≤ level then { f with inForce := f.inForce ++ [p] } else f
    let la : Latch := { fc := s.fc, level := level, inst := inst, code := code }
    let f := match latchIdx code with
      | some i => if firstCl then { f with classLatch := f.classLatch.set i la } else f
      | none => f
    let s := { s with flt := f }
    let s := s.each lv fun t x => if 1 ≤ x.2 then t.modAxis x.1 (·.react code inst x.2 s.nt s.fc) else t
    let min := s.pN Pid.hostEvtFaultMin
    let s := s.eventIf (decide (min ≤ level)) 0x0102 inst (code + level * 65536)
    let s := (s.capEvent 2 code).each (List.range (level + 1)) fun t k => t.capEvent 3 k
    if min ≤ level then s.irq (irqBit 19) else s

/-- A fault of R434 with the default level of its row. -/
def State.raise (s : State) (code inst : Nat) (targets : List (Fin 128)) (data : Nat := 0) : State :=
  s.raiseAt code inst targets data (faultRow code).1 false

/-- The pair of code and INSTANCE is in force. -/
def State.faultOn (s : State) (code inst : Nat) : Bool :=
  s.flt.inForce.any fun x => x.code == code && x.inst == inst

/-- A fault that targets its own axis. -/
def State.raiseAx (s : State) (code : Nat) (a : Fin 128) : State := s.raise code a.val [a]

/-- Any fault of the class holds a latch (R443). -/
def FaultSt.classHeld (f : FaultSt) (i : Nat) : Bool :=
  f.inForce.any fun x => (latchIdx x.code).any (fun j => j.val == i)

/-- The state an axis takes when the last fault that targets it clears (R442). -/
def Axis.leaveFault (x : Axis) (enable : Bool) : Axis :=
  let gatesOff := decide (4 ≤ x.rea.level) || x.rea.coasted
  let r := { x.rea with level := 7, cause := 0, applied := 7, tm := 0 }
  let x := { x with rea := r }
  match x.state with
  | .fault =>
    if x.rea.before == .off || x.rea.before == .ready then { x with state := .off, needEdge := true }
    else if gatesOff then { x with state := .off, needEdge := true }
    else if x.rea.stopDone then
      { x with state := if enable then .hold else .off, prf := { x.prf with offFlush := x.prf.offFlush || !enable } }
    else { x with state := .stop, rea := { r with cleared := true } }
  | .sto | .off | .ready | .catching | .starting | .run | .stop | .hold => x

/-- Cleared faults leave force at a tick (R442, R443, R445). -/
def State.clearApply (s : State) : State :=
  let going := s.flt.inForce.filter (·.clearing)
  if going.isEmpty then s else
  let s := s.modFlt fun f => { f with inForce := f.inForce.filter (fun x => !x.clearing) }
  let s := s.each going fun t x => t.modFlt fun f =>
    (f.write { seq := 0, nt := t.nt, fc := t.fc, code := x.code, inst := x.inst, applied := x.level,
               dflt := x.dflt, override := false, first := false, kind := .cleared, twinCopy := x.copied }).1
  let axes := allAxes.filter fun a => going.any (fun x => x.targets.any (fun y => y.1 == a.val))
  let s := s.each axes fun t a =>
    if t.flt.inForce.any (fun x => x.targets.any (fun y => y.1 == a.val)) then t
    else t.modAxis a fun x =>
      let x := if 2 ≤ x.rea.level ∧ x.rea.level ≠ 7 then x.leaveFault x.enable
               else { x with rea := { x.rea with level := 7, cause := 0, applied := 7, tm := 0 } }
      if x.rea.first.preReset then x else { x with rea := { x.rea with first := {} } }
  s.modFlt fun f => { f with classLatch := Vector.ofFn fun i =>
    if f.classLatch[i].preReset || f.classHeld i.val then f.classLatch[i] else {} }

/-! The downstream pair of a link (R69, R89). -/

/-- The link controller is on and not in DOWN or DOZE (R99). -/
def State.linkOn (s : State) (l : Fin 32) : Bool :=
  s.axOn (clusterOfLink l) &&
  (match s.links[l].state with
   | .train | .up | .retrain => true
   | .down | .doze => false)

/-- The link events carry the stage's serial (R106). -/
def State.linkEvent (s : State) (code : Nat) (l : Fin 32) : State := s.event code l.val s.links[l].serial

/-- A link leaves UP (R106): event 0x2082. -/
def State.leavesUp (s : State) (l : Fin 32) : State := if s.links[l].state == .up then s.linkEvent 0x2082 l else s

/-- A link goes from UP to RETRAIN (R99): it takes the capability, the round trips and TIME_LOCK anew. -/
def State.retrainLink (s : State) (l : Fin 32) : State :=
  (s.leavesUp l).modLink l fun x =>
    { x with state := .retrain, capNew := false, rts := [], t1 := none, stat := none, dtAcked := false }

/-- The transmitter starts: nothing has been sent, and it sends IDLE (R69, R99). -/
def LinkSt.txStart (x : LinkSt) (now : Nat) : LinkSt := { x with tx := [], txFrom := now, rd := false }

/-- Device time at which the last symbol of the sequence on the pair has left. -/
def LinkSt.txEnd (x : LinkSt) : Nat := x.txFrom + symNs * x.tx.length

/-- The departure of a sequence that is to be sent now: behind one in progress. -/
def State.txAt (s : State) (l : Fin 32) : Nat := max s.nt s.links[l].txEnd

/-- What a transmitter that is on sends at an instant (R69): a symbol of the sequence in progress, or IDLE. -/
def LinkSt.symbolAt (x : LinkSt) (now : Nat) : Sym := x.tx.getD ((now - x.txFrom) / symNs) (.k symIdle)

/-- A sequence leaves on a link (R69, R70), after IDLE since the last one. -/
def State.linkSend (s : State) (l : Fin 32) (syms : List Sym) : State :=
  let x := s.links[l]
  let start := s.txAt l
  let idle := (start - x.txEnd + symNs / 2) / symNs
  let rd := (codeGroups x.rd x.tx).2
  (s.modLink l fun x => { x with tx := syms, txFrom := start, rd := if idle % 2 = 1 then !rd else rd }).emit
    (.link l.val idle syms)

/-- A KILL aborts a frame or SYNC in progress at the next symbol boundary (R89). -/
def State.cutTx (s : State) (l : Fin 32) : State :=
  let x := s.links[l]
  if s.nt < x.txEnd && x.tx.head? != some (.k symKill) then
    let n := (s.nt - x.txFrom + symNs - 1) / symNs
    (s.modLink l fun x => { x with tx := x.tx.take n }).emit (.linkCut l.val n)
  else s

/-- The kill sequence of a mask (R89). -/
def killSeq (mask : BitVec 4) : List Sym :=
  [.k symKill, .d (BitVec.ofNat 8 (mask.toNat * 16 + (15 - mask.toNat)))]

/-- `n` kill sequences leave back to back on a link whose transmitter is on (R89). -/
def State.sendKills (s : State) (l : Fin 32) (mask : BitVec 4) (n : Nat) : State :=
  ((s.cutTx l).linkSend l (List.replicate n (killSeq mask)).flatten).modLink l fun x =>
    { x with killAt := x.txFrom + symNs * (2 * (n - 1)) }

/-- Four kill sequences leave (R89). -/
def State.sendKill (s : State) (l : Fin 32) (mask : BitVec 4) : State :=
  if s.linkOn l then s.sendKills l mask 4 else s

/-- The axes of links enter STO (R406). -/
def State.axesSto (s : State) (as_ : List (Fin 128)) : State :=
  s.each as_ fun t a => t.modAxis a fun x =>
    let r := x.rea
    let first := r.level = 7 ∨ r.level < 2
    let going := match x.state with
      | .off | .ready | .sto => false
      | .catching | .starting | .run | .stop | .hold | .fault => true
    { x with state := .sto
             prf := if going then { x.prf with stopRow := 4, stopSoft := false } else x.prf
             rea := { r with level := 5, applied := 5, tm := if r.level = 5 then r.tm else t.nt,
                             before := if first then x.state else r.before } }

/-- The P-channel's kills on links (R89, R406). -/
def State.killLinks (s : State) (ls : List (Fin 32)) : State :=
  s.each ls fun t l => (t.modLink l fun x => { x with killSaf := 15 }).sendKill l 15

end Sys2Proof.Machine
end

