-- ==== Sys2Proof/Machine/Sessions.lean ====
section
/-! DEFINITION. Mailbox responses, releases and the end of sessions (R47 to R52, R378, R489). -/

namespace Sys2Proof.Machine

/-- Status codes of R55. -/
def stOk : Nat := 0
/-- BUSY. -/
def stBusy : Nat := 1
/-- UNKNOWN. -/
def stUnknown : Nat := 2
/-- RANGE. -/
def stRange : Nat := 3
/-- STATE. -/
def stState : Nat := 4
/-- AUTH. -/
def stAuth : Nat := 5
/-- LOCKED. -/
def stLocked : Nat := 6
/-- FULL. -/
def stFull : Nat := 7
/-- INTEGRITY. -/
def stIntegrity : Nat := 8
/-- TIMEOUT. -/
def stTimeout : Nat := 9
/-- CAUSE_ACTIVE. -/
def stCause : Nat := 10
/-- LEVEL. -/
def stLevel : Nat := 11

/-- The host register file is powered (R17). -/
def State.hostUp (s : State) : Bool := s.domainOn 8

/-- A path reaches the host address space: its domain is on and, for PCIe, the link is up (R39, R40). -/
def State.pathUp (s : State) (p : Path) : Bool :=
  s.hostUp && match p with
    | .pcie => s.host.pcieUp
    | .qspi => true

/-- The owner code of a local path. -/
def Owner.ofPath : Path → Owner
  | .pcie => .pcie
  | .qspi => .qspi

/-- NET_ONLY of mailbox `m` (R48). -/
def State.netOnly (s : State) (m : Fin 16) : Bool := decide (16 ≤ m.val + s.pN Pid.hostMbxNetCount)

/-- A response frame (R51): header and payload. -/
def response (cmd : List Byte) (status detail flags : Nat) (payload : List Byte) : List Byte :=
  leBytes 2 (fld cmd 0 2) ++ leBytes 2 (fld cmd 2 2) ++ leBytes 2 status ++ leBytes 2 payload.length ++
  leBytes 4 (fld cmd 8 4) ++ leBytes 2 detail ++ leBytes 2 flags ++ payload

/-- The session with an ID. -/
def State.session (s : State) (sid : Nat) : Option Session := s.sec.sessions.find? (·.id == sid)

/-- Update of the session with an ID. -/
def State.modSession (s : State) (sid : Nat) (f : Session → Session) : State :=
  s.modSec fun k => { k with sessions := k.sessions.map fun x => if x.id = sid then f x else x }

/-- A mailbox with its state cleared for the next owner (R48). -/
def Mbx.cleared (x : Mbx) : Mbx :=
  { x with owner := .free, state := .idle, lastSeq := 0, lockWrite := false, bellIgnored := false,
           autoBusy := false, session := 0, cmd := [], resp := [], copy := [], hidden := none,
           wait := .none, releasing := false, discard := false }

/-- A session ends (R489): its binding, its login (R426) and its open files go; a command in hand
completes with its response discarded; the NET_ONLY mailbox of a network session becomes free. -/
def State.endSession (s : State) (sid : Nat) : State :=
  match s.session sid with
  | none => s
  | some x =>
    let m : Fin 16 := fin 16 (by decide) x.mbx
    let s := s.modSec fun k => { k with sessions := k.sessions.filter (·.id != sid) }
    let s := s.modSaf fun k => { k with login := k.login.filter (fun l => l.1 != sid) }
    let s := s.modPar fun k => { k with files := k.files.filter (fun h => h.session != sid) }
    s.modMbx m fun b =>
      let busy := b.state == .pending || b.state == .executing
      if b.session ≠ sid then b
      else if x.owner == .net then
        if busy then { b with session := 0, releasing := true } else b.cleared
      else { b with session := 0, discard := b.discard || busy }

/-- Every session ends. -/
def State.endSessions (s : State) : State :=
  s.each (s.sec.sessions.map (·.id)) fun t i => t.endSession i

/-- A release of mailbox `m` takes effect (R48): the bound session ends. -/
def State.freeMbx (s : State) (m : Fin 16) : State :=
  let s := s.endSession s.mbx[m].session
  s.modMbx m Mbx.cleared

/-- The header of a clear mailbox datagram (R377). -/
def clearHeader : List Byte := leBytes 4 0x00FF0001 ++ leBytes 4 0 ++ leBytes 8 0

/-- A network session's protected datagram (R377, R488): header, then the sealed mailbox frame. -/
def sealDatagram (x : Session) (frame : List Byte) : List Byte :=
  let hdr := leBytes 2 0x0101 ++ leBytes 1 x.mbx ++ leBytes 1 0 ++ leBytes 4 x.id ++ leBytes 8 x.txCounter
  hdr ++ Config.gcmSeal ((x.keys.drop 32).take 32) (leBytes 4 x.id ++ leBytes 8 x.txCounter) hdr frame

/-- A protected datagram of a session leaves, with a fresh counter. -/
def State.sendSession (s : State) (x : Session) (frame : List Byte) : State :=
  (s.emit (.udp x.net x.peerMac x.peerIp x.peerPort (sealDatagram x frame))).modSession x.id
    fun y => { y with txCounter := y.txCounter + 1 }

/-- The answer of a network mailbox leaves on the request's network (R376, R378): clear, after which
the mailbox is released unless a session is now bound to it, or protected. -/
def State.netAnswer (s : State) (m : Fin 16) (frame : List Byte) : State :=
  match s.net.clear.find? (fun x => x.1 == m.val) with
  | some (_, net, mac, ip, port) =>
    let s := s.modNet fun k => { k with clear := k.clear.filter (fun x => x.1 != m.val) }
    let s := s.emit (.udp net mac ip port (clearHeader ++ frame))
    if s.mbx[m].session = 0 then s.modMbx m Mbx.cleared else s
  | none => match s.session s.mbx[m].session with
    | some x => s.sendSession x frame
    | none => s

/-- The command in hand of mailbox `m` ends with a response (R48, R49): the flip, or its discard. -/
def State.completeMbx (s : State) (m : Fin 16) (frame : List Byte) (hw : Bool) : State :=
  let b := s.mbx[m]
  if b.releasing then s.freeMbx m
  else if b.discard then s.modMbx m fun b =>
    { b with state := .idle, discard := false, hidden := none, wait := .none }
  else
    let s := s.modMbx m fun b =>
      { b with state := .done, resp := Mem.ofList frame, lastSeq := fld frame 0 2, autoBusy := hw,
               hidden := none, wait := .none,
               errCount := if fld frame 4 2 = 0 then b.errCount else count32 b.errCount }
    let s := s.irq (irqBit m.val)
    if b.owner == .net then s.netAnswer m frame else s

/-- Hardware or a passed deadline ends the command in hand without a payload (R49). -/
def State.abortMbx (s : State) (m : Fin 16) (status flags : Nat) (hw : Bool) : State :=
  let cmd := if s.mbx[m].state == .executing then s.mbx[m].copy else Mem.gets s.mbx[m].cmd 0 16
  s.completeMbx m (response cmd status 0 flags []) hw

/-- Hardware ends the command that mailbox `m` has in hand when the firmware restarts (R49): a complete response is
flipped, any other command is answered BUSY; a call already started continues, and event CALL_DONE reports its end. -/
def State.restartMbx (s : State) (m : Fin 16) : State :=
  match s.mbx[m].hidden, s.mbx[m].wait with
  | some frame, _ => s.completeMbx m frame false
  | none, .call id => (s.modHost fun h => { h with started := h.started ++ [id] }).abortMbx m stBusy 0 true
  | none, .none | none, .group _ => s.abortMbx m stBusy 0 true

/-- The firmware builds the response of mailbox `m` in the hidden buffer (R49). -/
def State.answer (s : State) (m : Fin 16) (status detail : Nat) (payload : List Byte) : State :=
  s.modMbx m fun b =>
    { b with hidden := some (response b.copy status detail 0 payload), wait := .none }

/-- The answer to a call that a commit has applied, where its mailbox still waits for it (R282, R339). -/
def State.lateAnswer (s : State) (m id st : Nat) (pay : List Byte) : State :=
  let m : Fin 16 := fin 16 (by decide) m
  if s.mbx[m].state == .executing && s.mbx[m].wait == .call id then s.answer m st 0 pay else s

/-- An item of the VAR section waits for the next image, on an ACTIVE device with a partner (R390, R394). -/
def State.varItem (s : State) (kind : Nat) (f : List Nat) : State :=
  if s.twin.state == .active && (s.twin.partner = 1 || s.twin.partner = 2) then
    s.modTwin fun k => { k with nextItem := k.nextItem + 1,
                                items := k.items ++ [{ num := k.nextItem % 65536, bytes := Config.varPack kind f }] }
  else s

/-- A running call ends (R49): its mailbox gets the response, or event CALL_DONE reports it. -/
def State.callDone (s : State) (id status : Nat) (payload : List Byte) : State :=
  match allMbx.find? (fun m => s.mbx[m].state == .executing && s.mbx[m].wait == .call id) with
  | some m => s.answer m status 0 payload
  | none =>
    if s.host.started.contains id then
      (s.modHost fun h => { h with started := h.started.erase id }).event 0x0103 0 (id + status * 2 ^ 32)
    else s

end Sys2Proof.Machine
end

