-- ==== Sys2Proof/Machine/HostOps.lean ====
section
/-! DEFINITION. The host address space (R39 to R48, R62 to R65): what each register reads as, what a
write of each word does, and what a read with an effect does. -/

namespace Sys2Proof.Machine

/-- The code of the device state (R43). -/
def DevState.code : DevState → Nat
  | .reset => 0 | .boot => 1 | .ristretto => 2 | .config => 3 | .operate => 4 | .service => 5 | .safe => 6

/-- The code of the twin state (R43). -/
def TwinState.code : TwinState → Nat
  | .solo => 0 | .syncing => 1 | .standby => 2 | .active => 3 | .isolated => 4

/-- The code of a mailbox state (R47). -/
def MbxState.code : MbxState → Nat
  | .idle => 0 | .pending => 1 | .executing => 2 | .done => 3

/-- The code of a mailbox owner (R47). -/
def Owner.code : Owner → Nat
  | .free => 0 | .pcie => 1 | .qspi => 2 | .net => 3

/-- The offset to the time source that R23 tests: the driving unit's (R365). -/
def State.drvOffset (s : State) : Rat :=
  let u := s.net.units[fin 2 (by decide) s.net.driver]
  if u.state == .master then 0 else u.offset

/-- `SYS.FRAME.ALIGNED` (R23, R365). -/
def State.aligned (s : State) : Bool :=
  let u := s.net.units[fin 2 (by decide) s.net.driver]
  match u.state with
  | .master => true
  | .listening => false
  | .locking | .locked => decide (rabs u.offset ≤ 1000) && !s.net.holdExpired
  | .holdover => decide (rabs u.offset ≤ 1000) && !s.net.holdExpired

/-- Time since which ALIGNED has been false in OPERATE (R23). -/
def State.alignWatch (s : State) : State :=
  let bad := s.pwr.state == .operate && !s.aligned
  s.modFrame fun f => { f with unalignedFrom := if bad then some (f.unalignedFrom.getD s.nt) else none }

/-- SYS_STATUS [10:0] as the process image and STATUS frames carry it (R62, R371). -/
def State.status11 (s : State) : Nat := s.pwr.state.code + s.twin.state.code * 256

/-- SYS_STATUS (R43). -/
def State.sysStatus (s : State) : Nat :=
  s.status11 + s.frame.tf * 2 ^ 16 + b2n s.aligned * 2 ^ 18 + b2n s.sec.owned * 2 ^ 19 +
  b2n s.fwRuns * 2 ^ 20 +
  b2n (s.flt.inForce.any fun x => decide (2 ≤ x.level)) * 2 ^ 21 +
  b2n (allAxes.any fun a => s.axes[a].state == .sto) * 2 ^ 22 +
  (allClusters.foldl (fun n c => n + b2n (s.axOn c) * 2 ^ c.val) 0) * 2 ^ 24

/-- The version of the running firmware (R43, R477): 0 while none runs. -/
def State.fwVersion (s : State) : Nat :=
  if s.pwr.verified then (s.sec.slots[fin 2 (by decide) s.sec.running]).version else 0

/-- Any safety group is in STO or SS1-t, or the device is in SAFE (R44); false on the NK9128-IN. -/
def State.safRaw (s : State) : Bool :=
  s.ib && (s.pwr.state == .safe ||
    (s.saf.chan.toList.any fun c => c.groups.toList.any fun g => g.state != .normal))

/-- IRQ_RAW (R44). -/
def State.irqRaw (s : State) : Nat :=
  (allMbx.foldl (fun n m => n + b2n (s.mbx[m].state == .done) * 2 ^ m.val) 0) +
  b2n (!s.host.evt.isEmpty) * 2 ^ 16 +
  b2n (s.flt.inForce.any fun x => decide (s.pN Pid.hostEvtFaultMin ≤ x.level)) * 2 ^ 19 +
  b2n (s.pwr.state == .service) * 2 ^ 21 + b2n s.host.wdogExpired * 2 ^ 23 + b2n s.safRaw * 2 ^ 24

/-- HOST_WDOG_LEFT in ms (R43, R65).  DESIGN CHOICE (log 148): the time left is rounded down to whole ms. -/
def State.wdogLeft (s : State) : Nat :=
  let t := s.pN Pid.hostWdogTime
  if t = 0 ∨ s.host.wdogExpired then 0
  else (s.host.wdogFrom + ms t - s.nt) / 1000000

/-- The 16 bytes of an event record (R46). -/
def EvtRec.bytes (r : EvtRec) : List Byte :=
  leBytes 2 r.code ++ leBytes 1 r.inst ++ leBytes 1 (b2n r.lostBefore) ++ leBytes 4 r.fc ++ leBytes 8 r.data

/-- TS_OFFSET: the last measured offset, S32 ns, saturating (R45). -/
def State.tsOffsetNow (s : State) : Word :=
  BitVec.ofInt 32 (satSigned 32 (roundEven s.drvOffset))

/-- TS_RATE: the present frequency adjustment in units of 2^-32 (R45, R363). -/
def State.tsRateNow (s : State) : Word := BitVec.ofInt 32 s.net.rate

/-- A register of mailbox `m` (R47). -/
def State.mbxReg (s : State) (m : Fin 16) (o : Nat) : Nat :=
  let b := s.mbx[m]
  match o with
  | 0x00 => b.owner.code + b2n (s.netOnly m) * 4
  | 0x0C => b.state.code + b2n b.autoBusy * 8 + b2n b.bellIgnored * 16 + b2n b.lockWrite * 32 +
            b.lastSeq * 65536
  | 0x10 => b.deadline
  | 0x14 => b.session
  | 0x18 => b.cmdCount
  | 0x1C => b.errCount
  | _ => 0

/-- A register of the register file (R43, R45, R47), before the latching of 64-bit registers. -/
def State.reg (s : State) (o : Nat) : Nat :=
  match o with
  | 0x000 => 0x91280000 + (if s.ib then 0x0100 else 0x0200) + 0x43
  | 0x004 => s.fwVersion
  | 0x008 => s.serial % 2 ^ 32
  | 0x00C => s.serial / 2 ^ 32 % 2 ^ 32
  | 0x010 => s.sysStatus
  | 0x014 => s.fc
  | 0x018 => s.host.fwAlive
  | 0x01C => s.pwr.cause + s.pwr.detail * 256 + s.pwr.resets * 65536
  | 0x020 => s.host.irqStatus.toNat
  | 0x024 => s.host.irqEnable.toNat
  | 0x028 => s.irqRaw
  | 0x02C => s.host.irqVector.toNat
  | 0x044 => s.wdogLeft
  | 0x050 => s.host.evt.length
  | 0x054 => s.host.evtLost
  | 0x060 => fld s.host.evtRec.bytes 0 4
  | 0x064 => fld s.host.evtRec.bytes 4 4
  | 0x068 => fld s.host.evtRec.bytes 8 4
  | 0x06C => fld s.host.evtRec.bytes 12 4
  | 0x070 => s.host.scratch.toNat
  | 0x504 => b2n s.host.tsValid + b2n s.host.tsTick * 2 + b2n s.host.tsAligned * 4
  | 0x508 => s.host.tsNt % 2 ^ 32
  | 0x50C => s.host.tsNt / 2 ^ 32 % 2 ^ 32
  | 0x510 => s.host.tsFc
  | 0x514 => s.host.tsPhase
  | 0x518 => s.tsOffsetNow.toNat
  | 0x51C => s.tsRateNow.toNat
  | 0x600 => b2n s.pi.enable + b2n s.pi.handshake * 2 + s.pi.writer * 4
  | 0x608 => b2n s.pi.hostB + b2n s.pi.handed * 2 + b2n s.pi.running * 4
  | 0x60C => s.pi.fc
  | 0x610 => s.pi.swaps
  | 0x614 => s.pi.missed
  | 0x618 => s.pi.reject
  | 0x61C => s.pi.late
  | _ => if 0x100 ≤ o ∧ o < 0x500 then s.mbxReg (fin 16 (by decide) ((o - 0x100) / 0x40)) (o % 0x40) else 0

/-- Whether a path owns a mailbox. -/
def Mbx.ownedBy (b : Mbx) (p : Path) : Bool := b.owner == Owner.ofPath p

/-- The value of a word of the host address space for a path, with no effect of the read (R39, R48). -/
def State.peek (s : State) (p : Path) (off : Nat) : Word :=
  if off < 0x700 then BitVec.ofNat 32 (s.reg off)
  else if 0x10000 ≤ off ∧ off < 0x14000 then
    let b := s.mbx[fin 16 (by decide) ((off - 0x10000) / 0x400)]
    let o := off % 0x400
    if !b.ownedBy p then 0 else if o < 0x200 then b.cmd.word o else b.resp.word (o - 0x200)
  else if 0x20000 ≤ off ∧ off < 0x28000 then s.pi.bankA.word (off - 0x20000)
  else if 0x28000 ≤ off ∧ off < 0x30000 then s.pi.bankB.word (off - 0x28000)
  else 0

/-- The low words of the 64-bit registers (R42): SYS_SERIAL and TS_NT. -/
def isLowWord (off : Nat) : Bool := off == 0x008 || off == 0x508

/-- The high words of the 64-bit registers. -/
def isHighWord (off : Nat) : Bool := off == 0x00C || off == 0x50C

/-- The high word latched for a path (R42). -/
def State.latched (s : State) (p : Path) (off : Nat) : Option Word :=
  (s.host.hiLatch.find? fun x => x.1 == p && x.2.1 == off).map (·.2.2)

/-- A read of a low word latches its high word for the path (R42). -/
def State.latchHigh (s : State) (p : Path) (off : Nat) : State :=
  let hi := s.peek p (off + 4)
  s.modHost fun h => { h with hiLatch :=
    (p, off + 4, hi) :: h.hiLatch.filter (fun x => !(x.1 == p && x.2.1 == off + 4)) }

/-- EVT_LOST is cleared by its read (R43, R46). -/
def State.clearLost (s : State) : State := s.modHost fun h => { h with evtLost := 0 }

/-- A read of a word by a path, with its effects (R42, R43): the word, and the state after it.  DESIGN CHOICE
(log 148): a high word whose low word the path has never read reads as it is at present. -/
def State.readWord (s : State) (p : Path) (off : Nat) : Word × State :=
  let v := if isHighWord off then (s.latched p off).getD (s.peek p off) else s.peek p off
  let s := if isLowWord off then s.latchHigh p off else s
  (v, if off = 0x054 then s.clearLost else s)

/-- Words read in a row from an offset, addresses rising by 4 (R41). -/
def State.readWords (s : State) (p : Path) (off : Nat) : Nat → List Word × State
  | 0 => ([], s)
  | n + 1 =>
    let (v, s) := s.readWord p off
    let (vs, s) := s.readWords p (off + 4) n
    (v :: vs, s)

/-! Writes. -/

/-- A W1C write of IRQ_STATUS (R44): the second MSI case sends again where an enabled bit stays set. -/
def State.irqClear (s : State) (v : Word) : State :=
  let st := s.host.irqStatus &&& ~~~v
  let s' := s.modHost fun h => { h with irqStatus := st }
  if s.host.msiOn && s.host.pcieUp then
    s'.each (List.range s.host.msiGranted) fun t k =>
      let m := irqMask s.host.irqVector s.host.msiGranted k
      if v &&& m != 0 && st &&& s.host.irqEnable &&& m != 0 then t.emit (.msi k) else t
  else s'

/-- The bits of IRQ_STATUS that a cause can set (R43). -/
def irqBits : Word := 0x01FFFFFF

/-- The host watchdog restarts (R65). -/
def State.kick (s : State) : State := s.modHost fun h => { h with wdogFrom := s.nt, wdogExpired := false }

/-- EVT_POP (R43, R46). -/
def State.evtPop (s : State) : State :=
  s.modHost fun h => match h.evt with
    | [] => { h with evtRec := { h.evtRec with code := 0 } }
    | r :: rest => { h with evtRec := r, evt := rest }

/-- A time snapshot (R45): `tick` where it is taken at a tick. -/
def State.snapshot (s : State) (tick : Bool) : State :=
  (s.modHost fun h =>
    { h with tsValid := true, tsTick := tick, tsAligned := s.aligned, tsNt := s.nt % 2 ^ 64, tsFc := s.fc,
             tsPhase := s.nt - s.frame.tick }).irq (irqBit 22)

/-- Full service has begun: the process image runs (R456). -/
def State.fullService (s : State) : Bool :=
  match s.pwr.state with
  | .config | .operate | .service | .safe => true
  | .reset | .boot | .ristretto => false

/-- A write of PI_CTRL (R45, R63, R456): WRITER only while ENABLE is 0; a new ENABLE waits for its commit. -/
def State.piCtrl (s : State) (v : Word) : State :=
  let n := v.toNat
  let on := bit n 0 && s.fullService
  s.modPi fun p =>
    { p with
      writer := if p.enable then p.writer else bits n 3 2
      handshake := bit n 1
      enable := on
      running := on && p.running
      enabling := on && (!p.enable || p.enabling)
      swaps := if on && !p.enable then 0 else p.swaps
      dry := if on && bit n 1 then p.dry else 0
      dryRaised := on && bit n 1 && p.dryRaised
      handed := on && p.handed }

/-- ENABLE has had its commit (R63): banks swap, and writes to them are judged. -/
def PiSt.live (k : PiSt) : Bool := k.enable && !k.enabling

/-- PI_HANDOVER (R63): the host-facing bank goes to the device at the next swap.  DESIGN CHOICE (log 148): a handover
while ENABLE is 0 or before its commit is ignored, and a second one while one is pending keeps the first's instant. -/
def State.piHand (s : State) (p : Path) : State :=
  if s.pi.live && !s.pi.handed && s.pi.writer == (Owner.ofPath p).code then
    s.modPi fun k => { k with handed := true, handedAt := s.nt }
  else s

/-- A discarded process image write (R63). -/
def State.piDiscard (s : State) : State :=
  (s.modPi fun k => { k with reject := count32 k.reject }).irq (irqBit 18)

/-- A host write to a process image bank (R63): `off` from the start of the host address space. -/
def State.bankWrite (s : State) (p : Path) (off : Nat) (v : Word) : State :=
  let b := decide (0x28000 ≤ off)
  let o := off % 0x8000
  if s.pi.live && (s.pi.writer != (Owner.ofPath p).code || b != s.pi.hostB || s.pi.handed) then s.piDiscard
  else s.modPi fun k =>
    if b then { k with bankB := k.bankB.puts o (leBytes 4 v.toNat) }
    else { k with bankA := k.bankA.puts o (leBytes 4 v.toNat) }

/-- MBXn_CLAIM 1 (R47, R48). -/
def State.mbxClaim (s : State) (p : Path) (m : Fin 16) : State :=
  if s.netOnly m || s.mbx[m].owner != .free then s else s.modMbx m fun b => { b with owner := Owner.ofPath p }

/-- MBXn_CLAIM 2 (R48). -/
def State.mbxRelease (s : State) (p : Path) (m : Fin 16) : State :=
  let b := s.mbx[m]
  if !b.ownedBy p then s
  else match b.state with
    | .idle | .done => s.freeMbx m
    | .pending | .executing => s.modMbx m fun b => { b with releasing := true }

/-- MBXn_DOORBELL (R47, R49). -/
def State.doorbell (s : State) (p : Path) (m : Fin 16) : State :=
  let b := s.mbx[m]
  if !b.ownedBy p then s
  else match b.state with
    | .idle | .done => s.modMbx m fun b =>
        { b with state := .pending, cmdCount := count32 b.cmdCount, lockWrite := false,
                 bellIgnored := false, bellAt := s.nt, deadlineNow := b.deadline }
    | .pending | .executing => s.modMbx m fun b => { b with bellIgnored := true }

/-- A write to a mailbox's command buffer (R48, R49): locked while the command is PENDING. -/
def State.cmdWrite (s : State) (p : Path) (m : Fin 16) (o : Nat) (v : Word) : State :=
  let b := s.mbx[m]
  if !b.ownedBy p then s
  else if b.state == .pending then s.modMbx m fun b => { b with lockWrite := true }
  else s.modMbx m fun b => { b with cmd := b.cmd.puts o (leBytes 4 v.toNat) }

/-- A write to a register of a mailbox (R47). -/
def State.mbxWrite (s : State) (p : Path) (m : Fin 16) (o : Nat) (v : Word) : State :=
  match o with
  | 0x04 => if v = 1 then s.mbxClaim p m else if v = 2 then s.mbxRelease p m else s
  | 0x08 => if v = 1 then s.doorbell p m else s
  | 0x10 => s.modMbx m fun b => { b with deadline := min 60000 (max 1 v.toNat) }
  | _ => s

/-- A write of one word by a path (R39, R43 to R48): reserved ranges and RO registers ignore it. -/
def State.writeWord (s : State) (p : Path) (off : Nat) (v : Word) : State :=
  if off < 0x700 then
    match off with
    | 0x020 => s.irqClear v
    | 0x024 => s.irqSet s.host.irqStatus (v &&& irqBits) s.host.irqVector
    | 0x02C => s.irqSet s.host.irqStatus s.host.irqEnable (v &&& 0xFF)
    | 0x030 => s.irq (v &&& irqBits)
    | 0x040 => s.kick
    | 0x058 => if v = 1 then s.evtPop else s
    | 0x070 => s.modHost fun h => { h with scratch := v }
    | 0x500 =>
      let s := if bit v.toNat 0 then s.snapshot false else s
      if bit v.toNat 1 then s.modHost fun h => { h with tsArmed := true } else s
    | 0x600 => s.piCtrl v
    | 0x604 => if v = 1 then s.piHand p else s
    | _ => if 0x100 ≤ off ∧ off < 0x500 then
        s.mbxWrite p (fin 16 (by decide) ((off - 0x100) / 0x40)) (off % 0x40) v else s
  else if 0x10000 ≤ off ∧ off < 0x14000 then
    if off % 0x400 < 0x200 then s.cmdWrite p (fin 16 (by decide) ((off - 0x10000) / 0x400)) (off % 0x400) v
    else s
  else if 0x20000 ≤ off ∧ off < 0x30000 then s.bankWrite p off v
  else s

/-- Whole words written in a row (R41): a trailing part of a word is discarded. -/
def State.writeWords (s : State) (p : Path) (off : Nat) : List Byte → State
  | b0 :: b1 :: b2 :: b3 :: rest =>
    (s.writeWord p off (BitVec.ofNat 32 (leNat [b0, b1, b2, b3]))).writeWords p (off + 4) rest
  | _ => s

end Sys2Proof.Machine
end

