-- ==== Sys2Proof/Machine/ParamRead.lean ====
section
/-! DEFINITION. What every parameter reads as (R53 to R56): the read-only values of all chapters, and the
values in force of the others. -/

namespace Sys2Proof.Machine

/-- Life consumed in % (R499): the histogram's equivalent hours at 85 °C by the Arrhenius law with 0.7 eV
(0.7 eV over the Boltzmann constant is 8,123 K; a bin stands at its middle), over the rated hours. -/
def lifeOf (hist : List Nat) (rated : Nat) : Rat :=
  let h := (hist.zipIdx).foldl (fun (t : Rat) x =>
    let k : Rat := (-35 + 10 * (x.2 : Rat)) + 27315 / 100
    t + (x.1 : Rat) / 3600000000000 * expQ (8123 * (1 / (35815 / 100) - 1 / k))) 0
  if rated = 0 then 0 else 100 * h / (rated : Rat)

/-- Mean of a list of integers, as a rational; 0 of none. -/
def meanInt (l : List Int) : Rat := if l.isEmpty then 0 else ((l.foldl (· + ·) 0 : Int) : Rat) / (l.length : Rat)

/-- Mean of a list of naturals, as a rational; 0 of none. -/
def meanNat (l : List Nat) : Rat := if l.isEmpty then 0 else ((l.foldl (· + ·) 0 : Nat) : Rat) / (l.length : Rat)

/-- The downstream delay in use, in ps (R75). -/
def State.linkDelay (s : State) (l : Fin 32) : Rat :=
  meanInt s.links[l].rts * 250 / 2 + (s.pI 32 (Pid.lnkAsym l.val) : Rat) / 2

/-- The electrical frequency of one 60 °e step per `ns` (Hz). -/
def hz60 (ns : Rat) : Rat := if ns ≤ 0 then 0 else 1000000000 / (6 * ns)

/-- The Hall speed at a device time, signed electrical Hz (R135). -/
def State.hallSpeed (s : State) (a : Fin 128) (tm : Nat) : Rat :=
  let c := s.axes[a].com
  match c.hallAt with
  | none => 0
  | some t =>
    if c.hallZero || decide (ms (s.pN (Pid.axFbkZeroTimeout a.val)) < tm - t) || c.hallIv.isEmpty then 0
    else (c.hallDir : Rat) * hz60 (rmax (meanNat (c.hallIv.take 2)) ((tm - t : Nat) : Rat))

/-- The crossing estimate of R140, signed electrical Hz; 0 while not valid (R547). -/
def Axis.zcSpeed (x : Axis) : Rat :=
  if x.com.zcValid then (x.com.zcDir : Rat) * hz60 (meanNat x.com.zcIv) else 0

/-- `AX.COM.SPEED_E` (R547): the speed of the source that commutates the axis. -/
def State.speedE (s : State) (a : Fin 128) (tm : Nat) : Rat :=
  let x := s.axes[a]
  let src := s.pN (Pid.axComSource a.val)
  let hallSrc := src = 0 ∨ src = 2
  if x.com.phase = .hall ∨ ((x.state = .off ∨ x.state = .ready) ∧ hallSrc) then s.hallSpeed a tm else x.zcSpeed

/-- `AX.COM.F_MAX` (R141). -/
def State.comFmax (s : State) : Rat := 1 / (24 * s.tfS)

/-- The bandwidth limits of R222. -/
def State.bwMaxCur (s : State) (a : Nat) : Rat := 1 / (12 * s.td a)
/-- `AX.VEL.BW_MAX`. -/
def State.bwMaxVel (s : State) (a : Nat) : Rat := s.pF (Pid.axCurBw a) / 5
/-- `AX.POS.BW_MAX`. -/
def State.bwMaxPos (s : State) (a : Nat) : Rat := s.pF (Pid.axVelBw a) / 4

/-- A first-fault latch as 64 bits (R443). -/
def Latch.word (l : Latch) : Nat :=
  l.fc % 2 ^ 32 * 2 ^ 32 + b2n l.preReset * 2 ^ 27 + l.level * 2 ^ 24 + l.inst % 256 * 2 ^ 16 + l.code

/-- `AX.FBK.STATUS` (R192). -/
def State.fbkStatus (s : State) (a : Fin 128) : Nat :=
  let f := s.axes[a].fbk
  b2n f.valid + b2n f.speedValid * 2 + b2n f.unref * 4 + b2n f.estimated * 8 +
  b2n (s.faultOn 0x1050 a.val || s.faultOn 0x1051 a.val) * 16 + b2n f.frozen * 32 + b2n f.ampLow * 64 +
  b2n f.ampHigh * 128 + b2n f.wire * 256 + b2n f.serFail * 512 + b2n f.serWarn * 1024 +
  b2n (decide (s.pN (Pid.axFbkEdgeLimit a.val) < f.tally.foldl (· + ·) 0)) * 2048 + f.cause * 4096

/-- `AX.MOT.ENG_STAT` (R200). -/
def State.engStat (s : State) (a : Fin 128) : Nat :=
  let e := s.axes[a].eng
  let st := e.st
  let x (v : Int) (n : Nat) : Nat := ofSigned 6 v * 2 ^ n
  x st.posE 0 + x st.velE 6 + x st.curE 12 + x st.ffE 18 + x st.rptE 24 + x st.fltE[0] 30 + x st.fltE[1] 36 +
  e.sticky.toNat * 2 ^ 56 + b2n (s.frame.reduced.getLsbD (clusterOf a).val) * 2 ^ 63

/-- Latched trip pins whose mask covers the axis (R129). -/
def State.pinsOver (s : State) (a : Fin 128) : List (Fin 8) :=
  if (clusterOf a).val < 8 then
    allPins.filter fun p => s.pins[p].latched && p.val == (clusterOf a).val &&
      bit (s.pN (Pid.trpPMask p.val)) (a.val % 16)
  else []

/-- `AX.PWM.TRIP_STAT`: the stage-trip latch, otherwise a latched pin that covers the axis. -/
def State.tripStat (s : State) (a : Fin 128) : Nat :=
  let p := s.axes[a].pwm
  let pins := s.pinsOver a
  if p.trip then p.tripCause % 16 + 16 + b2n p.tripRefused * 32 + b2n (!pins.isEmpty) * 64
  else match pins with
    | [] => 0
    | q :: _ => 1 + 16 + b2n s.pins[q].refused * 32

/-- `AX.PWM.TRIP_STAMP`. -/
def State.tripStamp (s : State) (a : Fin 128) : Nat :=
  let p := s.axes[a].pwm
  if p.trip then p.tripStamp
  else match s.pinsOver a with
    | [] => 0
    | q :: _ => s.pins[q].stamp

/-- A dead time within its bounds: the stage's DT_MIN prevails over DT_MAX (R117). -/
def State.dtBound (s : State) (a : Nat) (v : Int) : Nat :=
  let lo := max (s.pN (Pid.axPwmDtMin a)) (s.stageDtMin a)
  let hi := s.pN (Pid.axPwmDtMax a)
  if hi < lo then lo else (clampInt lo hi v).toNat

/-- The dead time that the device sets for a physical half-bridge: fixed, or as adapted (R117). -/
def State.dtWant (s : State) (a : Fin 128) (j : Fin 4) : Nat :=
  s.dtBound a.val (if s.pN (Pid.axPwmDtMode a.val) = 1 then (s.pN (Pid.axPwmDtFixed a.val) : Int)
                   else (s.axes[a].pwm.hb[j].dt : Int))

/-- The frame of an FC is still to come: FC counts modulo 2^32 (R21). -/
def State.frameAhead (s : State) (fc : Nat) : Bool :=
  let d := (fc + 2 ^ 32 - s.frame.fc % 2 ^ 32) % 2 ^ 32
  decide (1 ≤ d ∧ d < 2 ^ 31)

/-- The dead time in force on a physical half-bridge in the present frame (R117, R119): the last acknowledged,
the larger of old and new while an answer is overdue, the new one from its frame on. -/
def State.dtNow (s : State) (a : Fin 128) (j : Fin 4) : Nat :=
  let x := s.links[linkOf a]
  let i := (slotOf a).val * 4 + j.val
  match x.dtStage[i]? with
  | none => s.dtWant a j
  | some old => match x.dtMsg with
    | none => old
    | some m =>
      let new := m.vals.getD i old
      if m.answered && !s.frameAhead m.fc then new
      else if m.stale || !s.frameAhead m.fc then max old new
      else old

/-- Counts as a 32.32 number. -/
def cts32 (n : Int) : Int := n * 4294967296

/-- Counts per revolution. -/
def State.cpr (s : State) (a : Fin 128) : Nat := s.pN (Pid.axFbkCpr a.val)

/-- The range of a modulo position in 2^-32 cts (R177). -/
def State.modRange (s : State) (a : Fin 128) : Int := cts32 (s.cpr a * s.pN (Pid.axFbkModRevs a.val) : Nat)

/-- A position wrapped (R176, R177). -/
def State.posWrap (s : State) (a : Fin 128) (p : Int) : Int :=
  if s.pN (Pid.axFbkModulo a.val) = 1 then p % s.modRange a else (p + 2 ^ 63) % 2 ^ 64 - 2 ^ 63

/-- A displacement between two positions (R175): never a jump at a wrap. -/
def State.dispOf (s : State) (a : Fin 128) (p q : Int) : Int :=
  if s.pN (Pid.axFbkModulo a.val) = 1 then
    let r := s.modRange a
    let d := (p - q) % r
    if r ≤ 2 * d then d - r else d
  else (p - q + 2 ^ 63) % 2 ^ 64 - 2 ^ 63

/-- A position in 2^-32 cts as 2^-32 uu (R228), rounded to the nearest. -/
def State.toUu (s : State) (a : Nat) (p : Int) : Int :=
  roundEven ((p : Rat) * (s.pN (Pid.axPrfScaleDen a) : Rat) / (s.pN (Pid.axPrfScaleNum a) : Rat))

/-- A position in 2^-32 uu as 2^-32 cts (R228). -/
def State.toCts (s : State) (a : Nat) (p : Int) : Int :=
  roundEven ((p : Rat) * (s.pN (Pid.axPrfScaleNum a) : Rat) / (s.pN (Pid.axPrfScaleDen a) : Rat))

/-- `AX.PRF.REMAIN` (R239). -/
def State.prfRemain (s : State) (a : Fin 128) : Int :=
  let x := s.axes[a]
  match x.prf.queue with
  | [] => 0
  | e :: _ => match e.tgt with
    | some t => if x.prf.running then s.toUu a.val (t - x.prf.now.pos + s.dispOf a x.prf.now.pos x.fbk.pos) else 0
    | none => 0

/-- `AX.RPT.RMS`: the root mean square of T - M over the bins, in A. -/
def Axis.rptRms (x : Axis) : Rat :=
  let st := x.eng.st
  let lsb := pow2 (st.rptE - 23)
  let q := st.bins.foldl (fun (t : Rat) b => t + ((b - st.mean : Int) : Rat) * ((b - st.mean : Int) : Rat)) 0
  sqrtQ (q / 256) * lsb

/-- `AX.STP.STATUS` (R275). -/
def State.stpStatus (s : State) (a : Fin 128) : Nat :=
  let p := s.axes[a].stp
  (if p.blend.isSome then 2 else if p.volt then 1 else 0) + b2n p.holdFrom.isSome * 8 + b2n p.clamped * 16 +
  b2n p.aligned * 32 + b2n p.forced.isSome * 64 + b2n (s.faultOn 0x1081 a.val) * 128 + b2n p.openA * 256 +
  b2n p.openB * 512 + b2n p.attached * 1024 + b2n p.noDet * 2048

/-- Words per stored sample for the channels now set (R333). -/
def State.capWords (s : State) : Nat :=
  let ch := (List.range 16).foldl (fun n i => n + (if s.pN (Pid.capChSrc i) = 0 then 0 else 1)) 0
  ch + (if s.pN Pid.capReduce = 2 then ch else 0) + (if s.pN Pid.capMode = 2 then 1 else 0)

/-- C for a number of words per sample (R333). -/
def capC (w : Nat) : Nat := if w = 0 then 0 else 1048576 / w

/-- `CAP.STATUS` (R347). -/
def State.capStatus (s : State) : Nat :=
  let c := s.cap
  let st := match c.state with
    | .idle => 0 | .fill => 1 | .wait => 2 | .post => 3 | .done => 4 | .stopped => 5
  st + b2n c.seqA * 16 + c.mtch.toNat * 64 + b2n c.forced * 1024 + b2n c.clamped * 2048 +
  b2n c.maskFail * 4096 + b2n c.srcGap * 8192

/-- `FIO.STATUS` (R327). -/
def State.fioStatus (s : State) : Nat :=
  let f := s.fio
  b2n f.common + b2n f.invalid * 2 + b2n f.uvOff * 4 + b2n f.uvWarn * 8 + b2n f.cfLost * 16 +
  b2n f.rearmReady * 32 + b2n f.outOff * 64 + b2n f.diag.isSome * 128

/-- The retention store where it is in use: in deep sleep and until its exit has restored it (R464). -/
def DeepPhase.kept (d : DeepPhase) (l : Option (List PEntry)) : Option (List PEntry) :=
  match d with
  | .asleep _ _ | .waking _ _ _ => l
  | .awake | .requested _ => none

/-- A value that AON hardware holds: in deep sleep the retained one (R7, R464). -/
def State.aonN (s : State) (id : Nat) : Nat :=
  match s.pwr.deep.kept s.pwr.retention with
  | some l => match storeGet l id with
    | some e => e.val.toNat
    | none => s.pN id
  | none => s.pN id

/-- A field input's level as every user sees it (R313). -/
def State.finLevel (s : State) (i : Fin 40) : Bool := (s.fio.ins[i]).level != bit (s.aonN Pid.fioInInvert) i.val

/-- The levels at tick − 0.5 µs, bit i for input i, as the process image carries them (R62, R314). -/
def State.fioCut (s : State) : Nat := s.fio.cut.toNat ^^^ (s.aonN Pid.fioInInvert % 2 ^ 40)

/-- The present levels of the field inputs (R326). -/
def State.fioLevels (s : State) : Nat :=
  (List.range 40).foldl (fun n i => n + b2n (s.finLevel (fin 40 (by decide) i)) * 2 ^ i) 0

/-- The groups of a channel in a state, as a mask. -/
def ChanSt.grpMask (c : ChanSt) (st : GrpState) : Nat :=
  (List.range 16).foldl (fun n g => n + b2n ((c.groups[fin 16 (by decide) g]).state == st) * 2 ^ g) 0

/-- The groups of a channel under SLS. -/
def ChanSt.slsMask (c : ChanSt) : Nat :=
  (List.range 16).foldl (fun n g => n + b2n ((c.groups[fin 16 (by decide) g]).slsFrom.isSome) * 2 ^ g) 0

/-- Degraded time used so far, in ns (R424). -/
def State.degUsedNow (s : State) (c : Fin 2) : Nat :=
  let k := s.saf.chan[c]
  if k.degraded then k.degUsed + (s.nt - k.degFrom) else k.degUsed

/-- The SDI in force (R414, R430): the latest telegram's, with telegrams in use. -/
def State.sdiMask (s : State) : Nat :=
  if s.safV 0 Pid.safTelUse = 1 then s.saf.chan[0].tel.sdi.toNat else 0

/-- The latest telegram came within `SAF.TEL.TIMEOUT` (R431). -/
def State.telInTime (s : State) : Bool :=
  let c := s.saf.chan[0]
  c.telOk && decide (s.nt < c.telAt + ms (s.safV 0 Pid.safTelTimeout))

/-- `SAF.STATUS` (R431). -/
def State.safStatus (s : State) : Nat :=
  let f := s.saf
  b2n (f.so[0].failP || f.so[0].failL) + b2n (f.so[1].failP || f.so[1].failL) * 2 + b2n f.lWarn * 4 + b2n s.telInTime * 8 + b2n f.lost[0] * 16 +
  b2n f.lost[1] * 32 + b2n f.resetNeeded * 64 + b2n f.chan[0].degraded * 128 +
  b2n (s.pwr.state == .safe) * 256 + b2n f.lockedUntil.isSome * 512 + b2n f.login.isSome * 1024 +
  b2n f.staged.isSome * 2048 + b2n f.chan[0].configured * 4096

/-- `NET.Pp.STAT`. -/
def State.netPortStat (s : State) (p : Fin 4) : Nat :=
  let x := s.net.ports[p]
  let y := s.net.ports[fin 4 (by decide) (p.val / 2 * 2 + (1 - p.val % 2))]
  b2n x.link + b2n x.gig * 2 + b2n x.configErr * 4 + b2n (x.link && y.link && x.gig == y.gig) * 8

/-- An offset in ns as a whole number. -/
def State.offsetNs (s : State) (n : Fin 2) : Int := roundEven s.net.units[n].offset

/-- VERSION of a slot; 0 if invalid. -/
def State.slotVer (s : State) (i : Fin 2) : Nat :=
  let x := s.sec.slots[i]
  if x.good && !x.bad then x.version else 0

/-- Bits of a family read from the axes. -/
def State.tripMask (s : State) (lo : Nat) : Nat :=
  (List.range 64).foldl (fun n i => n + b2n (s.axes[axisNo (lo + i)]).pwm.trip * 2 ^ i) 0

/-- A read-only value of an axis, in its encoding. -/
def State.roAxis (s : State) (cls : Nat) (a : Fin 128) (i : Nat) : Nat :=
  let x := s.axes[a]
  match cls, i with
  | 0x1D, 0x28 => s.dtNow a 0
  | 0x1D, 0x29 => s.dtNow a 1
  | 0x1D, 0x2A => s.dtNow a 2
  | 0x1D, 0x2B => s.dtNow a 3
  | 0x1D, 0x40 => x.pwm.shortCnt
  | 0x1D, 0x41 => x.pwm.carryLost
  | 0x1D, 0x50 => s.tripStat a
  | 0x1D, 0x51 => s.tripStamp a
  | 0x11, 0x70 => f32Enc s.comFmax
  | 0x11, 0x80 => match x.com.phase with
    | .none => 0 | .listen => 1 | .brake => 2 | .ipd => 3 | .align => 4 | .ramp => 5 | .pause => 6
    | .hall => 7 | .sensorless => 8 | .coastStop => 9
  | 0x11, 0x81 => x.com.sector
  | 0x11, 0x82 => f32Enc (s.speedE a s.nt)
  | 0x11, 0x86 => f32Enc x.zcSpeed
  | 0x11, 0x83 => x.com.startTry
  | 0x11, 0x84 => x.com.ipdResult
  | 0x11, 0x85 => f32Enc x.com.catchSpeed
  | 0x11, 0x88 => f32Enc x.com.keRatio
  | 0x11, 0x90 => x.com.missed
  | 0x11, 0x91 => x.com.zcMiss
  | 0x11, 0x92 => x.com.zcOff
  | 0x11, 0x93 => x.com.recatch
  | 0x1C, 0x12 => x.fbk.edgeCnt
  | 0x1C, 0x1C => f32Enc (sqrtQ (x.fbk.amp2 : Rat) / (s.pN (Pid.axFbkScNom a.val) : Rat))
  | 0x1C, 0x25 => x.fbk.serErr
  | 0x1C, 0x40 => s.fbkStatus a
  | 0x1C, 0x41 => ofSigned 64 x.fbk.pos
  | 0x1C, 0x42 => ofSigned 64 (satSigned 64 (roundEven (x.fbk.vel * 4294967296)))
  | 0x1C, 0x43 => ofSigned 64 x.fbk.turns
  | 0x1C, 0x44 => ofSigned 32 x.fbk.wraps
  | 0x14, 0x40 => f32Enc (s.bwMaxPos a.val)
  | 0x13, 0x40 => f32Enc (s.bwMaxVel a.val)
  | 0x12, 0x40 => f32Enc (s.bwMaxCur a.val)
  | 0x16, 0x40 => b2n x.eng.learning + b2n x.eng.overspeed * 2 + b2n x.eng.clamped * 4
  | 0x16, 0x41 => f32Enc x.rptRms
  | 0x17, 0x40 => (match x.eng.inj with
    | .idle => 0 | .running => 1 | .done => 2 | .aborted => 3) + x.eng.injCause * 16
  | 0x10, 0x20 => f32Enc (s.kt a.val)
  | 0x10, 0x21 => f32Enc (s.iLimit a)
  | 0x10, 0x40 => s.engStat a
  | 0x18, 0x40 => match x.prf.state with
    | .idle => 0 | .moving => 1 | .pausing => 2 | .paused => 3 | .homing => 4 | .geared => 5 | .cyclic => 6
  | 0x18, 0x41 => 8 - x.prf.queue.length
  | 0x18, 0x42 => x.prf.entryId
  | 0x18, 0x43 => ofSigned 64 (s.prfRemain a)
  | 0x18, 0x44 => x.prf.lateJoint
  | 0x18, 0x45 => x.prf.extrap
  | 0x18, 0x46 => x.prf.disc
  | 0x19, 0x40 => x.hom.phase + b2n x.hom.done * 8 + b2n x.hom.failed * 16 + x.hom.cause * 32
  | 0x19, 0x41 => x.hom.refStamp
  | 0x1A, 0x40 => x.gea.stat + b2n x.gea.disengaging * 4
  | 0x1A, 0x41 => ofSigned 64 x.gea.mval
  | 0x1B, 0x40 => f32Enc s.stpFmax
  | 0x1B, 0x41 => s.stpStatus a
  | 0x1B, 0x42 => x.stp.a.toNat
  | 0x1B, 0x43 => ofSigned 64 x.stp.v
  | 0x1B, 0x44 => x.stp.fbkOfs
  | 0x1B, 0x45 => x.stp.rateClamp
  | 0x1F, 0x40 => x.rea.first.word
  | 0x1F, 0x41 => x.rea.level
  | 0x1F, 0x42 => x.rea.cause
  | 0x1E, _ =>
    let k : Fin 2 := fin 2 (by decide) (i / 16)
    let u := x.cmp[k]
    let q := x.lat[k]
    match i / 256 * 16 + i % 16 with
    | 0x07 => b2n u.armed + b2n u.done * 2 + b2n u.late * 4 + b2n u.skipped * 8
    | 0x08 => u.fired
    | 0x09 => u.skip
    | 0x13 => ofSigned 64 q.pos
    | 0x14 => q.stamp
    | 0x15 => q.count
    | 0x16 => b2n q.armed + b2n q.new * 2 + b2n q.est * 4
    | _ => 0
  | _, _ => 0

/-- A read-only value of a link, in its encoding. -/
def State.roLink (s : State) (l : Fin 32) (i : Nat) : Nat :=
  let x := s.links[l]
  match i with
  | 0x02 => match x.state with
    | .down => 0 | .train => 1 | .up => 2 | .doze => 3 | .retrain => 4
  | 0x11 => (roundEven (clampRat 0 200000 (s.linkDelay l))).toNat
  | 0x21 => x.eye
  | 0x30 => x.crcErr
  | 0x31 => x.lateRec
  | 0x32 => x.upMax
  | 0x33 => x.drop
  | 0x40 => x.serial
  | _ => 0

/-- A read-only value of the device's own classes, in its encoding. -/
def State.roDev (s : State) (cls i : Nat) : Nat :=
  let pin : Fin 8 := fin 8 (by decide) (i / 16)
  let prt : Fin 4 := fin 4 (by decide) (i / 16)
  match cls, i with
  | 0x01, 0x11 => s.fc
  | 0x01, 0x12 => b2n s.aligned
  | 0x01, 0x13 => s.par.commitDefer
  | 0x01, 0x28 => 40 + Config.fwShare s.nt % 61
  | 0x01, _ => if i < 0x20 then s.frame.ovr[fin 8 (by decide) i] else s.frame.engMax[fin 8 (by decide) i]
  | 0x21, 0x20 => s.tripMask 0
  | 0x21, 0x21 => s.tripMask 64
  | 0x21, _ =>
    let p := s.pins[pin]
    match i % 16 with
    | 6 => b2n p.active + b2n p.latched * 2 + b2n p.refused * 4 + b2n p.late * 8
    | 7 => p.stamp
    | 8 => p.count
    | 9 => p.blanked
    | _ => 0
  | 0x61, _ =>
    let p := s.ports[prt]
    match i % 16 with
    | 8 => ofSigned 64 p.latched
    | 9 => p.stamp
    | 10 => ofSigned 64 p.zlatch
    | 11 => p.zstamp
    | 12 => b2n p.wire + b2n (decide (s.pN (Pid.lePEdgeLimit prt.val) <
        (within (ms 10) s.nt p.faultAt).length)) * 2 + b2n p.znew * 4
    | 13 => p.edgeCnt
    | _ => 0
  | 0x40, 0x40 => s.trk.ctx.toList.foldl (fun n c => n + b2n (c.state != .free)) 0
  | 0x40, 0x41 => s.trk.deferred
  | 0x40, 0x42 => s.trk.lateCnt
  | 0x41, _ =>
    let z := s.trk.zones[fin 160 (by decide) (i / 256)]
    match i % 256 with
    | 0x20 => z.matched
    | 0x21 => z.unexp
    | 0x22 => z.missed
    | _ => 0
  | 0x60, 0x40 => s.fioStatus
  | 0x60, 0x41 => s.fioLevels
  | 0x60, 0x42 => s.fio.cmd.toNat
  | 0x60, 0x43 => s.fio.fv24
  | 0x60, 0x44 => s.fio.defer
  | 0x60, 0x45 => s.fio.diagResult
  | 0x50, 0x40 => s.capStatus
  | 0x50, 0x41 => s.cap.preAct
  | 0x50, 0x42 => s.cap.count
  | 0x50, 0x43 => s.cap.start
  | 0x50, 0x44 => s.cap.trigIdx
  | 0x50, 0x45 => s.cap.trigNt
  | 0x50, 0x46 => capC s.capWords
  | 0x50, 0x47 => s.cap.runs
  | 0x50, 0x48 => s.cap.maskFirst
  | 0x30, 0x12 => s.macA
  | 0x30, 0x1A => s.macB
  | 0x30, 0x40 => s.net.udpRej
  | 0x30, _ =>
    let p := s.net.ports[prt]
    match i % 16 with
    | 8 => s.netPortStat prt
    | 9 => p.drop
    | 10 => p.authErr
    | _ => 0
  | 0x31, 0x45 => s.net.driver
  | 0x31, 0x46 => s.net.tsqOvf
  | 0x31, 0x42 => ofSigned 64 (s.offsetNs 0)
  | 0x31, 0x43 => ofSigned 64 (s.offsetNs 1)
  | 0x31, 0x44 => ofSigned 64 (roundEven (s.net.units[0].offset - s.net.units[1].offset))
  | 0x31, _ =>
    if i < 0x100 then match (s.net.units[fin 2 (by decide) i]).state with
      | .listening => 0 | .locking => 1 | .locked => 2 | .holdover => 3 | .master => 4
    else (roundEven ((s.net.ports[prt]).pdelay * 1000)).toNat
  | 0x32, 0x40 => s.net.late
  | 0x32, 0x41 => s.net.mismatch
  | 0xB0, 0x40 => s.twin.state.code
  | 0xB0, 0x41 => s.pwr.strapPos
  | 0xB0, 0x42 => s.twin.epoch
  | 0xB0, 0x43 => s.twin.partner
  | 0xB0, 0x44 => s.twin.imgSize
  | 0xB0, 0x45 => s.twin.imgMiss
  | 0xB0, 0x46 => s.twin.imgBad
  | 0xB0, 0x47 => b2n (decide (s.twin.dry[0] < 4)) + b2n (decide (s.twin.dry[1] < 4)) * 2 + b2n s.twin.split * 4 +
      b2n s.twin.bulk * 8
  | 0xB0, 0x48 => s.twin.failovers
  | 0x70, 0x40 => s.safStatus
  | 0x70, 0x41 => s.saf.chan[0].grpMask .sto
  | 0x70, 0x42 => s.saf.chan[0].grpMask .ss1
  | 0x70, 0x43 => s.saf.chan[0].slsMask
  | 0x70, 0x44 => s.sdiMask
  | 0x70, 0x45 => s.saf.chan[0].crc
  | 0x70, 0x46 => s.saf.chan[1].crc
  | 0x70, 0x47 => if s.saf.chan[0].degraded then
      s.safV 0 Pid.safDegradedTmax * 1000 - s.degUsedNow 0 / 1000000 else 0
  | 0x70, 0x48 => match s.saf.lockedUntil with
    | some t => (t - s.nt) / 1000000000
    | none => 0
  | 0x70, 0x49 => ofSigned 16 s.saf.lTemp
  | 0x70, 0x4A => s.saf.logCount
  | 0x70, _ => s.safV 0 (0x70000000 + i)
  | 0xF0, 0x40 => s.flt.nextSeq
  | 0xF0, 0x41 => s.flt.lost
  | 0xF0, 0x42 => s.flt.inForce.length
  | 0xF0, _ => (s.flt.classLatch[fin 13 (by decide) (i - 0x50)]).word
  | 0x08, 0x40 => (List.range 16).foldl (fun n d => n + b2n (s.domainOn d) * 2 ^ d) 0
  | 0x08, 0x41 => s.pwr.supply.toNat
  | 0x08, 0x42 => s.pwr.ristrettoT
  | 0x08, 0x43 => s.pwr.fullT
  | 0x09, 0x40 => s.pwr.wakeCause
  | 0x09, 0x41 => s.pwr.wakeIgn
  | 0x80, 0x01 => b2n s.sec.owned
  | 0x80, 0x02 => s.sec.ownerEpoch
  | 0x80, 0x03 => if s.sec.owned then leNat ((Config.sha256 s.sec.ownerKey).take 8) else 0
  | 0x80, 0x04 => s.sec.svnMin
  | 0x80, 0x05 => s.sec.cur
  | 0x80, 0x06 => s.slotVer 0
  | 0x80, 0x07 => s.slotVer 1
  | 0x80, 0x11 => s.sec.sessions.length
  | 0x80, 0x12 => s.sec.failCount
  | 0x80, 0x21 => (List.range 4).foldl
      (fun n k => n + b2n (s.sec.lineKeys[fin 4 (by decide) k]).isSome * 2 ^ k) 0
  | 0x80, 0x30 => s.sec.bundleLast
  | 0x80, 0x40 => if !s.sec.owned then 0 else if s.sec.jtagOpen then 2 else 1
  | 0x0A, 0x40 => s.age.vdd
  | 0x0A, 0x41 => ofSigned 16 s.age.slack
  | 0x0A, 0x42 => f32Enc (lifeOf s.age.hist 175200)
  | 0x0A, 0x43 => ofSigned 16 s.age.tj
  | 0x0A, 0x44 => s.age.cycles
  | 0x0A, 0x45 => s.age.isolated.toNat
  | 0x0A, 0x46 => s.age.fwRestarts
  | _, _ => 0

/-- The number that a parameter reads as: a read-only value, or the value in force. -/
def State.readNum (s : State) (r : PRow) (id : Nat) : Nat :=
  let cls := idClass id
  if r.acc == .ro then
    let v := if 0x10 ≤ cls ∧ cls ≤ 0x1F then s.roAxis cls (axisNo (idInst id)) (idIndex id)
      else if cls = 0x20 then s.roLink (linkNo (idInst id)) (idIndex id)
      else s.roDev cls (idIndex id)
    v % 2 ^ (8 * max 1 r.typ.bytes)
  else if cls = 0x61 ∧ idIndex id % 16 = 6 then b2n (s.ports[fin 4 (by decide) (idIndex id / 16)]).zarm
  else s.pget id

/-- The bytes of a STR parameter in force. -/
def State.strVal (s : State) (id : Nat) : List Byte :=
  match storeGet s.par.store id with
  | some { val := .str bs, .. } => bs
  | some { val := .num _, .. } | none => []

/-- A value in the encoding of its type (R54): a Doppio word carries its complement. -/
def PTyp.encode (t : PTyp) (n : Nat) : List Byte :=
  match t with
  | .d32 => leBytes 4 n ++ leBytes 4 (2 ^ 32 - 1 - n % 2 ^ 32)
  | .d64 => leBytes 8 n ++ leBytes 8 (2 ^ 64 - 1 - n % 2 ^ 64)
  | .u8 | .u16 | .u32 | .u64 | .s8 | .s16 | .s32 | .s64 | .f32 | .bool | .enum | .str => leBytes t.bytes n

/-- The value bytes of a parameter. -/
def State.readBytes (s : State) (r : PRow) (id : Nat) : List Byte :=
  if r.typ == .str then s.strVal id else r.typ.encode (s.readNum r id)

end Sys2Proof.Machine
end

