-- ==== Sys2Proof/Machine/PwmOps.lean ====
section
/-! DEFINITION. Switching schedules (R78 to R82, R108 to R122): phases of a sector, on-times, overrides, the bits
of a slot block, blanking windows, and the kill masks of a link. -/

namespace Sys2Proof.Machine

/-- The sector drive table (R110): positive, negative and floating phase, 0 U, 1 V, 2 W; 3 for none. -/
def sectorPhases (n : Nat) : Nat × Nat × Nat :=
  match n with
  | 0 => (0, 1, 2)
  | 1 => (0, 2, 1)
  | 2 => (1, 2, 0)
  | 3 => (1, 0, 2)
  | 4 => (2, 0, 1)
  | 5 => (2, 1, 0)
  | _ => (3, 3, 3)

/-- An on-time centred in its carrier period (R109): ON and OFF. -/
def centred (tc t : Nat) : Nat × Nat := ((tc - t) / 2, (tc - t) / 2 + t)

/-- MODE codes of R80. -/
def modeOff : Nat := 0
/-- LOW. -/
def modeLow : Nat := 1
/-- HIGH. -/
def modeHigh : Nat := 2
/-- PWM_C. -/
def modePwmC : Nat := 3
/-- PWM_H. -/
def modePwmH : Nat := 4
/-- PWM_L. -/
def modePwmL : Nat := 5

/-- A mode that switches. -/
def isPwm (mode : Nat) : Bool := decide (3 ≤ mode ∧ mode ≤ 5)

/-- Minimum and short-pulse policy of R113 and R115: the on-time and the carry that a request leaves. -/
def shapeOn (policy : Nat) (pwmC : Bool) (tc dt tmin : Int) (request carry : Int) : Int × Int :=
  let hi := if pwmC then tc - 2 * dt - tmin else tc - tmin
  let t := clampInt 0 tc (request + carry)
  if 0 < t ∧ t < tmin then
    (if policy = 0 then (0, t) else if policy = 1 then (tmin, 0) else (0, 0))
  else if hi < t ∧ t < tc then
    (if policy = 0 then (tc, t - tc) else if policy = 1 then (hi, 0) else (tc, 0))
  else (t, 0)

/-- The physical half-bridge of a logical one (R121): INVERT acts on the logical phases, after the swap. -/
def physOf (kind swap invert j : Nat) : Nat :=
  if kind = 2 then
    let j := if bit invert (j / 2) then j / 2 * 2 + (1 - j % 2) else j
    if swap = 4 then (j + 2) % 4 else j
  else match swap, j with
    | 1, 0 => 1
    | 1, 1 => 0
    | 2, 1 => 2
    | 2, 2 => 1
    | 3, 0 => 2
    | 3, 2 => 0
    | _, _ => j

/-- The logical half-bridge that a physical one carries. -/
def logOf (kind swap invert p : Nat) : Nat :=
  ((List.range 4).find? fun j => physOf kind swap invert j == p).getD p

/-- The physical half-bridge of an axis's logical one. -/
def State.phys (s : State) (a : Fin 128) (j : Nat) : Fin 4 :=
  fin 4 (by decide) (physOf (s.motType a.val) (s.pN (Pid.axPwmSwap a.val)) (s.pN (Pid.axPwmInvert a.val)) j)

/-- A current sample code with its half-bridge permuted (R80, R121). -/
def permCs (f : Nat → Nat) (c : Nat) : Nat :=
  if c / 16 = 1 ∨ c / 16 = 2 then c / 16 * 16 + f (c / 4 % 4) * 4 + c % 4 else c

/-- A slot's commands on physical half-bridges (R121). -/
def SlotCmd.permute (c : SlotCmd) (swap invert : Nat) : SlotCmd :=
  let f := physOf c.kind swap invert
  { c with
    hb := Vector.ofFn fun p => c.hb[fin 4 (by decide) (logOf c.kind swap invert p.val)]
    cs := c.cs.map (permCs f)
    float := if c.float < 3 then f c.float else c.float }

/-- A bit string from fields, the first in the lowest bits: value and width. -/
def bitFields (l : List (Nat × Nat)) : Nat :=
  (l.foldl (fun (t : Nat × Nat) x => (t.1 + x.1 % 2 ^ x.2 * 2 ^ t.2, t.2 + x.2)) (0, 0)).1

/-- The slot block (R79): 20 bytes six-step, 22 bytes stepper, none for a slot that is off. -/
def SlotCmd.block (c : SlotCmd) : List Byte :=
  let edges := c.hb.toList.flatMap fun h => [(h.tOn, 17), (h.tOff, 17)]
  let modes := c.hb.toList.map fun h => (h.mode, 3)
  let cs := c.cs.toList.map fun x => (x, 6)
  match c.kind with
  | 1 => leBytes 20 (bitFields (edges.take 6 ++ modes.take 3 ++ cs ++ c.vs.toList.map (fun x => (x, 4)) ++
      [(c.float, 2), (b2n c.zcEn, 1), (b2n c.zcBlank, 1)]))
  | 2 => leBytes 22 (bitFields (edges ++ modes ++ cs))
  | _ => []

/-- The commands of a slot whose half-bridges are all off. -/
def SlotCmd.off (kind : Nat) : SlotCmd := { kind := kind }

/-- The sample instants that a code names, ns from the actuation instant; none for no sample (R80). -/
def SlotCmd.sampleAt (c : SlotCmd) (tc : Nat) (kind hb p : Nat) : Option Nat :=
  let h := c.hb[fin 4 (by decide) hb]
  match kind with
  | 1 => some (p * tc + (h.tOn + h.tOff) / 2)
  | 2 => some (p * tc + h.tOff - 400)
  | 3 => some (p * tc + tc / 2)
  | _ => none

/-- The instant of current sample `i` from the actuation instant. -/
def SlotCmd.csAt (c : SlotCmd) (tc i : Nat) : Nat :=
  let k := c.cs[fin 4 (by decide) i]
  (c.sampleAt tc (k / 16 % 4) (k / 4 % 4) (k % 4)).getD (tc / 2)

/-- The instant of voltage sample `i` from the actuation instant: at the single half-bridge in a PWM mode. -/
def SlotCmd.vsAt (c : SlotCmd) (tc i : Nat) : Nat :=
  let k := c.vs[fin 2 (by decide) i]
  let hb := ((List.range 4).find? fun j => isPwm (c.hb[fin 4 (by decide) j]).mode).getD 0
  (c.sampleAt tc (k / 4 % 4) hb (k % 4)).getD (tc / 2)

/-! Trips: which slots a link kills (R89, R124, R127, R406). -/

/-- The axes that a stage trip of an axis reaches by `TRP.STAGE_SPREAD` (R127). -/
def State.spread (s : State) (a : Fin 128) : List (Fin 128) :=
  match s.pN Pid.trpStageSpread with
  | 1 => linkAxes (linkOf a)
  | 2 => clusterAxes (clusterOf a)
  | _ => [a]

/-- The axes in the mask of a trip pin (R124). -/
def State.pinAxes (s : State) (p : Fin 8) : List (Fin 128) :=
  (clusterAxes p).filter fun a => bit (s.pN (Pid.trpPMask p.val)) (a.val % 16)

/-- A trip kills an axis: a latched pin whose mask has it, or a stage trip that reaches it. -/
def State.tripKills (s : State) (a : Fin 128) : Bool :=
  let p : Fin 8 := clusterOf a
  (s.pins[p].latched && (s.pinAxes p).contains a) ||
  (clusterAxes p).any fun b => s.axes[b].pwm.trip && (s.spread b).contains a

/-- The slots that a link kills at present: trips, and the P-channel. -/
def State.killMask (s : State) (l : Fin 32) : BitVec 4 :=
  s.links[l].killSaf |||
    BitVec.ofNat 4 ((List.range 4).foldl (fun n k => n + b2n (s.tripKills (axisAt l k)) * 2 ^ k) 0)

/-! Blanking windows (R125). -/

/-- The commanded edges of a half-bridge in one frame, ns from the actuation instant. -/
def hbEdges (h : HbCmd) (tc m : Nat) : List Nat :=
  if isPwm h.mode && h.tOn != h.tOff then
    (List.range m).flatMap fun p => [h.tOn + p * tc, h.tOff + p * tc]
  else []

/-- The stage still places edges in the actuation period that begins at `t0` (R95): of a frame sent to it, or of one of
the 3 periods in which it repeats its last pattern. -/
def State.stagePlaces (s : State) (l : Fin 32) (t0 : Nat) : Bool := decide (t0 < s.links[l].sentAct + 4 * s.tf)

/-- The windows that the half-bridges of an axis open around an instant: start and end. -/
def State.axisWindows (s : State) (a : Fin 128) (ext tm : Nat) : List (Nat × Nat) :=
  let x := s.axes[a].pwm
  let tf := s.tf
  let base := x.liveAt + (tm - x.liveAt) / tf * tf
  let frame (c : SlotCmd) (t0 : Nat) : List (Nat × Nat) :=
    if !s.stagePlaces (linkOf a) t0 then [] else
    (List.range 4).flatMap fun j =>
      let k : Fin 4 := fin 4 (by decide) j
      (hbEdges (c.hb[k]) (s.tc a.val) (s.mOf a.val)).map fun e => (t0 + e, t0 + e + s.dtNow a k + ext)
  if tm < x.liveAt then frame x.livePrev (x.liveAt - 2 * tf) ++ frame x.livePrev (x.liveAt - tf) ++ frame x.live x.liveAt
  else frame (if base = x.liveAt then x.livePrev else x.live) (base - tf) ++ frame x.live base ++
    frame x.live (base + tf)

/-- The windows that apply to a trip pin. -/
def State.pinWindows (s : State) (p : Fin 8) (tm : Nat) : List (Nat × Nat) :=
  let src := s.pN (Pid.trpPBlank p.val)
  let ext := s.pN (Pid.trpPBlankExt p.val)
  let ch := (List.range 4).filter fun t => src = 5 || src = t + 1
  (ch.flatMap fun t => linkAxes (linkNo (p.val * 4 + t))).flatMap fun a => s.axisWindows a ext tm

/-- The later end that a window overlapping `e` gives. -/
def windowStep (e : Nat) (x : Nat × Nat) : Nat := if x.1 ≤ e ∧ e < x.2 then x.2 else e

/-- The end of the last overlapping window around an instant; none where it lies in no window (R126). -/
def State.blankEnd (s : State) (p : Fin 8) (tm : Nat) : Option Nat :=
  let w := s.pinWindows p tm
  if w.any fun x => decide (x.1 ≤ tm ∧ tm < x.2) then
    some (w.foldl (fun e _ => w.foldl windowStep e) tm)
  else none

end Sys2Proof.Machine
end

