-- ==== Sys2Proof/Machine/LineEncoder.lean ====
section
/-! DEFINITION. Speed from edge stamps (R179 to R181, R546) and the line encoder ports (R172 to R174). -/

namespace Sys2Proof.Machine

/-- The speed state of an edge source: speed and last formed speed in cts/s, last edge, reference edge,
direction, recorded reversal, SPEED_VALID. -/
structure EdgeV where
  v : Rat
  vLast : Rat
  te : Nat
  ref : Option (Int × Nat)
  dir : Int
  rev : Option (Int × Nat)
  ok : Bool
deriving DecidableEq, Repr

/-- What a frame brings of an edge source: the count, and the last edge with its direction. -/
structure EdgeIn where
  c : Int
  te : Nat
  dir : Int
  /-- Edges of both directions came. -/
  mixed : Bool
deriving DecidableEq, Repr

/-- The sign of an integer. -/
def isgn (x : Int) : Int := if x < 0 then -1 else if x = 0 then 0 else 1

/-- Counts per nanoseconds as cts/s. -/
def perSec (c : Int) (ns : Nat) : Rat := (c : Rat) * 1000000000 / (ns : Rat)

/-- A frame with edges (R179, R181, R546): the first edge after seeding is a reference; an edge against the last
direction, or edges of both, starts a reversal; otherwise the speed is the count over the stamps. -/
def EdgeV.edge (x : EdgeV) (e : EdgeIn) : EdgeV :=
  let y := { x with te := e.te, ref := some (e.c, e.te), dir := e.dir }
  match x.ref with
  | none => { y with v := 0, vLast := 0, rev := none, ok := true }
  | some (c0, t0) =>
    if e.mixed || e.dir != x.dir then { y with v := 0, vLast := 0, rev := some (e.c, e.te), ok := false }
    else if e.te ≤ t0 then x
    else
      let v := perSec (e.c - c0) (e.te - t0)
      { y with v := v, vLast := v, rev := none, ok := true }

/-- A frame without edges at a latch instant (R180): the speed falls with the time since the last edge. -/
def EdgeV.quiet (x : EdgeV) (latch : Nat) : EdgeV :=
  if x.rev.isSome || x.ref.isNone then { x with v := 0 }
  else if latch ≤ x.te then { x with v := x.vLast }
  else { x with v := rsgn x.vLast * rmin (rabs x.vLast) (1000000000 / ((latch - x.te : Nat) : Rat)) }

/-- The last edge lies further back than a time: the speed is 0 until the next edge (R180). -/
def EdgeV.timeout (x : EdgeV) (latch ns : Nat) : EdgeV :=
  if ns < latch - x.te then { x with v := 0, vLast := 0 } else x

/-- The speed state of a port. -/
def PortSt.edgeV (p : PortSt) : EdgeV :=
  { v := p.vel, vLast := p.vLast, te := p.latchStamp, ref := p.ref, dir := p.dir, rev := p.reversal, ok := p.speedOk }

/-- A port with a new speed state. -/
def PortSt.withV (p : PortSt) (x : EdgeV) : PortSt :=
  { p with vel := x.v, vLast := x.vLast, latchStamp := x.te, ref := x.ref, dir := x.dir, reversal := x.rev,
           speedOk := x.ok }

/-- A count in 2^-32 cts refined to a latch instant (R277): less than 1 ct beyond it in the direction of motion. -/
def refine (p : Int) (v : Rat) (ns : Nat) : Int :=
  p + max (-4294967295) (min 4294967295 (roundEven (v * (ns : Rat) / 1000000000 * 4294967296)))

/-- A port at a latch instant (R162): its count and last edge, and its speed. -/
def PortSt.latch (p : PortSt) (t : Nat) : PortSt :=
  let x := if p.moved then p.edgeV.edge ⟨p.count, p.stamp, p.edgeDir, p.mixed⟩ else p.edgeV.quiet t
  { p.withV x with
    latched := p.count, latchAt := t, velPrev := p.vel, latchAtPrev := p.latchAt
    fine := refine (p.count * 4294967296) x.v (t - x.te), finePrev := p.fine, finePrev2 := p.finePrev
    latchMoved := p.moved, latchDir := p.edgeDir, latchMixed := p.mixed, moved := false, mixed := false }

/-- The device latches every line encoder port at the next tick - 0.5 µs (R162). -/
def execLineEncoderLatch (s : State) : Host.Outcome State Fault Refusal :=
  let t := s.frame.tick + s.tf - 500
  let s := s.adv t
  .next { s with ports := s.ports.map (·.latch t) }

/-- The port speed that an axis uses at the latch instant, with its `AX.FBK.ZERO_TIMEOUT` (R180, R245). -/
def State.portSpeed (s : State) (p : Fin 4) (a : Fin 128) : Rat :=
  let x := s.ports[p]
  if ms (s.pN (Pid.axFbkZeroTimeout a.val)) < x.latchAt - x.latchStamp then 0 else x.vel

/-- An edge fault of a port (R172, R173). -/
def PortSt.fault (p : PortSt) (t : Nat) : PortSt :=
  { p with faultAt := within (ms 10) t (t :: p.faultAt), edgeCnt := count32 p.edgeCnt }

/-- An edge that counts. -/
def PortSt.step (p : PortSt) (d : Int) (t : Nat) : PortSt :=
  { p with count := p.count + d, stamp := t, edgeDir := d, mixed := p.mixed || (p.moved && p.edgeDir != d),
           moved := true }

/-- The place of the levels A and B in the quadrature cycle. -/
def quadPlace (a b : Bool) : Int :=
  match a, b with
  | false, false => 0
  | true, false => 1
  | true, true => 2
  | false, true => 3

/-- Minimum edge interval: an accepted edge that follows the last on the same input by less is an edge fault. -/
def PortSt.interval (p : PortSt) (last : Option Nat) (tmin t : Nat) : PortSt :=
  match last with
  | some u => if t - u < tmin then p.fault t else p
  | none => p

/-- The filtered inputs A and B of a port take new levels (R172): in step/direction the level of B that counts is the one
before the changes inside SETUP. -/
def State.leEdge (s : State) (p : Fin 4) (a b : Bool) : PortSt :=
  let x := s.ports[p]
  let t := s.nt
  let tmin := s.pN (Pid.lePTmin p.val)
  let sg : Int := if s.pB (Pid.lePDir p.val) then -1 else 1
  let da := a != x.levelA
  let db := b != x.levelB
  let y := if da then x.interval x.stampA tmin t else x
  let y := if db then y.interval x.stampB tmin t else y
  let setup := s.pN (Pid.lePSetup p.val)
  let turns := within setup t (if db then t :: y.dirAts else y.dirAts)
  let y := { y with levelA := a, levelB := b, stampA := if da then some t else y.stampA,
                    stampB := if db then some t else y.stampB, dirAts := turns }
  match s.pN (Pid.lePMode p.val) with
  | 1 =>
    if da && db then y.fault t
    else if da || db then
      y.step (if (quadPlace a b - quadPlace x.levelA x.levelB) % 4 = 1 then sg else -sg) t
    else y
  | 2 =>
    if da && a then
      let up := b != decide (turns.length % 2 = 1)
      (if turns.isEmpty then y else y.fault t).step (if up then sg else -sg) t
    else y
  | _ => x

/-- An edge of a line encoder port passes its filter: the levels of A and B after it (R172). -/
def execLeEdge (port : Fin 4) (a b : Bool) (tm : Nat) (s : State) : Host.Outcome State Fault Refusal :=
  let s := s.adv tm
  .next (if s.domainOn 12 then s.modPort port fun _ => s.leEdge port a b else s)

/-- A rising edge of Z (R172): it latches the count, with ZARM set only once; step/direction ignores it. -/
def execLeZEdge (port : Fin 4) (tm : Nat) (s : State) : Host.Outcome State Fault Refusal :=
  let s := s.adv tm
  .next (if s.domainOn 12 && s.pN (Pid.lePMode port.val) = 1 && !s.ports[port].zarmed then
    s.modPort port fun x =>
      { x with zlatch := x.count, zstamp := s.nt, znew := true, zarmed := x.zarm, zarm := false }
  else s)

/-- A port's fault 0x4060 (R173): WIRE_BREAK, or more edge faults in 10 ms than its limit. -/
def State.leBad (s : State) (p : Fin 4) : Bool :=
  s.ports[p].wire || decide (s.pN (Pid.lePEdgeLimit p.val) < (within (ms 10) s.nt s.ports[p].faultAt).length)

/-- The receiver of a port reports WIRE_BREAK or its end, or edge faults exceed the limit (R173). -/
def execLeSignal (port : Fin 4) (wire : Bool) (tm : Nat) (s : State) : Host.Outcome State Fault Refusal :=
  let s := s.adv tm
  let s := s.modPort port fun x => { x with wire := wire }
  .next (if s.leBad port then s.raise 0x4060 port.val [] else s)

end Sys2Proof.Machine
end

