-- ==== Sys2Proof/Machine/ParamCheck.lean ====
section
/-! DEFINITION. Judging and applying groups of parameter writes (R53 to R58, R543): ranges, the state a
group leaves, who owns a parameter, and the status of the first failing entry. -/

namespace Sys2Proof.Machine

/-! The state that a group leaves. -/

/-- The ID of the LEVEL parameter of an ID's function. -/
def levelId (id : Nat) : Nat := id / 0x10000 * 0x10000 + 0xFFFF

/-- The members of a row's family, as indices. -/
def PRow.members (r : PRow) : List Nat :=
  (List.range (max 1 r.n1)).flatMap fun i => (List.range (max 1 r.n2)).map fun j => r.base + i * r.s1 + j * r.s2

/-- Derivation stops for a function: its expert values keep their last derived values (R57). -/
def State.freeze (s : State) (cls inst : Nat) : State :=
  let rows := (classRows cls).filter fun r => r.expert && r.acc != .ro && r.acc != .wo
  s.each (rows.flatMap fun r => r.members.map fun i => (r, i)) fun t x =>
    let id := cls * 0x1000000 + inst * 0x10000 + x.2
    match s.derive cls inst x.2 x.1.dfltRaw with
    | none => t
    | some v => t.modPar fun p => { p with store := storePut p.store ⟨id, .num v, false⟩ }

/-- Derivation takes a function over again: the held expert values that it sets go (R57), in class AX.COM each of
them (R159). -/
def State.rederive (s : State) (cls inst : Nat) : State :=
  s.modPar fun p => { p with store := p.store.filter fun e =>
    !(idClass e.id == cls && idInst e.id == inst &&
      (match findRow e.id with
       | some (r, _) => r.expert && (cls == 0x11 || (s.derive cls inst (idIndex e.id) r.dfltRaw).isSome)
       | none => false)) }

/-- A change of m on one axis of a link reaches all four (R108). -/
def State.spreadM (old s : State) (a : Fin 128) : State :=
  let m := s.mCode a.val
  if m = old.mCode a.val then s else
  s.each (linkAxes (linkOf a)) fun t b =>
    let id := if t.expert 0x1D b.val then Pid.axPwmMExp b.val else Pid.axPwmM b.val
    if t.mCode b.val = m then t
    else t.modPar fun p => { p with store := storePut p.store ⟨id, .num m, true⟩ }

/-- One entry of a group is stored; a change of a LEVEL acts on its function, and motor data on what AX.COM derives
at basic level, a learned Hall map included (R57, R159; log 149). -/
def State.applyEntry (s : State) (e : Nat × PVal) : State :=
  let (id, v) := e
  let cls := idClass id
  let inst := idInst id
  let was := s.expert cls inst
  let s1 := if idIndex id = 0xFFFF ∧ !was ∧ v.toNat = 1 then s.freeze cls inst else s
  let s2 := s1.modPar fun p => { p with store := storePut p.store ⟨id, v, true⟩ }
  let s3 := if idIndex id = 0xFFFF ∧ v.toNat = 0 then s2.rederive cls inst
    else if cls = 0x10 ∧ !s2.expert 0x11 inst then s2.rederive 0x11 inst else s2
  if cls = 0x1D ∧ (idIndex id = 1 ∨ idIndex id = 2 ∨ idIndex id = 0xFFFF) then s.spreadM s3 (axisNo inst) else s3

/-- The entries in the order in which they apply: LEVEL writes first, so that expert values of the same
group stand over the frozen ones. -/
def ordered (es : List (Nat × PVal)) : List (Nat × PVal) :=
  es.filter (fun e => idIndex e.1 == 0xFFFF) ++ es.filter (fun e => idIndex e.1 != 0xFFFF)

/-- Coefficients of a filter whose TYPE becomes 4 stay those in force (R212). -/
def State.keepCoef (s : State) (es : List (Nat × PVal)) : List (Nat × PVal) :=
  es.flatMap fun e =>
    if idClass e.1 = 0x15 ∧ (idIndex e.1 = 0x10 ∨ idIndex e.1 = 0x20) ∧ e.2.toNat = 4 ∧
        s.fltVal (idInst e.1) (idIndex e.1) ≠ 4 then
      (List.range 5).map fun j => (e.1 + 8 + j, .num (s.fltCoef (idInst e.1) (idIndex e.1 / 16) j))
    else []

/-- The parameter store that a group leaves (R57, R58). -/
def State.applyGroup (s : State) (es : List (Nat × PVal)) : State :=
  s.each (s.keepCoef es ++ ordered es) State.applyEntry

/-! Ranges. -/

/-- The longest dead time in force on a slot. -/
def State.dtLongest (s : State) (a : Nat) : Nat :=
  (s.axes[axisNo a].pwm.hb.toList.map HbSt.dt).foldl max 0

/-- Bounds of an integer parameter as they stand (R54, R58). -/
def State.boundsI (s : State) (r : PRow) (id : Nat) : Int × Int :=
  let w := 8 * max 1 r.typ.bytes
  let whole : Int × Int :=
    if r.typ.signed then (-((2 ^ (w - 1) : Nat) : Int), ((2 ^ (w - 1) : Nat) : Int) - 1)
    else if r.typ == .bool then (0, 1)
    else if r.typ == .d32 then (0, 4294967295)
    else (0, ((2 ^ w : Nat) : Int) - 1)
  let a := idInst id
  match r.rng with
  | .ints lo hi => (lo, hi)
  | .intsOr x _ hi => (min x hi, hi)
  | .steps lo hi _ => (lo, hi)
  | .pow2 lo hi => (lo, hi)
  | .sets l => ((l.map (·.1)).foldl min 4294967295, (l.map (·.2)).foldl max 0)
  | .dep =>
    match idClass id, idIndex id with
    | 0x1D, 0x10 => (120, (s.tcPar a / 8 : Nat))
    | 0x1D, 0x22 => (20, (s.pN (Pid.axPwmDtMax a) : Int))
    | 0x1D, 0x23 => (20, (min 2000 (s.tcPar a / 8) : Nat))
    | 0x11, i => if 0x50 ≤ i ∧ i ≤ 0x5F then (0, 5000) else if i ≠ 0x21 then whole else (1000, (s.tcPar a : Int) - (max (s.pN (Pid.axPwmTmin a)) (s.dtLongest a + 100) : Nat))
    | 0x18, 0x18 => (s.pI 64 (Pid.axPrfPosMin a) + 1, 9223372036854775807)
    | 0x1A, 0x02 => (0, match s.pN (Pid.axGeaSrc a) with
        | 0 | 1 => 127 | 2 => 3 | _ => 15)
    | 0x0A, 0x12 => (s.pI 16 Pid.ageDerateT0 + 5, 150)
    | 0x41, i =>
      if i % 256 = 1 then (0, if s.pN (Pid.topoZKind (i / 256)) = 2 then 3 else 159)
      else if i % 256 = 10 then (0, (s.pN (Pid.topoZLength (i / 256)) : Int))
      else whole
    | _, _ => whole
  | .any | .nonzero | .flts _ _ _ | .fltsOr0 _ _ _ | .fpos | .fnneg => whole

/-- The largest finite F32. -/
def f32Max : Rat := ((2 ^ 24 - 1 : Nat) : Rat) * pow2 104

/-- Bounds of an F32 parameter as they stand. -/
def State.boundsF (s : State) (r : PRow) (id : Nat) : Rat × Rat :=
  let a := idInst id
  match r.rng with
  | .flts lo hi den => ((lo : Rat) / (den : Rat), (hi : Rat) / (den : Rat))
  | .fltsOr0 _ hi den => (0, (hi : Rat) / (den : Rat))
  | .fpos | .fnneg => (0, f32Max)
  | .dep =>
    match idClass id, idIndex id with
    | 0x14, 1 => (1 / 10, s.bwMaxPos a)
    | 0x13, 1 => (1, s.bwMaxVel a)
    | 0x12, 1 => (10, s.bwMaxCur a)
    | 0x13, 0x23 => (0, s.ilim a)
    | 0x12, 2 => (0, s.iPeak a)
    | 0x16, 0x24 => (0, s.ilim a)
    | 0x15, i => if i % 16 = 1 then (1, 4 / 10 * 1000000000 / (s.tfPar : Rat)) else (-f32Max, f32Max)
    | 0x17, 3 => (0, match s.pN (Pid.axInjPoint a) with
        | 1 => (s.pN (Pid.axPosFeMax a) : Rat) / 2
        | 2 => s.vmax a / 2
        | 3 => s.ilim a / 2
        | 4 => s.pF (Pid.axMotVbusNom a) / 4
        | _ => f32Max)
    | 0x17, 0x10 => (1 / 10, 4 / 10 * 1000000000 / (s.tfPar : Rat))
    | 0x17, 0x11 => (s.pF (Pid.axInjF0 a), 4 / 10 * 1000000000 / (s.tfPar : Rat))
    | 0x10, 5 => (0, match s.links[linkOf (axisNo a)].cap with
        | some c => (c.iFs : Rat) / 1000
        | none => f32Max)
    | 0x1B, 0x25 => (1, 1000000000 / (12 * (s.tfPar : Rat)))
    | 0x50, i => (s.pF (Pid.capTLevel ((i - 0x200) / 16)), f32Max)
    | _, _ => (-f32Max, f32Max)
  | .any | .ints _ _ | .intsOr _ _ _ | .steps _ _ _ | .pow2 _ _ | .sets _ | .nonzero => (-f32Max, f32Max)

/-- A filter in direct form is stable: its poles lie inside the unit circle, and 1 + a1 + a2 is not 0 (R204). -/
def stable (a1 a2 : Rat) : Bool := decide (a2 < 1 ∧ -1 < a2 ∧ a1 < 1 + a2 ∧ -(1 + a2) < a1)

/-- Filter i of an axis is accepted. -/
def State.fltStable (s : State) (a i : Nat) : Bool :=
  if s.fltVal a (i * 16) = 4 then
    stable (f32Dec (s.fltCoef a i 3)) (f32Dec (s.fltCoef a i 4))
  else true

/-- A source code of R330 (channels) with its instance and signal in the table. -/
def chSrcOk (v : Nat) : Bool :=
  let k := v / 0x1000000
  let n := v / 0x10000 % 256
  let g := v % 0x10000
  if v = 0 then true
  else match k with
    | 1 => decide (n < 128 ∧ 1 ≤ g ∧ g ≤ 0x12)
    | 2 => decide (n < 32 ∧ 1 ≤ g ∧ g ≤ 6)
    | 3 => decide (n < 32 ∧ 1 ≤ g ∧ g ≤ 2)
    | 4 => (decide (g = 1) && decide (n < 4)) || (decide (n = 0) && decide (0x10 ≤ g ∧ g ≤ 0x13))
    | 5 => decide (1 ≤ g ∧ g ≤ 3)
    | _ => false

/-- A condition source of R335. -/
def condSrcOk (v : Nat) : Bool :=
  let k := v / 0x10000 % 256
  let g := v % 0x10000
  match v / 0x1000000 with
  | 0 => decide (v < 16)
  | 1 => match k with
    | 1 => decide (g < 128)
    | 2 | 6 => true
    | 3 => decide (g ≤ 5)
    | 4 => decide (g < 8)
    | 5 => decide (g < 40)
    | _ => false
  | _ => false

/-- The levels that the Override column lets an entry set (R434, R439). -/
def ovrOk (v : Nat) (glob : Bool) : Bool :=
  let code := v / 65536
  let lv := v % 8
  if code = 0 then decide (v < 65536)
  else faultCodes.contains code &&
    (match (faultRow code).2 with
     | .axis lo hi => !glob && decide (lo ≤ lv ∧ lv ≤ hi) && decide (v % 65536 < 8)
     | .glob => glob && decide (lv ≤ 4) && decide (v % 256 < 8)
     | .no => false)

/-- A rule of the Percolator (R468). -/
def percRuleOk (v : Nat) : Bool :=
  let kind := bits v 63 60
  let idx := bits v 55 48
  decide (kind ≤ 5) && decide (bits v 59 56 = 0) && decide (bits v 44 40 = 0) && decide (bits v 5 0 = 0) &&
  decide (bits v 47 45 ≤ 4) &&
  (match kind with
   | 1 => decide (idx < 40) | 2 => decide (idx < 8) | 3 => decide (idx < 128)
   | 4 => decide (idx = 0) | 5 => decide (idx < 4) | _ => true)

/-- HALL_MAP: each sector exactly once, and two invalid states (R134). -/
def hallMapOk (v : Nat) : Bool :=
  let nib := (List.range 8).map fun i => bits v (4 * i + 3) (4 * i)
  (List.range 6).all (fun k => nib.count k == 1) && nib.count 15 == 2

/-- The intervals of a gate list (R354), up to the first of 0, sum to no more than its cycle. -/
def State.gclOk (s : State) (p : Nat) : Bool :=
  let es := (List.range 16).map fun i => s.pN (Pid.netPGcl p i) % 0x1000000
  let used := es.takeWhile (· != 0)
  let c := s.pN (Pid.netPGclCycle p)
  c = 0 || decide (used.foldl (· + ·) 0 * 10 ≤ c)

/-- The breakpoints of the advance table increase strictly (R142). -/
def State.advOk (s : State) (a : Nat) : Bool :=
  (List.range 15).all fun i => decide (s.pN (Pid.axComAdvF0 a + i) < s.pN (Pid.axComAdvF0 a + i + 1))

/-- Rules on a single value beside its bounds, on the state that the group leaves. -/
def State.extraOk (s : State) (id v : Nat) : Bool :=
  let a := idInst id
  let i := idIndex id
  match idClass id with
  | 0x11 =>
    if i = 2 then hallMapOk v
    else if 0x50 ≤ i ∧ i ≤ 0x5F then !s.expert 0x11 a || s.advOk a
    else if i = 1 then
      (v = 1 || !decide (2 ≤ s.pN (Pid.axFbkSource a) ∧ s.pN (Pid.axFbkSource a) ≤ 5)) &&
      (match s.links[linkOf (axisNo a)].cap with
       | some c => v = 1 || bit c.sensors 0
       | none => true)
    else true
  | 0x1C =>
    if i = 1 then
      let src := s.pN (Pid.axComSource a)
      !(s.motType a = 1 && (src = 0 || src = 2) && decide (2 ≤ v ∧ v ≤ 5)) &&
      (match s.links[linkOf (axisNo a)].cap with
       | some c => v = 0 || v = 6 || bit c.sensors (v - 1)
       | none => true)
    else if i = 5 then v = 1 || (s.pN (Pid.axCmpULate a 0) != 2 && s.pN (Pid.axCmpULate a 1) != 2)
    else if i = 0x20 ∨ i = 0x21 ∨ i = 0x22 ∨ i = 0x26 ∨ i = 1 then true
    else true
  | 0x1E =>
    if i < 0x100 ∧ i % 16 = 4 then
      (v % 16 = 1 || v % 16 = 2 || v % 16 = 5) && decide (v / 32 % 8 = 0) && decide (v < 4096)
    else if i < 0x100 ∧ i % 16 = 6 then v != 2 || s.pN (Pid.axFbkModulo a) = 1
    else true
  | 0x1F => ovrOk v false && (v < 65536 ||
      (List.range 8).countP (fun j => s.pbase (Pid.axReaOvr a j) / 65536 == v / 65536) == 1)
  | 0xF0 => ovrOk v true && (v < 65536 ||
      (List.range 16).countP (fun j => s.pbase (Pid.flogOvr j) / 65536 == v / 65536) == 1)
  | 0x15 => if 8 ≤ i % 16 then s.fltStable a (i / 16) else true
  | 0x09 => if i < 0x200 then percRuleOk v else true
  | 0x30 =>
    if i = 4 then v &&& 0xFFF88888 == 0
    else if 0x200 ≤ i then s.gclOk ((i - 0x200) / 16)
    else if 0x100 ≤ i ∧ i % 16 = 4 then s.gclOk ((i - 0x100) / 16)
    else true
  | 0x32 =>
    if 0x200 ≤ i then decide (v / 16 % 4096 = 0)
    else if 0x100 ≤ i then
      let k := v / 0x1000000
      decide (k ≤ 3 ∧ v / 256 % 65536 = 0) && decide (v % 256 < (if k = 3 then 4 else if k = 0 then 256 else 128))
    else true
  | 0x50 =>
    if i = 6 then decide (v / 65536 = 0 ∧ v / 256 % 256 < 32 ∧ v / 16 % 4 = 0) &&
      [1, 2, 3, 6, 8].contains (v % 16)
    else if 0x100 ≤ i ∧ i < 0x200 then chSrcOk v
    else if 0x200 ≤ i ∧ i % 16 = 0 then condSrcOk v
    else true
  | 0x1D =>
    let typ := s.motType a
    if i = 0x30 then (typ != 1 || v != 4) && (typ != 2 || v = 0 || v = 4)
    else if i = 0x31 then typ != 1 || v = 0
    else if i = 1 ∨ i = 2 ∨ i = 0xFFFF then decide (12500 ≤ s.tcPar a ∧ s.tcPar a ≤ 100000)
    else true
  | _ => true

/-- A number lies in the range of its parameter, judged on the state that the group leaves. -/
def State.inRange (s : State) (r : PRow) (id v : Nat) : Bool :=
  let w := 8 * max 1 r.typ.bytes
  let ok :=
    if r.typ == .f32 then
      let q := f32Dec v
      let (lo, hi) := s.boundsF r id
      !f32Special v && decide (lo ≤ q ∧ q ≤ hi) &&
      (match r.rng with
       | .fltsOr0 lo _ den => q = 0 || decide ((lo : Rat) / (den : Rat) ≤ q)
       | .fpos => decide (0 < q)
       | .dep => if idClass id = 0x10 ∧ idIndex id = 5 then q = 0 || decide (s.iRated (idInst id) ≤ q) else true
       | .any | .ints _ _ | .intsOr _ _ _ | .steps _ _ _ | .pow2 _ _ | .sets _ | .nonzero | .flts _ _ _
       | .fnneg => true)
    else
      let x : Int := if r.typ.signed then toSigned w v else (v : Int)
      let (lo, hi) := s.boundsI r id
      decide (lo ≤ x ∧ x ≤ hi) &&
      (match r.rng with
       | .intsOr z lo _ => x = z || decide (lo ≤ x)
       | .steps lo _ st => (x - lo) % st = 0
       | .pow2 _ _ => v == 2 ^ Nat.log2 v
       | .sets l => l.any fun y => decide (y.1 ≤ x ∧ x ≤ y.2)
       | .nonzero => x != 0
       | .any | .ints _ _ | .flts _ _ _ | .fltsOr0 _ _ _ | .fpos | .fnneg | .dep => true)
  ok && s.extraOk id v

/-- The bandwidths in force, the filters and the wiring overrides of an axis stay inside their limits (R204, R222). -/
def State.axisOk (s : State) (a : Nat) : Bool :=
  (s.expert 0x12 a || decide (s.pF (Pid.axCurBw a) ≤ s.bwMaxCur a)) &&
  (s.expert 0x13 a || decide (s.pF (Pid.axVelBw a) ≤ s.bwMaxVel a)) &&
  (s.expert 0x14 a || decide (s.pF (Pid.axPosBw a) ≤ s.bwMaxPos a)) &&
  s.fltStable a 1 && s.fltStable a 2 &&
  (!s.expert 0x1D a || (s.extraOk (Pid.axPwmSwap a) (s.pbase (Pid.axPwmSwap a)) &&
    s.extraOk (Pid.axPwmInvert a) (s.pbase (Pid.axPwmInvert a))))

/-- A write of `id` can move the range of the parameter `e`: of the same axis, link or class, and the frame period
that of every parameter. -/
def rangeBound (id e : Nat) : Bool :=
  let c := idClass id
  let d := idClass e
  let ax (k : Nat) : Bool := decide (0x10 ≤ k ∧ k ≤ 0x1F)
  if c = 0x01 then true
  else if c = 0x1D then ax d && linkOf (axisNo (idInst id)) == linkOf (axisNo (idInst e))
  else if ax c then ax d && idInst id == idInst e
  else if c = 0x20 then (ax d && linkOf (axisNo (idInst e)) == linkNo (idInst id)) || (d == c && idInst e == idInst id)
  else c == d

/-- A held value is in force: written, or kept at the expert level of its function (R57). -/
def State.inForce (s : State) (r : PRow) (id : Nat) : Bool :=
  r.typ != .str && (!(levelled (idClass id) && r.expert && r.acc != .ro) || s.expert (idClass id) (idInst id))

/-- Every value in force whose range a write of `id` can move stays inside its range (R57, R58, R114, R543): `s'` is
the state that the group leaves. -/
def State.kept (s s' : State) (id : Nat) : Bool :=
  s'.par.store.all fun e => !rangeBound id e.id || (match findRow e.id with
    | some (r, _) => !s'.inForce r e.id || s'.inRange r e.id (s'.pget e.id) || !s.inRange r e.id (s.pget e.id)
    | none => true)

/-- The serial format of an axis fits the transfer window (R84, R169, R544). -/
def State.serialOk (s : State) (a : Nat) : Bool :=
  let src := s.pbase (Pid.axFbkSource a)
  let n := s.pN (Pid.axFbkSerOfs a) + s.pN (Pid.axFbkSerMtBits a) + s.pN (Pid.axFbkSerStBits a)
  !(src = 4 || src = 5) || (decide (n ≤ 64) && decide (max 8 n * 100 ≤ 54 * s.pN (Pid.axFbkSerClk a)))

/-- A zone of the topology passes the checks of R280. -/
def State.zoneOk (s : State) (z : Nat) : Bool :=
  let kind (n : Nat) : Nat := s.pN (Pid.topoZKind n)
  let succ (n : Nat) : Bool := n = 255 || decide (kind n ≠ 0)
  let src := s.pN (Pid.topoZSrc z)
  let sen := s.pN (Pid.topoZSensor z)
  kind z = 0 ||
  (succ (s.pN (Pid.topoZNext0 z)) && succ (s.pN (Pid.topoZNext1 z)) &&
   (kind z != 4 || (decide (src < 160) && decide (kind src ≠ 0))) &&
   (kind z != 2 || s.pN (Pid.lePMode (src % 4)) != 0) &&
   (sen = 0 || decide (128 ≤ sen) || s.pN (Pid.fioBMode ((sen - 1) / 8)) = 0) &&
   (decide (sen < 128) || (match s.links[linkOf (axisNo (sen - 128))].cap with
      | some c => bit c.io ((sen - 128) % 4)
      | none => false)) &&
   (s.pN (Pid.topoZExport z) = 0 || (s.pN (Pid.topoZNext0 z) = 255 && s.pN (Pid.topoZBranch z) = 255)))

/-- The zone kind fits its number, and a kind 4 zone names one of kind 1, 2 or 3 (R277). -/
def State.kindOk (s : State) (z : Nat) : Bool :=
  match s.pN (Pid.topoZKind z) with
  | 0 => true
  | 1 => decide (z < 128)
  | 2 | 3 => decide (128 ≤ z)
  | _ => decide (128 ≤ z) && (s.pN Pid.trkEnable = 0 ||
      decide (1 ≤ s.pN (Pid.topoZKind (s.pN (Pid.topoZSrc z) % 160)) ∧
              s.pN (Pid.topoZKind (s.pN (Pid.topoZSrc z) % 160)) ≤ 3))

/-- What an entry's owner must satisfy beside the value's own range, on the state that the group leaves. -/
def State.ownOk (s : State) (id : Nat) : Bool :=
  let cls := idClass id
  let a := idInst id
  if cls = 0x01 then idIndex id ≠ 0x10 || (allAxes.all fun b => s.axisOk b.val &&
      decide (12500 ≤ s.tcPar b.val ∧ s.tcPar b.val ≤ 100000))
  else if cls = 0x1D then (linkAxes (linkOf (axisNo a))).all fun b => s.axisOk b.val
  else if (0x10 ≤ cls ∧ cls ≤ 0x17) ∨ cls = 0x1B then s.axisOk a
  else if cls = 0x1C then s.serialOk a
  else if cls = 0x40 ∧ idIndex id = 1 then
    s.pN Pid.trkEnable = 0 || (List.range 160).all fun z => s.zoneOk z && s.kindOk z
  else if cls = 0x41 then s.kindOk (idIndex id / 256)
  else if cls = 0x18 ∧ idIndex id = 0x17 then
    decide (s.pI 64 (Pid.axPrfPosMin a) < s.pI 64 (Pid.axPrfPosMax a))
  else if cls = 0x0A ∧ idIndex id = 0x11 then decide (s.pI 16 Pid.ageDerateT0 + 5 ≤ s.pI 16 Pid.ageDerateT1)
  else if cls = 0x50 ∧ 0x200 ≤ idIndex id ∧ idIndex id % 16 = 2 then
    decide (f32Dec (s.pbase (id)) ≤ s.pF (Pid.capTLevel2 ((idIndex id - 0x200) / 16))) ||
    s.pN (Pid.capTType ((idIndex id - 0x200) / 16)) = 0
  else true

/-- What an entry may not break beside its own range, on the state `s'` that the group leaves (R58, R543). -/
def State.depOk (s s' : State) (id : Nat) : Bool := s'.ownOk id && s.kept s' id

/-! Owners. -/

/-- Axis `a` is OFF. -/
def State.axOff (s : State) (a : Fin 128) : Bool := s.axes[a].state == .off

/-- Every axis is OFF. -/
def State.allOff (s : State) : Bool := allAxes.all s.axOff

/-- A line encoder port is in use by an axis, a gear or a tracking zone (R174): also an axis that is OFF reads its
feedback in every frame. -/
def State.portUsed (s : State) (p : Nat) : Bool :=
  (allAxes.any fun a =>
    (s.pN (Pid.axFbkSource a.val) = 6 && s.pN (Pid.axFbkLePort a.val) = p) ||
    (s.pN (Pid.axStpStepSrc a.val) = 1 && s.pN (Pid.axStpStepPort a.val) = p) ||
    (s.axes[a].gea.stat != 0 && s.pN (Pid.axGeaSrc a.val) = 2 && s.pN (Pid.axGeaMaster a.val) = p) ||
    s.axes[a].hom.zPort == some p) ||
  (s.pN Pid.trkEnable = 1 && (List.range 160).any fun z =>
    s.pN (Pid.topoZKind z) = 2 && s.pN (Pid.topoZSrc z) = p)

/-- A field input of a bank is in use by a tracking zone, by homing or by a latch unit. -/
def State.bankUsed (s : State) (b : Nat) : Bool :=
  let hit (i : Nat) : Bool := i / 8 = b
  (s.pN Pid.trkEnable = 1 && (List.range 160).any fun z =>
    let n := s.pN (Pid.topoZSensor z)
    s.pN (Pid.topoZKind z) ≠ 0 && decide (1 ≤ n ∧ n ≤ 40) && hit (n - 1)) ||
  (allAxes.any fun a =>
    (s.axes[a].hom.phase != 0 && s.pN (Pid.axHomSwSrc a.val) != 0 && hit (s.pN (Pid.axHomSwSrc a.val) - 1)) ||
    (List.range 2).any fun n =>
      let src := s.pN (Pid.axCmpLSrc a.val n)
      ((s.axes[a].lat[fin 2 (by decide) n]).armed || s.pN (Pid.axCmpLMode a.val n) = 1) &&
        decide (2 ≤ src ∧ src ≤ 41) && hit (src - 2))

/-- The owner of an RWX parameter is OFF or idle (R5 and the parameter tables). -/
def State.ownerIdle (s : State) (id : Nat) (v : Nat) : Bool :=
  let cls := idClass id
  let a := axisNo (idInst id)
  let i := idIndex id
  match cls with
  | 0x01 => s.allOff && s.twin.state == .solo
  | 0x02 => !(s.sec.sessions.any fun x => x.owner == .net) &&
      allMbx.all fun m => decide (m.val + v < 16) || s.netOnly m ||
        (s.mbx[m].owner != .pcie && s.mbx[m].owner != .qspi)
  | 0x1A => s.axes[a].gea.stat == 0
  | 0x20 => (linkAxes (linkNo (idInst id))).all s.axOff
  | 0x21 => (clusterAxes (fin 8 (by decide) ((i - 0x100) / 16))).all s.axOff
  | 0x61 => !s.portUsed ((i - 0x100) / 16)
  | 0x40 | 0x41 => s.pbase Pid.trkEnable = 0
  | 0x60 => !s.bankUsed ((i - 0x100) / 16)
  | 0x50 => s.cap.state == .idle || s.cap.state == .done || s.cap.state == .stopped
  | 0x30 | 0x31 | 0x32 => s.allOff
  | 0xB0 => s.allOff || s.twin.state != .active
  | _ => if 0x10 ≤ cls ∧ cls ≤ 0x1F then s.axOff a else true

/-- An RWX parameter whose owner is an axis, or something that the axis is part of (R60). -/
def rwxTouches (id : Nat) (a : Fin 128) : Bool :=
  let inst := idInst id
  let i := idIndex id
  match idClass id with
  | 0x01 | 0x30 | 0x31 | 0x32 | 0xB0 => true
  | 0x1D => if i = 1 ∨ i = 2 then linkOf (axisNo inst) == linkOf a else axisNo inst == a
  | 0x20 => linkNo inst == linkOf a
  | 0x21 => (i - 0x100) / 16 == (clusterOf a).val
  | c => decide (0x10 ≤ c ∧ c ≤ 0x1F) && axisNo inst == a

/-- An RWX parameter that a request must wait for (R60): in a group that is ready and not yet committed, or committed
at the latest tick. -/
def State.rwxWaits (s : State) (hit : Nat → Bool) : Bool :=
  s.par.landed.any hit || s.par.ready.any fun g => g.entries.any fun e => hit e.1 && (match findRow e.1 with
    | some (r, _) => r.acc == .rwx
    | none => false)

/-- An RWX parameter of the axis is on its way (R60). -/
def State.rwxPending (s : State) (a : Fin 128) : Bool := s.rwxWaits fun id => rwxTouches id a

/-- An RWX parameter of a class whose owner is one block is on its way (R60). -/
def State.rwxClass (s : State) (cls : Nat) : Bool := s.rwxWaits fun id => idClass id == cls

/-- A stepper axis in open loop is asked for cyclic current mode (R271). -/
def State.openCurrent (s : State) (a : Nat) : Bool :=
  s.motType a = 2 && s.pN (Pid.axStpLoop a) = 0 && s.pN (Pid.axPrfMode a) = 3

/-- What the device or block state forbids beside the owner (R55 STATE); `s'` is the state left. -/
def State.stateOk (s s' : State) (r : PRow) (id v : Nat) : Bool :=
  let a := idInst id
  let i := idIndex id
  r.acc != .ro &&
  (r.acc != .rwx || s.ownerIdle id v) &&
  (match idClass id with
   | 0x1D => !(i = 1 || i = 2 || i = 0xFFFF) || s'.mCode a == s.mCode a || (linkAxes (linkOf (axisNo a))).all s.axOff
   | 0x1C => (i ≠ 4 || (s'.cprFixed a).isNone) && (i ≠ 1 || v ≠ 0 || s'.pN (Pid.axStpLoop a) = 0)
   | 0x15 => i % 16 < 8 || i = 0xFFFF || s'.fltVal a (i / 16 * 16) = 4
   | 0x18 => (i ≠ 0x19 || v = 0 || !s.axes[axisNo a].fbk.unref) && (i ≠ 1 || !s'.openCurrent a)
   | 0x1B => i ≠ 6 || (if v = 0 then !s'.openCurrent a else s'.pN (Pid.axFbkSource a) ≠ 0)
   | 0x61 => i % 16 ≠ 6 || !(allAxes.any fun b => s.axes[b].hom.zPort == some ((i - 0x100) / 16))
   | _ => true)

/-! One entry and a group. -/

/-- An entry of SET or SET_MULTI: ID, TYPE, the reserved byte and the value bytes. -/
structure SetEntry where
  id : Nat
  typ : Nat
  zero : Nat
  bytes : List Byte
deriving DecidableEq, Repr

/-- The value of an entry's bytes. -/
def SetEntry.pval (e : SetEntry) : PVal :=
  match findRow e.id with
  | some (r, _) => match r.typ with
    | .str => .str e.bytes
    | .d32 => .num (fld e.bytes 0 4)
    | .d64 => .num (fld e.bytes 0 8)
    | .u8 | .u16 | .u32 | .u64 | .s8 | .s16 | .s32 | .s64 | .f32 | .bool | .enum => .num (leNat e.bytes)
  | none => .num 0

/-- The halves of a Doppio word are complements (R54). -/
def doppioOk (t : PTyp) (bs : List Byte) : Bool :=
  match t with
  | .d32 => bs == t.encode (fld bs 0 4)
  | .d64 => bs == t.encode (fld bs 0 8)
  | .u8 | .u16 | .u32 | .u64 | .s8 | .s16 | .s32 | .s64 | .f32 | .bool | .enum | .str => true

/-- A class whose writes need the KEYS right (R490). -/
def keysClass (id : Nat) : Bool := idClass id == 0x80

/-- The function of a parameter is held by a running call (R55): AX.COM of an axis during HALL_LEARN (R136). -/
def State.funcHeld (s : State) (id : Nat) : Bool :=
  idClass id == 0x11 && (s.axes[axisNo (idInst id)]).com.learn.isSome

/-- The status of one entry (R55), judged on the state `s'` that the group leaves: `rights` of the
session, `confirm` of the header. -/
def State.entryStatus (s s' : State) (rights : Nat) (confirm : Bool) (e : SetEntry) : Nat :=
  let right := if keysClass e.id then bit rights 4 else bit rights 0
  if s.funcHeld e.id then stBusy
  else if !(right || bit rights 5) then stAuth else
  match s.rowOf e.id with
  | none => stUnknown
  | some (r, _) =>
    let cls := idClass e.id
    let v := e.pval.toNat
    let len := if r.typ == .str then e.bytes.length ≤ 64 else e.bytes.length = r.typ.bytes
    if cls = 0x70 ∧ !(0x40 ≤ idIndex e.id ∧ idIndex e.id < 0x100) then stLocked
    else if e.typ ≠ r.typ.code ∨ e.zero ≠ 0 ∨ !len then stRange
    else if r.acc != .ro ∧ r.typ != .str ∧ !(s'.inRange r e.id v && s.depOk s' e.id) then stRange
    else if !doppioOk r.typ e.bytes then stIntegrity
    else if levelled cls ∧ r.expert ∧ r.acc != .ro ∧ !s'.expert cls (idInst e.id) ∧ !confirm then stLevel
    else if !s.stateOk s' r e.id v then stState
    else stOk

/-- The LEVEL writes that CONFIRM adds to a group (R57). -/
def State.confirmed (s : State) (es : List (Nat × PVal)) : List (Nat × PVal) :=
  let s' := s.applyGroup es
  let need := es.filter fun e => levelled (idClass e.1) && !s'.expert (idClass e.1) (idInst e.1) &&
    (match findRow e.1 with
     | some (r, _) => r.expert
     | none => false)
  es ++ (need.map fun e => (levelId e.1, .num 1))

/-- The status of a group, the index of its first failing entry, and the values that it commits (R58). -/
def State.judge (s : State) (rights : Nat) (confirm : Bool) (es : List SetEntry) :
    Nat × Nat × List (Nat × PVal) :=
  let vals := es.map fun e => (e.id, e.pval)
  let vals := if confirm then s.confirmed vals else vals
  let s' := s.applyGroup vals
  let sts := es.map (s.entryStatus s' rights confirm)
  match sts.findIdx? (· != 0) with
  | some i => (sts.getD i 0, i, [])
  | none => (stOk, 0, vals)

end Sys2Proof.Machine
end

