-- ==== Sys2Proof/Machine/Mailbox.lean ====
section
/-! DEFINITION. Serving a mailbox command (R49 to R55): which command a mailbox holds, the statuses that
stand before its own checks, its answer, and the calls. -/

namespace Sys2Proof.Machine

/-- The payload of the command in hand (R51). -/
def Mbx.payload (b : Mbx) : List Byte := (b.copy.drop 16).take (fld b.copy 6 2)

/-- OPCODE of the command in hand. -/
def Mbx.op (b : Mbx) : Nat := fld b.copy 2 2

/-- FLAGS of the command in hand. -/
def Mbx.flags (b : Mbx) : Nat := fld b.copy 4 2

/-- SESSION of the command in hand. -/
def Mbx.sid (b : Mbx) : Nat := fld b.copy 8 4

/-- Opcodes that need no session (R52); FILE_OPEN only for reading. -/
def sessionless (op : Nat) (pay : List Byte) : Bool :=
  op = 0x01 || op = 0x03 || op = 0x20 || op = 0xF0 || op = 0x40 || op = 0x32 || op = 0x33 ||
  (op = 0x30 && fld pay 0 1 = 0)

/-- The rights of the session of the command in hand; none before PROVE (R487). -/
def State.rightsOf (s : State) (m : Fin 16) : Nat :=
  match s.session s.mbx[m].sid with
  | some x => if x.proved then x.rights else 0
  | none => 0

/-- The session of the command is bound to the mailbox, or is none where none is needed (R52). -/
def State.sessionOk (s : State) (m : Fin 16) : Bool :=
  let b := s.mbx[m]
  if b.sid = 0 then sessionless b.op b.payload
  else b.sid == b.session && (s.session b.sid).isSome

/-- The header obeys R51. -/
def Mbx.headerOk (b : Mbx) : Bool :=
  decide (b.flags < 4) && decide (fld b.copy 6 2 ≤ 496) && decide (fld b.copy 12 4 = 0)

/-- The name of a file, as its bytes (R53). -/
def fileOf (nm : List Byte) : Option FileName :=
  let is (t : String) : Bool := nm == t.toUTF8.toList.map (fun b => BitVec.ofNat 8 b.toNat)
  if is "FLOG.LOG" then some .flogLog
  else if is "SAF.LOG" then some .safLog
  else if is "SEC.IDCERT" then some .secIdCert
  else if is "SEC.CACERT" then some .secCaCert
  else if is "SEC.FW.SLOT" then some .secFwSlot
  else if is "SEC.BUNDLE" then some .secBundle
  else if is "CAP.DATA" then some .capData
  else if is "CAP.MASK" then some .capMask
  else if is "AGE.REPORT" then some .ageHist
  else none

/-- The handle that a file command names, when the sender holds it. -/
def State.handleOf (s : State) (m : Fin 16) (h : Nat) : Option FileHandle :=
  s.par.files.find? fun x => x.handle == h && x.owner == s.mbx[m].owner && x.session == s.mbx[m].sid

/-- The file that a file command concerns. -/
def State.fileIn (s : State) (m : Fin 16) : Option FileName :=
  let b := s.mbx[m]
  if b.op = 0x30 then fileOf ((b.payload.drop 2).take (fld b.payload 1 1))
  else (s.handleOf m (fld b.payload 0 2)).map (·.file)

/-- What ristretto service offers (R456). -/
def State.ristrettoOk (s : State) (m : Fin 16) : Bool :=
  let b := s.mbx[m]
  match b.op with
  | 0x01 | 0x03 | 0x20 | 0xF0 | 0x40 => true
  | 0x30 | 0x31 | 0x32 | 0x33 => match s.fileIn m with
    | some .flogLog | some .safLog => b.op != 0x31
    | some .secFwSlot => b.op != 0x32
    | some _ => false
    | none => true
  | _ => false

/-- The statuses of R55 that stand before a command's own: BUSY, AUTH, then RANGE for the header. -/
def State.preStatus (s : State) (m : Fin 16) (busy : Bool) (right : Nat) : Nat :=
  if busy || (s.pwr.state == .ristretto && !s.ristrettoOk m) then stBusy
  else if !s.sessionOk m || (right != 0 && s.rightsOf m &&& (right ||| 32) == 0) then stAuth
  else if !s.mbx[m].headerOk then stRange
  else stOk

/-- The mailbox holds this command, taken and not yet answered. -/
def State.holds (s : State) (m : Fin 16) (op : Nat) (hit : List Byte → Bool) : Bool :=
  let b := s.mbx[m]
  s.fwRuns && b.state == .executing && b.wait == .none && b.hidden.isNone && b.op == op && hit b.payload

/-- What a command comes to: a status with the payload that goes with it, or with the state that the failure
leaves; a state with the response payload; or a state in which the answer waits. -/
inductive Served
  | fail (st : Nat) (detail : Nat := 0) (pay : List Byte := [])
  | failed (s : State) (st : Nat)
  | done (s : State) (pay : List Byte := [])
  | wait (s : State) (w : Wait)

/-- The outcome of a served command is put into its mailbox. -/
def State.settle (s : State) (m : Fin 16) : Served → State
  | .fail st d p => s.answer m st d p
  | .failed t st => t.answer m st 0 []
  | .done t p => t.answer m stOk 0 p
  | .wait t w => t.modMbx m fun b => { b with wait := w }

/-- The status of a command whose header is not in order (R51, R55): RANGE, but for what stands before it. -/
def headerStatus (r : Served) : Nat :=
  match r with
  | .fail st _ _ | .failed _ st => if st = stLocked ∨ st = stUnknown then st else stRange
  | .done _ _ | .wait _ _ => stRange

/-- The firmware carries out the command that mailbox `m` holds, when it is this one. -/
def State.serve (s : State) (m : Fin 16) (tm : Nat) (op : Nat) (hit : List Byte → Bool) (right : Nat)
    (act : State → List Byte → Served) (busy : State → List Byte → Bool := fun _ _ => false) : State :=
  let s := s.adv tm
  if s.holds m op hit then
    let pay := s.mbx[m].payload
    let st := s.preStatus m (busy s pay) right
    s.settle m (if st = stRange then .fail (headerStatus (act s pay)) else if st ≠ 0 then .fail st else act s pay)
  else s

/-- The right that a call needs (R490): OWNER 32, UPDATE 2, KEYS 16, otherwise CONFIG 1. -/
def callRight (id : Nat) : Nat :=
  match id with
  | 0x8000F001 | 0x8000F002 => 2
  | 0x8000F003 | 0x8000F004 => 16
  | 0x8000F005 | 0x8000F006 | 0x8000F007 | 0x8000F008 => 32
  | _ => 1

/-- The device is neither SOLO nor ACTIVE, and the command is one that then returns STATE (R389). -/
def State.standbyRefuses (s : State) (id : Nat) : Bool := !s.drives && idClass id != 0xB0

/-- A refusal keeps the order of R55 beside a STATE that stands anyway. -/
def withState (bad : Bool) (r : Served) : Served :=
  if !bad then r else match r with
    | .fail st d p => if st = stRange ∨ st = stIntegrity ∨ st = stLevel ∨ st = stUnknown ∨ st = stLocked
        then .fail st d p else .fail stState
    | .failed _ _ | .done _ _ | .wait _ _ => .fail stState

/-- The arguments of a call: the payload after its ID. -/
def callArgs (pay : List Byte) : List Byte := pay.drop 4

/-- A call with a fixed ID and number of argument bytes is served. -/
def State.serveCall (s : State) (m : Fin 16) (tm id n : Nat) (act : State → List Byte → Served)
    (busy : State → Bool := fun _ => false) : State :=
  s.serve m tm 0x10 (fun p => fld p 0 4 = id) (callRight id)
    (fun t p => if p.length ≠ 4 + n then .fail stRange
      else withState (t.standbyRefuses id) (act t (callArgs p)))
    (fun t _ => busy t)

/-- A call of an axis class (class, index): the axis is the instance of its ID. -/
def State.serveAxis (s : State) (m : Fin 16) (tm cls idx n : Nat)
    (act : Fin 128 → State → List Byte → Served)
    (busy : Fin 128 → State → Bool := fun _ _ => false) : State :=
  let ax (p : List Byte) : Fin 128 := axisNo (idInst (fld p 0 4))
  s.serve m tm 0x10
    (fun p => idClass (fld p 0 4) = cls && idIndex (fld p 0 4) = idx && decide (idInst (fld p 0 4) < 128)) 1
    (fun t p => if p.length ≠ 4 + n then .fail stRange
      else withState (t.standbyRefuses (fld p 0 4)) (act (ax p) t (callArgs p)))
    (fun t p => busy (ax p) t)

/-- The calls of the device's own classes and of the axis classes: class and number of calls. -/
def callCounts : List (Nat × Nat) :=
  [(0x01, 1), (0x08, 5), (0x0A, 4), (0x10, 1), (0x11, 1), (0x16, 1), (0x17, 2), (0x18, 4), (0x19, 2), (0x1A, 2),
   (0x1C, 1), (0x1E, 2), (0x21, 1), (0x31, 1), (0x40, 6), (0x50, 3), (0x60, 3), (0x80, 8), (0xB0, 3), (0xF0, 1)]

/-- A call ID is defined (R56). -/
def callKnown (id : Nat) : Bool :=
  decide (idInst id < instances (idClass id)) &&
  callCounts.any fun x => x.1 == idClass id && decide (0xF001 ≤ idIndex id ∧ idIndex id < 0xF001 + x.2)

/-- An opcode of R53, with a defined call or sub-command. -/
def opKnown (op : Nat) (pay : List Byte) : Bool :=
  match op with
  | 0x10 => callKnown (fld pay 0 4)
  | 0x40 => [1, 2, 3, 0x10].contains (fld pay 0 1)
  | 0x50 => decide (1 ≤ fld pay 0 1 ∧ fld pay 0 1 ≤ 8)
  | _ => [0x01, 0x02, 0x03, 0x04, 0x20, 0x30, 0x31, 0x32, 0x33, 0xF0].contains op

/-- The answer to a command that the device does not know (R2, R55). -/
def State.serveUnknown (s : State) (m : Fin 16) : State :=
  let b := s.mbx[m]
  if s.fwRuns && b.state == .executing && b.wait == .none && b.hidden.isNone && !opKnown b.op b.payload then
    let st := s.preStatus m false 0
    let own := if b.op = 0x40 ∨ (b.op = 0x50 ∧ s.ib = true) then stRange else stUnknown
    s.answer m (if st = stBusy ∨ st = stAuth then st else own) 0 []
  else s

/-- Padding to a multiple of 4. -/
def padTo4 (n : Nat) : Nat := (4 - n % 4) % 4

/-- Bytes padded with zeros to a multiple of 4 (R53). -/
def padded (bs : List Byte) : List Byte := bs ++ List.replicate (padTo4 bs.length) 0

/-- The SET entries of a payload (R53): padding is 0, and after the last entry optional. -/
def parseEntries : Nat → List Byte → Option (List SetEntry)
  | 0, bs => if bs.isEmpty then some [] else none
  | n + 1, bs =>
    let len := fld bs 6 2
    let e : SetEntry := ⟨fld bs 0 4, fld bs 4 1, fld bs 5 1, (bs.drop 8).take len⟩
    let rest := bs.drop (8 + len)
    let pad := padTo4 len
    if bs.length < 8 + len then none
    else if n = 0 then
      if rest.isEmpty || (rest.length == pad && rest.all (· == 0)) then some [e] else none
    else if rest.length < pad || !(rest.take pad).all (· == 0) then none
    else (parseEntries n (rest.drop pad)).map (e :: ·)

/-- The instant at which the firmware can mark a group ready (R27, R28): not in the quiet window, but after its tick. -/
def State.markAt (s : State) : Nat :=
  let next := s.frame.tick + s.tf
  if s.frame.ticking && decide (next ≤ s.nt + us 3 ∧ s.nt < next) then next else s.nt

/-- A judged group is marked ready for the copier (R27, R28, R58). -/
def State.markReady (s : State) (m : Option Nat) (vals : List (Nat × PVal)) : State :=
  s.modPar fun p =>
    { p with ready := p.ready ++ [⟨p.nextGroup, m, vals, s.markAt⟩], nextGroup := p.nextGroup + 1 }

/-- A SET or SET_MULTI with its entries. -/
def State.setGroup (s : State) (m : Fin 16) (es : Option (List SetEntry)) : Served :=
  match es with
  | none => .fail stRange
  | some es =>
    let (st, i, vals) := s.judge (s.rightsOf m) (bit s.mbx[m].flags 0) es
    withState (!s.drives) (if st ≠ 0 then .fail st i else
      .wait (s.markReady (some m.val) vals) (.group s.par.nextGroup))

/-- A parameter's name, as its bytes (R54): at most 32. -/
def paramName (r : PRow) (k : Nat × Nat) : List Byte :=
  let nm := r.pre ++ (if 1 < r.n1 then toString (k.1 + r.o1) else "") ++ r.suf ++
    (if 1 < r.n2 then toString k.2 else "")
  (nm.toUTF8.toList.map fun b => BitVec.ofNat 8 b.toNat).take 32

/-- A value extended to 8 bytes in its type's encoding. -/
def extended (t : PTyp) (x : Int) : List Byte :=
  if t.signed then leBytes 8 (ofSigned 64 x) else leBytes 8 x.toNat

/-- The formula's or the derivation's present value of a COMPUTED default (R54). -/
def State.computed (s : State) (r : PRow) (id : Nat) : Nat :=
  let s' := s.modPar fun p => { p with store := storeDrop p.store id }
  match r.dflt with
  | .formula => s'.pget id
  | .derived => (s.derive (idClass id) (idInst id) (idIndex id) r.dfltRaw).getD (s'.pget id)
  | .num _ | .none => r.dfltRaw

/-- The descriptor of a parameter (R54). -/
def State.descriptor (s : State) (r : PRow) (k : Nat × Nat) (id : Nat) : List Byte :=
  let acc := match r.acc with
    | .ro => 0 | .rw => 1 | .rws => 2 | .rwx => 3 | .wo => 4
  let comp := r.dflt == .formula || r.dflt == .derived
  let held := match storeGet s.par.store id with
    | some e => e.written
    | none => false
  let follows := comp && !held && (r.dflt == .formula || !s.expert (idClass id) (idInst id))
  let attr := b2n r.flash + b2n comp * 2 + b2n (r.dflt == .none) * 4 + b2n follows * 8
  let d : Nat := if r.dflt == .none then 0 else if comp then s.computed r id else r.dfltRaw
  let three : List Byte :=
    if r.typ == .str then leBytes 8 0 ++ leBytes 8 64 ++ leBytes 8 0
    else if r.typ == .f32 then
      let (lo, hi) := s.boundsF r id
      leBytes 8 (f32Enc lo) ++ leBytes 8 (f32Enc hi) ++ leBytes 8 d
    else
      let (lo, hi) := s.boundsI r id
      extended r.typ lo ++ extended r.typ hi ++
      extended r.typ (if r.typ.signed then toSigned (8 * max 1 r.typ.bytes) d else (d : Int))
  let nm := paramName r k
  leBytes 1 r.typ.code ++ leBytes 1 acc ++ leBytes 1 (b2n r.expert) ++ leBytes 1 attr ++ three ++
  leBytes 1 nm.length ++ nm

/-- What GET finds: the type code, the status and the bytes. -/
def State.getOne (s : State) (meta_ : Bool) (id : Nat) : Nat × Nat × List Byte :=
  match s.rowOf id with
  | none => (0, stUnknown, [])
  | some (r, k) =>
    if meta_ then (r.typ.code, stOk, s.descriptor r k id)
    else if r.acc == .wo then (r.typ.code, stState, [])
    else (r.typ.code, stOk, s.readBytes r id)

/-- The entries of a GET_MULTI response that fit into 496 bytes, and how many they are. -/
def fitEntries : Nat → List (List Byte) → List Byte × Nat
  | _, [] => ([], 0)
  | room, e :: rest =>
    if room < e.length then ([], 0)
    else
      let (bs, n) := fitEntries (room - e.length) rest
      (e ++ bs, n + 1)

end Sys2Proof.Machine
end

