-- ==== Sys2Proof/Machine/Feedback.lean ====
section
/-! DEFINITION. Position and speed feedback (R161 to R193, R545, R546): reading the source of an axis in a frame,
position and speed, loss and freezing. -/

namespace Sys2Proof.Machine

/-- What the source of an axis brings in a frame: a record, a used sample, the displacement in 2^-32 cts of the
source (or an absolute reading), the last edge with its direction, and edge faults. -/
structure FbkIn where
  seen : Bool := false
  used : Bool := false
  d : Int := 0
  absolute : Option Int := none
  edge : Option (Nat × Int × Bool) := none
  faults : Nat := 0
  /-- The serial warning bit rose. -/
  warned : Bool := false
deriving DecidableEq, Repr

/-- A rational number of counts in 2^-32 cts. -/
def q32 (q : Rat) : Int := roundEven (q * 4294967296)

/-- The sign that `AX.FBK.DIR` gives counts. -/
def State.fbkSign (s : State) (a : Fin 128) : Int := if s.pB (Pid.axFbkDir a.val) then -1 else 1

/-- The feedback of an axis is lost: fault 0x1050 or 0x1051 is in force (R192). -/
def State.fbkLost (s : State) (a : Fin 128) : Bool := s.faultOn 0x1050 a.val || s.faultOn 0x1051 a.val

/-- The sector of a Hall state; none where the map marks it invalid (R134, R164). -/
def State.hallSector (s : State) (a : Fin 128) (st : Nat) : Option Nat :=
  let n := s.pN (Pid.axComHallMap a.val) / 16 ^ (st % 8) % 16
  if n < 6 then some n else none

/-- Counts and edge faults of a change between valid Hall states, by the difference of their sectors (R164). -/
def hallStep (d : Int) : Int × Nat :=
  match d % 6 with
  | 1 => (1, 0)
  | 2 => (2, 1)
  | 3 => (0, 1)
  | 4 => (-2, 1)
  | 5 => (-1, 0)
  | _ => (0, 0)

/-- The device time of a stage edge: an offset from the actuation instant of the period whose latch is `stamp` (R86). -/
def State.edgeTime (s : State) (stamp ofs : Nat) : Nat := stamp + 15000 + ofs - s.tf

/-- A Hall record (R164). -/
def State.readHall (s : State) (a : Fin 128) (f : FbkSt) (stamp st ofs : Nat) : FbkSt × FbkIn :=
  let wire := bit st 7
  match s.hallSector a st with
  | none => ({ f with hallBad := f.hallBad + 1, wire := wire }, { seen := true, faults := 1 })
  | some sec =>
    let g := { f with hallBad := 0, wire := wire, seeded := true, raw := sec }
    if !f.seeded then (g, { seen := true, used := !wire }) else
    let (n, bad) := hallStep (sec - f.raw)
    let te := if ofs = 0x1FFFF then stamp else s.edgeTime stamp ofs
    (g, { seen := true, used := !wire, d := cts32 n, faults := bad,
          edge := if n = 0 then none else some (te, isgn n, false) })

/-- An incremental record (R165). -/
def State.readInc (s : State) (a : Fin 128) (f : FbkSt) (stamp count fl ofs : Nat) (dir : Bool) : FbkSt × FbkIn :=
  let wire := bit fl 7
  let g := { f with wire := wire, seeded := true, raw := count, stageFaults := fl % 128 }
  if !f.seeded then (g, { seen := true, used := !wire }) else
  let d := toSigned 32 (ofSigned 32 (count - f.raw))
  let bad := (fl % 128 + 128 - f.stageFaults) % 128 + (d.natAbs - s.tf / s.pN (Pid.axFbkTmin a.val))
  let te := s.edgeTime stamp ofs
  let up : Int := if dir then 1 else -1
  (g, { seen := true, used := !wire, d := cts32 d, faults := bad,
        edge := if ofs = 0x1FFFF || (d = 0 && te ≤ f.te) then none else some (te, up, isgn d != up) })

/-- A sin/cos sample (R167, R168): used within the amplitude limits and 90° of the prediction, otherwise replaced
by the prediction.  `phi` counts whole periods too. -/
def State.readSinCos (s : State) (a : Fin 128) (f : FbkSt) (sn cs : Int) : FbkSt × FbkIn :=
  let amp2 := (sn * sn + cs * cs).natAbs
  let nom := s.pN (Pid.axFbkScNom a.val)
  let low := decide (amp2 * 10000 < (s.pN (Pid.axFbkAmin a.val) * nom) ^ 2)
  let high := decide ((s.pN (Pid.axFbkAmax a.val) * nom) ^ 2 < amp2 * 10000)
  let g := { f with amp2 := amp2, ampLow := low, ampHigh := high,
                    lowRun := if low then f.lowRun + 1 else 0, highRun := if high then f.highRun + 1 else 0 }
  let ip : Rat := s.pN (Pid.axFbkScInterp a.val)
  let raw := atan2Deg sn cs
  if !f.seeded then
    if low || high then (g, { seen := true, faults := 1 })
    else
      let n := q32 (raw / 360 * ip)
      ({ g with seeded := true, phi := raw, freq := 0, raw := n, periods := 0 },
       { seen := true, used := true, d := if f.serFirst then n else 0 })
  else
    let pre := f.phi + 360 * f.freq * s.tfS
    let r0 := raw - pre
    let r := r0 - 360 * (((r0 + 180) / 360).ceil - 1 : Int)
    let ok := !low && !high && decide (rabs r ≤ 90)
    let phi := if ok then pre + r else pre
    let n := q32 (phi / 360 * ip)
    ({ g with phi := phi, freq := if ok then (phi - f.phi) / 360 / s.tfS else f.freq, raw := n,
              periods := (phi / 360).floor },
     { seen := true, used := ok, d := n - f.raw, faults := if ok then 0 else 1 })

/-- Gray decoding of `n` bits. -/
def grayDecode (n p : Nat) : Nat := (List.range n).foldl (fun r k => r ^^^ (p >>> k)) 0

/-- A serial reading (R169 to R171). -/
def State.readSerial (s : State) (a : Fin 128) (f : FbkSt) (stamp st data : Nat) : FbkSt × FbkIn :=
  let ssi := s.pN (Pid.axFbkSource a.val) = 5
  let n := s.pN (Pid.axFbkSerMtBits a.val) + s.pN (Pid.axFbkSerStBits a.val)
  let p0 := (data >>> s.pN (Pid.axFbkSerOfs a.val)) % 2 ^ n
  let p := if ssi && s.pB (Pid.axFbkSerGray a.val) then grayDecode n p0 else p0
  let d := toSigned n (ofSigned n (p - f.raw))
  let dt : Rat := ((stamp - f.usedAt : Nat) : Rat) / 1000000000
  let jump := f.seeded && decide (2 * s.nRated a.val * (s.cpr a : Rat) * dt < rabs d)
  let bad := (!ssi && !bit st 0) || bit st 1 || bit st 2 || jump
  let g := { f with serFail := bad, serWarn := bit st 3, serErr := if bad then count32 f.serErr else f.serErr,
                    serFails := if bad then f.serFails + 1 else 0,
                    unref := f.unref || (f.serFirst && bit st 2) }
  let i : FbkIn := { seen := true, used := !bad, warned := bit st 3 && !f.serWarn }
  if bad then
    (g, { i with d := if f.seeded then (s.fbkSign a) * q32 (f.vel * s.tfS) else 0 })
  else if !f.seeded then
    ({ g with seeded := true, raw := p },
     if f.serFirst then { i with d := cts32 p - f.ext, absolute := some (cts32 p) } else i)
  else ({ g with raw := p }, { i with d := f.usedPos + cts32 d - f.ext })

/-- A line encoder port (R172, R173). -/
def State.readPort (s : State) (a : Fin 128) (f : FbkSt) : FbkSt × FbkIn :=
  let p := s.ports[fin 4 (by decide) (s.pN (Pid.axFbkLePort a.val))]
  let g := { f with wire := p.wire, seeded := true, raw := p.latched, portFaults := p.edgeCnt }
  if !f.seeded then (g, { seen := true, used := !p.wire }) else
  (g, { seen := true, used := !p.wire, d := cts32 (p.latched - f.raw), faults := p.edgeCnt - f.portFaults,
        edge := if p.latchMoved then some (p.latchStamp, p.latchDir, p.latchMixed) else none })

/-- The reading of the last record of the source's kind; without one, nothing is seen. -/
def State.readSource (s : State) (a : Fin 128) (f : FbkSt) (recs : List Stamped) : FbkSt × FbkIn :=
  let src := s.pN (Pid.axFbkSource a.val)
  if src = 6 then s.readPort a f
  else recs.foldl (fun t r => match r.rcd with
    | .hall st ofs => if src = 1 then s.readHall a f r.stamp st ofs else t
    | .inc c fl ofs dir => if src = 2 then s.readInc a f r.stamp c fl ofs dir else t
    | .sincos sn cs => if src = 3 then s.readSinCos a f sn cs else t
    | .serial st data _ => if src = 4 ∨ src = 5 then s.readSerial a f r.stamp st data else t
    | .cur _ _ _ _ | .volt _ _ | .zc _ _ | .dly _ _ | .zone _ _ | .tripr _ _ => t)
    (f, ({} : FbkIn))

/-- The latch instant of the present frame (R162, R261). -/
def State.latchAt (s : State) (a : Fin 128) : Nat :=
  match s.pN (Pid.axFbkSource a.val) with
  | 0 => if s.motType a.val = 2 then s.act else s.frame.tick
  | 4 | 5 => s.frame.tick - 6000
  | 6 => s.frame.tick - 500
  | _ => s.frame.tick - 1000

/-- The position moves by a displacement: wraps and whole revolutions are counted (R176, R177). -/
def State.posMove (s : State) (a : Fin 128) (f : FbkSt) (d : Int) : FbkSt :=
  let p := f.pos + d
  let c := cts32 (s.cpr a : Nat)
  { f with pos := s.posWrap a p, turns := f.turns + (p / c - f.pos / c),
           wraps := if s.pN (Pid.axFbkModulo a.val) = 1 then f.wraps else f.wraps + (p + 2 ^ 63) / 2 ^ 64 }

/-- The speed state of an axis's edge source. -/
def FbkSt.edgeV (f : FbkSt) : EdgeV :=
  { v := f.vel, vLast := f.vLast, te := f.te, ref := f.ref, dir := f.dir, rev := f.reversal, ok := f.edgeOk }

/-- With a new speed state; `sg` turns the source's direction into the axis's. -/
def FbkSt.withV (f : FbkSt) (x : EdgeV) : FbkSt :=
  { f with vel := x.v, vLast := x.vLast, te := x.te, ref := x.ref, dir := x.dir, reversal := x.rev, edgeOk := x.ok }

/-- The speed state of an edge source at seeding (R546). -/
def FbkSt.seedSpeed (f : FbkSt) : FbkSt :=
  { f with vel := 0, vLast := 0, ref := none, reversal := none, dir := 0, edgeOk := true }

/-- The speed of an edge source in a frame (R179 to R181, R546): in the axis's direction. -/
def State.edgeSpeed (s : State) (a : Fin 128) (f : FbkSt) (i : FbkIn) (wasSeeded : Bool) : FbkSt :=
  if !wasSeeded then
    if f.seeded then f.seedSpeed else f
  else
    let x := match i.edge with
      | some (te, dir, mixed) => f.edgeV.edge ⟨(s.fbkSign a) * (f.ext / 4294967296), te, (s.fbkSign a) * dir, mixed⟩
      | none => f.edgeV.quiet f.posAt
    f.withV (x.timeout f.posAt (ms (s.pN (Pid.axFbkZeroTimeout a.val))))

/-- The speed of a frame-difference source (R182). -/
def State.diffSpeed (s : State) (a : Fin 128) (f : FbkSt) (i : FbkIn) (wasSeeded : Bool) : FbkSt :=
  let f := if wasSeeded then f else { f with fresh := 0, vel := 0, edgeOk := false }
  if !i.used then f
  else
    let tau := us (s.pN (Pid.axFbkVfilt a.val))
    let share := if tau = 0 then 1 else Config.filterShare s.tf tau
    let v : Rat := (s.fbkSign a : Rat) * perSec (f.ext - f.usedPos) (f.posAt - f.usedAt) / 4294967296
    { f with fresh := f.fresh + 1, vel := if f.fresh = 0 then 0 else f.vel + share * (v - f.vel),
             usedPos := f.ext, usedAt := f.posAt, edgeOk := decide (2 ≤ f.fresh) }

/-- The loss condition that holds in a frame, 0 none (R183). -/
def State.lossCause (s : State) (a : Fin 128) (f : FbkSt) : Nat :=
  let src := s.pN (Pid.axFbkSource a.val)
  let beyond := decide (s.pN (Pid.axFbkEdgeLimit a.val) < f.tally.foldl (· + ·) 0)
  if src = 3 ∧ (3 ≤ f.lowRun ∨ 3 ≤ f.highRun) then 1
  else if (src = 1 ∨ src = 2 ∨ src = 6) ∧ f.wire then 2
  else if (src = 4 ∨ src = 5) ∧ s.pN (Pid.axFbkSerTol a.val) ≤ f.serFails then 3
  else if (src = 1 ∨ src = 2 ∨ src = 3 ∨ src = 6) ∧ beyond then 4
  else if src = 1 ∧ 3 ≤ f.hallBad then 5
  else if 1 ≤ src ∧ src ≤ 5 ∧ 2 ≤ f.noData then 6
  else if f.frozen then 7 else 0

/-- A speed threshold in %, as the engine uses it (R504): the scaling by the aged induced-voltage constant. -/
def State.slPct (s : State) (a : Fin 128) (pct : Nat) : Rat :=
  let k := s.age.axes[a].kNow
  (pct : Rat) / 100 / (if s.pN Pid.ageSlScale = 1 && s.motType a.val = 1 then k else 1)

/-- The estimated speed while the feedback is lost, cts/s (R185): the crossing estimate, or the last speed reduced
by the deceleration of the current limit. -/
def State.lostSpeed (s : State) (a : Fin 128) : Rat :=
  let x := s.axes[a]
  if x.com.zcValid then x.zcSpeed / (s.poles a.val : Rat) * (s.cpr a : Rat)
  else
    let dec := twoPi (-1) (s.kt a.val * s.iLimit a / s.pF (Pid.axMotJ a.val)) * (s.cpr a : Rat)
    rsgn x.fbk.vEst * rmax 0 (rabs x.fbk.vEst - dec * s.tfS)

/-- The axis shows motion in the frame before (R184). -/
def State.showsMotion (s : State) (a : Fin 128) : Bool :=
  let x := s.axes[a]
  let vMin := s.slPct a (s.pN (Pid.axFbkFrozenV a.val)) * s.nRated a.val
  if s.motType a.val = 2 then
    let v : Rat := (x.stp.v : Rat) * 100000000 / 4294967296 / (4 * s.pN (Pid.axStpMicro a.val) * s.poles a.val : Nat)
    decide (vMin ≤ rabs v)
  else
    (x.com.zcFrame && decide (vMin ≤ rabs x.zcSpeed / (s.poles a.val : Rat))) ||
    (!x.com.zcValid && decide (s.pPct (Pid.axFbkFrozenI a.val) * s.iRated a.val ≤ rabs x.eng.iSp) &&
      (x.inp.mode = 3 || x.prf.mode = 3 || x.eng.vCmd != 0))

/-- The watch for frozen feedback (R184). -/
def State.frozenWatch (s : State) (a : Fin 128) (f : FbkSt) : FbkSt :=
  let st := s.axes[a].state
  if (st == .run || st == .starting || st == .stop) && s.pN (Pid.axFbkSource a.val) != 0 && s.showsMotion a then
    match f.frozenFrom with
    | none => { f with frozenFrom := some (s.frame.tick, f.pos), frozen := false }
    | some (t, p) =>
      if cts32 (s.pN (Pid.axFbkFrozenCts a.val)) ≤ (s.dispOf a f.pos p).natAbs then
        { f with frozenFrom := some (s.frame.tick, f.pos), frozen := false }
      else if t + ms 20 ≤ s.frame.tick then { f with frozen := true }
      else f
  else { f with frozenFrom := none, frozen := false }

/-- The sector of a six-step axis that R545 counts: the one in force; with none in force that of the Hall sensors,
where they commutate, and otherwise 7. -/
def State.countedSector (s : State) (a : Fin 128) : Nat :=
  let c := s.axes[a].com
  if c.sector < 6 then c.sector
  else if s.pN (Pid.axComSource a.val) = 1 then 7 else c.hallValid.getD 7

/-- The changes of sector of a six-step axis without a source (R545). -/
def State.readSectors (s : State) (a : Fin 128) (f : FbkSt) : FbkSt :=
  let x := s.axes[a]
  let sec := s.countedSector a
  let src := s.pN (Pid.axComSource a.val)
  let hall := x.com.phase == .hall || ((x.state == .off || x.state == .ready) && (src = 0 || src = 2))
  let g := if 6 ≤ sec then { f with seeded := false } else { f with seeded := true, raw := sec }
  let n := if f.seeded && sec < 6 then (hallStep (sec - f.raw)).1 else 0
  let ok := hall || x.com.zcValid
  { s.posMove a { g with ext := f.ext + cts32 n } ((s.fbkSign a) * cts32 n) with
    vel := if ok then (s.fbkSign a : Rat) * 6 * s.speedE a s.frame.tick else 0
    edgeOk := ok, speedValid := ok, valid := false, posAt := s.frame.tick, posAtPrev := f.posAt, posPrev := f.pos }

/-- The microsteps of a stepper axis without a source (R261). -/
def State.readSteps (s : State) (a : Fin 128) (f : FbkSt) : FbkSt :=
  let p := s.axes[a].stp
  let d := toSigned 64 (ofSigned 64 (p.a.toInt - f.ext))
  { s.posMove a { f with ext := p.a.toInt } ((s.fbkSign a) * d) with
    vel := (s.fbkSign a : Rat) * (p.v : Rat) * 100000000 / 4294967296
    edgeOk := true, speedValid := true, valid := false, posAt := s.act, posAtPrev := f.posAt, posPrev := f.pos }

/-- The position of an axis and what is kept of it move by `d`. -/
def State.shiftPos (s : State) (a : Fin 128) (d : Int) : State :=
  let w (p : Int) : Int := s.posWrap a (p + d)
  s.modAxis a fun x =>
    { x with fbk := { x.fbk with pos := w x.fbk.pos, fine := w x.fbk.fine, finePrev := w x.fbk.finePrev }
             cmp := x.cmp.map fun u => { u with seen := w u.seen } }

/-- A homing offset or a set position moves the position and `AX.FBK.OFFSET` by the same amount (R190, R243). -/
def State.shiftOffset (s : State) (a : Fin 128) (d : Int) : State :=
  let id := Pid.axFbkOffset a.val
  let v := ofSigned 64 (toSigned 64 (s.pget id) + d)
  let s := s.modPar fun p => { p with store := storePut p.store ⟨id, .num v, true⟩ }
  s.shiftPos a d

/-- `AX.FBK.SET_POS` at the latch instant of its tick (R190). -/
def State.applySetPos (s : State) (a : Fin 128) : State :=
  match s.axes[a].fbk.setPosDue with
  | none => s
  | some p =>
    let s := s.shiftOffset a (p - s.axes[a].fbk.pos)
    s.modAxis a fun x => { x with fbk := { x.fbk with setPosDue := none, unref := false } }

/-- The feedback of an axis with a source in a frame (R162 to R187).  An edge source that delivers valid samples again
after a loss is seeded anew (R546); the estimate of R185 starts from the last speed with SPEED_VALID. -/
def State.readFeedback (s : State) (a : Fin 128) (recs : List Stamped) : FbkSt × FbkIn :=
  let f := s.axes[a].fbk
  let src := s.pN (Pid.axFbkSource a.val)
  let lost := s.fbkLost a
  let (g, i) := s.readSource a f recs
  let window := ms 10 / s.tf
  let g := { g with
    tally := pushN window i.faults f.tally
    edgeCnt := min (2 ^ 32) (f.edgeCnt + i.faults)
    noData := if src ≠ 6 ∧ !i.seen ∧ s.links[linkOf a].state == .up then f.noData + 1 else 0
    posPrev := f.pos, posAtPrev := f.posAt, posAt := s.latchAt a, valid := i.used, ext := f.ext + i.d }
  let g := if src = 1 ∨ src = 2 ∨ src = 6 then s.edgeSpeed a g i f.seeded else s.diffSpeed a g i f.seeded
  let cause := s.lossCause a g
  let going := lost || cause ≠ 0
  let back := f.cause ≠ 0 && cause = 0 && i.used && f.goodRun = 0
  let g := if (src = 1 ∨ src = 2 ∨ src = 6) ∧ back = true then { g with ext := f.ext }.seedSpeed else g
  let v := s.lostSpeed a
  let g := if going then
      s.posMove a { g with vel := v, vEst := v, seeded := g.seeded && i.used } (q32 (v * s.tfS))
    else
      let g := { g with vEst := if g.edgeOk then g.vel else g.vEst }
      match i.absolute with
      | some p => { g with pos := s.posWrap a ((s.fbkSign a) * p + s.pI 64 (Pid.axFbkOffset a.val)) }
      | none => s.posMove a g ((s.fbkSign a) * i.d)
  ({ s.frozenWatch a g with
      cause := if cause ≠ 0 then cause else if lost then f.cause else 0
      estimated := f.estimated && lost
      goodRun := if i.used && cause = 0 then f.goodRun + 1 else 0
      speedValid := g.edgeOk && !going
      valid := i.used && !going
      serFirst := f.serFirst && !i.used
      unref := if f.serFirst && i.used && (src = 4 || src = 5) && s.pN (Pid.axFbkSerMtBits a.val) ≠ 0 then false
               else g.unref }, i)

/-- The feedback of an axis in a frame. -/
def State.feedback (s : State) (a : Fin 128) (recs : List Stamped) : State :=
  let x := s.axes[a]
  if s.pN (Pid.axFbkSource a.val) = 0 then
    let f := if s.motType a.val = 2 then s.readSteps a x.fbk else s.readSectors a x.fbk
    (s.modAxis a fun x => { x with fbk := f }).applySetPos a
  else
    let (f, i) := s.readFeedback a recs
    let s := s.modAxis a fun x => { x with fbk := f }
    let s := if i.warned then s.raiseAx 0x1052 a else s
    s.applySetPos a

/-! Loss and freezing. -/

/-- The level of a loss, and whether the axis falls back to sensorless running (R185). -/
def State.lossLevel (s : State) (a : Fin 128) : Nat × Bool :=
  let x := s.axes[a]
  let fall := s.motType a.val = 1 && x.com.zcValid &&
    decide (s.slPct a (s.pN (Pid.axComSlMin a.val)) * s.nRated a.val ≤ rabs x.zcSpeed / (s.poles a.val : Rat))
  match s.pN (Pid.axFbkLossAction a.val) with
  | 0 => if fall then (1, true) else (3, false)
  | 2 => (4, false)
  | _ => (3, false)

/-- The feedback is lost or frozen (R185, R186): the fault, UNREFERENCED and ESTIMATED. -/
def State.loseFeedback (s : State) (code : Nat) (a : Fin 128) : State :=
  let (lv, fall) := s.lossLevel a
  let s := s.raiseAt code a.val [a] 0 lv true
  s.modAxis a fun x =>
    { x with fbk := { x.fbk with unref := true, estimated := true, speedValid := false }
             com := if fall && x.com.phase == .hall then { x.com with phase := .sensorless } else x.com }

/-- A loss condition of R183 holds. -/
def execFbkLost (a : Fin 128) (tm : Nat) (s : State) : Host.Outcome State Fault Refusal :=
  let s := s.adv tm
  let c := s.axes[a].fbk.cause
  .next (if 1 ≤ c && c ≤ 6 && s.lossCause a s.axes[a].fbk == c then s.loseFeedback 0x1050 a else s)

/-- The feedback is frozen (R184). -/
def execFbkFrozen (a : Fin 128) (tm : Nat) (s : State) : Host.Outcome State Fault Refusal :=
  let s := s.adv tm
  .next (if s.axes[a].fbk.frozen then s.loseFeedback 0x1051 a else s)

/-- The last edge lies further back than `AX.FBK.ZERO_TIMEOUT`: the speed is exactly 0 until the next (R180). -/
def execZeroTimeout (a : Fin 128) (tm : Nat) (s : State) : Host.Outcome State Fault Refusal :=
  let s := s.adv tm
  let src := s.pN (Pid.axFbkSource a.val)
  .next (if src = 1 ∨ src = 2 ∨ src = 6 then
    s.modAxis a fun x =>
      { x with fbk := x.fbk.withV (x.fbk.edgeV.timeout s.nt (ms (s.pN (Pid.axFbkZeroTimeout a.val)))) }
  else s)

/-- AX.FBK.SET_POS (R190): it acts at the next tick. -/
def execAxFbkSetPos (m : Fin 16) (tm : Nat) (s : State) : Host.Outcome State Fault Refusal :=
  .next (s.serveAxis m tm 0x1C 0xF001 8 fun a t p =>
    if t.fbkLost a then .fail stState
    else if t.axes[a].fbk.estimated then .fail stCause
    else .done (t.modAxis a fun x => { x with fbk := { x.fbk with setPos := some (toSigned 64 (fld p 0 8)) } }))

/-- Set positions accepted before a tick apply at its latch instant (R190). -/
def State.setPosTick (s : State) : State :=
  { s with axes := s.axes.map fun x =>
      if x.fbk.setPos.isSome then { x with fbk := { x.fbk with setPosDue := x.fbk.setPos, setPos := none } } else x }

end Sys2Proof.Machine
end

