-- ==== Sys2Proof/Machine/Files.lean ====
section
/-! DEFINITION. The files of R53: their bytes for reading, and what a closed write does. -/

namespace Sys2Proof.Machine

/-- KIND of a fault log entry (R444). -/
def LogKind.code : LogKind → Nat
  | .raised => 0 | .cleared => 1 | .refused => 2 | .reset => 3

/-- The 32 bytes of a fault log entry (R444). -/
def LogEntry.bytes (e : LogEntry) : List Byte :=
  leBytes 4 e.seq ++ leBytes 8 e.nt ++ leBytes 4 e.fc ++ leBytes 2 e.code ++ leBytes 1 e.inst ++
  leBytes 1 (e.applied % 8 + e.dflt % 8 * 8 + b2n e.override * 64 + b2n e.first * 128) ++
  leBytes 1 e.kind.code ++
  leBytes 1 (b2n e.merged + b2n e.preempted * 2 + b2n e.service * 4 + b2n e.twinCopy * 8) ++
  leBytes 2 e.count ++ leBytes 8 e.data

/-- Offsets 0 to 27 of a change-log entry (R429). -/
def SafLog.body (e : SafLog) : List Byte :=
  leBytes 4 e.seq ++ leBytes 8 e.nt ++ leBytes 1 e.kind ++ leBytes 1 e.result ++ leBytes 1 e.path ++
  leBytes 1 0 ++ leBytes 4 e.session ++ leBytes 4 e.oldCrc ++ leBytes 4 e.newCrc

/-- The change log with its chained CRCs (R429); the chain starts at 0xFFFFFFFF. -/
def safLogBytes (start : Nat) : List SafLog → List Byte
  | [] => []
  | e :: rest =>
    let c := crc32cFrom start e.body ^^^ 0xFFFFFFFF
    e.body ++ leBytes 4 c ++ safLogBytes c rest

/-- The unit limit of a margin item (R498, R506). -/
def State.marginLimit (s : State) (kind inst : Nat) (v : Rat := 0) : Rat :=
  match kind with
  | 3 => (s.pN Pid.ageDroopMax : Rat)
  | 4 => 25
  | 5 => if v < 0 then -500 else 500
  | 6 | 7 => 100
  | 8 => (s.pN Pid.ageRonMax : Rat)
  | 9 => 7 / 10
  | 10 => s.ilim inst / 2
  | _ => 0

/-- The 24 bytes of a margin item (R506). -/
def State.marginBytes (s : State) (x : Margin) : List Byte :=
  let replanned := match x.replannedAt with
    | some t => decide (s.nt < t + secs 86400)
    | none => false
  leBytes 1 x.kind ++ leBytes 1 x.inst ++
  leBytes 2 (b2n replanned + b2n x.fitValid * 2 + b2n (x.warnTtl || x.warnRest) * 4) ++
  leBytes 4 (f32Enc (x.days.headD 0)) ++ leBytes 4 (f32Enc (s.marginLimit x.kind x.inst (x.days.headD 0))) ++
  leBytes 4 (f32Enc x.slope) ++ leBytes 4 x.ttl ++ leBytes 4 x.days.length

/-- The word of the carafe at a word offset. -/
def CapSt.word (c : CapSt) (o : Nat) : Word := wordGet c.carafe o

/-- `CAP.DATA`: header and stored samples in time order (R345). -/
def State.capData (s : State) : List Byte :=
  let c := s.cap
  let g := c.cfg
  let period := match g.mode with
    | 0 => s.tf
    | 1 => g.period
    | _ => 0
  leBytes 2 1 ++ leBytes 1 g.mode ++ leBytes 1 g.w ++ leBytes 1 g.reduce ++
  leBytes 1 (g.src.toList.filter (· != 0)).length ++ leBytes 2 s.capStatus ++ leBytes 4 c.count ++
  leBytes 4 c.preAct ++ leBytes 4 g.decim ++ leBytes 4 period ++ leBytes 8 c.firstNt ++ leBytes 8 c.trigNt ++
  leBytes 8 c.maskFirst ++ List.replicate 16 0 ++ g.src.toList.flatMap (leBytes 4) ++
  (List.range c.count).flatMap fun i =>
    let k := if g.cap = 0 then 0 else (c.start + i) % g.cap
    (List.range g.w).flatMap fun j => leBytes 4 (c.word (k * g.w + j)).toNat

/-- The bytes of a file that can be read, when it can be opened. -/
def State.fileBytes (s : State) : FileName → Option (List Byte)
  | .flogLog => some (s.flt.log.flatMap LogEntry.bytes)
  | .safLog => some (safLogBytes 0xFFFFFFFF s.saf.log)
  | .secIdCert => some Config.idCert
  | .secCaCert => some Config.caCert
  | .ageHist => some (leBytes 4 s.age.items.length ++ leBytes 8 s.age.lastDaily ++ leBytes 4 0 ++
      s.age.items.flatMap s.marginBytes)
  | .capData => if s.cap.state == .done || s.cap.state == .stopped then some s.capData else none
  | .safCfg | .secFwSlot | .secBundle | .capMask | .trkCtx | .other _ => none

/-- The right that opening a file for writing needs (R490). -/
def FileName.right : FileName → Nat
  | .secFwSlot => 2
  | .secBundle => 4
  | .flogLog | .safLog | .safCfg | .secIdCert | .secCaCert | .capData | .capMask | .ageHist | .trkCtx
  | .other _ => 1

/-- A trial image runs (R480, R481). -/
def State.trial (s : State) : Bool := s.sec.next == some s.sec.running && s.sec.tried

/-- The slot that is not CUR (R480). -/
def SecSt.other (k : SecSt) : Fin 2 := fin 2 (by decide) (k.cur + 1)

/-- A file can be opened for writing now. -/
def State.writable (s : State) : FileName → Bool
  | .secFwSlot => !s.trial
  | .secBundle => true
  | .capMask => s.cap.state == .idle || s.cap.state == .done || s.cap.state == .stopped
  | .flogLog | .safLog | .safCfg | .secIdCert | .secCaCert | .capData | .ageHist | .trkCtx | .other _ => false

/-- What the header and the checks of R477 and R478 say of a slot's image. -/
def SecSt.slotOf (k : SecSt) (img : List Byte) : SlotSt :=
  let pages := fld img 10 2
  let len := fld img 12 4
  let key := fld img 9 1
  let pub := (img.drop 48).take 64
  let body := (img.drop 256).take (len + 32 * pages)
  let good := decide (fld img 0 4 = 0x4E4B9128) && decide (key < 4) && !k.revoke.getLsbD key &&
    Config.sha256 pub == Config.fwKeyHash key &&
    Config.ecdsaVerify pub (Config.sha256 (img.take 128)) ((img.drop 128).take 64) &&
    decide (pages ≤ 444) && decide (1 ≤ len ∧ len ≤ 196608) && Config.sha256 body == (img.drop 16).take 32
  { image := img, version := fld img 4 4, svn := fld img 8 1, keyIdx := key, good := good, bad := false }

/-- A slot is valid (R478). -/
def SecSt.valid (k : SecSt) (i : Fin 2) : Bool :=
  let x := k.slots[i]
  x.good && !x.bad && decide (k.svnMin ≤ x.svn)

/-- The size of an entry in changed parameter words, in bytes (R28). -/
def entrySize (e : Nat × PVal) : Nat :=
  match findRow e.1 with
  | some (r, _) => match e.2 with
    | .num _ => max 4 r.typ.bytes
    | .str bs => max 4 (bs.length + padTo4 bs.length)
  | none => 4

/-- The size of a group. -/
def groupSize (es : List (Nat × PVal)) : Nat := es.foldl (fun n e => n + entrySize e) 0

/-- Entries cut into consecutive groups of at most 4 KiB (R494). -/
def cutGroups (room : Nat) (cur : List (Nat × PVal)) : List (Nat × PVal) → List (List (Nat × PVal))
  | [] => if cur.isEmpty then [] else [cur.reverse]
  | e :: rest =>
    let n := entrySize e
    if n ≤ room then cutGroups (room - n) (e :: cur) rest
    else cur.reverse :: cutGroups (4096 - n) [e] rest

/-- The key and the rights of a credential: 0xFF owner, 0 to 7 an operator (R486, R487). -/
def SecSt.cred (k : SecSt) (c : Nat) : Option (List Byte × Nat) :=
  if c = 0xFF then (if k.owned then some (k.ownerKey, 63) else none)
  else if h : c < 8 then
    let o := k.operators[c]
    if o.key.isEmpty then none else some (o.key, o.rights % 32)
  else none

/-- A bundle is checked and taken (R493, R494): its status, and the state. -/
def State.takeBundle (s : State) (bs : List Byte) : Nat × State :=
  let n := bs.length - 64
  let cnt := fld bs 22 2
  let bad (st : Nat) : Nat × State := (st, s.raise 0x8004 0 [])
  match s.sec.cred (fld bs 20 1) with
  | none => bad stIntegrity
  | some (key, rights) =>
    if bs.length < 88 ∨ fld bs 0 4 ≠ 0x4E4BB0D1 ∨ rights &&& 4 = 0 ∨
        !Config.ecdsaVerify key (Config.sha256 (bs.take n)) (bs.drop n) ∨
        (fld bs 4 8 ≠ 0 ∧ fld bs 4 8 ≠ s.serial) ∨ fld bs 16 4 ≠ s.sec.ownerEpoch then bad stIntegrity
    else if fld bs 12 4 ≤ s.sec.bundleLast ∨ cnt < 1 ∨ 4096 < cnt ∨ 2 ≤ fld bs 21 1 then bad stRange
    else if !s.allOff then bad stState
    else match parseEntries cnt ((bs.take n).drop 24) with
      | none => bad stRange
      | some es =>
        let (st, _, vals) := s.judge 63 true es
        if st ≠ 0 then bad st
        else
          let s := s.each (cutGroups 4096 [] vals) fun t g => t.markReady none g
          (stOk, s.modSec fun k =>
            { k with bundleLast := fld bs 12 4, bundling := true, bundleSave := bit (fld bs 21 1) 0 })

/-- A file written is closed (R342, R480, R494): its status, and the state. -/
def State.closeWrite (s : State) (f : FileName) (bs : List Byte) : Nat × State :=
  match f with
  | .secFwSlot =>
    let x := s.sec.slotOf bs
    let ok := x.good && decide (s.sec.svnMin ≤ x.svn) && Config.pagesGood bs
    (if ok then stOk else stIntegrity, s.modSec fun k =>
      { k with slots := k.slots.set k.other { x with bad := !Config.pagesGood bs }, closedOk := ok })
  | .secBundle => s.takeBundle bs
  | .capMask => (stOk, s.modCap fun c => { c with maskFile := (bs ++ List.replicate 8192 0).take 8192 })
  | .flogLog | .safLog | .safCfg | .secIdCert | .secCaCert | .capData | .ageHist | .trkCtx | .other _ =>
    (stOk, s)

end Sys2Proof.Machine
end

