-- ==== Sys2Proof/Machine/Commands.lean ====
section
/-! DEFINITION. The meanings of the mailbox commands of chapter 03 and of the session commands (R53, R61,
R484 to R491). -/

namespace Sys2Proof.Machine

/-- No condition on the payload. -/
def anyPay (_ : List Byte) : Bool := true

/-- GET (R53). -/
def execGet (m : Fin 16) (tm : Nat) (s : State) : Host.Outcome State Fault Refusal :=
  .next (s.serve m tm 0x01 anyPay 0 fun t p =>
    if p.length ≠ 4 then .fail stRange else
    let (ty, st, bs) := t.getOne (bit t.mbx[m].flags 1) (fld p 0 4)
    if st ≠ 0 then .fail st
    else .done t (leBytes 1 ty ++ leBytes 1 0 ++ leBytes 2 bs.length ++ bs))

/-- Entry `i` of the answer of GET_MULTI (R53): the ID, the type, the status and the value, padded to whole words. -/
def State.multiEntry (s : State) (m : Fin 16) (i : Nat) : List Byte :=
  let id := fld s.mbx[m].payload (4 + 4 * i) 4
  let (ty, st, bs) := s.getOne (bit s.mbx[m].flags 1) id
  padded (leBytes 4 id ++ leBytes 1 ty ++ leBytes 1 st ++ leBytes 2 bs.length ++ bs)

/-- GET_MULTI (R53). -/
def execGetMulti (m : Fin 16) (tm : Nat) (s : State) : Host.Outcome State Fault Refusal :=
  .next (s.serve m tm 0x03 anyPay 0 fun t p =>
    let n := fld p 0 2
    if n < 1 ∨ 64 < n ∨ fld p 2 2 ≠ 0 ∨ p.length ≠ 4 + 4 * n then .fail stRange else
    let (bs, k) := fitEntries 496 ((List.range n).map (t.multiEntry m))
    if k < n then .fail stFull k bs else .done t bs)

/-- SET (R53, R58). -/
def execSet (m : Fin 16) (tm : Nat) (s : State) : Host.Outcome State Fault Refusal :=
  .next (s.serve m tm 0x02 anyPay (if keysClass (fld s.mbx[m].payload 0 4) then 16 else 1) fun t p =>
    match t.setGroup m (parseEntries 1 p) with
    | .fail st _ q => .fail st 0 q
    | .failed t st => .failed t st
    | .done t q => .done t q
    | .wait t w => .wait t w)

/-- SET_MULTI (R53, R58): a session with neither CONFIG nor KEYS gets AUTH. -/
def execSetMulti (m : Fin 16) (tm : Nat) (s : State) : Host.Outcome State Fault Refusal :=
  .next (s.serve m tm 0x04 anyPay 17 fun t p =>
    let n := fld p 0 2
    if n < 1 ∨ 32 < n ∨ fld p 2 2 ≠ 0 then .fail stRange else t.setGroup m (parseEntries n (p.drop 4)))

/-- One subscription entry added or removed; none where the list would pass 64. -/
def subStep (l : Option (List Sub)) (x : Nat × Nat × Nat) : Option (List Sub) :=
  l.bind fun l =>
    let k : Sub := ⟨x.1, x.2.1⟩
    if x.2.2 = 0 then some (l.filter (· != k))
    else if l.contains k then some l
    else if 64 ≤ l.length then none
    else some (l ++ [k])

/-- The entries of a SUBSCRIBE (R53): code, instance and action of each. -/
def subEntries (p : List Byte) (n : Nat) : List (Nat × Nat × Nat) :=
  (List.range n).map fun i => (fld p (4 + 4 * i) 2, fld p (6 + 4 * i) 1, fld p (7 + 4 * i) 1)

/-- SUBSCRIBE (R53).  DESIGN CHOICE (log 148): a SUBSCRIBE that would pass 64 subscriptions adds none of its entries,
and COUNT 0 is accepted and changes nothing. -/
def execSubscribe (m : Fin 16) (tm : Nat) (s : State) : Host.Outcome State Fault Refusal :=
  .next (s.serve m tm 0x20 anyPay 0 fun t p =>
    let n := fld p 0 2
    let es := subEntries p n
    if fld p 2 2 ≠ 0 ∨ p.length ≠ 4 + 4 * n ∨ es.any (fun x => decide (1 < x.2.2)) then .fail stRange else
    let go (l : List Sub) : Option (List Sub) := es.foldl subStep (some l)
    match t.mbx[m].owner with
    | .pcie => match go t.host.subsPcie with
      | some l => .done (t.modHost fun h => { h with subsPcie := l })
      | none => .fail stFull
    | .qspi => match go t.host.subsQspi with
      | some l => .done (t.modHost fun h => { h with subsQspi := l })
      | none => .fail stFull
    | .net => match t.session t.mbx[m].sid with
      | none => .fail stState
      | some x => match go x.subs with
        | some l => .done (t.modSession x.id fun y => { y with subs := l })
        | none => .fail stFull
    | .free => .fail stState)

/-- FILE_OPEN (R53). -/
def execFileOpen (m : Fin 16) (tm : Nat) (s : State) : Host.Outcome State Fault Refusal :=
  let f := s.fileIn m
  let wr := fld s.mbx[m].payload 0 1 = 1
  .next (s.serve m tm 0x30 anyPay (if wr then (f.map FileName.right).getD 1 else 0) fun t p =>
    let n := fld p 1 1
    if 1 < fld p 0 1 ∨ 64 < n ∨ p.length < 2 + n ∨ padTo4 (2 + n) < p.length - (2 + n) ∨
        (p.drop (2 + n)).any (· != 0) then .fail stRange else
    match fileOf ((p.drop 2).take n) with
    | none => .fail stRange
    | some f =>
      let h := t.par.nextHandle % 65536
      let open_ (t : State) (wr : Bool) (bs : List Byte) : Served :=
        .done (t.modPar fun k =>
          { k with nextHandle := h + 1,
                   files := k.files ++ [⟨h, t.mbx[m].owner, t.mbx[m].sid, f, wr, bs⟩] })
          (leBytes 2 h ++ leBytes 2 0 ++ leBytes 4 bs.length)
      if fld p 0 1 = 0 then match t.fileBytes f with
        | some bs => open_ t false bs
        | none => .fail stState
      else if t.writable f then
        let t := if f = .secFwSlot then
            t.modSec fun k => { k with slots := k.slots.set k.other {}, closedOk := false }
          else t
        open_ t true []
      else .fail stState)

/-- FILE_WRITE (R53): writes are sequential. -/
def execFileWrite (m : Fin 16) (tm : Nat) (s : State) : Host.Outcome State Fault Refusal :=
  .next (s.serve m tm 0x31 anyPay (((s.fileIn m).map FileName.right).getD 1) fun t p =>
    match t.handleOf m (fld p 0 2) with
    | none => .fail stRange
    | some h =>
      if p.length < 8 ∨ fld p 2 2 ≠ 0 ∨ fld p 4 4 ≠ h.data.length then .fail stRange
      else if !h.writing then .fail stState
      else .done (t.modPar fun k => { k with files := k.files.map fun x =>
        if x.handle = h.handle then { x with data := x.data ++ p.drop 8 } else x }))

/-- FILE_READ (R53). -/
def execFileRead (m : Fin 16) (tm : Nat) (s : State) : Host.Outcome State Fault Refusal :=
  .next (s.serve m tm 0x32 anyPay 0 fun t p =>
    match t.handleOf m (fld p 0 2) with
    | none => .fail stRange
    | some h =>
      if p.length ≠ 8 ∨ 488 < fld p 2 2 then .fail stRange
      else if h.writing then .fail stState
      else .done t ((h.data.drop (fld p 4 4)).take (fld p 2 2)))

/-- FILE_CLOSE (R53). -/
def execFileClose (m : Fin 16) (tm : Nat) (s : State) : Host.Outcome State Fault Refusal :=
  .next (s.serve m tm 0x33 anyPay 0 fun t p =>
    match t.handleOf m (fld p 0 2) with
    | none => .fail stRange
    | some h =>
      if p.length ≠ 4 ∨ fld p 2 2 ≠ 0 then .fail stRange
      else
        let t := t.modPar fun k => { k with files := k.files.filter (·.handle != h.handle) }
        if h.writing then
          let (st, t) := t.closeWrite h.file h.data
          if st = stOk then .done t else .failed t st
        else .done t)

/-- ECHO (R53). -/
def execEcho (m : Fin 16) (tm : Nat) (s : State) : Host.Outcome State Fault Refusal :=
  .next (s.serve m tm 0xF0 anyPay 0 fun t p => .done t p)

/-- SYS.SAVE (R61): the P parameters as committed now; it ends at a later tick. -/
def execSysSave (m : Fin 16) (tm : Nat) (s : State) : Host.Outcome State Fault Refusal :=
  .next (s.serveCall m tm 0x0100F001 0
    (fun t _ =>
      let set := t.par.store.filter fun e => match findRow e.id with
        | some (r, _) => r.flash
        | none => false
      .wait ((t.modPar fun p => { p with saving := some (set, some m.val) }).varItem 2 []) (.call 0x0100F001))
    (fun t => t.par.saving.isSome))

/-! Sessions. -/

/-- The payload of a SESSION command with this SUB, its three reserved bytes 0. -/
def isSub (sub : Nat) (p : List Byte) : Bool := fld p 0 1 == sub

/-- HELLO (R487, R489): a local session binds to the mailbox of the command, a network session to the
NET_ONLY mailbox that serves it.  A network session waits while an RWX parameter of class HOST is on its way (R60). -/
def execHello (m : Fin 16) (tm : Nat) (s : State) : Host.Outcome State Fault Refusal :=
  if s.mbx[m].owner == .net && s.rwxClass 0x02 then .next (s.adv tm) else
  .next (s.serve m tm 0x40 (isSub 1) 0 fun t p =>
    if (match t.sec.lockedUntil with
        | some u => decide (t.nt < u)
        | none => false) then .fail stLocked
    else if p.length ≠ 88 ∨ fld p 1 3 ≠ 0 ∨ fld p 6 2 ≠ 0 then .fail stRange
    else if t.mbx[m].session ≠ 0 ∨ t.mbx[m].sid ≠ 0 then .fail stState
    else
      let sid := t.sec.nextSession
      let n := t.freeCtr
      let eph := Config.ephemeral n
      let nonce := Config.drbg n 16
      let h := Config.sha256 (leBytes 8 t.serial ++ p ++ leBytes 4 sid ++ eph ++ nonce)
      let sig := Config.idSign h n
      let owner := t.mbx[m].owner
      let keys := if owner = .net then
          Config.hkdf (Config.ecdh n ((p.drop 8).take 64)) ((p.drop 72).take 16 ++ nonce) h 64
        else []
      let peer := (t.net.clear.find? (fun x => x.1 == m.val)).getD (0, 0, 0, 0, 0)
      let x : Session :=
        { id := sid, mbx := m.val, owner := owner, net := peer.2.1, peerMac := peer.2.2.1, peerIp := peer.2.2.2.1,
          peerPort := peer.2.2.2.2, wanted := fld p 4 2, lastCmd := t.nt, hash := h, devSig := sig,
          keys := keys }
      let t := { t with freeCtr := n + 1 }
      let t := t.modSec fun k => { k with sessions := k.sessions ++ [x], nextSession := sid + 1 }
      let t := t.modMbx m fun b => { b with session := sid }
      .done t (leBytes 4 sid ++ leBytes 1 m.val ++ leBytes 3 0 ++ eph ++ nonce ++ sig))

/-- A failed PROVE (R491). -/
def State.proveFailed (s : State) (sid : Nat) : State :=
  let s := s.modSession sid fun x => { x with ending := true }
  let s := s.modSec fun k =>
    let l := within (secs 60) s.nt (s.nt :: k.failAt)
    { k with failAt := l, failCount := count32 k.failCount,
             lockedUntil := if 5 ≤ l.length then some (s.nt + secs 60) else k.lockedUntil }
  s.raise 0x8003 0 []

/-- PROVE (R487). -/
def execProve (m : Fin 16) (tm : Nat) (s : State) : Host.Outcome State Fault Refusal :=
  .next (s.serve m tm 0x40 (isSub 2) 0 fun t p =>
    match t.session t.mbx[m].sid with
    | none => .fail stAuth
    | some x =>
      if p.length ≠ 72 ∨ fld p 1 3 ≠ 0 ∨ fld p 5 3 ≠ 0 ∨ (7 < fld p 4 1 ∧ fld p 4 1 ≠ 0xFF) then .fail stRange
      else
        let digest := Config.sha256 (x.hash ++ x.devSig)
        match t.sec.cred (fld p 4 1) with
        | some (key, rights) =>
          if Config.ecdsaVerify key digest (p.drop 8) then
            let g := x.wanted &&& rights
            .done (t.modSession x.id fun y => { y with proved := true, rights := g, cred := fld p 4 1 })
              (leBytes 2 g ++ leBytes 2 0)
          else .failed (t.proveFailed x.id) stIntegrity
        | none => .failed (t.proveFailed x.id) stIntegrity)

/-- END (R489): the session ends with its response. -/
def execEndSession (m : Fin 16) (tm : Nat) (s : State) : Host.Outcome State Fault Refusal :=
  .next (s.serve m tm 0x40 (isSub 3) 0 fun t p =>
    match t.session t.mbx[m].sid with
    | none => .fail stAuth
    | some x =>
      if p.length ≠ 4 ∨ fld p 1 3 ≠ 0 then .fail stRange
      else .done (t.modSession x.id fun y => { y with ending := true }))

/-- ENROL (R484): in the delivery state, with OWN_CLAIM sampled high. -/
def execEnrol (m : Fin 16) (tm : Nat) (s : State) : Host.Outcome State Fault Refusal :=
  .next (s.serve m tm 0x40 (isSub 0x10) 0 fun t p =>
    if p.length ≠ 68 ∨ fld p 1 3 ≠ 0 then .fail stRange
    else if t.sec.owned || !t.pwr.strapClaim then .fail stState
    else
      let key := p.drop 4
      let n := t.freeCtr
      let sig := Config.idSign (Config.sha256 (key ++ leBytes 8 t.serial)) n
      let t := { t with freeCtr := n + 1 }
      .done (t.modSec fun k =>
        { k with owned := true, ownerKey := key, ownerEpoch := 1, jtagOpen := false })
        (leBytes 8 t.serial ++ sig))

end Sys2Proof.Machine
end

