-- ==== Sys2Proof/Machine/Security.lean ====
section
/-! DEFINITION. The calls and timers of chapter 19: firmware update, ownership, operators, line keys, the debug
port and the ends of sessions and lockouts (R479 to R496). -/

namespace Sys2Proof.Machine

/-- The code of a path in the change log (R429). -/
def Owner.logPath : Owner → Nat
  | .pcie => 1 | .qspi => 2 | .net => 3 | .free => 0

/-- The change log takes an entry (R429): 1,024 are kept, the oldest goes first. -/
def State.safLog (s : State) (kind result path sid old new : Nat) : State :=
  s.modSaf fun k =>
    let e : SafLog := ⟨k.logCount, s.nt, kind, result % 256, path, sid, old, new⟩
    let l := k.log ++ [e]
    { k with log := l.drop (l.length - 1024), logCount := k.logCount + 1 }

/-- The ROM's choice of a slot (R479): the directory's record of it, and the slot where one is valid. -/
def SecSt.select (k : SecSt) : SecSt :=
  let (k, slot) := match k.next with
    | some n => if !k.tried then ({ k with tried := true, dirSeq := k.dirSeq + 1 }, n)
                else ({ k with next := none, dirSeq := k.dirSeq + 1, fallback := true }, k.cur)
    | none => (k, k.cur)
  let a : Fin 2 := fin 2 (by decide) slot
  let b : Fin 2 := fin 2 (by decide) (slot + 1)
  let onlySvn (i : Fin 2) : Bool := (k.slots[i]).good && !(k.slots[i]).bad && decide ((k.slots[i]).svn < k.svnMin)
  if k.valid a then { k with running := a.val }
  else { k with running := b.val, fallback := true, rollback := onlySvn a || onlySvn b }

/-- The choice at a firmware restart (R513): an image that SEC.FW.ACTIVATE named with MODE 0 waits for the next
device reset (R480), so its NEXT stands and is passed over. -/
def SecSt.restartSelect (k : SecSt) : SecSt :=
  if k.next.isSome && !k.tried && !k.liveNext then { ({ k with next := none }).select with next := k.next }
  else { k.select with liveNext := false }

/-- The slot chosen is valid; otherwise the device stays in BOOT (R455, R479). -/
def SecSt.bootable (k : SecSt) : Bool := k.valid (fin 2 (by decide) k.running)

/-- Every response built has been flipped: what follows a response may happen (R485, R513). -/
def State.answered (s : State) : Bool :=
  allMbx.all fun m => !(s.mbx[m].state == .executing && s.mbx[m].hidden.isSome)

/-- The owner's calls whose sessions end at the tick after the response (R485). -/
def State.endAllDue (s : State) : State :=
  if s.sec.endAll && s.answered then (s.modSec fun k => { k with endAll := false }).endSessions else s

/-- SEC.FW.ACTIVATE (R480, R516): the image just written runs from the next reset, or through a live restart. -/
def execSecFwActivate (m : Fin 16) (tm : Nat) (s : State) : Host.Outcome State Fault Refusal :=
  .next (s.serveCall m tm 0x8000F001 4 fun t p =>
    let live := fld p 0 1 = 1
    if 1 < fld p 0 1 ∨ fld p 1 3 ≠ 0 then .fail stRange
    else if !t.sec.closedOk then .fail stState
    else if live ∧ !Config.liveOk (t.sec.slots[fin 2 (by decide) t.sec.running]).image
        (t.sec.slots[t.sec.other]).image then .fail stState
    else
      let t := t.modSec fun k =>
        { k with next := some k.other.val, tried := false, dirSeq := k.dirSeq + 1, liveNext := live }
      .done (if live then t.modAge fun k => { k with restartReq := some t.nt } else t))

/-- SEC.FW.COMMIT (R481): only from the trial image. -/
def execSecFwCommit (m : Fin 16) (tm : Nat) (s : State) : Host.Outcome State Fault Refusal :=
  .next (s.serveCall m tm 0x8000F002 4 fun t p =>
    if 1 < fld p 0 1 ∨ fld p 1 3 ≠ 0 then .fail stRange
    else if !t.trial then .fail stState
    else .done (t.modSec fun k =>
      { k with cur := k.running, next := none, tried := false, dirSeq := k.dirSeq + 1, closedOk := false,
               svnMin := if fld p 0 1 = 1 then max k.svnMin (k.slots[fin 2 (by decide) k.running]).svn
                         else k.svnMin }))

/-- SEC.TRANSFER (R485). -/
def execSecTransfer (m : Fin 16) (tm : Nat) (s : State) : Host.Outcome State Fault Refusal :=
  .next (s.serveCall m tm 0x8000F008 64 fun t p =>
    if !t.allOff then .fail stState
    else .done (t.modSec fun k =>
      { k with ownerKey := p, ownerEpoch := k.ownerEpoch + 1, operators := Vector.replicate 8 {},
               endAll := true }))

/-- SEC.RELEASE (R485): the delivery state. -/
def execSecRelease (m : Fin 16) (tm : Nat) (s : State) : Host.Outcome State Fault Refusal :=
  .next (s.serveCall m tm 0x8000F007 0 fun t _ =>
    if !t.allOff then .fail stState
    else
      let old := t.saf.chan[0].crc
      let path := t.mbx[m].owner.logPath
      let sid := t.mbx[m].sid
      let t := t.modSec fun k =>
        { k with owned := false, ownerKey := [], ownerEpoch := 0, operators := Vector.replicate 8 {},
                 lineKeys := Vector.replicate 4 none, keyChange := [], bundleLast := 0, jtagOpen := true,
                 endAll := true }
      let t := t.modPar fun k => { k with flash := none }
      let t := t.modSaf fun k =>
        { k with flash := none, password := none, staged := none,
                 chan := k.chan.map fun c =>
                   { c with block := [], configured := false, crc := 0, tel := {}, telOpen := false, telOk := false
                            telN := 0, groups := Vector.replicate 16 {} } }
      let t := if t.ib then (t.axesSto allAxes).killLinks allLinks else t
      .done (t.safLog 0x06 stOk path sid old 0))

/-- The sessions that a credential proved (R486). -/
def State.endCred (s : State) (c : Nat) : State :=
  s.each ((s.sec.sessions.filter fun x => x.proved && x.cred == c).map (·.id)) fun t i => t.endSession i

/-- SEC.OPER.SET (R486, R492). -/
def execSecOperSet (m : Fin 16) (tm : Nat) (s : State) : Host.Outcome State Fault Refusal :=
  .next (s.serveCall m tm 0x8000F005 68 fun t p =>
    let i := fld p 0 1
    let r := fld p 2 2
    let key := p.drop 4
    if 7 < i ∨ fld p 1 1 ≠ 0 ∨ 31 < r then .fail stRange
    else
      let erase := key.all (· == 0)
      let o : Operator := if erase then {} else { rights := r, key := key }
      let t := t.modSec fun k => { k with operators := k.operators.set (fin 8 (by decide) i) o }
      let t := t.varItem 5 (i :: r :: key.map BitVec.toNat)
      .done (if erase then t.endCred i else t))

/-- SEC.LINEKEY.SET (R492): it takes effect at the next tick. -/
def execSecLinekeySet (m : Fin 16) (tm : Nat) (s : State) : Host.Outcome State Fault Refusal :=
  .next (s.serveCall m tm 0x8000F003 36 fun t p =>
    if 3 < fld p 0 1 ∨ fld p 1 3 ≠ 0 then .fail stRange
    else
      let t := t.modSec fun k => { k with keyChange := k.keyChange ++ [(fld p 0 1, some (p.drop 4))] }
      .done (t.varItem 6 (fld p 0 1 :: (p.drop 4).map BitVec.toNat)))

/-- SEC.LINEKEY.CLEAR (R492). -/
def execSecLinekeyClear (m : Fin 16) (tm : Nat) (s : State) : Host.Outcome State Fault Refusal :=
  .next (s.serveCall m tm 0x8000F004 4 fun t p =>
    if 3 < fld p 0 1 ∨ fld p 1 3 ≠ 0 then .fail stRange
    else
      let t := t.modSec fun k => { k with keyChange := k.keyChange ++ [(fld p 0 1, none)] }
      .done (t.varItem 7 [fld p 0 1]))

/-- Line-key changes take effect at a tick (R492). -/
def State.keysDue (s : State) : State :=
  s.modSec fun k =>
    { k with keyChange := [],
             lineKeys := k.keyChange.foldl (fun v x => v.set (fin 4 (by decide) x.1) x.2) k.lineKeys }

/-- SEC.DEBUG.UNLOCK (R495). -/
def execSecDebugUnlock (m : Fin 16) (tm : Nat) (s : State) : Host.Outcome State Fault Refusal :=
  .next (s.serveCall m tm 0x8000F006 0 fun t _ =>
    if !t.allOff then .fail stState
    else .done ((t.modSec fun k => { k with jtagOpen := true }).raise 0x8006 0 []))

/-- SEC.SESSION.IDLE without a command (R489). -/
def execSessionIdle (sid tm : Nat) (s : State) : Host.Outcome State Fault Refusal :=
  let s := s.adv tm
  match s.session sid with
  | none => .next s
  | some x => .next (if s.fwRuns && x.lastCmd + secs (s.pN Pid.secSessionIdle) ≤ s.nt then s.endSession sid else s)

/-- The 60 s in which HELLO returns LOCKED end (R491). -/
def execHelloLockoutEnd (tm : Nat) (s : State) : Host.Outcome State Fault Refusal :=
  let s := s.adv tm
  match s.sec.lockedUntil with
  | none => .next s
  | some u => .next (if u ≤ s.nt then s.modSec fun k => { k with lockedUntil := none } else s)

end Sys2Proof.Machine
end

