-- ==== Sys2Proof/Machine/Egress.lean ====
section
/-! DEFINITION. What leaves a line port: frame heads, the gate lists (R354), the egress queues (R352, R353), and
the time stamps of PTP event messages as they leave (R357, R358, R361). -/

namespace Sys2Proof.Machine

/-- A frame from its destination MAC on: addresses, VLAN tag and EtherType (R367). -/
structure EthHead where
  dst : Nat
  src : Nat
  vlan : Option Nat
  etype : Nat
  /-- The bytes after the EtherType. -/
  body : List Byte
deriving DecidableEq, Repr

/-- The head of a frame. -/
def ethHead (bs : List Byte) : EthHead :=
  let t := beNat ((bs.drop 12).take 2)
  if t = 0x8100 then
    ⟨beNat (bs.take 6), beNat ((bs.drop 6).take 6), some (beNat ((bs.drop 14).take 2)),
     beNat ((bs.drop 16).take 2), bs.drop 18⟩
  else ⟨beNat (bs.take 6), beNat ((bs.drop 6).take 6), none, t, bs.drop 14⟩

/-- The queue of a frame (R353): its PCP, or 0 without a tag. -/
def EthHead.prio (h : EthHead) : Nat :=
  match h.vlan with
  | some v => v / 8192 % 8
  | none => 0

/-- Bytes with some of them replaced from an offset on. -/
def patchAt (bs : List Byte) (i : Nat) (xs : List Byte) : List Byte := bs.take i ++ xs ++ bs.drop (i + xs.length)

/-- The network of a port: 0 A, 1 B. -/
def netOf (port : Nat) : Nat := port / 2 % 2

/-- The other line port of the network. -/
def otherPort (port : Fin 4) : Fin 4 := fin 4 (by decide) (port.val / 2 * 2 + (1 - port.val % 2))

/-- The MAC address of the device on a network. -/
def State.mac (s : State) (net : Nat) : Nat := if net = 0 then s.macA else s.macB

/-- A port that the MAC accepts (R349): in-band status of 100 or 1000 Mbit/s, full duplex. -/
def NetPort.usable (p : NetPort) : Bool := p.link && !p.configErr && p.full && decide (2 ≤ p.inband)

/-- A port is in loopback (R512): NET.BYPASS_LEAD after FWD_OK of its network has gone low. -/
def State.loopShut (s : State) (port : Nat) : Bool :=
  (s.net.ports[fin 4 (by decide) port]).looped &&
  s.age.loop.any fun x => decide (x.since + ms (s.pN Pid.netBypassLead) ≤ s.nt)

/-- A line port that carries frames (R349, R355, R512). -/
def State.portOk (s : State) (port : Nat) : Bool :=
  let p := s.net.ports[fin 4 (by decide) port]
  s.domainOn (10 + netOf port) && s.pwr.forwarding && p.usable && !s.loopShut port && s.aonN (Pid.netPEnable port) = 1

/-- Time of one byte on the wire in ns. -/
def NetPort.byteNs (p : NetPort) : Nat := if p.gig then 8 else 80

/-- Time that a frame of `n` bytes, FCS included, occupies a port, with preamble and gap. -/
def NetPort.wireNs (p : NetPort) (n : Nat) : Nat := (max 64 n + 20) * p.byteNs

/-! The gate list in force. -/

/-- The windows of a gate cycle (R354): start, end, open queues.  An interval of 0 ends the list, and all gates are
open for the rest of the cycle. -/
def gateWindows (cycle : Nat) : Nat → List Nat → List (Nat × Nat × Nat)
  | t, [] => if t < cycle then [(t, cycle, 255)] else []
  | t, e :: rest =>
    let w := e % 0x1000000 * 10
    if w = 0 then (if t < cycle then [(t, cycle, 255)] else [])
    else (t, t + w, e / 0x1000000 % 256) :: gateWindows cycle (t + w) rest

/-- The time for which queue `q` stays open from position `t` of the cycle, over the windows of two cycles. -/
def openRun (q t : Nat) : List (Nat × Nat × Nat) → Nat
  | [] => 0
  | (a, b, g) :: rest =>
    if b ≤ t then openRun q t rest
    else if bit g q then (b - max a t) + openRun q b rest
    else 0

/-- The earliest device time from `t` on at which queue `q` stays open for `need` ns; none where it never does. -/
def NetPort.gateStart (p : NetPort) (q need t : Nat) : Option Nat :=
  let ws := gateWindows p.gclCycle 0 p.gcl
  if p.gclCycle = 0 || ws.all (fun w => bit w.2.2 q) then some t
  else
    let two := ws ++ ws.map fun w => (w.1 + p.gclCycle, w.2.1 + p.gclCycle, w.2.2)
    let three := two ++ ws.map fun w => (w.1 + 2 * p.gclCycle, w.2.1 + 2 * p.gclCycle, w.2.2)
    let pos := t % p.gclCycle
    let cands := pos :: (two.map (·.1)).filter (pos < ·)
    (cands.find? fun c => decide (need ≤ openRun q c three)).map fun c => t + (c - pos)

/-! PTP fields (IEEE 1588): offsets count from the message's first byte. -/

/-- messageType of a PTP message. -/
def ptpType (b : List Byte) : Nat := fld b 0 1 % 16

/-- sequenceId. -/
def ptpSeq (b : List Byte) : Nat := beNat ((b.drop 30).take 2)

/-- correctionField in ns. -/
def ptpCorr (b : List Byte) : Rat := (toSigned 64 (beNat ((b.drop 8).take 8)) : Rat) / 65536

/-- A message with ns added to its correctionField. -/
def ptpAddCorr (b : List Byte) (d : Rat) : List Byte :=
  patchAt b 8 (beBytes 8 (ofSigned 64 (roundEven ((ptpCorr b + d) * 65536))))

/-- The time stamp at an offset, in ns. -/
def ptpStamp (b : List Byte) (i : Nat) : Nat :=
  beNat ((b.drop i).take 6) * 1000000000 + beNat ((b.drop (i + 6)).take 4)

/-- A time in the PTP format (R358): 48-bit seconds and 32-bit nanoseconds. -/
def ptpTime (ns : Nat) : List Byte := beBytes 6 (ns / 1000000000) ++ beBytes 4 (ns % 1000000000)

/-- The identifier of a stamp (R358). -/
def tsqId (b : List Byte) : Nat := ptpType b * 4096 + ptpSeq b % 4096

/-- The follow-up type of an event message: Follow_Up, or Pdelay_Resp_Follow_Up. -/
def followType (t : Nat) : Nat := if t = 3 then 0xA else 8

/-- The follow-up of the device's own two-step event message with its stamp: same source and sequence. -/
def followOf (b : List Byte) (stamp : Nat) : List Byte :=
  let hd := patchAt (b.take 34) 0 (leBytes 1 (fld b 0 1 / 16 * 16 + followType (ptpType b)))
  let hd := patchAt (patchAt hd 6 (leBytes 1 (fld b 6 1 &&& 0xFD))) 32 (leBytes 1 (if ptpType b = 0 then 2 else 5))
  hd ++ ptpTime stamp ++ b.drop 44

/-- t_tx of a frame that starts at a device time (R357), in ns. -/
def State.txStamp (s : State) (port start : Nat) : Rat := (start : Rat) + (s.aonN (Pid.netPPhyTx port) : Rat) / 1000

/-- The port records a stamp, or counts that its queue is full (R358); it answers whether it was recorded. -/
def State.pushTsq (s : State) (port : Fin 4) (id stamp : Nat) : Bool × State :=
  let p := s.net.ports[port]
  if p.tsq.length < 8 then
    (true, s.modNet fun n => { n with ports := n.ports.set port { p with tsq := p.tsq ++ [⟨id, stamp, s.nt⟩] } })
  else (false, s.modNet fun n =>
    { n with tsqOvf := count32 n.tsqOvf, tsqAt := within (secs 1) s.nt (s.nt :: n.tsqAt) })

/-- The entry of an identifier leaves the queue of a port (R358). -/
def State.takeTsq (s : State) (port : Fin 4) (id : Nat) : Option Nat × State :=
  let p := s.net.ports[port]
  match p.tsq.find? (·.id == id) with
  | some e => (some e.stamp, s.modNet fun n =>
      { n with ports := n.ports.set port { p with tsq := p.tsq.erase e } })
  | none => (none, s)

/-- Offset of the bytes after the EtherType. -/
def bodyAt (bs : List Byte) : Nat := if (ethHead bs).vlan.isSome then 18 else 14

/-- A frame leaves a port at a start time: one-step messages take their correction or origin, two-step ones ask for
their stamp, and the device's own are followed by their follow-up (R358, R361). -/
def State.departFrame (s : State) (port : Fin 4) (f : EgFrame) (start : Nat) : State :=
  let k := bodyAt f.bytes
  let msg := f.bytes.drop k
  let tx := s.txStamp port start
  let sent := match f.act with
    | .patch rx extra => f.bytes.take k ++ ptpAddCorr msg (tx - rx + extra)
    | .origin => f.bytes.take k ++ patchAt msg 34 (ptpTime (roundEven tx).toNat)
    | .plain | .stamp | .follow => f.bytes
  let s := s.emit (.eth port sent)
  let stamp := (roundEven tx).toNat
  match f.act with
  | .plain | .patch _ _ | .origin => s
  | .stamp => (s.pushTsq port (tsqId msg) stamp).2
  | .follow =>
    let (ok, s) := s.pushTsq port (tsqId msg) stamp
    if !ok then s
    else match s.takeTsq port (tsqId msg) with
      | (some t, s) => s.emit (.eth port (f.bytes.take k ++ followOf msg t))
      | (none, s) => s

/-- The frame that a port sends next and its start (R353, R354): the earliest, at one instant the highest priority,
then the oldest. -/
def NetPort.next (p : NetPort) : Option (EgFrame × Nat) :=
  p.queue.foldl (fun best f =>
    match p.gateStart f.prio f.need (max f.ready p.busyTil), best with
    | none, b => b
    | some t, none => some (f, t)
    | some t, some (g, u) => if t < u ∨ (t = u ∧ g.prio < f.prio) then some (f, t) else some (g, u)) none

/-- The frames of a port that start by the present device time leave it. -/
def State.drainPort (s : State) (port : Fin 4) : Nat → State
  | 0 => s
  | n + 1 =>
    let p := s.net.ports[port]
    match p.next with
    | none => s
    | some (f, t) =>
      if s.nt < t then s
      else
        let q : NetPort := { p with queue := p.queue.erase f, busyTil := t + p.wireNs (f.bytes.length + 4) }
        let s := s.modNet fun k => { k with ports := k.ports.set port q }
        (s.departFrame port f t).drainPort port n

/-- Every port sends what is due. -/
def State.drainPorts (s : State) : State :=
  s.each [0, 1, 2, 3] fun t i =>
    let port : Fin 4 := fin 4 (by decide) i
    t.drainPort port (t.net.ports[port]).queue.length

/-- Bytes in the frame buffer of a network's switch (R353). -/
def State.buffered (s : State) (net : Nat) : Nat :=
  let q (i : Nat) : Nat := ((s.net.ports[fin 4 (by decide) i]).queue.map fun f => f.bytes.length + 4).foldl (· + ·) 0
  q (2 * net) + q (2 * net + 1)

/-- A frame enters the egress queue of a port; it answers whether it found room (R353). -/
def State.enqueue (s : State) (port : Fin 4) (f : EgFrame) : Bool × State :=
  if !s.portOk port || decide (131072 < s.buffered (netOf port) + f.bytes.length + 4) then (!s.portOk port, s)
  else
    let p := s.net.ports[port]
    (true, (s.modNet fun n => { n with ports := n.ports.set port { p with queue := p.queue ++ [f] } }).drainPort port
      (p.queue.length + 1))

/-- A frame of the device's own leaves by a port, by its priority and gate. -/
def State.ethOut (s : State) (port : Fin 4) (prio : Nat) (bytes : List Byte) (act : EgAct) : State :=
  let need := (s.net.ports[port]).wireNs (bytes.length + 4)
  (s.enqueue port ⟨prio, s.nt, need, bytes, act⟩).2

end Sys2Proof.Machine
end

