-- ==== Sys2Proof/Machine/NetOps.lean ====
section
/-! DEFINITION. Crepra frames (R367 to R369): their fields, their tags, sending and receiving, and the frames
that wait at HOST. -/

namespace Sys2Proof.Machine

/-- A Crepra frame (R367). -/
structure Crepra where
  ver : Nat
  typ : Nat
  flags : Nat
  key : Nat
  src : Nat
  dst : Nat
  seq : Nat
  fc : Nat
  payload : List Byte
  /-- The bytes that the tag covers, and the tag. -/
  covered : List Byte
  tag : List Byte
deriving DecidableEq, Repr

/-- The Crepra frame after the EtherType (R367). -/
def crepraOf (b : List Byte) : Crepra :=
  let len := fld b 16 2
  { ver := fld b 0 1, typ := fld b 1 1, flags := fld b 2 1, key := fld b 3 1, src := fld b 4 2,
    dst := fld b 6 2, seq := fld b 8 4, fc := fld b 12 4, payload := (b.drop 20).take len,
    covered := b.take (20 + len), tag := (b.drop (20 + len)).take 8 }

/-- The node's number (R367). -/
def State.nodeId (s : State) : Nat := s.aonN Pid.netNodeId

/-- The tag of a frame under a key (R367). -/
def crepraTag (key covered : List Byte) : List Byte := (Config.cmac key covered).take 8

/-- The line key of an index; none for an empty index or no index. -/
def State.lineKey (s : State) (k : Nat) : Option (List Byte) :=
  if h : k < 4 then s.sec.lineKeys[k] else none

/-- The frame's tag is valid (R367, R492). -/
def State.tagOk (s : State) (f : Crepra) : Bool :=
  match s.lineKey f.key with
  | some k => f.tag == crepraTag k f.covered
  | none => false

/-- An instant lies at least `w` back, or there was none. -/
def longAgo (w now : Nat) : Option Nat → Bool
  | some t => decide (t + w ≤ now)
  | none => true

/-- Fault 0x8005, at most once per second per index (R492). -/
def State.keyFault (s : State) (k : Nat) : State :=
  let i : Fin 4 := fin 4 (by decide) k
  if longAgo (secs 1) s.nt s.sec.keyFaultAt[i] then
    (s.modSec fun x => { x with keyFaultAt := x.keyFaultAt.set i (some s.nt) }).raise 0x8005 0 []
  else s

/-- A priority of the device's own frames: the field of NET.PCP at a bit (R353). -/
def State.ownPrio (s : State) (pcpAt : Nat) : Nat := bits (s.aonN Pid.netPcp) (pcpAt + 2) pcpAt

/-- The head of the device's own frames on a network (R353): a priority field of NET.PCP and the VLAN of NET.VLAN. -/
def State.ownHead (s : State) (net dst pcpAt etype : Nat) : List Byte :=
  let v := s.aonN Pid.netVlan
  beBytes 6 dst ++ beBytes 6 (s.mac net) ++
  (if v = 0 then [] else beBytes 2 0x8100 ++ beBytes 2 (s.ownPrio pcpAt * 8192 + v)) ++ beBytes 2 etype

/-- A frame padded to the least length of Ethernet (R367): 64 bytes with the FCS. -/
def ethPad (bs : List Byte) : List Byte := bs ++ List.replicate (60 - bs.length) 0

/-- The broadcast address. -/
def macAll : Nat := 0xFFFFFFFFFFFF

/-- The ports of R369 that a frame leaves by: `up` and `down`, on both networks with CYC.DUAL, else on A. -/
def State.sendPorts (s : State) (up down : Bool) : List Nat :=
  let side (n : Nat) : List Nat := (if up then [2 * n] else []) ++ (if down then [2 * n + 1] else [])
  side 0 ++ (if s.pN Pid.cycDual = 1 then side 1 else [])

/-- The priority field of NET.PCP for a frame TYPE (R353). -/
def pcpOf (typ : Nat) : Nat := if typ = 4 then 0 else if typ = 5 then 8 else 4

/-- A frame of the device's own leaves by ports, tagged under the transmit key (R367, R369, R492). -/
def State.crepraSend (s : State) (typ dst : Nat) (payload : List Byte) (ports : List Nat) : State :=
  if s.nodeId = 0 then s else
  let k := s.pN Pid.secLinekeyTx
  match s.lineKey k with
  | none => s.keyFault k
  | some key =>
    let i : Fin 7 := fin 7 (by decide) typ
    let seq := (s.net.txSeq[i] + 1) % 2 ^ 32
    let s := s.modNet fun n => { n with txSeq := n.txSeq.set i seq }
    s.each (ports.filter s.portOk) fun t p =>
      let b := leBytes 1 1 ++ leBytes 1 typ ++ leBytes 1 (netOf p) ++ leBytes 1 k ++ leBytes 2 t.nodeId ++
        leBytes 2 dst ++ leBytes 4 seq ++ leBytes 4 t.fc ++ leBytes 2 payload.length ++ leBytes 2 0 ++ payload
      t.ethOut (fin 4 (by decide) p) (t.ownPrio (pcpOf typ))
        (ethPad (t.ownHead (netOf p) macAll (pcpOf typ) (t.aonN Pid.netEthertype) ++ b ++ crepraTag key b)) .plain

/-- The first frame at HOST that a user takes, and the state without it. -/
def State.takeRx (s : State) (hit : RxFrame → Bool) : Option (RxFrame × State) :=
  match s.net.rx.find? hit with
  | none => none
  | some f => some (f, s.modNet fun n => { n with rx := n.rx.erase f })

/-- A frame at HOST is a Crepra frame of a TYPE. -/
def State.isCrepra (s : State) (typ : Nat) (f : RxFrame) : Bool :=
  let h := ethHead f.bytes
  h.etype = s.aonN Pid.netEthertype && fld h.body 1 1 = typ

/-- A frame that fails its tag is counted (R368), and an empty key index raises 0x8005 (R492). -/
def State.authErr (s : State) (port : Nat) (f : Crepra) : State :=
  let p : Fin 4 := fin 4 (by decide) port
  let x := s.net.ports[p]
  let x := { x with authErr := count32 x.authErr, authAt := within (secs 1) s.nt (s.nt :: x.authAt) }
  let s := s.modNet fun n => { n with ports := n.ports.set p x }
  if f.key < 4 ∧ (s.lineKey f.key).isNone ∧ f.dst = s.nodeId ∧ s.nodeId ≠ 0 then s.keyFault f.key else s

/-- SEQ `b` is higher than `a` (R368). -/
def seqHigher (b a : Nat) : Bool :=
  let d := (b + 2 ^ 32 - a % 2 ^ 32) % 2 ^ 32
  decide (1 ≤ d ∧ d < 2 ^ 31)

/-- The pair of sender and TYPE accepts a SEQ (R368): 64 pairs are kept, the latest seen first. -/
def State.seqAccept (s : State) (src typ seq : Nat) : Option State :=
  let hit (x : SeqPair) : Bool := x.src == src && x.typ == typ
  let ok := match s.net.seqs.find? hit with
    | some x => seqHigher seq x.seq
    | none => true
  if ok then some (s.modNet fun n =>
    { n with seqs := (⟨src, typ, seq⟩ :: n.seqs.filter (fun x => !hit x)).take 64 }) else none

/-- A sender's frame arrived on a network (R369). -/
def State.copySeen (s : State) (src net : Nat) : State :=
  s.modNet fun n =>
    let c : Copies := (n.copies.find? (·.src == src)).getD { src := src, since := s.frame.fc }
    let c := if net = 0 then { c with lastA := some s.frame.fc } else { c with lastB := some s.frame.fc }
    { n with copies := c :: n.copies.filter (·.src != src) }

/-- A received Crepra frame is checked (R368): the frame where the device acts on it. -/
def State.crepraCheck (s : State) (f : RxFrame) : Option Crepra × State :=
  let c := crepraOf (ethHead f.bytes).body
  if !s.tagOk c then (none, s.authErr f.port c)
  else if c.ver ≠ 1 then (none, s)
  else
    let s := s.copySeen c.src (netOf f.port)
    match s.seqAccept c.src c.typ c.seq with
    | some t => (some c, t)
    | none => (none, s)

end Sys2Proof.Machine
end

