-- ==== Sys2Proof/Machine/Outputs.lean ====
section
/-! DEFINITION. Output changes on their way (R82, R295, R315): stage outputs through the link controllers, field
outputs through channel F, and the return changes of pulses. -/

namespace Sys2Proof.Machine

/-- A pulse's return change of an output is cancelled by a later change of it (R295). -/
def State.cancelReturn (s : State) (field : Bool) (target : Nat) : State :=
  s.modTrk fun k => { k with returns := k.returns.filter fun r => !(r.field == field && r.target == target) }

/-- The return change of a pulse that begins at an instant (R295): `WIDTH` after it. -/
def State.pulseReturn (s : State) (field : Bool) (target : Nat) (lv : Bool) (tm width : Nat) : State :=
  if width = 0 then s else s.modTrk fun k => { k with returns := k.returns ++ [⟨field, target, lv, tm + width⟩] }

/-- A change of a stage output is handed to its link controller (R295) for the present frame or, with `next`, the one
after it. -/
def State.placeStage (s : State) (a : Fin 128) (lv next : Bool) (inst4 : Nat) (ret : Bool := false) (width : Nat := 0) :
    State :=
  if !s.drives then s else
  let k := (slotOf a).val
  let fc := if next then (s.frame.fc + 1) % 2 ^ 32 else s.frame.fc
  let stale (c : OutChange) : Bool :=
    c.ret && c.slot == k && ((!next && s.frameAhead c.fc) || (c.fc == fc && decide (inst4 ≤ c.inst4)))
  (s.cancelReturn false a.val).modLink (linkOf a) fun x =>
    { x with outQ := x.outQ.filter (fun c => !stale c) ++ [⟨k, lv, inst4, fc, ret, width⟩] }

/-- Changes of one output to one level merged into the earliest (R295). -/
def mergeOut : List OutChange → List OutChange
  | [] => []
  | c :: rest =>
    let m := mergeOut rest
    match m.find? fun d => d.slot == c.slot && d.level == c.level with
    | none => c :: m
    | some d => if c.inst4 ≤ d.inst4 then c :: m.filter (fun e => e != d) else m

/-- The change that goes first: the lowest slot, on one slot the earliest instant (R295). -/
def firstOut : List OutChange → Option OutChange
  | [] => none
  | c :: rest => match firstOut rest with
    | none => some c
    | some d => if c.slot < d.slot ∨ (c.slot = d.slot ∧ c.inst4 ≤ d.inst4) then some c else some d

/-- The change that a link's frame carries; every other one waits for the next frame at instant 0 (R82, R295).  Its
own pulse returns `WIDTH` after the instant that the frame gives it. -/
def State.takeOut (s : State) (l : Fin 32) : Option OutChange × State :=
  let q := s.links[l].outQ
  let fc := s.frame.fc
  let due := mergeOut ((q.filter fun c => !s.frameAhead c.fc).map fun c =>
    if c.fc = fc then c else { c with fc := fc, inst4 := 0 })
  let later := q.filter fun c => s.frameAhead c.fc
  match firstOut due with
  | none => (none, s)
  | some c =>
    let rest := (due.filter (· != c)).map fun d => { d with fc := (fc + 1) % 2 ^ 32, inst4 := 0 }
    let s := (s.modLink l fun x => { x with outQ := rest ++ later }).modTrk fun k =>
      { k with deferred := rest.foldl (fun n _ => count32 n) k.deferred }
    let a := axisAt l c.slot
    (some c, (s.cancelReturn false a.val).pulseReturn false a.val (!c.level) (s.act + 4 * c.inst4) c.width)

/-- The instant at which channel F can carry a change, and whether it had to move to a later frame (R315): 32
changes go in the window of one frame. -/
def FioSt.room (f : FioSt) (act tf tm : Nat) : Nat × Bool :=
  let w := act + (tm - act) / tf * tf
  let full (n : Nat) : Bool :=
    decide (32 ≤ (f.changes.filter fun c => decide (w + n * tf ≤ c.tm ∧ c.tm < w + (n + 1) * tf)).length)
  match (List.range (f.changes.length + 1)).find? fun n => !full n with
  | some 0 => (tm, false)
  | some n => (w + n * tf, true)
  | none => (tm, false)

/-- A change of a field output is handed to channel F (R315): a compare's instant is rounded to 1 µs. -/
def State.queueField (s : State) (out : Nat) (lv : Bool) (tm : Nat) (cmp : Bool) (ret : Bool := false) (width : Nat := 0) :
    State :=
  if !s.drives then s else
  let t := if cmp then (tm + 500) / 1000 * 1000 else tm
  let s := (s.cancelReturn true out).modFio fun f =>
    { f with changes := f.changes.filter fun c => !(c.ret && c.out == out && decide (t ≤ c.tm)) }
  let (t, moved) := s.fio.room s.act s.tf t
  (s.modFio fun f =>
    { f with changes := f.changes ++ [⟨out, lv, t, cmp, ret⟩], defer := if moved then count32 f.defer else f.defer }
  ).pulseReturn true out (!lv) t width

/-- Return changes whose window begins with this tick are handed over (R295). -/
def State.returnsTick (s : State) : State :=
  let top := s.act + s.tf
  let due := s.trk.returns.filter fun r => decide (r.tm < top)
  let s := s.modTrk fun k => { k with returns := k.returns.filter fun r => decide (top ≤ r.tm) }
  s.each due fun t r =>
    if r.field then t.queueField r.target r.level (max r.tm t.act) true true
    else t.placeStage (axisNo r.target) r.level false ((r.tm - t.act) / 4) true

/-- The stage output of an axis can switch: its link is UP and its slot has an output (R100, R295). -/
def State.stageOut (s : State) (a : Fin 128) : Bool :=
  let l := linkOf a
  s.axOn (clusterOf a) && s.links[l].state == .up &&
  (match s.links[l].cap with
   | some c => bit c.io (4 + (slotOf a).val)
   | none => false)

end Sys2Proof.Machine
end

