-- ==== Sys2Proof/Machine/Contexts.lean ====
section
/-! DEFINITION. The tracking unit (R277 to R308): zones, contexts, their records and the calls.  The run itself is
in Tracking. -/

namespace Sys2Proof.Machine

/-- Micrometres in 2^-32 µm. -/
def um (n : Int) : Int := n * 4294967296

/-- A rational number of µm in 2^-32 µm. -/
def um32 (q : Rat) : Int := roundEven (q * 4294967296)

/-- Context numbers. -/
def ctxNo (i : Nat) : Fin 256 := fin 256 (by decide) i
/-- Every context. -/
def allCtx : List (Fin 256) := (List.range 256).map ctxNo
/-- Zone numbers. -/
def zoneNo (z : Nat) : Fin 160 := fin 160 (by decide) z

/-- Update of a context. -/
def State.modCtx (s : State) (i : Fin 256) (f : Ctx → Ctx) : State :=
  s.modTrk fun k => { k with ctx := k.ctx.set i (f k.ctx[i]) }
/-- Update of a zone. -/
def State.modZone (s : State) (z : Nat) (f : ZoneSt → ZoneSt) : State :=
  s.modTrk fun k => { k with zones := k.zones.set (zoneNo z) (f k.zones[zoneNo z]) }
/-- A zone. -/
def State.zoneSt (s : State) (z : Nat) : ZoneSt := s.trk.zones[zoneNo z]

/-- The tracking unit works: its domain is on and `TRK.ENABLE` is 1 (R280). -/
def State.trkOn (s : State) : Bool := s.domainOn 12 && s.pN Pid.trkEnable = 1

/-- The zone is in use. -/
def State.zoneUsed (s : State) (z : Nat) : Bool := decide (z < 160) && s.pN (Pid.topoZKind z) != 0

/-- The length of a zone. -/
def State.zoneLen (s : State) (z : Nat) : Int := um (s.pN (Pid.topoZLength z))

/-- The place of a zone's sensor. -/
def State.sensPos (s : State) (z : Nat) : Int := um (s.pN (Pid.topoZSensPos z))

/-- The match window of a zone. -/
def State.zoneWin (s : State) (z : Nat) : Int := um (s.pN (Pid.topoZWin z))

/-- The successor of a zone for a ROUTE (R279); 255 is the end of the path. -/
def State.zoneNext (s : State) (z : Nat) (route : BitVec 32) : Nat :=
  let b := s.pN (Pid.topoZBranch z)
  if b ≠ 255 ∧ route.getLsbD b then s.pN (Pid.topoZNext1 z) else s.pN (Pid.topoZNext0 z)

/-- The successor of a context's zone. -/
def State.ctxNext (s : State) (c : Ctx) : Nat := s.zoneNext c.zone c.route

/-- A point of a context: 0 leading edge, 1 centre, 2 trailing edge (R285, R292). -/
def Ctx.point (c : Ctx) (y : Int) (ref : Nat) : Int :=
  if ref = 1 then y - um c.len / 2 else if ref = 2 then y - um c.len else y

/-- The drive zone (R285). -/
def State.driveZone (s : State) (c : Ctx) : Nat :=
  if 0 ≤ c.point c.pos (s.pN Pid.trkDrivePt) || c.prev = 255 then c.zone else c.prev

/-- The speed that moves a context, µm/s, and its t0 (R281, R285). -/
def State.ctxV (s : State) (c : Ctx) : Rat := (s.zoneSt (s.driveZone c)).v
/-- The instant t0 of a context's position. -/
def State.ctxT0 (s : State) (c : Ctx) : Nat := (s.zoneSt (s.driveZone c)).t0

/-- The leading edge in the coordinates of a zone (R287). -/
def State.yIn (s : State) (c : Ctx) (z : Nat) : Option Int :=
  if c.zone = z then some c.pos
  else if c.prev = z then some (c.pos + s.zoneLen z)
  else if s.ctxNext c = z then some (c.pos - s.zoneLen c.zone)
  else none

/-- The travel of a context between t0 and an instant. -/
def State.travel (s : State) (c : Ctx) (t : Int) : Int :=
  um32 (s.ctxV c * ((t - (s.ctxT0 c : Int) : Int) : Rat) / 1000000000)

/-- A flag bit. -/
def setFlag (v : BitVec 8) (i : Nat) (b : Bool) : BitVec 8 :=
  if b then v ||| (1#8 <<< i) else v &&& ~~~(1#8 <<< i)

/-- CMPST of a context (R281). -/
def Ctx.cmpSt (c : Ctx) : Nat :=
  (List.range 4).foldl (fun n i =>
    let e := c.ev[fin 4 (by decide) i]
    n + (b2n e.armed + b2n e.done * 2 + b2n e.late * 4 + b2n e.skipped * 8) * 16 ^ i) 0

/-- STATE code of a context. -/
def CtxState.code : CtxState → Nat
  | .free => 0 | .active => 1 | .exporting => 2

/-- A compare event's bytes (R292). -/
def CmpEv.bytes (e : CmpEv) : List Byte :=
  leBytes 1 e.zone ++ leBytes 1 e.act ++ leBytes 1 e.target ++ leBytes 1 e.width ++ leBytes 4 e.pos

/-- The record of a context (R281). -/
def Ctx.record (c : Ctx) : List Byte :=
  leBytes 1 c.state.code ++ leBytes 1 c.flags.toNat ++ leBytes 1 c.zone ++ leBytes 1 c.prev ++ leBytes 4 c.objId ++
  leBytes 8 (ofSigned 64 c.pos) ++ leBytes 4 c.len ++ leBytes 4 c.route.toNat ++ leBytes 4 (ofSigned 32 c.vel) ++
  leBytes 2 c.cmpSt ++ leBytes 1 c.gen ++ leBytes 1 c.sensed ++ leBytes 2 (ofSigned 16 c.corr) ++
  leBytes 1 c.misses ++ leBytes 1 0 ++ c.ev.toList.flatMap CmpEv.bytes ++ leBytes 4 c.age

/-- The summary of a context in the process image (R306). -/
def Ctx.summary (c : Ctx) : List Byte :=
  leBytes 1 c.state.code ++ leBytes 1 c.flags.toNat ++ leBytes 1 c.zone ++ leBytes 1 c.gen ++ leBytes 4 c.objId ++
  leBytes 4 (ofSigned 32 (satSigned 32 (c.pos / 4294967296))) ++ leBytes 4 c.len ++ leBytes 2 c.cmpSt ++
  leBytes 2 (ofSigned 16 c.corr) ++ leBytes 4 c.route.toNat ++ leBytes 1 c.rseq ++ leBytes 1 c.sensed ++ leBytes 2 0

/-- Contexts not FREE. -/
def TrkSt.active (k : TrkSt) : Nat := (k.ctx.toList.filter fun c => c.state != .free).length

/-- The context that a creation takes: the lowest FREE one. -/
def State.freeSlot (s : State) : Option (Fin 256) := allCtx.find? fun i => s.trk.ctx[i].state == .free

/-- A context was changed by a call, an import or a hand-off (R390). -/
def State.touch (s : State) (i : Fin 256) : State :=
  s.modTrk fun k => { k with touched := if k.touched.contains i.val then k.touched else k.touched ++ [i.val] }

/-- A context leaves FREE (R281). -/
def State.ctxNew (s : State) (i : Fin 256) (c : Ctx) : State :=
  s.modCtx i fun x => { c with gen := (x.gen + 1) % 256, fresh := true }

/-- A context is freed (R308): 0 path end, 1 deleted, 2 lost, 3 exported, 4 flushed. -/
def State.ctxFree (s : State) (i : Fin 256) (cause : Nat) : State :=
  let c := s.trk.ctx[i]
  let s := if cause = 0 || cause = 2 then s else s.touch i
  (s.modCtx i fun x => { gen := x.gen }).event 0x4082 0
    (i.val + c.gen * 256 + cause * 65536 + c.objId * 2 ^ 32)

/-- A context is lost (R286, R291). -/
def State.ctxLost (s : State) (i : Fin 256) : State := (s.ctxFree i 2).raise 0x4003 0 []

/-- Event 0x4081 (R308). -/
def State.ctxCreated (s : State) (i : Fin 256) (zone : Nat) (sensor : Bool) : State :=
  s.event 0x4081 0 (i.val + s.trk.ctx[i].gen * 256 + zone * 65536 + b2n sensor * 2 ^ 24)

/-- A context of a call enters a zone at its source's t0 (R282). -/
def State.ctxCreate (s : State) (i : Fin 256) (zone objId : Nat) (pos : Int) (len route : Nat) : State :=
  let v := satSigned 32 (roundEven (s.zoneSt zone).v)
  ((s.touch i).ctxNew i { state := .active, zone := zone, objId := objId, pos := um pos, len := len,
                          route := BitVec.ofNat 32 route, vel := v }).ctxCreated i zone false

/-- A context that a call names with its generation (R282). -/
def State.ctxNamed (s : State) (i gen : Nat) : Bool :=
  let c := s.trk.ctx[ctxNo i]
  c.gen == gen && c.state != .free

/-- A committed call is applied (R282, R294). -/
def State.trkApply (s : State) (m : Nat) (c : TrkCall) : State :=
  match c with
  | .create zone objId pos len route =>
    match s.freeSlot with
    | none => s.lateAnswer m 0x4000F001 stFull []
    | some i =>
      let s := s.ctxCreate i zone objId pos len route
      s.lateAnswer m 0x4000F001 stOk (leBytes 1 i.val ++ leBytes 1 s.trk.ctx[i].gen)
  | .delete i gen =>
    if s.ctxNamed i gen then (s.ctxFree (ctxNo i) 1).lateAnswer m 0x4000F002 stOk []
    else s.lateAnswer m 0x4000F002 stState []
  | .modify i gen mask objId route len =>
    if s.ctxNamed i gen then
      let s := s.modCtx (ctxNo i) fun x =>
        let x := if bit mask 0 then
            { x with objId := objId, flags := if objId = 0 then x.flags else setFlag x.flags 2 false } else x
        let x := if bit mask 1 then { x with route := BitVec.ofNat 32 route } else x
        if bit mask 2 then { x with len := len } else x
      (s.touch (ctxNo i)).lateAnswer m 0x4000F003 stOk []
    else s.lateAnswer m 0x4000F003 stState []
  | .setEv i gen idx ev =>
    if s.ctxNamed i gen then
      ((s.modCtx (ctxNo i) fun x => { x with ev := x.ev.set (fin 4 (by decide) idx) ev }).touch
        (ctxNo i)).lateAnswer m 0x4000F004 stOk []
    else s.lateAnswer m 0x4000F004 stState []
  | .flush =>
    (s.each (allCtx.filter fun i => s.trk.ctx[i].state != .free) fun t i => t.ctxFree i 4).lateAnswer m 0x4000F006 stOk []

/-- At a tick, accepted calls are committed for the run of its frame (R282, R283), and requests of compare events of the
frame before reach the trajectory unit (R296). -/
def State.trkTick (s : State) : State :=
  let req := s.trk.requests
  let s := s.modTrk fun k => { k with due := k.due ++ k.calls, calls := [], requests := [] }
  s.each req fun t r => t.modAxis (axisNo r.1) fun x =>
    { x with prf := if r.2 then { x.prf with pauseReq := true, reached := false, inWinFrom := none }
                    else { x.prf with resumeReq := true, reached := false, inWinFrom := none } }

/-- `TRK.ENABLE` is cleared (R280): every context is freed, hand-offs and calls that wait are dropped. -/
def State.trkDisabled (s : State) : State :=
  let s := s.each (allCtx.filter fun i => s.trk.ctx[i].state != .free) fun t i => t.ctxFree i 4
  let calls := s.trk.due ++ s.trk.calls
  let s := s.modTrk fun k => { k with out := [], edges := [], inbox := [], due := [], calls := [], requests := [] }
  s.each calls fun t x => t.lateAnswer x.1
    (match x.2 with
     | .create _ _ _ _ _ => 0x4000F001
     | .delete _ _ => 0x4000F002
     | .modify _ _ _ _ _ _ => 0x4000F003
     | .setEv _ _ _ _ => 0x4000F004
     | .flush => 0x4000F006) stState []

/-- A swapped process image's output entries write routes (R306). -/
def State.trkRoutes (s : State) (entry : Nat → List Byte) : State :=
  s.each allCtx fun t i =>
    let e := entry i.val
    let c := t.trk.ctx[i]
    let seq := fld e 1 1 % 128
    if bit (fld e 1 1) 7 && fld e 0 1 = c.gen && seq != c.rseq && c.state != .free then
      (t.modCtx i fun x => { x with route := BitVec.ofNat 32 (fld e 4 4), rseq := seq }).touch i
    else t

/-! Calls. -/

/-- A tracking call waits for the commit that applies it (R282). -/
def State.trkWait (s : State) (m : Fin 16) (id : Nat) (c : TrkCall) : Served :=
  if !s.trkOn then .fail stState
  else .wait (s.modTrk fun k => { k with calls := k.calls ++ [(m.val, c)] }) (.call id)

/-- TRK.CREATE (R282). -/
def execTrkCreate (m : Fin 16) (tm : Nat) (s : State) : Host.Outcome State Fault Refusal :=
  .next (s.serveCall m tm 0x4000F001 20 fun t p =>
    if fld p 1 3 ≠ 0 ∨ !t.zoneUsed (fld p 0 1) then .fail stRange
    else t.trkWait m 0x4000F001 (.create (fld p 0 1) (fld p 4 4) (toSigned 32 (fld p 8 4)) (fld p 12 4) (fld p 16 4)))

/-- TRK.DELETE (R282). -/
def execTrkDelete (m : Fin 16) (tm : Nat) (s : State) : Host.Outcome State Fault Refusal :=
  .next (s.serveCall m tm 0x4000F002 2 fun t p => t.trkWait m 0x4000F002 (.delete (fld p 0 1) (fld p 1 1)))

/-- TRK.MODIFY (R282). -/
def execTrkModify (m : Fin 16) (tm : Nat) (s : State) : Host.Outcome State Fault Refusal :=
  .next (s.serveCall m tm 0x4000F003 16 fun t p =>
    if 8 ≤ fld p 2 1 ∨ fld p 3 1 ≠ 0 then .fail stRange
    else t.trkWait m 0x4000F003
      (.modify (fld p 0 1) (fld p 1 1) (fld p 2 1) (fld p 4 4) (fld p 8 4) (fld p 12 4)))

/-- The event of TRK.SET_EV (R292); none where a field lies outside its range. -/
def State.parseEv (s : State) (b : List Byte) : Option CmpEv :=
  let act := fld b 1 1
  let a := act % 16
  let tgt := fld b 2 1
  let ok := decide (a ≤ 5) && !bit act 7 && bits act 6 5 != 3 && s.zoneUsed (fld b 0 1) &&
    (!(a == 1 || a == 3 || a == 4) || decide (tgt < 128)) && (a != 2 || decide (tgt < 16))
  if a = 0 then some {}
  else if ok then
    some { zone := fld b 0 1, act := act, target := tgt, width := fld b 3 1, pos := fld b 4 4, armed := true,
           fresh := true }
  else none

/-- TRK.SET_EV (R282, R294). -/
def execTrkSetEv (m : Fin 16) (tm : Nat) (s : State) : Host.Outcome State Fault Refusal :=
  .next (s.serveCall m tm 0x4000F004 12 fun t p =>
    if 4 ≤ fld p 2 1 ∨ fld p 3 1 ≠ 0 then .fail stRange
    else match t.parseEv (p.drop 4) with
      | none => .fail stRange
      | some e => t.trkWait m 0x4000F004 (.setEv (fld p 0 1) (fld p 1 1) (fld p 2 1) e))

/-- TRK.READ (R281, R282). -/
def execTrkRead (m : Fin 16) (tm : Nat) (s : State) : Host.Outcome State Fault Refusal :=
  .next (s.serveCall m tm 0x4000F005 4 fun t p =>
    if fld p 1 3 ≠ 0 then .fail stRange else .done t (t.trk.ctx[ctxNo (fld p 0 1)]).record)

/-- TRK.FLUSH (R282). -/
def execTrkFlush (m : Fin 16) (tm : Nat) (s : State) : Host.Outcome State Fault Refusal :=
  .next (s.serveCall m tm 0x4000F006 0 fun t _ => t.trkWait m 0x4000F006 .flush)

end Sys2Proof.Machine
end

