-- ==== Sys2Proof/Machine/SafetyOps.lean ====
section
/-! DEFINITION. The operations of the two safety channels (chapter 16): groups, demands and causes, STO and
SS1-t, resets, degraded mode and SAFE. -/

namespace Sys2Proof.Machine

/-- The device state changes (R43, R46): IRQ STATE and event 0x0101. -/
def State.setDev (s : State) (d : DevState) : State :=
  let s := (s.modPwr fun p => { p with state := d }).alignWatch
  (s.irq (irqBit 20)).event 0x0101 0 s.status11

/-- The safety chapter applies: NK9128-IB with SAFEC powered (R2, R402). -/
def State.safOn (s : State) : Bool := s.ib && s.domainOn 9

/-- A channel works (R8, R9): the P-channel with SAFEC, the L-channel with VDD_SAF. -/
def State.chanOn (s : State) (ch : Fin 2) : Bool := if ch = 0 then s.safOn else s.ib && s.pwr.supply.getLsbD 4

/-- Every group number. -/
def allGroups : List (Fin 16) := (List.range 16).map (fin 16 (by decide))

/-- Update of a channel: 0 the P-channel, 1 the L-channel. -/
def State.modChan (s : State) (ch : Fin 2) (f : ChanSt → ChanSt) : State :=
  s.modSaf fun k => { k with chan := k.chan.set ch (f k.chan[ch]) }

/-- Update of a group at a channel. -/
def State.modGrp (s : State) (ch : Fin 2) (g : Fin 16) (f : GrpSt → GrpSt) : State :=
  s.modChan ch fun c => { c with groups := c.groups.set g (f c.groups[g]) }

/-- The group of a link at a channel; none for 0xFF and while no block is active (R405). -/
def State.grpOf (s : State) (ch : Fin 2) (l : Fin 32) : Option (Fin 16) :=
  let v := s.safV ch (Pid.safLGroup l.val)
  if s.saf.chan[ch].configured && decide (v < 16) then some (fin 16 (by decide) v) else none

/-- The links of a group (R405). -/
def State.grpLinks (s : State) (g : Fin 16) : List (Fin 32) := allLinks.filter fun l => s.grpOf 0 l == some g

/-- The axes of a group. -/
def State.grpAxes (s : State) (g : Fin 16) : List (Fin 128) := (s.grpLinks g).flatMap linkAxes

/-- The axes of groups. -/
def State.grpsAxes (s : State) (gs : List (Fin 16)) : List (Fin 128) := gs.flatMap s.grpAxes

/-- A link is in STO at a channel: its group is, or it has none (R405). -/
def State.linkSto (s : State) (ch : Fin 2) (l : Fin 32) : Bool :=
  match s.grpOf ch l with
  | some g => (s.saf.chan[ch].groups[g]).state == .sto
  | none => true

/-- The heartbeat runs on a link (R2, R8, R10, R406): on the NK9128-IB its only source is the Benrik die, powered. -/
def State.heartbeat (s : State) (l : Fin 32) : Bool :=
  s.axOn (clusterOfLink l) && (!s.ib || (s.pwr.supply.getLsbD 4 && !s.linkSto 1 l))

/-- Groups as a list from a mask. -/
def grpsOf (mask : Nat) : List (Fin 16) := allGroups.filter fun g => bit mask g.val

/-- The switches that the channels close (R422). -/
def State.soUpdate (s : State) : State :=
  s.modSaf fun k => { k with chan := Vector.ofFn fun ch =>
    let c := k.chan[ch]
    let isIn (m : Nat) : Bool := allGroups.any fun g => bit m g.val && (c.groups[g]).state == .sto
    { c with so := Vector.ofFn fun n =>
        c.configured && s.pwr.supply.getLsbD 5 && (ch == 0 || s.pwr.supply.getLsbD 4) &&
        !isIn (s.safV ch (Pid.safSoMask n.val)) } }

/-- A channel decides STO for a group (R406). -/
def State.stoAt (s : State) (ch : Fin 2) (g : Fin 16) (demand : Bool) : State :=
  let x := s.saf.chan[ch].groups[g]
  let d := if x.state == .normal then demand else x.demandOnly && demand
  let was := x.state == .sto
  let s := s.modGrp ch g fun y => { y with state := .sto, ends := 0, demandOnly := d }
  if was || ch != 0 then s
  else
    let s := s.modSaf fun k => { k with quick := k.quick &&& ~~~(1#16 <<< g.val) }
    (s.axesSto (s.grpAxes g)).killLinks (s.grpLinks g)

/-- A channel decides SS1-t for a group (R411): its own time runs, and the P-channel's quick stop. -/
def State.ss1At (s : State) (ch : Fin 2) (g : Fin 16) (demand : Bool) : State :=
  let x := s.saf.chan[ch].groups[g]
  match x.state with
  | .sto | .ss1 => s.modGrp ch g fun y => { y with demandOnly := y.demandOnly && demand }
  | .normal =>
    let t := ms (s.safV ch (Pid.safGSs1T g.val))
    let s := s.modGrp ch g fun y => { y with state := .ss1, ends := s.nt + t, demandOnly := demand }
    if ch = 0 then s.modSaf fun k => { k with quick := k.quick ||| (1#16 <<< g.val) } else s

/-- STO or SS1-t for a group at both channels: 0 STO, 1 SS1-t. -/
def State.stopBoth (s : State) (act : Nat) (g : Fin 16) (demand : Bool) : State :=
  if act = 1 then (s.ss1At 0 g demand).ss1At 1 g demand else (s.stoAt 0 g demand).stoAt 1 g demand

/-! Demands and causes (R408, R416 to R421). -/

/-- A pair's demand names a group under a function (R417). -/
def State.pairAsks (s : State) (ch : Fin 2) (f : Nat) (g : Fin 16) : Bool :=
  (List.range 8).any fun n =>
    (s.saf.chan[ch].pairs[fin 8 (by decide) n]).demand && s.safV ch (Pid.safSiFunc n) = f &&
    bit (s.safV ch (Pid.safSiGroups n)) g.val

/-- STO is demanded of a group by an input or a telegram. -/
def State.asksSto (s : State) (ch : Fin 2) (g : Fin 16) : Bool :=
  let c := s.saf.chan[ch]
  s.pairAsks ch 1 g || (s.safV ch Pid.safTelUse = 1 && c.tel.sto.getLsbD g.val)

/-- SS1-t is demanded of a group; both SDI bits together demand it too (R414). -/
def State.asksSs1 (s : State) (ch : Fin 2) (g : Fin 16) : Bool :=
  let c := s.saf.chan[ch]
  s.pairAsks ch 2 g || (s.safV ch Pid.safTelUse = 1 &&
    (c.tel.ss1.getLsbD g.val || (c.tel.sdi.getLsbD g.val && c.tel.sdi.getLsbD (16 + g.val))))

/-- SLS is requested of a group. -/
def State.asksSls (s : State) (ch : Fin 2) (g : Fin 16) : Bool :=
  let c := s.saf.chan[ch]
  s.pairAsks ch 3 g || (s.safV ch Pid.safTelUse = 1 && c.tel.sls.getLsbD g.val)

/-- A degraded cause holds (R424). -/
def State.degCause (s : State) : Bool :=
  s.saf.lost[0] || s.saf.lost[1] || s.saf.lWarn ||
  (s.saf.so[0].failP != s.saf.so[0].failL) || (s.saf.so[1].failP != s.saf.so[1].failL)

/-- The SLS limit that a channel checks an axis against, if any (R413). -/
def State.slsLimit (s : State) (ch : Fin 2) (a : Fin 128) : Option Nat :=
  match s.grpOf ch (linkOf a) with
  | none => none
  | some g =>
    let c := s.saf.chan[ch]
    let own := s.safV ch (Pid.safASlsLim a.val)
    let asked := (c.groups[g]).slsOn && own ≠ 0
    let deg := c.degraded && decide (c.degFrom + ms (s.safV ch (Pid.safGSlsRamp g.val)) ≤ s.nt)
    let lim := s.safV ch Pid.safDegradedSls
    if deg then some (if asked then min own lim else lim) else if asked then some own else none

/-- An axis whose v_cmd the device limits, and the limit: 90 % of its own from the request on (R413). -/
def State.slsClamp (s : State) (a : Fin 128) : Option Rat :=
  match s.grpOf 0 (linkOf a) with
  | none => none
  | some g =>
    let c := s.saf.chan[0]
    let own := s.safV 0 (Pid.safASlsLim a.val)
    let asked := (c.groups[g]).slsFrom.isSome && own ≠ 0
    let lim := s.safV 0 Pid.safDegradedSls
    let v : Option Nat := if c.degraded then some (if asked then min own lim else lim)
      else if asked then some own else none
    v.map fun n => (n : Rat) / 1024 * (9 / 10)

/-- An axis under SDI at a channel: 1 positive only, -1 negative only, 0 none. -/
def State.sdiDir (s : State) (ch : Fin 2) (a : Fin 128) : Int :=
  match s.grpOf ch (linkOf a) with
  | none => 0
  | some g =>
    let c := s.saf.chan[ch]
    if s.safV ch Pid.safTelUse ≠ 1 then 0
    else if c.tel.sdi.getLsbD g.val then 1
    else if c.tel.sdi.getLsbD (16 + g.val) then -1
    else 0

/-- An axis has missed its word in 2 consecutive frames at a channel (R412): two that do not count, or none by
tick + 10.0 µs of the frame and none in the frame before, while its engine runs. -/
def State.wordsMissing (s : State) (ch : Fin 2) (a : Fin 128) : Bool :=
  let x := s.saf.chan[ch].axes[a]
  decide (2 ≤ x.missRun) ||
  (x.got && s.frame.ticking && s.axOn (clusterOf a) &&
    decide (s.frame.tick + 10000 ≤ s.nt ∧ x.wordAt + s.tf < s.frame.tick))

/-- An axis is monitored at a channel: under SLS or SDI, or in degraded mode (R412). -/
def State.monitored (s : State) (ch : Fin 2) (a : Fin 128) : Bool :=
  (s.slsLimit ch a).isSome || s.sdiDir ch a != 0 || s.saf.chan[ch].degraded

/-- A monitored axis of a group violates its limits or misses its words at present. -/
def State.axisBad (s : State) (ch : Fin 2) (a : Fin 128) : Bool :=
  let x := s.saf.chan[ch].axes[a]
  decide (3 ≤ x.slsRun) || decide (3 ≤ x.sdiRun) || (s.wordsMissing ch a && s.monitored ch a)

/-- The cause of a safety output's fault on a group holds (R422). -/
def State.soBad (s : State) (g : Fin 16) : Bool :=
  (List.range 2).any fun n =>
    (s.saf.so[fin 2 (by decide) n]).fail && bit (s.safV 0 (Pid.safSoMask n)) g.val

/-- A cause that stays present beside the demands: a discrepancy, a lost connection, a violation. -/
def State.faultCause (s : State) (ch : Fin 2) (g : Fin 16) : Bool :=
  let c := s.saf.chan[ch]
  ((List.range 8).any fun n => (c.pairs[fin 8 (by decide) n]).disc && bit (s.safV ch (Pid.safSiGroups n)) g.val) ||
  (s.safV ch Pid.safTelUse = 1 && !c.telOk) || s.soBad g ||
  ((c.groups[g]).latched && (s.grpAxes g).any (s.axisBad ch)) ||
  (s.saf.expired && s.degCause)

/-- A cause of STO or SS1-t of a group is present at a channel (R408). -/
def State.stopCause (s : State) (ch : Fin 2) (g : Fin 16) : Bool :=
  s.asksSto ch g || s.asksSs1 ch g || s.faultCause ch g

/-! The end of a stop. -/

/-- Every class 0x70 fault whose groups all run again and whose cause is gone leaves force at the next
tick (R408, R445). -/
def State.safClear (s : State) : State :=
  let normal (g : Fin 16) : Bool :=
    (s.saf.chan[0].groups[g]).state == .normal && (s.saf.chan[1].groups[g]).state == .normal
  let gone (p : InForce) : Bool :=
    decide (0x7001 ≤ p.code ∧ p.code ≤ 0x7012) &&
    (p.targets.all fun x => match s.grpOf 0 (linkOf (axisNo x.1)) with
      | some g => normal g
      | none => true) &&
    (match p.code with
     | 0x7001 => !((s.saf.chan[0].pairs[fin 8 (by decide) p.inst]).disc ||
                   (s.saf.chan[1].pairs[fin 8 (by decide) p.inst]).disc)
     | 0x7004 => !(s.saf.lost[0] || s.saf.lost[1])
     | 0x7005 => let o := s.saf.so[fin 2 (by decide) p.inst]
                 !(o.failP || o.failL)
     | 0x7006 => !(s.saf.so[fin 2 (by decide) p.inst]).fail
     | 0x7007 => !s.saf.lWarn
     | 0x7008 | 0x7009 | 0x700A | 0x700B | 0x7010 | 0x7011 => false
     | 0x700F => !s.degCause
     | 0x7012 => s.saf.lockedUntil.isNone
     | _ => true)
  s.modFlt fun f => { f with inForce := f.inForce.map fun p => if gone p then { p with clearing := true } else p }

/-- The level in force on an axis after its STO ended: the highest of the faults that still target it. -/
def State.levelLeft (s : State) (a : Fin 128) : Nat :=
  let l := s.flt.inForce.filterMap fun p =>
    if p.clearing then none else (p.targets.find? (fun x => x.1 == a.val)).map (·.2)
  match l with
  | [] => 7
  | _ :: _ => l.foldl max 0

/-- STO or SS1-t of a group ends (R409): kills stop, its axes go to OFF and need a fresh ENABLE. -/
def State.endStop (s : State) (g : Fin 16) : State :=
  let wasSto := (s.saf.chan[0].groups[g]).state == .sto
  let clr (y : GrpSt) : GrpSt := { y with state := .normal, ends := 0, demandOnly := false, latched := false }
  let s := (s.modGrp 0 g clr).modGrp 1 g clr
  let s := s.modSaf fun k => { k with quick := k.quick &&& ~~~(1#16 <<< g.val) }
  if !wasSto then s
  else
    let s := s.each (s.grpLinks g) fun t l => t.modLink l fun x => { x with killSaf := 0 }
    s.each (s.grpAxes g) fun t a =>
      let lv := t.levelLeft a
      t.modAxis a fun x =>
        let rest := if 2 ≤ lv ∧ lv ≠ 7 then AxState.fault else .off
        { x with state := if x.state == .sto then rest else x.state, needEdge := true,
                 rea := { x.rea with level := lv, applied := lv, cause := if lv = 7 then 0 else x.rea.cause } }

/-- A reset arrives for groups (R408): those whose causes are cleared at both channels end. -/
def State.safReset (s : State) (gs : List (Fin 16)) (src path sid : Nat) : Bool × State :=
  if s.pwr.state == .safe then (false, s) else
  let stopped := gs.filter fun g =>
    (s.saf.chan[0].groups[g]).state != .normal || (s.saf.chan[1].groups[g]).state != .normal
  let free := stopped.filter fun g => !(s.stopCause 0 g || s.stopCause 1 g)
  let s := (s.each free State.endStop).safClear
  let s := if free.isEmpty then s
    else
      let m := free.foldl (fun n g => n + 2 ^ g.val) 0
      let s := s.modSaf fun k => { k with expired := k.expired && s.degCause }
      (s.event 0x7083 0 (m + src * 65536)).safLog 0x0B stOk path sid 0 m
  (free.length == stopped.length, s)

/-! Degraded mode, SAFE and what follows every evaluation. -/

/-- Degraded mode is entered (R423, R424): a new entry within 1 h resumes the timer. -/
def State.enterDegraded (s : State) : State :=
  if s.saf.chan[0].degraded || s.saf.expired then s else
  let resume : Bool := match s.saf.exitAt with
    | some t => decide (s.nt < t + secs 3600)
    | none => true
  let f (c : ChanSt) : ChanSt :=
    { c with degraded := true, degFrom := s.nt, degUsed := if resume then c.degUsed else 0 }
  let s := (s.modChan 0 f).modChan 1 f
  let left := s.safV 0 Pid.safDegradedTmax - s.saf.chan[0].degUsed / 1000000000
  (s.event 0x7082 0 (1 + left * 65536)).safLog 0x07 stOk 0 0 0 0

/-- The device enters SAFE (R404). -/
def State.enterSafe (s : State) : State :=
  if s.pwr.state == .safe then s else
  let s := s.each allGroups fun t g => (t.stoAt 0 g false).stoAt 1 g false
  let s := (s.axesSto allAxes).killLinks allLinks
  (s.setDev .safe).safLog 0x0A stOk 0 0 0 0

/-- A fault of class 0x70 on groups: 0 STO, 1 SS1-t, 2 no stop; the groups hold it latched. -/
def State.safFault (s : State) (code inst act : Nat) (gs : List (Fin 16)) (data : Nat := 0) : State :=
  let s := s.raiseAt code inst (if act = 2 then [] else s.grpsAxes gs) data (faultRow code).1 true
  if act = 2 then s
  else s.each gs fun t g =>
    let l (y : GrpSt) : GrpSt := { y with latched := true }
    ((t.modGrp 0 g l).modGrp 1 g l).stopBoth act g false

/-- RESET_NEEDED (R408): a group that is used is stopped and only a reset ends it. -/
def State.resetNeeded (s : State) : Bool :=
  allGroups.any fun g =>
    let p := s.saf.chan[0].groups[g]
    let l := s.saf.chan[1].groups[g]
    (!(s.grpLinks g).isEmpty) && (p.state != .normal || l.state != .normal) &&
    !(s.safV 0 (Pid.safGRestart g.val) = 1 && p.demandOnly && l.demandOnly)

/-- Groups that end without a reset (R408): restart automatic, stopped by demands only, causes clear. -/
def State.autoRestart (s : State) : State :=
  if s.pwr.state == .safe || !s.safOn then s else
  s.each allGroups fun t g =>
    let p := t.saf.chan[0].groups[g]
    let l := t.saf.chan[1].groups[g]
    let only (y : GrpSt) : Bool := y.state == .normal || y.demandOnly
    if t.safV 0 (Pid.safGRestart g.val) = 1 ∧ (p.state ≠ .normal ∨ l.state ≠ .normal) ∧ only p ∧ only l ∧
        !(t.stopCause 0 g || t.stopCause 1 g) then
      (t.endStop g).event 0x7083 0 (2 ^ g.val + 3 * 65536)
    else t

/-- What follows every change at the channels: restarts, outputs, SAF.STATUS, the flag SAFE and event
0x7081 (R408, R422, R424, R432). -/
def State.safDone (s : State) : State :=
  let s := s.autoRestart.soUpdate
  let need := s.resetNeeded
  let clear := s.saf.chan[0].degraded && !s.degCause
  let s := s.modSaf fun k =>
    { k with resetNeeded := need,
             clearFrom := if clear then some (k.clearFrom.getD s.nt) else none }
  let c := s.saf.chan[0]
  let d := c.grpMask .sto + c.grpMask .ss1 * 65536 + c.slsMask * 2 ^ 32
  if d = s.saf.lastEvt then s
  else ((s.modSaf fun k => { k with lastEvt := d }).irq (irqBit 24)).event 0x7081 0 d

/-- A channel evaluates its inputs and its telegram (R408 to R417). -/
def State.safEval (s : State) (ch : Fin 2) : State :=
  let s := s.each allGroups fun t g =>
    let t := if t.asksSto ch g then t.stoAt ch g true
             else if t.asksSs1 ch g then t.ss1At ch g true else t
    let asks := t.asksSls ch g
    t.modGrp ch g fun y =>
      if asks then { y with slsFrom := some (y.slsFrom.getD t.nt) } else { y with slsFrom := none, slsOn := false }
  s.safDone


end Sys2Proof.Machine
end

