-- ==== Sys2Proof/Machine/SafetyConfig.lean ====
section
/-! DEFINITION. The safety configuration block and the opcode SAFETY (R426 to R430). -/

namespace Sys2Proof.Machine

/-- The value range of a configuration parameter (R430), by index. -/
def safRange (i v : Nat) : Bool :=
  if i = 0x01 ∨ i = 0x11 then decide (1 ≤ v ∧ v ≤ 65534)
  else if i = 0x02 then decide (v < 8)
  else if i = 0x03 then decide (2 ≤ v ∧ v ≤ 100)
  else if i = 0x10 ∨ i = 0x17 then decide (v ≤ 1)
  else if i = 0x12 then decide (v ≤ 65535)
  else if i = 0x13 then decide (5 ≤ v ∧ v ≤ 1000)
  else if i = 0x14 then decide (1 ≤ v ∧ v ≤ 16)
  else if i = 0x15 then decide (1 ≤ v ∧ v ≤ 100)
  else if i = 0x16 then decide (50 ≤ v ∧ v ≤ 5000)
  else if i = 0x20 then decide (1 ≤ v ∧ v ≤ 8388607)
  else if i = 0x21 then decide (1 ≤ v ∧ v ≤ 3600)
  else match i / 256 with
    | 1 => match i % 16 with
      | 0 => decide (10 ≤ v ∧ v ≤ 10000)
      | 2 => decide (v ≤ 10000)
      | _ => decide (v ≤ 1)
    | 3 => decide (v ≤ 15) || v == 255
    | 4 => match i % 16 with
      | 0 => decide (v ≤ 4)
      | 1 => decide (v ≤ 65535)
      | 2 => decide (1000 ≤ v ∧ v ≤ 50000 ∧ v % 50 = 0)
      | _ => decide (5 ≤ v ∧ v ≤ 500)
    | 5 => match i % 16 with
      | 0 => decide (v ≤ 65535)
      | 1 => decide (100 ≤ v ∧ v ≤ 60000)
      | _ => decide (100 ≤ v ∧ v ≤ 1000)
    | 0x10 => decide (v ≤ 8388607)
    | 0x11 => decide (v ≤ 1048576)
    | _ => decide (v ≤ 1)

/-- A SAF index is a configuration parameter, not a status (R426, R430). -/
def safConfigIdx (i : Nat) : Bool := !(decide (0x40 ≤ i ∧ i < 0x100))

/-- The indices of the configuration parameters in ascending order (R430). -/
def safConfigIds : List Nat :=
  [0x01, 0x02, 0x03, 0x10, 0x11, 0x12, 0x13, 0x14, 0x15, 0x16, 0x17, 0x20, 0x21] ++
  ((List.range 16).flatMap fun g => (List.range 4).map fun k => 0x100 + 16 * g + k) ++
  ((List.range 32).map fun n => 0x300 + n) ++
  ((List.range 8).flatMap fun n => (List.range 4).map fun k => 0x400 + 16 * n + k) ++
  ((List.range 2).flatMap fun n => (List.range 3).map fun k => 0x500 + 16 * n + k) ++
  ((List.range 128).map fun a => 0x1000 + a) ++ ((List.range 128).map fun a => 0x1100 + a) ++
  ((List.range 128).map fun a => 0x1200 + a)

/-- A block's value of an ID, or the default. -/
def blockVal (b : List (Nat × Nat)) (id : Nat) : Nat :=
  match b.find? (fun x => x.1 == id) with
  | some x => x.2
  | none => match findRow id with
    | some (r, _) => r.dfltRaw % 2 ^ 32
    | none => 0

/-- The bytes that both CRCs cover (R427). -/
def blockBytes (b : List (Nat × Nat)) : List Byte :=
  safConfigIds.flatMap fun i => leBytes 4 (0x70000000 + i) ++ leBytes 4 (blockVal b (0x70000000 + i))

/-- A channel's CRC of a block: CRC-32C at the P-channel, CRC-16 at the L-channel (R418, R427). -/
def blockCrc (ch : Fin 2) (b : List (Nat × Nat)) : Nat :=
  if ch = 0 then crc32c (blockBytes b) else crc16 (blockBytes b)

/-- A block with a value written. -/
def blockPut (b : List (Nat × Nat)) (e : Nat × Nat) : List (Nat × Nat) :=
  b.filter (fun x => x.1 != e.1) ++ [e]

/-- Both channels take a block: every group enters STO and the telegram connection is reset (R419, R427). -/
def State.takeBlock (s : State) (b : List (Nat × Nat)) : State :=
  let f (ch : Fin 2) (c : ChanSt) : ChanSt :=
    { c with block := b, configured := true, crc := blockCrc ch b, telOpen := false, telOk := false, telN := 0,
             tel := {}, groups := Vector.replicate 16 {} }
  let s := (s.modChan 0 (f 0)).modChan 1 (f 1)
  let s := s.modSaf fun k =>
    let so : Vector SoSt 2 := Vector.ofFn fun n =>
      let t := ms (blockVal b (Pid.safSoTestT n.val))
      { k.so[n] with nextP := s.nt + t, nextL := s.nt + t + t / 2 }
    { k with copies := [], quick := 0, so := so }
  ((s.axesSto allAxes).killLinks allLinks).safDone

/-- A block accepted by ACTIVATE applies at the tick and is written to flash (R427). -/
def State.safActivate (s : State) : State :=
  if !s.saf.activate then s
  else match s.saf.staged with
    | none => s.modSaf fun k => { k with activate := false }
    | some b => (s.modSaf fun k =>
        { k with activate := false, staged := none, flash := some b, flashGood := true }).takeBlock b

/-- The block of flash at bring-up (R427): a bad CRC raises 0x700B and enters SAFE. -/
def State.safBoot (s : State) : State :=
  if !s.ib then s else
  match s.saf.flash with
  | none => (s.axesSto allAxes).safDone
  | some b => if s.saf.flashGood then s.takeBlock b else (s.safFault 0x700B 0 0 allGroups).enterSafe

/-- The SAFETY sub-commands after LOGIN and LOGOUT need a login; without a password it allows less (R426, R428). -/
def State.loginOk (s : State) (m : Fin 16) (sub : Nat) : Bool :=
  match s.saf.login with
  | some (sid, _, nopw) => sid == s.mbx[m].sid && (!nopw || sub == 4 || sub == 7)
  | none => false

/-- A SAFETY sub-command is served (R426): its payload after SUB and the three zeros has `n` bytes. -/
def State.serveSafety (s : State) (m : Fin 16) (tm sub : Nat) (n : Option Nat)
    (act : State → List Byte → Served) : State :=
  s.serve m tm 0x50 (isSub sub) 8 fun t p =>
    let t := t.modSaf fun k => { k with login := k.login.map fun l =>
      if l.1 = t.mbx[m].sid then (l.1, t.nt, l.2.2) else l }
    if !t.ib then .fail stUnknown
    else if decide (3 ≤ sub) && !t.loginOk m sub then .failed t stAuth
    else if fld p 1 3 ≠ 0 ∨ p.length < 4 ∨ n.any (fun k => p.length != 4 + k) then .failed t stRange
    else act t (p.drop 4)

/-- A path and session for the change log (R429). -/
def State.logWho (s : State) (m : Fin 16) : Nat × Nat := (s.mbx[m].owner.logPath, s.mbx[m].sid)

/-- The lockout of the n-th time: 15 min doubled each time, up to 16 h at n = 7 (R428). -/
def lockoutTime (n : Nat) : Nat := if 7 ≤ n then secs 57600 else secs 900 * 2 ^ (n - 1)

/-- A failed login (R428). -/
def State.loginFailed (s : State) (m : Fin 16) : State :=
  let (path, sid) := s.logWho m
  let s := s.safLog 0x04 stAuth path sid 0 0
  let f := s.saf.fails + 1
  if f < 5 then s.modSaf fun k => { k with fails := f }
  else
    let n := s.saf.lockouts + 1
    let s := s.modSaf fun k => { k with fails := 0, lockouts := n, lockedUntil := some (s.nt + lockoutTime n) }
    (s.raiseAt 0x7012 0 [] 0 1 true).safLog 0x05 stLocked path sid 0 0

/-- LOGIN (R426, R428). -/
def execLogin (m : Fin 16) (tm : Nat) (s : State) : Host.Outcome State Fault Refusal :=
  .next (s.serveSafety m tm 1 (some 20) fun t p =>
    let n := fld p 0 1
    let pw := (p.drop 4).take n
    if 16 < n ∨ fld p 1 3 ≠ 0 ∨ ((p.drop 4).drop n).any (· != 0) then .failed t stRange
    else match t.saf.lockedUntil.filter (fun u => decide (t.nt < u)) with
      | some u => .fail stLocked 0 (leBytes 4 ((u - t.nt + 999999999) / 1000000000))
      | none =>
        let ok (nopw : Bool) : Served :=
          let (path, sid) := t.logWho m
          .done ((t.modSaf fun k =>
            { k with login := some (sid, t.nt, nopw), fails := 0, lockouts := 0 }).safLog 0x03 stOk path sid 0 0)
        match t.saf.password with
        | none => if n = 0 then ok true else .failed (t.loginFailed m) stAuth
        | some (salt, h) =>
          if Config.sha256 (salt ++ pw) == h then ok false else .failed (t.loginFailed m) stAuth)

/-- LOGOUT (R426). -/
def execLogout (m : Fin 16) (tm : Nat) (s : State) : Host.Outcome State Fault Refusal :=
  .next (s.serveSafety m tm 2 (some 0) fun t _ =>
    .done (t.modSaf fun k => { k with login := k.login.filter (fun l => l.1 != t.mbx[m].sid) }))

/-- One entry of STAGE (R426, R430): its status. -/
def stageStatus (e : List Byte) : Nat :=
  let id := fld e 0 4
  match findRow id with
  | none => stUnknown
  | some _ =>
    if idClass id ≠ 0x70 ∨ !safConfigIdx (idIndex id) then stRange
    else if !doppioOk .d32 (e.drop 4) then stIntegrity
    else if safRange (idIndex id) (fld e 4 4) then stOk else stRange

/-- STAGE (R426): the staged block starts from the active one. -/
def execStage (m : Fin 16) (tm : Nat) (s : State) : Host.Outcome State Fault Refusal :=
  .next (s.serveSafety m tm 3 none fun t p =>
    let n := fld p 0 1
    if n < 1 ∨ 40 < n ∨ fld p 1 3 ≠ 0 ∨ p.length ≠ 4 + 12 * n then .failed t stRange
    else
      let es := (List.range n).map fun i => (p.drop (4 + 12 * i)).take 12
      match (es.map stageStatus).findIdx? (· != 0) with
      | some i => .fail ((es.map stageStatus).getD i stRange) i
      | none =>
        let b := es.foldl (fun b e => blockPut b (fld e 0 4, fld e 4 4)) (t.saf.staged.getD t.saf.chan[0].block)
        .done (t.modSaf fun k => { k with staged := some b }))

/-- Entries of a block that differ from another. -/
def blockChanges (a b : List (Nat × Nat)) : Nat :=
  safConfigIds.countP fun i => blockVal a (0x70000000 + i) != blockVal b (0x70000000 + i)

/-- VALIDATE (R427). -/
def execValidate (m : Fin 16) (tm : Nat) (s : State) : Host.Outcome State Fault Refusal :=
  .next (s.serveSafety m tm 4 (some 0) fun t _ =>
    match t.saf.staged with
    | none => .failed t stState
    | some b => .done t (leBytes 4 (blockCrc 0 b) ++ leBytes 2 (blockCrc 1 b) ++ leBytes 2 0 ++
        leBytes 2 (blockChanges b t.saf.chan[0].block) ++ leBytes 2 0))

/-- ACTIVATE (R427): it applies at the next tick. -/
def execActivate (m : Fin 16) (tm : Nat) (s : State) : Host.Outcome State Fault Refusal :=
  .next (s.serveSafety m tm 5 (some 8) fun t p =>
    match t.saf.staged with
    | none => .failed t stState
    | some b =>
      if fld p 6 2 ≠ 0 then .failed t stRange
      else if fld p 0 4 ≠ blockCrc 0 b ∨ fld p 4 2 ≠ blockCrc 1 b ∨ !t.pwr.supply.getLsbD 4 then
        .failed t stIntegrity
      else if t.drives && !(allAxes.all fun a => t.axes[a].state == .off || t.axes[a].state == .sto) then
        .failed t stState
      else
        let (path, sid) := t.logWho m
        let t := t.safLog 0x01 stOk path sid t.saf.chan[0].crc (blockCrc 0 b)
        .done (t.modSaf fun k => { k with activate := true }) (leBytes 4 ((t.frame.fc + 1) % 2 ^ 32)))

/-- DISCARD (R426). -/
def execDiscard (m : Fin 16) (tm : Nat) (s : State) : Host.Outcome State Fault Refusal :=
  .next (s.serveSafety m tm 6 (some 0) fun t _ =>
    .done (t.modSaf fun k => { k with staged := none, activate := false }))

/-- SET_PASSWORD (R428). -/
def execSetPassword (m : Fin 16) (tm : Nat) (s : State) : Host.Outcome State Fault Refusal :=
  .next (s.serveSafety m tm 7 (some 20) fun t p =>
    let n := fld p 0 1
    let pw := (p.drop 4).take n
    if n < 8 ∨ 16 < n ∨ fld p 1 3 ≠ 0 ∨ ((p.drop 4).drop n).any (· != 0) ∨
        !(pw.all fun c => decide (0x21 ≤ c.toNat ∧ c.toNat ≤ 0x7E)) then .failed t stRange
    else
      let salt := Config.drbg t.freeCtr 16
      let (path, sid) := t.logWho m
      let t := { t with freeCtr := t.freeCtr + 1 }
      .done ((t.modSaf fun k => { k with password := some (salt, Config.sha256 (salt ++ pw)) }).safLog
        0x02 stOk path sid 0 0))

/-- The SAFETY sub-command RESET (R408). -/
def execSafetyReset (m : Fin 16) (tm : Nat) (s : State) : Host.Outcome State Fault Refusal :=
  .next (s.serveSafety m tm 8 (some 4) fun t p =>
    if fld p 2 2 ≠ 0 then .failed t stRange
    else if !bit (t.safV 0 Pid.safResetSrc) 2 then .failed t stState
    else
      let (path, sid) := t.logWho m
      let (ok, t) := t.safReset (grpsOf (fld p 0 2)) 2 path sid
      if ok then .done t.safDone else .failed t.safDone stCause)

end Sys2Proof.Machine
end

