-- ==== Sys2Proof/Machine/PowerOps.lean ====
section
/-! DEFINITION. Device resets, domains and cluster sleep (chapter 18): what a reset leaves, switching domains,
waking clusters, and the sleep conditions. -/

namespace Sys2Proof.Machine

/-- A first-fault latch over a reset (R443). -/
def Latch.overReset (l : Latch) : Latch := { l with preReset := l.preReset || l.code != 0 }

/-- The fault unit over a device reset (R443, R444): log and latches stay, faults in force do not. -/
def FaultSt.overReset (f : FaultSt) : FaultSt :=
  { f with inForce := [], classLatch := f.classLatch.map Latch.overReset }

/-- Security over a reset (R476): fuses, directory, slots, owner, operators, line keys, bundle counter stay. -/
def SecSt.overReset (k : SecSt) : SecSt :=
  { revoke := k.revoke, svnMin := k.svnMin, cur := k.cur, next := k.next, tried := k.tried, dirSeq := k.dirSeq,
    slots := k.slots, running := k.running, owned := k.owned, ownerKey := k.ownerKey,
    ownerEpoch := k.ownerEpoch, operators := k.operators, lineKeys := k.lineKeys, bundleLast := k.bundleLast,
    jtagOpen := !k.owned }

/-- A channel that holds every group in STO, and waits for new words of the axes. -/
def ChanSt.allSto (c : ChanSt) (demandOnly : Bool) : ChanSt :=
  { c with axes := c.axes.map fun x => { x with got := false }
           groups := c.groups.map fun g => { g with state := .sto, ends := 0, demandOnly := demandOnly } }

/-- The safety store over a reset (R9, R428, R429, R476): the L-channel, whose die takes neither clock nor reset from
the controller die, and block, password, log and lockout stay.  The L-channel gets no cross-check word from a controller
in reset, and holds every group in STO (R404; log 30). -/
def SafSt.overReset (k : SafSt) : SafSt :=
  { chan := #v[{}, (k.chan[1]).allSto false], flash := k.flash, flashGood := k.flashGood, password := k.password,
    fails := k.fails, lockouts := k.lockouts, lockedUntil := k.lockedUntil, log := k.log, logCount := k.logCount,
    lTemp := k.lTemp }

/-- The safety store in deep sleep (R17, R464): SAFEC's private memory goes with its domain, and both channels hold
every group in STO. -/
def SafSt.deep (k : SafSt) : SafSt :=
  { k.overReset with chan := #v[({} : ChanSt).allSto true, (k.chan[1]).allSto true], lWarn := k.lWarn }

/-- Ageing over a reset (R499, R506): what is in flash. -/
def AgeSt.overReset (k : AgeSt) : AgeSt :=
  { axes := Vector.ofFn fun a => { hist := k.flashAx[a] },
    items := k.items.map fun x => { x with sum := 0, n := 0 }, lastDaily := k.lastDaily, hist := k.flashHist,
    flashHist := k.flashHist, flashAx := k.flashAx, fwRestarts := k.fwRestarts }

/-- The field I/O die over a device reset (R310): it keeps its inputs, and every output is off. -/
def FioSt.overReset (f : FioSt) : FioSt :=
  { ins := f.ins, cut := f.cut, invalid := f.invalid, fv24 := f.fv24, lowFrom := f.lowFrom, highFrom := f.highFrom,
    lastUp := f.lastUp, lastDown := f.lastDown, dieOff := f.dieOff, pins := f.pins, thermal := f.thermal,
    cfLost := f.cfLost, outOff := f.outOff, uvWarn := f.uvWarn, uvOff := f.uvOff, common := f.uvWarn,
    goodFrom := f.goodFrom }

/-- The power state over a device reset (R452, R453, R473). -/
def PwrSt.overReset (p : PwrSt) (cause detail now : Nat) : PwrSt :=
  { supply := p.supply, bankReq := p.bankReq, t0 := p.t0, nReset := p.nReset, resetAt := now,
    cause := cause, detail := detail, resets := countSat 65535 p.resets,
    pinPos := p.pinPos, pinClaim := p.pinClaim, retention := p.retention, rules := p.rules,
    ruleWord := p.ruleWord, timerS := p.timerS, aonTrip := p.aonTrip, zl := p.zl, zchg := p.zchg,
    wakeFrames := p.wakeFrames, lastSample := p.lastSample, wakeCause := p.wakeCause, wakeIgn := p.wakeIgn }

/-- A trip pin over a reset: its level is the board's. -/
def PinSt.overReset (p : PinSt) : PinSt :=
  { active := p.active, activeFrom := p.activeFrom, inactiveFrom := p.inactiveFrom }

/-- A line encoder port over a reset: its levels are the board's. -/
def PortSt.overReset (p : PortSt) : PortSt := { levelA := p.levelA, levelB := p.levelB }

/-- A device reset (R452): every switched domain is reset; what sits in AON and in flash stays. -/
def State.deviceReset (s : State) (cause detail : Nat) : State :=
  { State.reset with
    nt := s.nt, ib := s.ib, serial := s.serial, macA := s.macA, macB := s.macB,
    host := {},
    par := { flash := s.par.flash, flashGood := s.par.flashGood },
    flt := s.flt.overReset
    pwr := s.pwr.overReset cause detail s.nt
    sec := s.sec.overReset
    axes := s.axes.map fun x => { rea := { first := x.rea.first.overReset } }
    pins := s.pins.map PinSt.overReset
    ports := s.ports.map PortSt.overReset
    fio := s.fio.overReset
    saf := s.saf.overReset
    age := s.age.overReset
    freeCtr := s.freeCtr, out := s.out, pending := s.pending }

/-- A power-on reset (R452): nothing on the controller die survives; flash and fuses do. -/
def State.powerOn (s : State) : State :=
  let t := s.deviceReset 0 0
  { t with
    flt := {}
    pwr := { supply := s.pwr.supply, bankReq := s.pwr.bankReq, nReset := s.pwr.nReset, pinPos := s.pwr.pinPos,
             pinClaim := s.pwr.pinClaim, resetAt := s.nt }
    age := { t.age with fwRestarts := 0 }
    axes := Vector.replicate 128 {} }

/-- Every required supply is valid (R449). -/
def PwrSt.reqOk (p : PwrSt) : Bool :=
  p.supply.getLsbD 0 && p.supply.getLsbD 1 && p.supply.getLsbD 2 && p.supply.getLsbD 3 &&
  (List.range 10).all fun i => !p.bankReq.getLsbD i || p.supply.getLsbD (6 + i)

/-- The instant that the bring-up timeline counts from (R455). -/
def PwrSt.origin (p : PwrSt) : Nat := max p.t0 p.resetAt

/-- The time from a switch-on command to a domain's blocks being usable, ns (R460). -/
def switchTime (d : Nat) : Nat :=
  if d ≤ 9 then us 300 else us 200

/-- A domain is switched on; it is usable after its switch-on time (R460). -/
def State.domOn (s : State) (d : Nat) : State :=
  if s.pwr.domains.getLsbD d then s
  else s.modPwr fun p =>
    { p with domains := p.domains ||| (1#16 <<< d), switching := p.switching ++ [(d, s.nt)] }

/-- A domain is switched off. -/
def State.domOff (s : State) (d : Nat) : State :=
  s.modPwr fun p =>
    { p with domains := p.domains &&& ~~~(1#16 <<< d), switching := p.switching.filter (·.1 != d) }

/-- Event 0x0882 (R474). -/
def State.sleepEvent (s : State) (deep net : Bool) : State :=
  s.event 0x0882 0 (s.pwr.domains.toNat + b2n deep * 65536 + b2n net * 131072)

/-- A line port of a network is enabled, and none of them is looped (R356, R512). -/
def State.netOpen (s : State) (n : Nat) : Bool :=
  let ports := [2 * n, 2 * n + 1]
  (ports.any fun p => s.aonN (Pid.netPEnable p) = 1) && ports.all fun p => !(s.net.ports[fin 4 (by decide) p]).looped

/-- FWD_OK of each network is high while its switch forwards and the network is open (R356). -/
def State.fwdOkSet (s : State) : State :=
  s.modPwr fun p => { p with fwdOkA := p.forwarding && s.netOpen 0, fwdOkB := p.forwarding && s.netOpen 1 }

/-- The switches forward (R355, R356). -/
def State.forwardOn (s : State) : State := (s.modPwr fun p => { p with forwarding := true }).fwdOkSet

/-- A link starts to train (R99, R104): from DOZE it sends WAKE first. -/
def State.linkTrain (s : State) (l : Fin 32) : State :=
  let x := s.links[l]
  if s.axOn (clusterOfLink l) && s.pN (Pid.lnkEnable l.val) = 1 then
    match x.state with
    | .down => s.modLink l fun y => { y.txStart s.nt with state := .train, capNew := false }
    | .doze => (s.modLink l fun y => { y.txStart s.nt with state := .train, capNew := false }).linkSend l
        [.k symWake, .k symIdle]
    | .train | .up | .retrain => s
  else s

/-- A cluster's links lose their controllers with the AX domain (R17, R99, R462): those whose stage
answered DOZE go to DOZE, the others to DOWN. -/
def State.linksOff (s : State) (c : Fin 8) : State :=
  s.each (clusterLinks c) fun t l => (t.leavesUp l).modLink l fun x =>
    { state := if x.dozeAns then .doze else .down, serial := x.serial, beaconMs := x.beaconMs, beaconAt := t.nt,
      killSaf := x.killSaf }

/-- What an axis loses with its AX domain (R17): all that the engine, its trajectory unit (R225), the compare and latch
units hold; the echo of the process image and the axis state stay. -/
def Axis.domOff (x : Axis) : Axis :=
  { x with
    cmp := Vector.replicate 2 {}, lat := Vector.replicate 2 {}, inbox := [], zone := false, zoneEdges := [], swEdges := []
    com := {}, fbk := {}, eng := {}, prf := { seqEcho := x.prf.seqEcho }, hom := {}, gea := {}, stp := {}, pwm := {} }

/-- The blocks of an AX domain lose their state with it (R17): link controllers, trip logic, engine, compare and latch
units. -/
def State.axDomOff (s : State) (c : Fin 8) : State :=
  let s := (s.linksOff c).modPin (fin 8 (by decide) c.val) PinSt.overReset
  let quiet (k : ChanSt) : ChanSt :=
    { k with axes := Vector.ofFn fun a => { k.axes[a] with got := k.axes[a].got && clusterOf a != c } }
  let s := (s.modChan 0 quiet).modChan 1 quiet
  (s.each (clusterAxes c) fun t a => t.modAxis a Axis.domOff).domOff c.val

/-! Percolator rules (R468). -/

/-- KIND of a rule. -/
def rKind (w : Nat) : Nat := bits w 63 60
/-- INDEX. -/
def rIdx (w : Nat) : Nat := bits w 55 48
/-- COND. -/
def rCond (w : Nat) : Nat := bits w 47 45
/-- FILT; 0 counts as 1. -/
def rFilt (w : Nat) : Nat := max 1 (bits w 39 32)
/-- COUNT; 0 counts as 1. -/
def rCount (w : Nat) : Nat := max 1 (bits w 31 24)
/-- WINDOW in ns. -/
def rWindow (w : Nat) : Nat := ms (10 * bits w 23 16)
/-- CLUSTERS. -/
def rClusters (w : Nat) : Nat := bits w 15 8
/-- FW. -/
def rFw (w : Nat) : Bool := bit w 7
/-- EVENT. -/
def rEvent (w : Nat) : Bool := bit w 6

/-- Every rule number. -/
def allRules : List (Fin 32) := (List.range 32).map (fin 32 (by decide))

/-- A level condition that names the cluster holds true (R462, R469). -/
def State.levelHolds (s : State) (c : Fin 8) : Bool :=
  allRules.any fun r =>
    let w := s.pwr.ruleWord[r]
    let x := s.pwr.rules[r]
    decide (1 ≤ rKind w ∧ rKind w ≤ 3) && bit (rClusters w) c.val && x.seen &&
    ((rCond w == 3 && x.level) || (rCond w == 4 && !x.level))

/-- A cluster can go to sleep (R462). -/
def State.canSleep (s : State) (c : Fin 8) : Bool :=
  (clusterAxes c).all (fun a => s.axes[a].state == .off) && !s.levelHolds c

/-- The cluster sleeps. -/
def State.asleep (s : State) (c : Fin 8) : Bool := s.pwr.doze[c] == .asleep

/-- Update of a cluster's way into sleep. -/
def State.setDoze (s : State) (c : Fin 8) (d : DozePhase) : State :=
  s.modPwr fun p => { p with doze := p.doze.set c d }

/-- A cluster is woken (R463): an entry under way is aborted, and links not yet off retrain. -/
def State.wakeCluster (s : State) (c : Fin 8) : State :=
  let up (t : State) : State := t.setDoze c .awake
  match s.pwr.doze[c] with
  | .awake => s.domOn c.val
  | .requested => up s
  | .dozeSent _ => up (s.each (clusterLinks c) fun (t : State) l =>
      (if t.links[l].dozeAns then t.retrainLink l else t).modLink l fun x => { x with dozeSent := false, dozeAns := false })
  | .trafficOff _ => up (s.each (clusterLinks c) fun (t : State) l =>
      (if t.links[l].state == .up then t.retrainLink l else t).modLink l fun x =>
        { x.txStart t.nt with dozeSent := false, dozeAns := false, trafficOff := false })
  | .asleep => (up s).domOn c.val

/-- Clusters of a mask are woken; in deep sleep the exit starts (R464, R470). -/
def State.wakeMask (s : State) (clusters : Nat) (fw : Bool) : State :=
  match s.pwr.deep with
  | .asleep net was =>
    if clusters = 0 ∧ !fw then s
    else
      let s := if net then (s.domOn 10).domOn 11 else s
      ((((s.domOn 8).domOn 14).domOn 9).modPwr fun p =>
        { p with deep := .waking s.nt clusters was, bypassFrom := none }).fwdOkSet
  | .waking t cl was => s.modPwr fun p => { p with deep := .waking t (cl ||| clusters) was }
  | .requested _ =>
    let s := if clusters = 0 ∧ !fw then s else s.modPwr fun p => { p with deep := .awake }
    s.each (allClusters.filter fun c => bit clusters c.val) State.wakeCluster
  | .awake => s.each (allClusters.filter fun c => bit clusters c.val) State.wakeCluster

/-- Sleep and wake decisions of the calls, of AUTO_SLEEP and of requests take effect at a tick (R462,
R463, R471). -/
def State.sleepTick (s : State) : State :=
  let s : State := match s.pwr.sleepAt with
    | none => s
    | some (mask, deep, net) =>
      let s := s.modPwr fun p =>
        { p with sleepAt := none, deep := if deep then .requested net else p.deep }
      s.each (allClusters.filter fun c => bit mask c.val && s.pwr.doze[c] == .awake && s.axOn c)
        fun t c => t.setDoze c .requested
  let s : State := match s.pwr.wakeAt with
    | none => s
    | some m => (s.modPwr fun p => { p with wakeAt := none }).wakeMask m false
  let req := s.pwr.wakeReq.toNat
  let s := if req = 0 then s
    else ((s.modPwr fun p => { p with wakeReq := 0 }).wakeMask req false).varItem 9 [req]
  s.each allClusters fun t c =>
    if t.pwr.doze[c] == .requested then
      if t.canSleep c then
        let ms_ := t.pN Pid.pwrBeaconMs
        let t := t.each (clusterLinks c) fun u l => u.modLink l fun x =>
          if x.state == .up then { x with dozeSent := true, dozeAns := false, beaconMs := ms_ } else x
        t.setDoze c (.dozeSent t.frame.tick)
      else t.setDoze c .awake
    else t

/-- Device time since which every axis of each cluster has been OFF (R462). -/
def State.offTrack (s : State) : State :=
  let off (c : Fin 8) : Bool := (clusterAxes c).all fun a => s.axes[a].state == .off
  s.modPwr fun p =>
    { p with offFrom := Vector.ofFn fun c => if off c then some (p.offFrom[c].getD s.nt) else none }

end Sys2Proof.Machine
end

