-- ==== Sys2Proof/Machine/TwinOps.lean ====
section
/-! DEFINITION. Shared operations of a twin device (chapter 15): a change of its state, epochs, and what the
STAT records show of the token. -/

namespace Sys2Proof.Machine

/-- The twin state changes: interrupt STATE and event 0xB081 (R44, R387). -/
def State.twinTo (s : State) (st : TwinState) : State :=
  if s.twin.state == st then s else
  let d := st.code + s.twin.state.code * 256
  let s := s.modTwin fun k => { k with state := st }
  (s.irq (irqBit 20)).event 0xB081 0 d

/-- An epoch higher than another (R93). -/
def epochHigher (e1 e2 : Nat) : Bool :=
  let d := (e1 + 2 ^ 24 - e2 % 2 ^ 24) % 2 ^ 24
  decide (1 ≤ d ∧ d < 2 ^ 23)

/-- The highest epoch of a list. -/
def highestEpoch : List Nat → Option Nat
  | [] => none
  | e :: rest => match highestEpoch rest with
    | none => some e
    | some f => if epochHigher f e then some f else some e

/-- A new epoch (R396): 1 above the highest that any STAT of an UP link reported in the last 4 periods. -/
def State.newEpoch (s : State) : Nat :=
  let l := s.twin.seen.filterMap fun x => if s.frame.tick < x.2 + 5 * s.tf then some x.1 else none
  match highestEpoch l with
  | none => 1
  | some e => if (e + 1) % 2 ^ 24 = 0 then 1 else (e + 1) % 2 ^ 24

/-- OBEY_VALID of a STAT (R87). -/
def StatRec.valid (r : StatRec) : Bool := bit r.port 6
/-- The obeyed port. -/
def StatRec.obeyed (r : StatRec) : Nat := b2n (bit r.port 7)
/-- The heartbeat is present on a port. -/
def StatRec.hb (r : StatRec) (port : Nat) : Bool := if port = 0 then bit r.port 5 else bit r.port 4
/-- TIME_LOCK. -/
def StatRec.timeLock (r : StatRec) : Bool := bit r.port 3

/-- The port of its stages that the device is wired to (R68). -/
def State.ownPort (s : State) : Nat := s.pwr.strapPos

/-- A STAT of a link counts for the present epoch: its period begins at or after the actuation of the first frame
with it (R396). -/
def State.statCounts (s : State) (l : Fin 32) (periodTick : Nat) : Bool :=
  match s.links[l].firstTick with
  | some t => decide (t ≤ periodTick)
  | none => false

/-- A STAT shows another port, or a higher epoch, obeyed (R396). -/
def State.showsOther (s : State) (r : StatRec) : Bool :=
  r.valid && (r.obeyed != s.ownPort || epochHigher r.epoch s.twin.epoch)

/-- A STAT shows another port or another epoch obeyed (R106). -/
def State.showsLost (s : State) (r : StatRec) : Bool :=
  r.valid && (r.obeyed != s.ownPort || r.epoch != s.twin.epoch)

/-- The latest STAT of a link shows another port, or a higher epoch, obeyed, in a period that counts. -/
def State.linkYielded (s : State) (l : Fin 32) : Bool :=
  match s.links[l].stat with
  | some r => s.statCounts l s.links[l].statTick && s.showsOther r
  | none => false

/-- A link allows this device's frames (R396): after its first frame with the epoch, the STAT of the last 2 periods
shows this port, this epoch and a lease. -/
def State.linkAllowed (s : State) (l : Fin 32) : Bool :=
  let x := s.links[l]
  match x.firstTick, x.stat with
  | none, _ => true
  | some _, none => false
  | some _, some r =>
    s.statCounts l x.statTick && decide (s.frame.tick ≤ x.statTick + 2 * s.tf) && r.valid &&
    r.obeyed == s.ownPort && r.epoch == s.twin.epoch && decide (0 < r.leaseLeft)

/-- A new epoch is chosen (R396): no frame of it has been sent yet. -/
def State.chooseEpoch (s : State) : State :=
  let e := s.newEpoch
  let s := s.modTwin fun k => { k with epoch := e }
  { s with links := s.links.map fun x => { x with firstTick := none } }

/-- SYNCING begins (R387): nothing is known of a partner yet. -/
def State.startSyncing (s : State) : State :=
  (s.twinTo .syncing).modTwin fun k =>
    { k with startFrom := none, commitRun := 0, noCommit := 0, bulk := false, bulkDone := false, lastFc := none,
             resigned := false, dry := Vector.replicate 2 4, retMiss := 8, half := Vector.replicate 2 none,
             applied := [], partner := 5, split := false, splitGood := 0, trkDiff := 0, splitLease := 0,
             resign := false, resignSent := false, items := [], carried := [] }

/-- The device becomes ACTIVE (R387, R396): it chooses an epoch, and takes its links' slots as configured, since the
stages answer on both ports. -/
def State.becomeActive (s : State) : State :=
  let s := (s.twinTo .active).chooseEpoch
  let s := s.modTwin fun k =>
    { k with resign := false, resignSent := false, resigned := false, items := [], carried := [], bulk := false, bulkSent := 0,
             retMiss := 0, retRun := 0, startFrom := none, axSig := Vector.replicate 128 [] }
  { s with links := s.links.map fun x =>
      if x.state == .up then { x with slotCfg := x.slotCfg.map fun c => { c with ok := true, due := false }, dtAcked := true }
      else x }

/-- An ACTIVE device with a partner in SYNCING or STANDBY (R390, R394). -/
def State.paired (s : State) : Bool := s.twin.state == .active && (s.twin.partner == 1 || s.twin.partner == 2)

/-- The latest STAT of a link shows a fresh lease, on either port (R387, R398). -/
def State.leaseFresh (s : State) (l : Fin 32) : Bool :=
  match s.links[l].stat with
  | some r => r.valid && decide (0 < r.leaseLeft) && decide (s.frame.tick ≤ s.links[l].statTick + 2 * s.tf)
  | none => false

/-- Links that are UP. -/
def State.upLinks (s : State) : List (Fin 32) :=
  allLinks.filter fun l => s.axOn (clusterOfLink l) && s.links[l].state == .up

/-- The partner answers on a twin link (R387). -/
def State.partnerAnswers (s : State) : Bool :=
  decide (s.twin.retMiss < 8) || decide (s.twin.dry[0] < 4) || decide (s.twin.dry[1] < 4)

/-- Bookkeeping of a twin device at a tick (R387, R392, R395, R398, R399). -/
def State.twinTick (s : State) : State :=
  if s.twin.state == .solo then s.modTrk fun k => { k with touched := [] } else
  let fresh := s.upLinks.any s.leaseFresh
  let wait := s.twin.state == .syncing && !fresh && !s.partnerAnswers
  let mixed := s.twin.state == .standby && fresh && s.upLinks.any fun l => !s.leaseFresh l
  let odd := s.twin.split && s.frame.fc % 2 == 1
  let s : State := if s.paired then s else s.modTrk fun k => { k with touched := [] }
  s.modTwin fun k =>
    let both := decide (k.dry[0] = 0) && decide (k.dry[1] = 0)
    { k with retMiss := if k.retGot then 0 else k.retMiss + 1
             retGot := false
             retRun := if odd then k.retRun else if k.retGot && k.retFc != k.retFcPrev then k.retRun + 1 else 0
             retFcPrev := if odd then k.retFcPrev else k.retFc
             splitGood := if k.split && both then k.splitGood + 1 else 0
             dry := k.dry.map (· + 1)
             startFrom := if wait then some (k.startFrom.getD s.nt) else none
             splitLease := if mixed then k.splitLease + 1 else 0 }

/-- The partner's return block shows a link UP (R392, R399). -/
def State.partnerUp (s : State) (l : Fin 32) : Bool := s.twin.retUp.getLsbD l.val

/-- A resign for a link that goes from UP to RETRAIN is due (R399). -/
def State.resignsFor (s : State) (l : Fin 32) : Bool :=
  s.twin.state == .active && s.pN Pid.twinResignLink = 1 && s.twin.partner == TwinState.standby.code &&
  s.partnerUp l

end Sys2Proof.Machine
end

