-- ==== Sys2Proof/Machine/Power.lean ====
section
/-! DEFINITION. Supplies, resets, the first steps of bring-up, sleep, deep sleep and the Percolator
(R449 to R473). -/

namespace Sys2Proof.Machine

/-! Supplies and resets. -/

/-- A supply becomes valid (R449): with the last required one, T0. -/
def execSupplyValid (i : Fin 16) (tm : Nat) (s : State) : Host.Outcome State Fault Refusal :=
  let s := s.adv tm
  .next (s.modPwr fun p =>
    let q := { p with supply := p.supply ||| (1#16 <<< i.val) }
    if q.reqOk && !p.reqOk then { q with t0 := s.nt } else q)

/-- VISO fails (R11, R310): the field I/O die has no power; every output and safety output is off. -/
def State.visoLost (s : State) : State :=
  let s := s.modFio fun f => { f with dieOff := true, outOff := true, cmd := 0, goodFrom := none }
  let bad (c : ChanSt) : ChanSt :=
    { c with pairs := c.pairs.map fun x => { x with demand := true, goodFrom := none } }
  let s := (s.modChan 0 bad).modChan 1 bad
  if s.safOn then (s.safEval 0).safEval 1 else s.soUpdate

/-- VDD_SAF fails (R406, R449): the L-channel and its heartbeats stop. -/
def State.vsafLost (s : State) : State :=
  if !s.ib then s else
  (s.modChan 1 fun c =>
    { c with groups := c.groups.map fun g => { g with state := .sto }, telOpen := false, telOk := false }).soUpdate

/-- A supply becomes invalid (R449, R452). -/
def execSupplyInvalid (i : Fin 16) (tm : Nat) (s : State) : Host.Outcome State Fault Refusal :=
  let s := s.adv tm
  let was := s.pwr.supply.getLsbD i.val
  let s := s.modPwr fun p => { p with supply := p.supply &&& ~~~(1#16 <<< i.val) }
  let n := i.val
  .next (if !was then s
    else if n = 0 then s.powerOn
    else if n ≤ 3 then s.deviceReset 2 n
    else if n = 4 then s.vsafLost
    else if n = 5 then s.visoLost
    else if s.pwr.bankReq.getLsbD (n - 6) then s.deviceReset 2 (4 + (n - 6))
    else s)

/-- The level of FL_nRESET (R535): low throughout a device reset, which nRESET_OUT ends. -/
def PwrSt.flashReset (p : PwrSt) : Bool := p.resetOut

/-- nRESET low for 1 µs (R454). -/
def execNresetAssert (tm : Nat) (s : State) : Host.Outcome State Fault Refusal :=
  let s := s.adv tm
  .next ((s.modPwr fun p => { p with nReset := false }).deviceReset 1 0)

/-- nRESET is released (R454, R455). -/
def execNresetRelease (tm : Nat) (s : State) : Host.Outcome State Fault Refusal :=
  let s := s.adv tm
  .next (if s.pwr.nReset then s else s.modPwr fun p => { p with nReset := true, resetAt := s.nt })

/-- The reference clock is missing for 10 µs (R452). -/
def execClockMissing (tm : Nat) (s : State) : Host.Outcome State Fault Refusal :=
  .next ((s.adv tm).deviceReset 4 0)

/-- nRESET_OUT goes high (R444, R454, R455): the straps are sampled, the log takes its RESET entry, and
NETA, NETB, CORE and CRY are switched on. -/
def execResetOutRelease (pos claim : Bool) (tm : Nat) (s : State) : Host.Outcome State Fault Refusal :=
  let s := s.adv tm
  let p := s.pwr
  if p.state == .reset && p.reqOk && p.nReset && !p.resetOut && p.origin + us 500 ≤ s.nt then
    let s := s.modPwr fun p =>
      { p with resetOut := true, strapPos := b2n pos, strapClaim := claim, pinPos := b2n pos,
               pinClaim := claim }
    let e : LogEntry :=
      { seq := 0, nt := s.nt, fc := 0, code := 0, inst := 0, applied := 0, dflt := 0, override := false,
        first := false, kind := .reset, data := s.reg 0x01C }
    let s := s.modFlt fun f => (f.write e).1
    .next ((((s.domOn 10).domOn 11).domOn 8).domOn 14)
  else .next s

/-- The switches forward again from 1.7 ms after the wake decision of deep sleep on (R465). -/
def DeepPhase.forwardDue (d : DeepPhase) (now : Nat) : Bool :=
  match d with
  | .waking t _ _ => t + us 1700 ≤ now
  | .awake | .requested _ | .asleep _ _ => true

/-- The switches forward and FWD_OK goes high (R355, R356, R455, R465). -/
def execForwardingStart (tm : Nat) (s : State) : Host.Outcome State Fault Refusal :=
  let s := s.adv tm
  let nets := s.domainOn 10 && s.domainOn 11
  if s.pwr.state == .reset then
    .next (if s.pwr.resetOut && nets && s.pwr.origin + ms 2 ≤ s.nt then
      s.forwardOn.setDev .boot else s)
  else .next (if nets && !s.pwr.forwarding && s.pwr.deep.forwardDue s.nt then s.forwardOn else s)

/-- The ROM verifies a slot and chooses it (R455, R478, R479). -/
def execBootVerify (tm : Nat) (s : State) : Host.Outcome State Fault Refusal :=
  let s := s.adv tm
  if s.pwr.state == .boot && !s.pwr.verified && s.domainOn 8 && s.domainOn 14 then
    let s := s.modSec SecSt.select
    .next (s.modPwr fun p => { p with verified := s.sec.bootable })
  else .next s

/-- A page fails its page-table entry (R478): the slot is marked bad and the device resets. -/
def execPageCheckFail (tm : Nat) (s : State) : Host.Outcome State Fault Refusal :=
  let s := s.adv tm
  if s.pwr.verified && s.pwr.state == .boot then
    let i : Fin 2 := fin 2 (by decide) s.sec.running
    .next ((s.modSec fun k =>
      { k with dirSeq := k.dirSeq + 1, slots := k.slots.set i { k.slots[i] with bad := true } }).deviceReset 3 0)
  else .next s

/-- The frame counter starts with the time base (R21). -/
def State.startTicks (s : State) : State :=
  s.modFrame fun f =>
    let k := s.nt / tfOf f.tf
    { f with ticking := true, fc := k % 2 ^ 32, tick := k * tfOf f.tf }

/-- Parameters of some classes come from the saved set (R455, R457). -/
def State.restoreClasses (s : State) (hit : Nat → Bool) : State :=
  match s.par.flash with
  | some l => if s.par.flashGood then
      s.modPar fun p => { p with store := (l.filter fun e => hit (idClass e.id)).foldl storePut p.store } else s
  | none => s

/-- Ristretto service begins (R455, R456, R479). -/
def execRistretto (tm : Nat) (s : State) : Host.Outcome State Fault Refusal :=
  let s := s.adv tm
  if s.pwr.state == .boot && s.pwr.verified && s.pwr.origin + ms 30 ≤ s.nt then
    let s := (s.restoreClasses fun c => c == 0x30 || c == 0x31).fwdOkSet
    let s := s.modPwr fun p => { p with ristrettoT := (s.nt - p.origin) / 1000 }
    let s := s.startTicks.setDev .ristretto
    let s := s.each ([9, 12, 13, 15] ++ List.range 8) State.domOn
    let s := if s.sec.fallback then s.raise 0x8001 0 [] else s
    .next (if s.sec.rollback then s.raise 0x8002 0 [] else s)
  else .next s

/-! Calls of class PWR (R459, R471). -/

/-- PWR.OPERATE (R459). -/
def execPwrOperate (m : Fin 16) (tm : Nat) (s : State) : Host.Outcome State Fault Refusal :=
  .next (s.serveCall m tm 0x0800F001 0 fun t _ => match t.pwr.state with
    | .config => .done (t.setDev .operate)
    | .operate => .done t
    | .reset | .boot | .ristretto | .service | .safe => .fail stState)

/-- PWR.CONFIG (R459). -/
def execPwrConfig (m : Fin 16) (tm : Nat) (s : State) : Host.Outcome State Fault Refusal :=
  .next (s.serveCall m tm 0x0800F002 0 fun t _ =>
    if !t.allOff then .fail stState
    else match t.pwr.state with
      | .operate => .done (t.setDev .config)
      | .config => .done t
      | .reset | .boot | .ristretto | .service | .safe => .fail stState)

/-- PWR.RESET (R471): the reset follows 1 ms after the answer. -/
def execPwrReset (m : Fin 16) (tm : Nat) (s : State) : Host.Outcome State Fault Refusal :=
  .next (s.serveCall m tm 0x0800F003 0 fun t _ =>
    .done (t.modPwr fun p => { p with callReset := some t.nt }))

/-- 1 ms after PWR.RESET answered (R471). -/
def execCallReset (tm : Nat) (s : State) : Host.Outcome State Fault Refusal :=
  let s := s.adv tm
  match s.pwr.callReset with
  | some t => .next (if t + ms 1 ≤ s.nt then s.deviceReset 3 0 else s)
  | none => .next s

/-- PWR.SLEEP (R460 to R465, R471): for all named clusters or for none. -/
def execPwrSleep (m : Fin 16) (tm : Nat) (s : State) : Host.Outcome State Fault Refusal :=
  .next (s.serveCall m tm 0x0800F004 2 fun t p =>
    let mask := fld p 0 1
    let fl := fld p 1 1
    let deep := bit fl 0
    let named (c : Fin 8) : Bool := bit mask c.val
    let waking := match t.pwr.wakeAt with
      | some w => w &&& mask
      | none => 0
    if 3 < fl ∨ (bit fl 1 ∧ !deep) then .fail stRange
    else if (allClusters.any fun c => named c && !(t.asleep c) && !(t.canSleep c)) ∨ waking ≠ 0 ∨
        t.pwr.wakeReq.toNat &&& mask ≠ 0 then .fail stState
    else if deep ∧ ((allClusters.any fun c => !(named c || t.asleep c)) ∨
        !(t.cap.state == .idle || t.cap.state == .done || t.cap.state == .stopped)) then .fail stState
    else .done ((t.modPwr fun k => { k with sleepAt := some (mask, deep, bit fl 1) }).varItem 8 [mask, fl]))

/-- PWR.WAKE (R463, R471). -/
def execPwrWake (m : Fin 16) (tm : Nat) (s : State) : Host.Outcome State Fault Refusal :=
  .next (s.serveCall m tm 0x0800F005 1 fun t p =>
    .done ((t.modPwr fun k => { k with wakeAt := some ((k.wakeAt.getD 0) ||| fld p 0 1) }).varItem 9 [fld p 0 1]))

/-! Cluster sleep and deep sleep. -/

/-- A cluster with AUTO_SLEEP has been OFF for IDLE_T (R462). -/
def execAutoSleep (c : Fin 8) (tm : Nat) (s : State) : Host.Outcome State Fault Refusal :=
  let s := s.adv tm
  match s.pwr.offFrom[c] with
  | some t =>
    .next (if s.fwRuns && s.pN (Pid.pwrCAutoSleep c.val) = 1 && s.pwr.doze[c] == .awake && s.axOn c &&
        s.canSleep c && s.drives && t + secs (s.pN (Pid.pwrCIdleT c.val)) ≤ s.nt then
      (s.setDoze c .requested).varItem 8 [2 ^ c.val, 0] else s)
  | none => .next s

/-- Downstream traffic stops on the cluster's links (R462): answered, or 2 frames after DOZE. -/
def execDozeTrafficStop (c : Fin 8) (tm : Nat) (s : State) : Host.Outcome State Fault Refusal :=
  let s := s.adv tm
  match s.pwr.doze[c] with
  | .dozeSent t =>
    let all := (clusterLinks c).all fun l => !s.links[l].dozeSent || s.links[l].dozeAns
    .next (if all || t + 2 * s.tf ≤ s.nt then
      (s.each (clusterLinks c) fun u l => u.modLink l fun x => { x with trafficOff := true }).setDoze c
        (.trafficOff s.nt) else s)
  | .awake | .requested | .trafficOff _ | .asleep => .next s

/-- 100 µs later AXc is switched off (R462). -/
def execAxDomainOff (c : Fin 8) (tm : Nat) (s : State) : Host.Outcome State Fault Refusal :=
  let s := s.adv tm
  match s.pwr.doze[c] with
  | .trafficOff t =>
    .next (if t + us 100 ≤ s.nt then ((s.axDomOff c).setDoze c .asleep).sleepEvent false false else s)
  | .awake | .requested | .dozeSent _ | .asleep => .next s

/-- Every cluster sleeps, and the firmware has been idle for FW_IDLE_T (R464). -/
def State.deepIdle (s : State) : Bool :=
  allClusters.all (fun c => s.asleep c) && s.fwRuns && s.pN Pid.pwrFwSleep = 1 && s.drives &&
  decide (s.pwr.lastCmd + secs (s.pN Pid.pwrFwIdleT) ≤ s.nt) &&
  (s.cap.state == .idle || s.cap.state == .done || s.cap.state == .stopped)

/-- Deep sleep is due: called with DEEP, or the firmware idle for FW_IDLE_T (R464). -/
def State.deepDue (s : State) : Option Bool :=
  let all := allClusters.all fun c => s.asleep c
  match s.pwr.deep with
  | .requested net => if all then some net else none
  | .awake => if s.deepIdle && !s.paired then some false else none
  | .asleep _ _ | .waking _ _ _ => none

/-- Entry into deep sleep (R464 to R466): pending mailboxes are answered BUSY, sessions end, the committed
values go to the retention store, and every switched domain but NETA and NETB goes off. -/
def State.deepEntry (s : State) (net : Bool) : State :=
  let s := s.each (allMbx.filter fun m => s.mbx[m].state == .pending || s.mbx[m].state == .executing)
    fun t m => t.abortMbx m stBusy 0 false
  let s := s.endSessions
  let was := s.pwr.state
  let s := s.each (allCtx.filter fun i => s.trk.ctx[i].state != .free) fun t i => t.ctxFree i 4
  let s := (s.each [12, 13, 15, 9, 14, 8] State.domOff).sleepEvent true net
  { s with
    pwr := { s.pwr with deep := .asleep net was, retention := some s.par.store,
                        bypassFrom := if net then some s.nt else none,
                        fwdOkA := s.pwr.fwdOkA && !net, fwdOkB := s.pwr.fwdOkB && !net }
    par := { flash := s.par.flash, flashGood := s.par.flashGood }
    host := {}
    pi := {}
    mbx := Vector.replicate 16 {}
    trk := {}, cap := {}, twin := {}
    ports := s.ports.map PortSt.overReset
    saf := s.saf.deep
    axes := s.axes.map fun x => { state := if s.ib then .sto else .off, rea := x.rea }
    frame := {} }

/-- Deep sleep is entered (R464); an idle active with a partner takes the decision, which its image carries
(R466). -/
def execDeepSleepEntry (tm : Nat) (s : State) : Host.Outcome State Fault Refusal :=
  let s := s.adv tm
  match s.deepDue with
  | some net => .next (s.deepEntry net)
  | none => .next (if s.pwr.deep == .awake && s.deepIdle && s.pwr.sleepAt.isNone then
      (s.modPwr fun k => { k with sleepAt := some (0, true, false) }).varItem 8 [0, 1] else s)

/-- BYPASS_LEAD after FWD_OK went low, the network's domain is switched off (R356, R465). -/
def execBypassLeadEnd (net : Fin 2) (tm : Nat) (s : State) : Host.Outcome State Fault Refusal :=
  let s := s.adv tm
  let lead := s.aonN Pid.netBypassLead
  match s.pwr.bypassFrom with
  | some t =>
    if t + ms lead ≤ s.nt then
      let s := s.domOff (10 + net.val)
      let s := s.modPwr fun p => { p with forwarding := false }
      .next (s.modNet fun n =>
        { n with units := n.units.set net {}, rx := n.rx.filter fun f => netOf f.port != net.val,
                 ports := Vector.ofFn fun i => if netOf i.val = net.val then {} else n.ports[i] })
    else .next s
  | none => .next s

/-! Beacons and the Percolator. -/

/-- A beacon burst of a dozing stage (R103) with ZL: levels in [3:0], changes since the burst before in [7:4]; a
burst whose halves disagree is ignored. -/
def execBeacon (l : Fin 32) (valid : Bool) (zl : BitVec 8) (tm : Nat) (s : State) :
    Host.Outcome State Fault Refusal :=
  let s := s.adv tm
  if valid && s.links[l].state == .doze then
    let s := s.modLink l fun x => { x with beaconAt := s.nt, beaconLost := false }
    .next (s.modPwr fun p =>
      { p with zl := p.zl.set l (zl.toNat % 16), zchg := p.zchg.set l (p.zchg[l] ||| zl.toNat / 16) })
  else .next s

/-- No valid burst for 5 beacon periods (R103). -/
def execBeaconLost (l : Fin 32) (tm : Nat) (s : State) : Host.Outcome State Fault Refusal :=
  let s := s.adv tm
  let x := s.links[l]
  if x.state == .doze && !x.beaconLost && x.beaconAt + 5 * ms x.beaconMs ≤ s.nt then
    .next ((s.modLink l fun x => { x with beaconLost := true }).raise 0x200A l.val (linkAxes l))
  else .next s

/-- The level of a rule's source at a sample, none where it never matches, and whether two edges hide in it (R467). -/
def State.ruleLevel (s : State) (w : Nat) : Option (Bool × Bool) :=
  let i := rIdx w
  match rKind w with
  | 1 => if s.fio.invalid then none else some (s.finLevel (fin 40 (by decide) i), false)
  | 2 =>
    let p := s.pins[fin 8 (by decide) i]
    some (p.active || s.pwr.aonTrip.getLsbD i, s.pwr.aonTrip.getLsbD i && !p.active)
  | 3 =>
    let l := linkNo (i / 4)
    some (bit s.pwr.zl[l] (i % 4), bit s.pwr.zchg[l] (i % 4))
  | _ => none

/-- What a rule makes of a sample (R469): its state, and how often it matched. -/
def RuleSt.sample (x : RuleSt) (w : Nat) (lv hidden : Bool) : RuleSt × Nat :=
  let c := rCond w
  let isNew := !x.seen || lv != x.level
  let run := if isNew then x.run + 1 else 0
  if isNew && decide (rFilt w ≤ run) then
    let edge := x.seen
    let up := lv && edge && (c == 0 || c == 2)
    let dn := !lv && edge && (c == 1 || c == 2)
    let hold := (c == 3 && lv) || (c == 4 && !lv)
    ({ x with level := lv, seen := true, run := 0 }, b2n (up || dn || hold))
  else if x.seen && !isNew && hidden && decide (rFilt w ≤ 1) then
    ({ x with run := 0 }, if c = 2 then 2 else if c = 0 ∨ c = 1 then 1 else 0)
  else ({ x with run := run }, 0)

/-- Matches counted within the window (R469): whether the rule fires. -/
def RuleSt.matches (x : RuleSt) (w n now : Nat) : RuleSt × Bool :=
  if n = 0 then (x, false) else
  let fresh := x.count = 0 ∨ (rWindow w ≠ 0 ∧ x.first + rWindow w < now)
  let cnt := (if fresh then 0 else x.count) + n
  let first := if fresh then now else x.first
  if rCount w ≤ cnt then ({ x with count := 0, first := first }, true)
  else ({ x with count := cnt, first := first }, false)

/-- The clusters of a mask that sleep or are on their way into sleep. -/
def State.notAwake (s : State) (mask : Nat) : Nat :=
  allClusters.foldl (fun n c => n + b2n (bit mask c.val && s.pwr.doze[c] != .awake) * 2 ^ c.val) 0

/-- A wake decision of the Percolator (R466, R470): a standby passes it to the active, an active with a partner
carries it in its image, and any other device, or one in deep sleep, wakes at once. -/
def State.percWake (s : State) (clusters : Nat) (fw : Bool) : State :=
  let m := s.notAwake clusters
  match s.pwr.deep with
  | .asleep _ _ | .waking _ _ _ => s.wakeMask clusters fw
  | .awake | .requested _ =>
    if s.twin.state == .standby then s.modTwin fun k => { k with wakePass := k.wakePass ||| BitVec.ofNat 8 m }
    else if s.paired && decide (m ≠ 0) then
      (s.modPwr fun p => { p with wakeAt := some ((p.wakeAt.getD 0) ||| m) }).varItem 9 [m]
    else s.wakeMask clusters fw

/-- Rules fire (R469, R470): each with its clusters and firmware wake, and its source bit of WAKE_CAUSE. -/
def State.fireRules (s : State) (fired : List (Fin 32 × Nat × Bool × Nat)) : State :=
  match fired with
  | [] => s
  | (r0, _) :: _ =>
    let cl := fired.foldl (fun n x => n ||| x.2.1) 0
    let fw := fired.any (·.2.2.1)
    let src := fired.foldl (fun n x => n ||| x.2.2.2) 0
    let s := s.modPwr fun p =>
      { p with wakeCause := r0.val + 32 + src * 256 + cl * 65536 + b2n fw * 2 ^ 24 }
    let s := s.each fired fun t x =>
      if rEvent t.pwr.ruleWord[x.1] then
        t.event 0x0881 0 (x.1.val + x.2.1 * 256 + b2n x.2.2.1 * 65536 + t.nt % 2 ^ 32 * 2 ^ 32)
      else t
    s.percWake cl fw

/-- The sources of WAKE_CAUSE [11:8]. -/
def srcBit (kind : Nat) : Nat :=
  match kind with
  | 1 => 1 | 2 => 2 | 3 => 4 | _ => 8

/-- The Percolator samples its sources every 100 µs (R467 to R470). -/
def execPercolatorSample (tm : Nat) (s : State) : Host.Outcome State Fault Refusal :=
  let s := s.adv tm
  if s.nt < s.pwr.lastSample + us 100 then .next s else
  let one (acc : State × List (Fin 32 × Nat × Bool × Nat)) (r : Fin 32) :
      State × List (Fin 32 × Nat × Bool × Nat) :=
    let (t, l) := acc
    let w := t.pwr.ruleWord[r]
    match t.ruleLevel w with
    | none => acc
    | some (lv, hidden) =>
      let (x, n) := (t.pwr.rules[r]).sample w lv hidden
      let (x, fire) := x.matches w n t.nt
      let t := t.modPwr fun p => { p with rules := p.rules.set r x }
      (t, if fire then l ++ [(r, rClusters w, rFw w, srcBit (rKind w))] else l)
  let (s, fired) := allRules.foldl one (s, [])
  let wakes := allRules.filter fun r => rKind s.pwr.ruleWord[r] == 4
  let frames := s.pwr.wakeFrames
  let woken := frames.flatMap fun f => wakes.map fun r =>
    let w := s.pwr.ruleWord[r]
    (r, rClusters w &&& f.1, rFw w && bit f.2 0, 8)
  let ign := if wakes.isEmpty then frames.length else 0
  let s := s.modPwr fun p =>
    { p with wakeFrames := [], aonTrip := 0, zchg := Vector.replicate 32 0, lastSample := s.nt,
             wakeIgn := (List.replicate ign ()).foldl (fun n _ => count32 n) p.wakeIgn }
  let all := fired ++ woken
  .next (s.fireRules (allRules.flatMap fun r => all.filter (·.1 == r)))

/-- A timer rule's period ends (R469). -/
def execPercTimer (r : Fin 32) (tm : Nat) (s : State) : Host.Outcome State Fault Refusal :=
  let s := s.adv tm
  let w := s.pwr.ruleWord[r]
  let per := secs s.pwr.timerS[fin 4 (by decide) (rIdx w)]
  let x := s.pwr.rules[r]
  if rKind w = 5 ∧ x.timerFrom + per ≤ s.nt then
    let s := s.modPwr fun p => { p with rules := p.rules.set r { x with timerFrom := x.timerFrom + per } }
    .next (s.fireRules [(r, rClusters w, rFw w, 8)])
  else .next s

end Sys2Proof.Machine
end

