-- ==== Sys2Proof/Machine/Links.lean ====
section
/-! DEFINITION. The Dunar links (chapter 04): the time base, upstream packets and their records, training,
SERVICE messages and dead times. -/

namespace Sys2Proof.Machine

/-- The link is UP. -/
def State.linkIsUp (s : State) (l : Fin 32) : Bool := s.linkOn l && s.links[l].state == .up

/-- A link's transmitter carries frame traffic: on, and not stopped for DOZE (R102). -/
def State.linkTx (s : State) (l : Fin 32) : Bool := s.linkOn l && !s.links[l].trafficOff

/-- The CRC16 of the link (R78). -/
def linkCrc (bs : List Byte) : Nat := crcL 16 0x1021 0xFFFF bs

/-! Time transfer. -/

/-- The instant of an event of the frame that goes at the first symbol boundary at or after tick + `ofs` (R73, R75). -/
def State.atSymbol (s : State) (ofs : Nat) : Bool :=
  decide (s.frame.tick + ofs ≤ s.nt ∧ s.nt < s.frame.tick + ofs + symNs)

/-- The bytes of a SYNC that departs at `t` (R73): device time at its arrival at the stage, to the nearest 1/256 ns as in
the worked example of R77, and RATE. -/
def State.syncBytes (s : State) (l : Fin 32) (t : Nat) : List Byte :=
  let q : Rat := (t : Rat) + s.linkDelay l / 1000
  let n := (roundEven (q * 256)).toNat
  let b := leBytes 8 (n / 256) ++ leBytes 1 (n % 256) ++ leBytes 4 (ofSigned 32 s.net.rate)
  b ++ leBytes 1 (crcL 8 0x07 0 b)

/-- A SYNC sequence leaves, one in a frame, at the first symbol boundary at or after tick + 1.0 µs (R73, R77). -/
def execSyncSend (l : Fin 32) (tm : Nat) (s : State) : Host.Outcome State Fault Refusal :=
  let s := s.adv tm
  if s.linkTx l && s.atSymbol (us 1) && s.links[l].syncTick != some s.frame.tick then
    let s := s.modLink l fun x => { x with syncTick := some s.frame.tick }
    .next (s.linkSend l (.k symSync :: (s.syncBytes l (s.txAt l)).map .d))
  else .next s

/-- A DREQ leaves, one in a frame, at tick + 2.0 µs, and is stamped (R75, R77). -/
def execDreqSend (l : Fin 32) (tm : Nat) (s : State) : Host.Outcome State Fault Refusal :=
  let s := s.adv tm
  if s.linkTx l && s.atSymbol (us 2) && s.links[l].dreqTick != some s.frame.tick then
    .next ((s.modLink l fun x => { x with t1 := some (s.txAt l), dreqTick := some s.frame.tick }).linkSend l [.k symDreq])
  else .next s

/-- A DRSP arrives (R75): the round trip in 0.25 ns is accepted within 4 ns of the mean, or discarded.  DESIGN CHOICE
(log 153): while no mean exists yet, the first round trip is accepted. -/
def LinkSt.roundTrip (x : LinkSt) (t1 t4 turn : Nat) : LinkSt :=
  let rt : Int := 4 * ((t4 : Int) - (t1 : Int)) - (turn : Int)
  if x.rts.isEmpty || decide (rabs ((rt : Rat) - meanInt x.rts) ≤ 16) then
    { x with rts := pushN 16 rt x.rts, discards := 0, t1 := none }
  else { x with discards := x.discards + 1, t1 := none }

/-- A DRSP arrives, with the turnaround of its DREQ (R75). -/
def execDrspReceive (l : Fin 32) (turn tm : Nat) (s : State) : Host.Outcome State Fault Refusal :=
  let s := s.adv tm
  match s.links[l].t1 with
  | some t1 => .next (if s.linkOn l && turn != 0 then s.modLink l fun x => x.roundTrip t1 s.nt turn else s)
  | none => .next s

/-- 8 discards in a row, or TIME_LOCK clear while UP (R75, R106). -/
def execTimeUnstable (l : Fin 32) (tm : Nat) (s : State) : Host.Outcome State Fault Refusal :=
  let s := s.adv tm
  let x := s.links[l]
  let unlocked := x.state == .up && x.stat.any (fun r => !r.timeLock)
  .next (if s.linkOn l && (decide (8 ≤ x.discards) || unlocked) then s.raise 0x2004 l.val (linkAxes l) else s)

/-! Upstream packets. -/

/-- A piece of a packet: a record of a slot, a status record, or a SERVICE answer. -/
inductive Piece
  | rcd (slot low : Nat) (r : UpRec)
  | stat (r : StatRec)
  | srv (msg : Nat) (pay : List Byte)
deriving DecidableEq, Repr

/-- The record of a type byte and what follows it, with the bytes after it (R86); none for a type that R86
does not give. -/
def parsePiece (ty : Nat) (b : List Byte) : Option (Piece × List Byte) :=
  let slot := bits ty 3 2
  let low := bits ty 1 0
  let ofs := fld b 0 2 + low % 2 * 65536
  match ty / 16 with
  | 1 =>
    let w := fld b 0 2
    some (.rcd slot low (.cur low (bit w 15) (bit w 14) (toSigned 12 w)), b.drop 2)
  | 2 => some (.rcd slot low (.volt low (bits (fld b 0 2) 11 0)), b.drop 2)
  | 3 => some (.rcd slot low (.zc (bit ty 1) ofs), b.drop 2)
  | 4 =>
    let n := fld b 0 1
    some (.rcd slot low (.dly low (((b.drop 1).take n).map BitVec.toNat)), b.drop (1 + n))
  | 5 => match low with
    | 0 => some (.rcd slot low (.hall (fld b 0 1) (fld b 1 3 % 2 ^ 17)), b.drop 4)
    | 1 => some (.rcd slot low (.inc (fld b 0 4) (fld b 4 1) (fld b 5 3 % 2 ^ 17) (bit (fld b 5 3) 23)), b.drop 8)
    | 2 => some (.rcd slot low (.sincos (toSigned 16 (fld b 0 2)) (toSigned 16 (fld b 2 2))), b.drop 4)
    | _ => some (.rcd slot low (.serial (fld b 0 1) (fld b 1 8) (fld b 9 1)), b.drop 10)
  | 6 => some (.rcd slot low (.zone (bit ty 1) ofs), b.drop 2)
  | 7 => some (.stat
      { slots := fld b 0 1, port := fld b 1 1, epoch := fld b 2 3, leaseLeft := fld b 5 1, flags := fld b 6 1,
        vbus := fld b 7 2
        temp := Vector.ofFn fun k => toSigned 8 (fld b (9 + k.val) 1)
        turn := fld b 13 2 }, b.drop 15)
  | 8 => some (.rcd slot low (.tripr low (fld b 0 3)), b.drop 3)
  | 15 => some (.srv (fld b 0 1) ((b.drop 2).take (fld b 1 1)), b.drop (2 + fld b 1 1))
  | _ => none

/-- The pieces of a packet's records. -/
def parsePieces : Nat → List Byte → List Piece
  | 0, _ => []
  | _ + 1, [] => []
  | n + 1, t :: rest => match parsePiece t.toNat rest with
    | none => []
    | some (p, b) => p :: parsePieces n b

/-- The tick of the frame whose actuation period a packet names by FC[1:0] (R85): the latest that has begun. -/
def State.periodTick (s : State) (h : Nat) : Nat :=
  let d := (s.frame.fc % 4 + 4 - h % 4) % 4
  let d := if d = 0 ∧ s.nt < s.act then 4 else d
  s.frame.tick - d * s.tf

/-- The current of a CUR record in A (R86). -/
def State.curA (s : State) (l : Fin 32) (v : Int) : Rat :=
  match s.links[l].cap with
  | some c => (v : Rat) * (c.iFs : Rat) / 2047 / 1000
  | none => 0

/-- The voltage of a VOLT record in V (R86). -/
def State.voltV (s : State) (l : Fin 32) (v : Nat) : Rat :=
  match s.links[l].cap with
  | some c => (v : Rat) * (c.vFs : Rat) / 4095 / 100
  | none => 0

/-- The device time that a record stands for (R86, R137): its offset, its sample's instant, or the latch of its
sensor. -/
def State.stampOf (s : State) (a : Fin 128) (t0 : Nat) (r : UpRec) : Nat :=
  let act := t0 + 14000
  match r with
  | .cur i _ _ _ => act + (s.axes[a].pwm.cmd).csAt (s.tc a.val) i
  | .volt i _ => act + (s.axes[a].pwm.cmd).vsAt (s.tc a.val) i
  | .zc _ o => act + o
  | .dly _ _ => act
  | .hall _ _ => t0 + s.tf - 1000
  | .inc _ _ _ _ => t0 + s.tf - 1000
  | .sincos _ _ => t0 + s.tf - 1000
  | .serial _ _ _ => t0 + s.tf - 6000
  | .zone _ o => act + o
  | .tripr _ o => act + o

/-- The current in a logical half-bridge's phase by the estimate of the previous frame (R120). -/
def State.legI (s : State) (a : Fin 128) (j : Nat) : Rat :=
  let x := s.axes[a]
  if s.motType a.val = 2 then
    match j with
    | 0 => x.stp.iA
    | 1 => -x.stp.iA
    | 2 => x.stp.iB
    | _ => -x.stp.iB
  else
    let ph := sectorPhases x.pwm.lastSector
    if j = ph.1 then x.eng.iWind else if j = ph.2.1 then -x.eng.iWind else 0

/-- Delays of a half-bridge in time order, ON and OFF in turn, enter its lists by polarity (R118, R120). -/
def HbSt.delays (h : HbSt) (pos : Bool) (dt : Nat) (on : Bool) : List Nat → HbSt
  | [] => h
  | d :: rest =>
    let ns := 2 * d
    let h := if d = 255 then h
      else if on then
        (if pos then { h with onPos := pushN 8 ns h.onPos } else { h with onNeg := pushN 8 ns h.onNeg })
      else
        let h := if ns < dt then { h with hardN := h.hardN + 1, hardMax := max h.hardMax ns } else h
        (if pos then { h with offPos := pushN 8 ns h.offPos } else { h with offNeg := pushN 8 ns h.offNeg })
    h.delays pos dt (!on) rest

/-- A record waits for the capture unit in record mode, where it is selected (R329, R330). -/
def State.capRecord (s : State) (l : Fin 32) (slot low stamp : Nat) (r : UpRec) : State :=
  let sel := s.cap.cfg.recSel
  let waits := match s.cap.state with
    | .fill | .wait | .post => s.cap.cfg.mode == 2
    | .done => s.cap.cfg.mode == 2 && s.cap.cfg.rep && !s.cap.stopAfter
    | .idle | .stopped => false
  let put (s : State) (v : CapVal) (fl : Nat) : State :=
    s.modCap fun c => { c with recs := c.recs ++ [(stamp, v, low + fl)] }
  if waits && bits sel 15 8 == l.val && bits sel 7 6 == slot then
    match r with
    | .cur _ clip skip v => if bits sel 3 0 = 1 then put s (.f (s.curA l v)) (b2n clip * 32768 + b2n skip * 16384) else s
    | .volt _ v => if bits sel 3 0 = 2 then put s (.f (s.voltV l v)) 0 else s
    | .zc _ o => if bits sel 3 0 = 3 then put s (.f o) 0 else s
    | .zone _ o => if bits sel 3 0 = 6 then put s (.f o) 0 else s
    | .tripr _ _ => if bits sel 3 0 = 8 then
        let (q, s) := s.drawRat
        put s (.f q) 0 else s
    | .dly _ _ | .hall _ _ | .inc _ _ _ _ | .sincos _ _ | .serial _ _ _ => s
  else s

/-- A TRIPR record sets the cause and the stamp of its latch, and latches where no TRIP sequence did (R127). -/
def State.tripRecord (s : State) (a : Fin 128) (cause stamp : Nat) : State :=
  let p := s.axes[a].pwm
  if p.trip then
    if p.tripCause = 0 then
      s.modAxis a fun x => { x with pwm := { x.pwm with tripCause := cause + 2, tripStamp := stamp } }
    else s
  else
    let s := s.modAxis a fun x =>
      { x with pwm := { x.pwm with trip := true, tripCause := cause + 2, tripStamp := stamp, tripRefused := false,
                                   tripStat := false } }
    let hit := s.spread a
    let s := s.raise 0x2102 a.val hit
    s.each (clusterLinks (clusterOf a)) fun t l =>
      let m := t.killMask l
      if hit.any (fun b => linkOf b == l) then t.sendKill l m else t

/-- A record came later than tick k + 1.5 µs of the frame k that it belongs to, the first whose cut-off its stamp
meets (R25, R35, R105).  A DLY record carries no stamp. -/
def State.lateRecord (s : State) (stamp : Nat) (r : UpRec) : Bool :=
  match r with
  | .dly _ _ => false
  | .cur _ _ _ _ | .volt _ _ | .zc _ _ | .hall _ _ | .inc _ _ _ _ | .sincos _ _ | .serial _ _ _ | .zone _ _
  | .tripr _ _ => decide ((stamp + 500 + s.tf - 1) / s.tf * s.tf + 1500 < s.nt)

/-- A record of a slot is used (R86): sensors, samples and edges wait for the engine, zone edges also for
tracking, delays go to their half-bridge, a TRIPR to its latch. -/
def State.takeRecord (s : State) (l : Fin 32) (t0 slot low : Nat) (r : UpRec) : State :=
  let a := axisAt l slot
  let stamp := s.stampOf a t0 r
  let late := s.lateRecord stamp r
  let s := if late then s.modLink l fun x =>
      { x with lateRec := count32 x.lateRec, lateAt := within (secs 1) s.nt (s.nt :: x.lateAt) } else s
  let s := s.capRecord l slot low stamp r
  match r with
  | .dly j vals =>
    let k : Fin 4 := fin 4 (by decide) j
    let dt := s.dtNow a k
    let pos := decide (0 ≤ s.legI a (logOf (s.motType a.val) (s.pN (Pid.axPwmSwap a.val)) (s.pN (Pid.axPwmInvert a.val)) j))
    s.modAxis a fun x => { x with pwm := { x.pwm with hb := x.pwm.hb.set k ((x.pwm.hb[k]).delays pos dt true vals) } }
  | .zone lv _ =>
    let s := s.modAxis a fun x => { x with zone := lv, zoneEdges := x.zoneEdges ++ [(lv, stamp)] }
    if s.domainOn 12 && s.pN Pid.trkEnable = 1 then s.modTrk fun k => { k with edges := k.edges ++ [⟨0x80 + a.val, lv, stamp⟩] } else s
  | .tripr cause _ => s.tripRecord a cause stamp
  | .cur _ _ _ _ | .volt _ _ | .zc _ _ | .hall _ _ | .inc _ _ _ _ | .sincos _ _ | .serial _ _ _ =>
    s.modAxis a fun x => { x with inbox := x.inbox ++ [⟨stamp, r, s.nt⟩] }

/-- A STAT updates the trip bits of its slots (R87, R129). -/
def State.statTrips (s : State) (l : Fin 32) (t0 : Nat) (r : StatRec) : State :=
  s.each (List.range 4) fun t k => t.modAxis (axisAt l k) fun x =>
    let b := bit r.slots k
    { x with pwm := { x.pwm with tripStat := true, tripBit := b,
                                 tripBitEnd := if b then t0 + 14000 + s.tf else x.pwm.tripBitEnd } }

/-- The heartbeat stays present at the own port while the link's group is in STO (R407). -/
def State.statStuck (s : State) (l : Fin 32) (r : StatRec) : State :=
  let inSto := s.safOn && (match s.grpOf 0 l with
    | some g => (s.saf.chan[0].groups[g]).state == .sto
    | none => false)
  let n := if inSto && r.hb s.ownPort then s.links[l].hbRun + 1 else 0
  let s := s.modLink l fun x => { x with hbRun := n }
  if 2 ≤ n ∧ s.pwr.state ≠ .safe then ((s.safFault 0x7011 0 0 allGroups).enterSafe).safDone else s

/-- The token that a STAT shows (R106, R396): an ACTIVE device yields, a SOLO device raises 0x2009. -/
def State.statToken (s : State) (l : Fin 32) (t0 : Nat) (r : StatRec) : State :=
  let s := if r.valid && r.epoch != 0 then
    s.modTwin fun k => { k with seen := (r.epoch, t0) :: k.seen.filter (fun x => decide (s.frame.tick < x.2 + 5 * s.tf)) }
    else s
  if s.drives && s.statCounts l t0 && s.showsLost r then
    let s := s.raise 0x2009 l.val (linkAxes l)
    if s.twin.state == .active && s.showsOther r && !s.twin.resignSent then
      (s.raise 0xB003 0 []).twinTo .isolated
    else s
  else s

/-- A status record (R87, R106). -/
def State.takeStat (s : State) (l : Fin 32) (t0 : Nat) (r : StatRec) : State :=
  let dropped := bit r.flags 0
  let s := s.modLink l fun x =>
    { x with stat := some r, statTick := t0,
             drop := if dropped then count32 x.drop else x.drop,
             dropRun := if dropped then x.dropRun + 1 else 0 }
  let s := s.statTrips l t0 r
  let s := if bit r.flags 6 || bit r.flags 3 then s.raise 0x2008 l.val (linkAxes l) else s
  if s.links[l].state != .up then s else
  let runs := (linkAxes l).any fun a => s.axes[a].state == .run
  let noSto := !s.ib || !s.linkSto 0 l
  let s := if r.valid && !r.hb r.obeyed && runs && noSto then s.raise 0x2007 l.val (linkAxes l) else s
  (s.statStuck l r).statToken l t0 r

/-- The capability record of SRV 0x81 (R100). -/
def capOf (b : List Byte) : CapRec :=
  { serial := fld b 0 8, model := fld b 8 2, proto := fld b 10 1, ports := fld b 11 1, slots := fld b 12 1,
    sensors := fld b 13 1, iFs := fld b 14 2, vFs := fld b 16 2, dtMin := fld b 18 2, io := fld b 20 1 }

/-- A SLOT_CFG answer (R84, R544). -/
def SlotCfgSt.answered (c : SlotCfgSt) (st : Nat) : SlotCfgSt :=
  if c.due then c else if st = 0 then { c with ok := true } else { c with refused := true }

/-- A SERVICE answer (R83, R84): a DEADTIME answer counts until tick FC + 1.5 µs (R119). -/
def State.takeSrv (s : State) (l : Fin 32) (msg : Nat) (b : List Byte) : State :=
  match msg with
  | 0x81 => s.modLink l fun x => { x with cap := some (capOf b), capNew := true }
  | 0x82 =>
    let k : Fin 4 := fin 4 (by decide) (fld b 0 1)
    s.modLink l fun x => { x with slotCfg := x.slotCfg.set k ((x.slotCfg[k]).answered (fld b 1 1)) }
  | 0x83 => match s.links[l].dtMsg with
    | none => if s.drives then s else s.modLink l fun x => { x with dtAcked := true }
    | some m =>
      let inTime := s.frameAhead m.fc || (m.fc == s.frame.fc && decide (s.nt ≤ s.frame.tick + 1500))
      if fld b 0 2 = m.fc % 65536 ∧ inTime ∧ !m.due then
        s.modLink l fun x =>
          { x with dtMsg := some { m with answered := true, stale := false }, dtAcked := true, dtUnanswered := 0 }
      else s
  | 0x84 => s.modLink l fun x => if x.dozeSent then { x with dozeAns := true } else x
  | _ => s

/-- One piece of an accepted packet. -/
def State.takePiece (s : State) (l : Fin 32) (t0 : Nat) (p : Piece) : State :=
  match p with
  | .rcd slot low r => if s.links[l].state == .up then s.takeRecord l t0 slot low r else s
  | .stat r => s.takeStat l t0 r
  | .srv msg b => s.takeSrv l msg b

/-- A discarded upstream packet (R71, R105). -/
def LinkSt.badPacket (x : LinkSt) (now : Nat) : LinkSt :=
  { x with crcErr := count32 x.crcErr, crcAt := within (secs 1) now (now :: x.crcAt) }

/-- The symbols of a packet count toward its period (R88, R105). -/
def LinkSt.countSyms (x : LinkSt) (t0 syms : Nat) : LinkSt :=
  let n := if x.upTick = t0 then x.upSyms + syms else syms
  { x with upTick := t0, upSyms := n, upMax := max x.upMax n }

/-- An upstream packet from HDR to CRC16, and whether a violation fell into it (R71, R85). -/
def execUpstreamPacket (l : Fin 32) (viol : Bool) (syms : Nat) (bytes : List Byte) (tm : Nat) (s : State) :
    Host.Outcome State Fault Refusal :=
  let s := s.adv tm
  if !s.linkOn l then .next s else
  let n := bytes.length
  if viol || decide (n < 3) || linkCrc (bytes.take (n - 2)) != fld bytes (n - 2) 2 then
    .next (s.modLink l (·.badPacket s.nt))
  else
    let t0 := s.periodTick (fld bytes 0 1 / 64)
    let s := s.modLink l (·.countSyms t0 syms)
    .next (s.each (parsePieces n ((bytes.take (n - 2)).drop 1)) fun t p => t.takePiece l t0 p)

/-- More than 16 discarded packets in 1 s (R106). -/
def execLinkErrors (l : Fin 32) (tm : Nat) (s : State) : Host.Outcome State Fault Refusal :=
  let s := s.adv tm
  .next (if 16 < (within (secs 1) s.nt s.links[l].crcAt).length then s.raise 0x2002 l.val (linkAxes l) else s)

/-- More than 10 late records in 1 s (R106). -/
def execLateRecords (l : Fin 32) (tm : Nat) (s : State) : Host.Outcome State Fault Refusal :=
  let s := s.adv tm
  .next (if 10 < (within (secs 1) s.nt s.links[l].lateAt).length then s.raise 0x2006 l.val (linkAxes l) else s)

/-- DROPPED in 100 consecutive periods (R106). -/
def execUpOverbudget (l : Fin 32) (tm : Nat) (s : State) : Host.Outcome State Fault Refusal :=
  let s := s.adv tm
  .next (if 100 ≤ s.links[l].dropRun then s.raise 0x2005 l.val (linkAxes l) else s)

/-! Training. -/

/-- The sensor kind of a slot's SLOT_CFG (R544). -/
def State.slotSensor (s : State) (a : Nat) : Nat :=
  let src := s.pN (Pid.axFbkSource a)
  let com := s.pN (Pid.axComSource a)
  if 1 ≤ src ∧ src ≤ 5 then src
  else if s.motType a = 1 ∧ (com = 0 ∨ com = 2) then 1 else 0

/-- The payload of a slot's SLOT_CFG (R84, R544). -/
def State.slotCfgBytes (s : State) (l : Fin 32) (k : Fin 4) : List Byte :=
  let a := (axisAt l k.val).val
  let kind := s.motType a
  let sensor := s.slotSensor a
  let ser := sensor = 4 ∨ sensor = 5
  let n := max 8 (s.pN (Pid.axFbkSerOfs a) + s.pN (Pid.axFbkSerMtBits a) + s.pN (Pid.axFbkSerStBits a))
  let pk := s.pF (Pid.axMotIPeak a)
  let lim : Rat := if pk = 0 then 25 / 10 * s.iRated a else 125 / 100 * pk
  let up := (-((-(lim * 100)).floor)).toNat
  let top := match s.links[l].cap with
    | some c => c.iFs / 10
    | none => 65535
  let ocl := if kind = 0 then 0 else min up top
  leBytes 1 k.val ++ leBytes 1 kind ++ leBytes 1 sensor ++ leBytes 1 (if ser then n else 8) ++
  leBytes 1 (if ser then s.pN (Pid.axFbkSerClk a) else 10) ++ leBytes 2 (s.pN (Pid.lnkZfilt l.val k.val)) ++
  leBytes 2 ocl

/-- The capability record lacks the slot, its kind or its sensor (R99, R106). -/
def State.slotLacks (s : State) (l : Fin 32) (k : Nat) : Bool :=
  let a := (axisAt l k).val
  let kind := s.motType a
  let sensor := s.slotSensor a
  match s.links[l].cap with
  | none => false
  | some c => kind != 0 && (!bit (bits c.slots (2 * k + 1) (2 * k)) (kind - 1) ||
      (sensor != 0 && !bit c.sensors (sensor - 1)))

/-- The link is ready to go UP (R99): a STAT with TIME_LOCK and a capability record have been read since the training
began, which takes symbol lock, and 16 round trips have been accepted.  The receiver reports that its equaliser has
adapted with the command itself (log 154). -/
def State.linkReady (s : State) (l : Fin 32) : Bool :=
  let x := s.links[l]
  s.linkOn l && (x.state == .train || x.state == .retrain) && x.capNew && decide (16 ≤ x.rts.length) &&
  x.stat.any StatRec.timeLock

/-- What going UP starts (R99, R119, R544): SLOT_CFG for every slot, a first DEADTIME. -/
def LinkSt.goUp (x : LinkSt) (serial : Nat) : LinkSt :=
  { x with state := .up, serial := serial, slotCfg := Vector.replicate 4 { due := true },
           dtMsg := none, dtAcked := false, dtUnanswered := 0, dtStage := [], firstTick := none, discards := 0,
           dozeSent := false, dozeAns := false, trafficOff := false }

/-- Another stage is at the link (R511): bridge ageing and dead times start anew. -/
def State.stageChanged (s : State) (l : Fin 32) : State :=
  let s := s.linkEvent 0x2083 l
  let s := s.modAge fun k =>
    { k with
      axes := Vector.ofFn fun i =>
        if (linkAxes l).contains i then { k.axes[i] with hist := List.replicate 20 0 } else k.axes[i]
      flashAx := Vector.ofFn fun i => if (linkAxes l).contains i then List.replicate 20 0 else k.flashAx[i]
      items := k.items.filter fun x => !(x.kind == 7 && (linkAxes l).any fun a => a.val == x.inst) }
  s.each (linkAxes l) fun t a => t.modAxis a fun x =>
    let top := s.pN (Pid.axPwmDtMax a.val)
    { x with pwm := { x.pwm with hb := x.pwm.hb.map fun h => { h with dt := top, hardN := 0, hardMax := 0 } } }

/-- The stage's DT_MIN exceeds `AX.PWM.DT_MAX` on an axis of an UP link (R117): 0x1020, once per UP. -/
def State.dtLimit (s : State) (a : Fin 128) : State :=
  if s.linkIsUp (linkOf a) && s.motType a.val != 0 && decide (s.pN (Pid.axPwmDtMax a.val) < s.stageDtMin a.val) &&
      !s.axes[a].pwm.dtLimited then
    (s.modAxis a fun x => { x with pwm := { x.pwm with dtLimited := true } }).raiseAx 0x1020 a
  else s

/-- A link goes UP (R99). -/
def State.linkGoUp (s : State) (l : Fin 32) : State :=
  let x := s.links[l]
  let serial := match x.cap with
    | some c => c.serial
    | none => 0
  let changed := x.state == .retrain && x.serial != serial
  let s := (s.modLink l (·.goUp serial)).linkEvent 0x2081 l
  let s := if changed then s.stageChanged l else s
  let s := if (List.range 4).any (s.slotLacks l) then s.raise 0x2003 l.val (linkAxes l) else s
  s.each (linkAxes l) fun t a =>
    (t.modAxis a fun x => { x with pwm := { x.pwm with dtLimited := false } }).dtLimit a

/-- A training link is ready (R99, R100). -/
def execLinkUp (l : Fin 32) (tm : Nat) (s : State) : Host.Outcome State Fault Refusal :=
  let s := s.adv tm
  .next (if s.linkReady l then s.linkGoUp l else s)

/-- An UP link is lost and retrains (R99, R106, R399). -/
def State.loseLink (s : State) (l : Fin 32) : State :=
  let resign := s.resignsFor l
  let s := s.retrainLink l
  if resign then (s.modTwin fun k => { k with resign := true }).raiseAt 0x2001 l.val (linkAxes l) 0 1 true
  else s.raise 0x2001 l.val (linkAxes l)

/-- The receiver of an UP link reports the loss of symbol lock for 1 µs, or 8 code violations in 1 µs (R99); the third
cause, missing STATs, is the device's own watch (`State.statWatch`). -/
def execLinkLost (l : Fin 32) (tm : Nat) (s : State) : Host.Outcome State Fault Refusal :=
  let s := s.adv tm
  .next (if s.linkIsUp l then s.loseLink l else s)

/-- No STAT has come in 2 consecutive actuation periods (R87, R99): those after the period of the latest have ended. -/
def State.statsMissing (s : State) (l : Fin 32) : Bool :=
  decide (s.links[l].statTick + 3 * s.tf + 14000 ≤ s.nt)

/-- At a tick, UP links without a STAT in 2 consecutive periods are lost (R99). -/
def State.statWatch (s : State) : State :=
  s.each (allLinks.filter fun l => s.linkIsUp l && s.statsMissing l) fun t l => t.loseLink l

/-! SERVICE messages. -/

/-- A SERVICE frame leaves (R83). -/
def State.sendService (s : State) (l : Fin 32) (msg : Nat) (pay : List Byte) : State :=
  let b := leBytes 1 0x30 ++ leBytes 1 msg ++ leBytes 1 pay.length ++ pay
  s.linkSend l (framed (b ++ leBytes 2 (linkCrc b)))

/-- A slot's SLOT_CFG is to be sent (R544): after UP or a change, and again without an answer.  DESIGN CHOICE (log 155):
an answer is missing when 3 Tf have passed since the sending, since R83 allows it 2 frames from the service window. -/
def SlotCfgSt.wants (c : SlotCfgSt) (tick tf : Nat) : Bool :=
  c.due || (!c.ok && !c.refused && decide (1 ≤ c.sent ∧ c.sent < 3 ∧ c.sentTick + 3 * tf ≤ tick))

/-- A slot's SLOT_CFG leaves. -/
def State.sendSlotCfg (s : State) (l : Fin 32) (k : Fin 4) : State :=
  let b := s.slotCfgBytes l k
  (s.modLink l fun x =>
    let c := { x.slotCfg[k] with content := b, sent := (x.slotCfg[k]).sent + 1, sentTick := s.frame.tick, due := false }
    { x with slotCfg := x.slotCfg.set k c }).sendService l 0x02 b

/-- The 16 dead times of a link that the device sets. -/
def State.linkDts (s : State) (l : Fin 32) : List Nat :=
  (linkAxes l).flatMap fun a => (List.range 4).map fun j => s.dtWant a (fin 4 (by decide) j)

/-- A DEADTIME is to be sent (R119): the first since UP, one that was not answered, or changed values. -/
def State.dtDue (s : State) (l : Fin 32) : Bool :=
  let x := s.links[l]
  let spaced := decide (x.dtLastTick + 16 * s.tf ≤ s.frame.tick)
  match x.dtMsg with
  | some m => m.due && spaced
  | none => !x.dtAcked || (spaced && s.linkDts l != x.dtStage)

/-- A DEADTIME leaves for frame k + 4 (R119): one not answered goes again with its values. -/
def State.sendDeadtime (s : State) (l : Fin 32) : State :=
  let fc := (s.frame.fc + 4) % 2 ^ 32
  let m : DtMsg := match s.links[l].dtMsg with
    | some m => { m with fc := fc, sentTick := s.frame.tick, due := false }
    | none => { fc := fc, sentTick := s.frame.tick, vals := s.linkDts l }
  (s.modLink l fun x => { x with dtMsg := some m, dtLastTick := s.frame.tick }).sendService l 0x03
    (leBytes 2 fc ++ m.vals.flatMap (leBytes 2 ·))

/-- A SERVICE frame is sent in the service window (R77, R83): the first that is due of CAP_REQ, SLOT_CFG,
DEADTIME and DOZE, this one only while every axis of the link is OFF (R102); a device that does not drive sends CAP_REQ only (R388). -/
def execServiceFrameSend (l : Fin 32) (tm : Nat) (s : State) : Host.Outcome State Fault Refusal :=
  let s := s.adv tm
  let at_ := s.txAt l
  let open_ := decide (s.frame.tick + 13500 ≤ at_ ∧ at_ ≤ s.frame.tick + s.tf - 3000)
  if !(s.linkTx l && open_) then .next s else
  let x := s.links[l]
  if x.state != .up then .next (if x.capNew then s else s.sendService l 0x01 [])
  else if !s.drives then .next s
  else match (List.range 4).find? fun k => (x.slotCfg[fin 4 (by decide) k]).wants s.frame.tick s.tf with
    | some k => .next (s.sendSlotCfg l (fin 4 (by decide) k))
    | none =>
      if s.dtDue l then .next (s.sendDeadtime l)
      else if x.dozeSent && !x.dozeAns && (linkAxes l).all (fun a => s.axes[a].state == .off) then .next (s.sendService l 0x04 (leBytes 1 x.beaconMs))
      else .next s

/-- A SLOT_CFG is refused, or not answered after its third sending (R544). -/
def execSlotCfgUnanswered (l : Fin 32) (slot : Fin 4) (tm : Nat) (s : State) : Host.Outcome State Fault Refusal :=
  let s := s.adv tm
  let c := s.links[l].slotCfg[slot]
  let dead := !c.ok && !c.due && decide (3 ≤ c.sent) && decide (c.sentTick + 3 * s.tf ≤ s.frame.tick)
  if s.linkIsUp l && !c.raised && (c.refused || dead) then
    let c := { c with refused := true, raised := true }
    .next ((s.modLink l fun x => { x with slotCfg := x.slotCfg.set slot c }).raise 0x2003 l.val (linkAxes l))
  else .next s

/-- A DEADTIME was not answered by tick FC + 1.5 µs (R119): it goes again, and the second raises 0x1021. -/
def execDeadtimeUnacked (l : Fin 32) (tm : Nat) (s : State) : Host.Outcome State Fault Refusal :=
  let s := s.adv tm
  match s.links[l].dtMsg with
  | none => .next s
  | some m =>
    let beyond := !s.frameAhead m.fc && decide (m.fc ≠ s.frame.fc ∨ s.frame.tick + 1500 < s.nt)
    if s.linkIsUp l && beyond && !m.answered && !m.due then
      let n := s.links[l].dtUnanswered + 1
      let s := s.modLink l fun x => { x with dtMsg := some { m with stale := true, due := true }, dtUnanswered := n }
      .next (if 2 ≤ n then s.raise 0x1021 l.val (linkAxes l) else s)
    else .next s

/-- At a tick, acknowledged dead times whose frame has come replace the old ones (R119). -/
def State.dtTick (s : State) : State :=
  { s with links := s.links.map fun x => match x.dtMsg with
      | some m => if m.answered && !s.frameAhead m.fc then { x with dtStage := m.vals, dtMsg := none } else x
      | none => x }

/-! Dead-time adaptation. -/

/-- A half-bridge's update (R118): the new state, and whether the target exceeded DT_MAX. -/
def HbSt.adapt (h : HbSt) (margin top : Nat) (bound : Int → Nat) : HbSt :=
  let h' := { h with hardN := 0, hardMax := 0 }
  if h.hardN < 8 then h'
  else
    let target := h.hardMax + margin
    let dt : Int := if h.dt < target then min (h.dt + 20) target else max ((h.dt : Int) - 4) target
    { h' with dt := bound dt, overRun := if top < target then h.overRun + 1 else 0 }

/-- Every 16 frames adaptive dead times move toward their targets (R118). -/
def execDtAdapt (a : Fin 128) (tm : Nat) (s : State) : Host.Outcome State Fault Refusal :=
  let s := s.adv tm
  let p := s.axes[a].pwm
  if s.linkIsUp (linkOf a) && s.pN (Pid.axPwmDtMode a.val) = 0 && decide (p.adaptTick + 16 * s.tf ≤ s.frame.tick) then
    let f (h : HbSt) : HbSt := h.adapt (s.pN (Pid.axPwmDtMargin a.val)) (s.pN (Pid.axPwmDtMax a.val)) (s.dtBound a.val)
    .next (s.modAxis a fun x => { x with pwm := { x.pwm with hb := x.pwm.hb.map f, adaptTick := s.frame.tick } })
  else .next s

/-- The target exceeded DT_MAX at 16 consecutive updates of a half-bridge (R118). -/
def execDtLimit (a : Fin 128) (tm : Nat) (s : State) : Host.Outcome State Fault Refusal :=
  let s := s.adv tm
  .next (if s.axes[a].pwm.hb.toList.any fun h => decide (16 ≤ h.overRun) then s.raiseAx 0x1020 a else s)

end Sys2Proof.Machine
end

