-- ==== Sys2Proof/Machine/Drive.lean ====
section
/-! DEFINITION. From the engine's demand to a slot's commands (R109 to R116, R120, R137, R149, R150, R263): modes,
on-times, the short-pulse policy with its carry, delay compensation, and sample codes, on logical half-bridges. -/

namespace Sys2Proof.Machine

/-- What the engine demands of an axis's half-bridges in a frame. -/
inductive Demand
  /-- COAST, with the phase whose comparator reports (3 none). -/
  | coast (float : Nat)
  /-- BRAKE with duty d (R149). -/
  | brake (d : Rat)
  /-- A sector's pattern with duty d (R110, R111). -/
  | sector (n : Nat) (d : Rat)
  /-- A test pulse of the IPD in a sector (R150). -/
  | pulse (n t : Nat)
  /-- Stepper phase demands; none switches the phase off (R112). -/
  | phases (va vb : Option Rat)
deriving DecidableEq, Repr

/-- tmin of R113 at a dead time. -/
def State.tminAt (s : State) (a : Fin 128) (dt : Nat) : Nat := max (s.pN (Pid.axPwmTmin a.val)) (dt + 100)

/-- Means of the ON and OFF delays of a half-bridge (R120): of the polarity that flows, or near a current zero the
mean of both. -/
def HbSt.delayMeans (h : HbSt) (i near : Rat) : Rat × Rat :=
  let one (p n : List Nat) : Rat :=
    if rabs i ≤ near && !p.isEmpty && !n.isEmpty then (meanNat p + meanNat n) / 2
    else if rabs i ≤ near then meanNat (p ++ n)
    else if 0 < i then meanNat p else meanNat n
  (one h.onPos h.onNeg, one h.offPos h.offNeg)

/-- A request with its delays compensated, and how much earlier its centre lies (R120): the request of R115, which
clamps it together with the carry. -/
def State.compensate (s : State) (a : Fin 128) (h : HbSt) (j : Nat) (req : Int) : Int × Nat :=
  if s.pB (Pid.axPwmDtComp a.val) then
    let (on, off) := h.delayMeans (s.legI a j) (2 / 100 * s.iRated a.val)
    (req - roundAway (off - on), (roundAway ((on + off) / 2)).toNat)
  else (req, 0)

/-- A carry is discarded (R116): counted when it was not 0. -/
def PwmSt.dropCarry (p : PwmSt) (k : Fin 4) : PwmSt :=
  if p.hb[k].carry = 0 then p
  else { p with hb := p.hb.set k { p.hb[k] with carry := 0 }, carryLost := count32 p.carryLost }

/-- The single carry of BRAKE is discarded. -/
def PwmSt.dropBrake (p : PwmSt) : PwmSt :=
  if p.brakeCarry = 0 then p else { p with brakeCarry := 0, carryLost := count32 p.carryLost }

/-- A half-bridge in a mode without chopping, or with a given on-interval. -/
def State.plainHb (s : State) (a : Fin 128) (p : PwmSt) (j : Fin 4) (mode on off : Nat) : PwmSt :=
  let k := s.phys a j.val
  let p := if p.hb[k].lastMode = mode then p else p.dropCarry k
  { p with hb := p.hb.set k { p.hb[k] with lastMode := mode }
           cmd := { p.cmd with hb := p.cmd.hb.set j ⟨mode, on, off⟩ } }

/-- A chopped half-bridge (R115, R116, R120) with a requested on-time, and the on-time it gets.  `SHORT_CNT` counts each
half-bridge whose on-time changed, as the pseudocode of R115 does (DESIGN CHOICE, log 158: the table of R123 says
frames).  The centre moves earlier by no more than the ON instant, which would else fall below 0 (DESIGN CHOICE, log 159). -/
def State.choppedHb (s : State) (a : Fin 128) (p : PwmSt) (j : Fin 4) (mode : Nat) (want : Int) (reset : Bool) :
    PwmSt × Nat :=
  let k := s.phys a j.val
  let tc := s.tc a.val
  let dt := s.dtNow a k
  let (req, ahead) := s.compensate a (p.hb[k]) j.val want
  let p := if reset || decide (req = 0) || p.hb[k].lastMode != mode then p.dropCarry k else p
  let h := p.hb[k]
  let (t, c) := shapeOn (s.pN (Pid.axPwmShortpulse a.val)) (mode == modePwmC) tc dt (s.tminAt a dt) req h.carry
  let on := (centred tc t.toNat).1
  let shift := if t = 0 then 0 else min ahead on
  ({ p with
      hb := p.hb.set k { h with carry := c, lastMode := mode }
      shortCnt := if t = req then p.shortCnt else count32 p.shortCnt
      cmd := { p.cmd with hb := p.cmd.hb.set j ⟨mode, on - shift, on + t.toNat - shift⟩ } }, t.toNat)

/-- The sample codes of a chopped half-bridge with on-time `t` (R137): kind 0 where no sample is taken. -/
def sampleKind (t tc : Nat) : Nat := if 1000 ≤ t || t = tc then 1 else if 400 ≤ t then 2 else 0

/-- Current sample codes, one for each carrier period. -/
def sampleCodes (kind j m : Nat) : Vector Nat 4 :=
  Vector.ofFn fun i => if i.val < m && kind ≠ 0 then kind * 16 + j * 4 + i.val else 0

/-- A sector's pattern (R110, R111, R137, R139). -/
def State.driveSector (s : State) (a : Fin 128) (p : PwmSt) (n : Nat) (d : Rat) (reset : Bool) : PwmSt × Nat :=
  let v := s.pN (Pid.axPwmVariant a.val)
  let (hi, lo, fl) := sectorPhases n
  let reset := reset || p.lastSector != n
  let tc := s.tc a.val
  let m := s.mOf a.val
  let want := roundAway (d * (tc : Rat))
  let jh := fin 4 (by decide) hi
  let jl := fin 4 (by decide) lo
  let (p, t, ch) :=
    if v = 2 then
      let p := s.plainHb a p jh modeHigh 0 0
      let (p, t) := s.choppedHb a p jl modePwmL want reset
      (p, t, lo)
    else
      let p := s.plainHb a p jl modeLow 0 0
      let (p, t) := s.choppedHb a p jh (if v = 1 then modePwmH else modePwmC) want reset
      (p, t, hi)
  let p := s.plainHb a p (fin 4 (by decide) fl) modeOff 0 0
  let p := s.plainHb a p 3 modeOff 0 0
  let k := sampleKind t tc
  ({ p with
      lastSector := n
      cmd := { p.cmd with
        kind := 1, cs := sampleCodes k ch m, vs := #v[4, 4 + (m - 1)], float := fl, zcEn := true, zcBlank := true } },
   if k = 0 then m else 0)

/-- Every half-bridge off, with the phase whose comparator reports. -/
def State.driveCoast (s : State) (a : Fin 128) (p : PwmSt) (kind float : Nat) : PwmSt :=
  let p := (List.range 4).foldl (fun p j => s.plainHb a p (fin 4 (by decide) j) modeOff 0 0) p
  let z := decide (float < 3)
  { p with lastSector := 7
           cmd := { p.cmd with kind := kind, cs := Vector.replicate 4 0, vs := Vector.replicate 2 0, float := float,
                               zcEn := z, zcBlank := z } }

/-- The BRAKE pattern (R111): one on-time for three low sides, with a single carry; the periods without a sample.  R137
asks a sample of a chopped half-bridge: that of phase U (DESIGN CHOICE, log 165). -/
def State.driveBrake (s : State) (a : Fin 128) (p : PwmSt) (d : Rat) : PwmSt × Nat :=
  let tc := s.tc a.val
  let dt := (List.range 3).foldl (fun n j => max n (s.dtNow a (s.phys a j))) 0
  let req := roundAway (d * (tc : Rat))
  let p := if req = 0 then p.dropBrake else p
  let (t, c) := shapeOn (s.pN (Pid.axPwmShortpulse a.val)) false tc dt (s.tminAt a dt) req p.brakeCarry
  let (on, off) := centred tc t.toNat
  let p := (List.range 3).foldl (fun p j => s.plainHb a p (fin 4 (by decide) j) modePwmL on off) p
  let p := s.plainHb a p 3 modeOff 0 0
  let m := s.mOf a.val
  let k := sampleKind t.toNat tc
  ({ p with
      brakeCarry := c, lastSector := 7
      shortCnt := if t = req then p.shortCnt else count32 p.shortCnt
      cmd := { p.cmd with kind := 1, cs := sampleCodes k 0 m, vs := Vector.replicate 2 0, float := 3,
                          zcEn := false, zcBlank := false } }, if k = 0 then m else 0)

/-- A test pulse of the IPD (R150). -/
def State.drivePulse (s : State) (a : Fin 128) (p : PwmSt) (n t : Nat) : PwmSt :=
  let tc := s.tc a.val
  let m := s.mOf a.val
  let (hi, lo, fl) := sectorPhases n
  let (on, off) := centred tc (min t tc)
  let p := s.plainHb a p (fin 4 (by decide) hi) modePwmH on off
  let p := s.plainHb a p (fin 4 (by decide) lo) modeLow 0 0
  let p := s.plainHb a p (fin 4 (by decide) fl) modeOff 0 0
  let p := s.plainHb a p 3 modeOff 0 0
  { p with
      lastSector := n
      cmd := { p.cmd with
        kind := 1, cs := #v[32 + hi * 4 + (m - 1), 0, 0, 0], vs := Vector.replicate 2 0, float := fl,
        zcEn := true, zcBlank := true } }

/-- One stepper phase on half-bridges j and j + 1 (R112): the second gets Tc minus the rounded on-time of the first
(R266). -/
def State.drivePhase (s : State) (a : Fin 128) (p : PwmSt) (j : Nat) (v : Option Rat) (reset : Bool) : PwmSt :=
  let j0 := fin 4 (by decide) j
  let j1 := fin 4 (by decide) (j + 1)
  match v with
  | none => s.plainHb a (s.plainHb a p j0 modeOff 0 0) j1 modeOff 0 0
  | some v =>
    let tc := s.tc a.val
    let t := roundAway ((1 + v) / 2 * (tc : Rat))
    let p := (s.choppedHb a p j0 modePwmC t reset).1
    (s.choppedHb a p j1 modePwmC ((tc : Int) - t) reset).1

/-- A stepper slot (R112, R263). -/
def State.drivePhases (s : State) (a : Fin 128) (p : PwmSt) (va vb : Option Rat) (reset : Bool) : PwmSt :=
  let m := s.mOf a.val
  let p := s.drivePhase a (s.drivePhase a p 0 va reset) 2 vb reset
  let cs : Vector Nat 4 :=
    if 2 ≤ m then #v[48 + (m - 1), 56 + (m - 1), 48 + (m - 2), 56 + (m - 2)] else #v[48 + (m - 1), 56 + (m - 1), 0, 0]
  { p with
      lastSector := 7
      cmd := { p.cmd with kind := 2, cs := cs, vs := Vector.replicate 2 0, float := 3, zcEn := false, zcBlank := false } }

/-- The commands of a slot for the next schedule: carries are dropped where R116 says, and the carrier periods
without a current sample are counted (R137). -/
def State.drive (s : State) (a : Fin 128) (d : Demand) : State :=
  let x := s.axes[a]
  let now := x.state == .run || x.state == .starting || x.state == .stop
  let pol := s.pN (Pid.axPwmShortpulse a.val)
  let p := x.pwm
  let var := s.pN (Pid.axPwmVariant a.val)
  let reset := p.lastPolicy != pol || p.lastVariant != var || (p.inRun && !now)
  let p := if reset then (List.range 4).foldl (fun p j => p.dropCarry (fin 4 (by decide) j)) p else p
  let p := match d with
    | .brake _ => if reset then p.dropBrake else p
    | .coast _ | .sector _ _ | .pulse _ _ | .phases _ _ => p.dropBrake
  let kind := if s.motType a.val = 2 then 2 else 1
  let (p, miss) := match d with
    | .coast fl => (s.driveCoast a p kind fl, 0)
    | .brake q => s.driveBrake a p q
    | .sector n q => s.driveSector a p n q reset
    | .pulse n t => (s.drivePulse a p n t, 0)
    | .phases va vb => (s.drivePhases a p va vb reset, 0)
  let p := { p with lastPolicy := pol, lastVariant := var, inRun := now }
  s.modAxis a fun x => { x with pwm := p, com := { x.com with missed := (List.range miss).foldl (fun n _ => count32 n) x.com.missed } }

end Sys2Proof.Machine
end

