-- ==== Sys2Proof/Machine/Bfp.lean ====
section
/-! DEFINITION. Block floating point (R196 to R199): mantissas of a stage, accumulation, renormalisation, floors. -/

namespace Sys2Proof.Machine

/-- The value of a mantissa at an exponent. -/
def bfpVal (e m : Int) : Rat := (m : Rat) * pow2 (e - 23)

/-- Full scale of a mantissa. -/
def bfpMax : Int := 8388607

/-- A result at exponent `e` (R197): each term rounded to the accumulator's least significant bit, the sum rounded
once to the mantissa; the mantissa saturates, and whether it did (R199). -/
def bfpSum (e : Int) (terms : List Rat) : Int × Bool :=
  let acc : Int := terms.foldl (fun t q => t + roundEven (q / pow2 (e - 31))) 0
  let m := roundEven ((acc : Rat) / 256)
  if (2 : Int) ^ 55 < acc || bfpMax < m then (bfpMax, true)
  else if acc < -(2 : Int) ^ 55 || m < -bfpMax then (-bfpMax, true)
  else (m, false)

/-- A mantissa halved, ties to even. -/
def halve (m : Int) : Int := roundEven ((m : Rat) / 2)

/-- Renormalisation once after an evaluation (R198): the exponent, and the change of every mantissa. -/
def renorm (e floor : Int) (ms : List Int) : Int × (Int → Int) :=
  if e < floor || (ms.any (fun m => decide ((2 : Int) ^ 22 ≤ m.natAbs)) && decide (e < 31)) then (e + 1, halve)
  else if ms.all (fun m => decide (m.natAbs < 2 ^ 20)) && decide (floor < e) then (e - 1, fun m => 2 * m)
  else (e, id)

/-- The least n with q ≤ 2^n, for a positive rational. -/
def ceilLog2 (q : Rat) : Int :=
  let n : Int := (Nat.log2 q.num.natAbs : Int) - (Nat.log2 q.den : Int)
  if q ≤ pow2 (n - 1) then n - 1 else if q ≤ pow2 n then n else n + 1

/-- The floor of a stage with a reference magnitude (R196). -/
def bfpFloor (ref : Rat) : Int := if ref ≤ 0 then -32 else clampInt (-32) 31 (ceilLog2 (2 * ref))

/-- A gain held as a 24-bit mantissa with its own exponent (R197). -/
def gain24 (q : Rat) : Rat :=
  if q = 0 then 0
  else
    let e := ceilLog2 (rabs q)
    ((roundEven (q / pow2 (e - 24)) : Int) : Rat) * pow2 (e - 24)

/-- Reference magnitudes of the stages of an axis (R196). -/
def State.refPos (s : State) (a : Fin 128) : Rat := (s.pN (Pid.axPosFeMax a.val) : Rat)
/-- VEL. -/
def State.refVel (s : State) (a : Fin 128) : Rat := rmax (s.vmax a.val) (s.ilim a.val)
/-- CUR. -/
def State.refCur (s : State) (a : Fin 128) : Rat := rmax (s.ilim a.val) (3 / 2 * s.pF (Pid.axMotVbusNom a.val))
/-- FF and the filters. -/
def State.refFf (s : State) (a : Fin 128) : Rat := s.ilim a.val
/-- RPT. -/
def State.refRpt (s : State) (a : Fin 128) : Rat := s.pF (Pid.axRptLimit a.val)

end Sys2Proof.Machine
end

