-- ==== Sys2Proof/Machine/Commutation.lean ====
section
/-! DEFINITION. Six-step commutation (R132 to R159, R547): Hall tracking, crossings and their windows, prediction of
the sector, and the start, catch and re-catch events. -/

namespace Sys2Proof.Machine

/-- An update of the commutation state of an axis. -/
def State.modCom (s : State) (a : Fin 128) (f : ComSt → ComSt) : State :=
  s.modAxis a fun x => { x with com := f x.com }

/-! Hall sensors (R134, R135). -/

/-- A transition to a valid Hall sector at a device time (R135). -/
def ComSt.hallEdge (c : ComSt) (sec te : Nat) : ComSt :=
  match c.hallValid with
  | none => { c with hallValid := some sec }
  | some old =>
    if old = sec then c else
    let d := isgn (hallStep ((sec : Int) - old)).1
    let want : Int := if c.neg then -1 else 1
    let n := if d != 0 && d == c.hallDir then c.hallSince0 + 1 else 1
    { c with hallValid := some sec
             hallIv := match c.hallAt with
               | some t => pushN 2 (te - t) c.hallIv
               | none => c.hallIv
             hallAt := some te, hallDir := d, hallFwd := if d = want then c.hallFwd + 1 else 0
             hallSince0 := n, hallZero := c.hallZero && decide (n < 2) }

/-- The Hall records of a frame (R135, R164): states that the feedback chapter declares valid. -/
def State.hallTrack (s : State) (a : Fin 128) (c : ComSt) (recs : List Stamped) : ComSt :=
  let c := { c with hallNow := false }
  let c := recs.foldl (fun c r => match r.rcd with
    | .hall st ofs =>
      if bit st 7 then c else
      let c := { c with hallState := st % 8 }
      match s.hallSector a st with
      | some sec =>
        let te := if ofs = 0x1FFFF then r.stamp else s.edgeTime r.stamp ofs
        ({ c with hallNow := true, hallSince := true }).hallEdge sec te
      | none => c
    | .cur _ _ _ _ | .volt _ _ | .zc _ _ | .dly _ _ | .inc _ _ _ _ | .sincos _ _ | .serial _ _ _ | .zone _ _
    | .tripr _ _ => c) c
  match c.hallAt with
  | some t => if ms (s.pN (Pid.axFbkZeroTimeout a.val)) < s.frame.tick - 1000 - t then
      { c with hallZero := true, hallSince0 := 0 } else c
  | none => c

/-! Crossings of the floating phase (R133, R139, R140, R143, R144, R153). -/

/-- T60 in ns: the mean of the last two intervals; none before the first. -/
def ComSt.t60 (c : ComSt) : Option Rat := if c.zcIv.isEmpty then none else some (meanNat c.zcIv)

/-- The direction in which crossings are expected is decreasing (R133). -/
def ComSt.backward (c : ComSt) : Bool := if c.phase == .hall && c.hallDir != 0 then decide (c.hallDir < 0) else c.neg

/-- The polarity expected in a sector: rising in the odd ones forward (R133). -/
def expectRising (sec : Nat) (backward : Bool) : Bool := decide (sec % 2 = 1) != backward

/-- The chopped half-bridge of physical commands. -/
def SlotCmd.chopped (c : SlotCmd) : Option HbCmd := c.hb.toList.find? fun h => isPwm h.mode

/-- The commands of the carrier period that holds a device time, and of the carrier period before it: in the first
period of a frame those of the frame before. -/
def State.periodCmds (s : State) (a : Fin 128) (stamp : Nat) : SlotCmd × SlotCmd :=
  let p := s.axes[a].pwm
  let tc := s.tc a.val
  if stamp < p.liveAt then (p.livePrev, if stamp + s.tf < p.liveAt + tc then p.livePrev2 else p.livePrev)
  else (p.live, if stamp < p.liveAt + tc then p.livePrev else p.live)

/-- The crossing instant of a comparator edge (R139): inside an on-interval from 500 ns on, or in COAST; within
100 ns of that point it is the middle between the OFF of the carrier period before and that point.  Where nothing was
chopped in the period before, there is no OFF, and the instant of the edge stands (DESIGN CHOICE, log 163). -/
def State.zcInstant (s : State) (a : Fin 128) (stamp : Nat) : Option Nat :=
  let (c, before) := s.periodCmds a stamp
  let tc := s.tc a.val
  match c.chopped with
  | none => some stamp
  | some h =>
    let o := (stamp + 1000 * s.tf - s.axes[a].pwm.liveAt) % tc
    if o < h.tOn + 500 || h.tOff ≤ o then none
    else if o ≤ h.tOn + 600 then match before.chopped with
      | some g => some (stamp - o + h.tOn + 500 - (h.tOn + 500 + tc - g.tOff) / 2)
      | none => some stamp
    else some stamp

/-- The floating logical phase in force at a device time. -/
def State.floatAt (s : State) (a : Fin 128) (stamp : Nat) : Nat :=
  let p := s.axes[a].pwm
  let c := if stamp < p.liveAt then p.livePrev else p.live
  if c.float < 3 then logOf 1 (s.pN (Pid.axPwmSwap a.val)) 0 c.float else 3

/-- The phase of LISTEN that the next crossing is expected on (R147). -/
def nextHeard (l : List Crossing) : Nat :=
  match l.reverse with
  | [] => 0
  | [_] => 2
  | x :: y :: rest =>
    let l := (x :: y :: rest).reverse
    let fwd := match l with
      | u :: w :: _ => u.rising != w.rising
      | _ => true
    if fwd then (x.ph + 2) % 3 else (x.ph + 1) % 3

/-- The rotation heard is in the direction of increasing sectors (R147). -/
def heardForward (l : List Crossing) : Bool :=
  match l with
  | u :: w :: _ => u.rising != w.rising
  | _ => true

/-- The 60 °e intervals heard, latest first (R147): backward, the first interval spans 120 °e. -/
def heard60 (l : List Crossing) : List Nat :=
  let iv := (l.zip (l.drop 1)).map fun x => x.2.tm - x.1.tm
  ((if heardForward l then iv else iv.drop 1)).reverse

/-- A crossing in LISTEN (R147); it also feeds the estimate of R547, which it makes valid with the first 60 °e interval. -/
def State.listenEdge (s : State) (a : Fin 128) (c : ComSt) (rising : Bool) (stamp : Nat) : ComSt :=
  let want := nextHeard c.heard
  let polOk : Bool := match c.heard.reverse with
    | x :: _ :: _ => x.rising != rising
    | _ => true
  if s.floatAt a stamp = want && polOk && decide (c.listenFrom ≤ stamp) then
    let l := c.heard ++ [⟨want, rising, stamp⟩]
    let iv := (heard60 l).take 2
    let c := { c with
      heard := l, zcAt := some stamp, zcIv := if iv.isEmpty then c.zcIv else iv
      zcDir := if l.length < 2 then c.zcDir else if heardForward l then 1 else -1
      zcValid := c.zcValid || !iv.isEmpty, zcRun := 1 + iv.length, missRun := 0, zcFrame := true }
    { c with zcPred := c.t60.map fun q => stamp + (roundAway q).toNat }
  else c

/-- The sector that a crossing shows, by phase, polarity and direction (R133, R148). -/
def crossingSector (x : Crossing) (fwd : Bool) : Nat :=
  match x.ph, x.rising == fwd with
  | 2, false => 0
  | 1, true => 1
  | 0, false => 2
  | 2, true => 3
  | 1, false => 4
  | _, _ => 5

/-- An accepted crossing (R140, R153, R547): outside ±20 °e it is counted and leaves T60; the next interval is measured
from it. -/
def ComSt.accept (c : ComSt) (present : Bool) (t : Nat) : ComSt :=
  let pred := if present then c.zcPred else c.prevPred
  let c := if present then { c with zcGot := true } else { c with prevGot := true }
  let off := match pred, c.t60 with
    | some p, some iv => decide (iv * 20 / 60 < rabs ((t : Rat) - (p : Rat)))
    | _, _ => false
  let dir : Int := if c.backward then -1 else 1
  let same := c.zcRun != 0 && c.zcDir == dir
  let iv := if off then c.zcIv else match c.zcAt with
    | some u => if c.zcDir == dir then pushN 2 ((t - u) / (c.missRun + 1)) c.zcIv else []
    | none => c.zcIv
  let c := { c with zcIv := iv, zcAt := some t, zcRun := if same then c.zcRun + 1 else 1,
                    zcValid := same || (c.zcValid && c.zcDir == dir), zcDir := dir, missRun := 0 }
  if off then { c with zcOff := count32 c.zcOff, offRun := c.offRun + 1 }
  else
    let c := { c with offRun := 0, zcFrame := true }
    if present then c
    else { c with zcPred := c.t60.map fun q => t + (roundAway q).toNat }

/-- A comparator edge of the floating phase while the slot is driven (R139, R152): one after the end of its sector's
window is no crossing (R143). -/
def State.zcEdge (s : State) (a : Fin 128) (c : ComSt) (rising : Bool) (stamp : Nat) : ComSt :=
  let present := decide (c.sectorAt ≤ stamp)
  let sec := if present then c.sector else c.prevSector
  let blank := match c.t60 with
    | some q => max 10000 (roundAway (q * (s.pN (Pid.axComZcBlank a.val) : Rat) / 60)).toNat
    | none => 10000
  match s.zcInstant a stamp with
  | none => c
  | some t =>
    if 6 ≤ sec || (present && decide (stamp < c.sectorAt + blank)) then c
    else if rising == expectRising sec c.backward then
      let late : Bool := match if present then c.zcPred else c.prevPred, c.t60 with
        | some p, some q => decide ((p : Rat) + q * 20 / 60 < (t : Rat))
        | _, _ => false
      let open_ := !late && (if present then !c.zcGot && !c.closed else !c.prevGot && c.prevOpen)
      if open_ then ({ c with rampZc := c.rampZc + 1, backRun := 0 }).accept present t else c
    else if c.phase == .ramp then
      { c with backRun := c.backRun + 1, backAfter := c.backAfter || decide (1 ≤ c.rampZc) }
    else c

/-- The comparator edges of a frame. -/
def State.crossings (s : State) (a : Fin 128) (c : ComSt) (recs : List Stamped) : ComSt :=
  recs.foldl (fun c r => match r.rcd with
    | .zc rising _ => if c.phase == .listen then s.listenEdge a c rising r.stamp else s.zcEdge a c rising r.stamp
    | .cur _ _ _ _ | .volt _ _ | .dly _ _ | .hall _ _ | .inc _ _ _ _ | .sincos _ _ | .serial _ _ _ | .zone _ _
    | .tripr _ _ => c) { c with zcFrame := false }

/-- A window closes without a crossing (R153). -/
def ComSt.miss (c : ComSt) : ComSt :=
  { c with zcMiss := count32 c.zcMiss, missRun := c.missRun + 1, zcValid := c.zcValid && decide (c.missRun = 0),
           zcRun := 0 }

/-- Windows that have closed by the upstream cut-off of the frame (R143, R153).  With no sector in force they follow one
another by T60 until the estimate ends (R547; DESIGN CHOICE, log 162). -/
def State.windows (s : State) (c : ComSt) : ComSt :=
  let now := s.frame.tick - 500
  let c := if c.prevOpen && decide (c.sectorAt ≤ now) then
      let c := { c with prevOpen := false }
      if c.prevGot || c.prevPred.isNone then c else c.miss
    else c
  match c.zcPred, c.t60 with
  | some p, some q =>
    if c.zcGot || c.closed || decide ((now : Rat) < (p : Rat) + q * 20 / 60) then c
    else if 6 ≤ c.sector then
      ({ c with zcPred := if c.missRun = 0 then some (p + (roundAway q).toNat) else none }).miss
    else ({ c with closed := true }).miss
  | _, _ => c

/-- The crossing predicted after the present one (R140): T60 after the last crossing, or after its prediction. -/
def ComSt.nextPred (c : ComSt) : Option Nat :=
  match (if c.zcGot && c.offRun = 0 then c.zcAt else c.zcPred), c.t60 with
  | some t, some q => some (t + (roundAway q).toNat)
  | _, _ => none

/-- The sector changes at the actuation instant of the present frame. -/
def State.toSector (s : State) (c : ComSt) (sec : Nat) : ComSt :=
  if sec = c.sector then c else
  { c with
    prevSector := c.sector, prevOpen := decide (c.sector < 6) && !c.closed, prevGot := c.zcGot, prevPred := c.zcPred
    sector := sec, sectorAt := s.act, zcGot := false, closed := false
    zcPred := if c.sector < 6 then c.nextPred else c.zcPred }

/-- The advance in °e at an electrical frequency (R142). -/
def State.advance (s : State) (a : Fin 128) (f : Rat) : Rat :=
  let fx (i : Nat) : Rat := s.pN (Pid.axComAdvF0 a.val + i)
  let ad (i : Nat) : Rat := (s.pN (Pid.axComAdv a.val i) : Rat) / 10
  if f ≤ fx 0 then ad 0
  else match (List.range 15).find? fun i => decide (f ≤ fx (i + 1)) with
    | none => ad 15
    | some i => if fx (i + 1) = fx i then ad i else ad i + (ad (i + 1) - ad i) * (f - fx i) / (fx (i + 1) - fx i)

/-- The next sector in a direction. -/
def nextSector (sec : Nat) (backward : Bool) : Nat := (if backward then sec + 5 else sec + 1) % 6

/-- The change of sector by prediction in sensorless running (R140). -/
def State.predictZc (s : State) (a : Fin 128) (c : ComSt) : ComSt :=
  match (if c.zcGot && c.offRun = 0 then c.zcAt else c.zcPred), c.t60 with
  | some t, some q =>
    let at_ : Rat := (t : Rat) + q * (30 - s.advance a (hz60 q)) / 60
    if at_ ≤ (s.act : Rat) + (s.tf : Rat) / 2 then s.toSector c (nextSector c.sector c.neg) else c
  | _, _ => c

/-- The sector under Hall commutation (R135, R145). -/
def State.predictHall (s : State) (a : Fin 128) (c : ComSt) : ComSt :=
  match c.hallValid with
  | none => s.toSector c 7
  | some sec =>
    if !c.hallSince then s.toSector c 7 else
    let f := rabs (s.hallSpeed a (s.frame.tick - 1000))
    match c.hallAt with
    | some t =>
      if c.hallFwd < 2 || f < 5 / 100 * s.fRated a.val || c.hallIv.isEmpty then s.toSector c sec else
      let q := meanNat c.hallIv
      let at_ : Rat := (t : Rat) + q - q * s.advance a f / 60
      s.toSector c (if at_ ≤ (s.act : Rat) + (s.tf : Rat) / 2 then nextSector sec (decide (c.hallDir < 0)) else sec)
    | none => s.toSector c sec

/-- The forced angle of RAMP (R151): its frequency rises linearly, then holds. -/
def State.rampStep (s : State) (a : Fin 128) (c : ComSt) : ComSt :=
  let t : Rat := ((s.frame.tick - c.rampFrom : Nat) : Rat)
  let f0 := s.pF (Pid.axComStartF0 a.val)
  let f1 := (c.entryFend : Rat) / 100 * s.fRated a.val
  let f := f0 + (f1 - f0) * rmin 1 (t / (ms c.entryRamp : Rat))
  let d := 360 * f * s.tfS
  let th := if c.neg then c.theta - d else c.theta + d
  s.toSector { c with theta := th } ((th / 60).floor % 6).toNat

/-- Crossings within ±20 °e of the Hall angle while Hall commutation runs with SOURCE 2 (R146). -/
def ComSt.agreeHall (c : ComSt) : ComSt :=
  if !c.zcFrame then c else
  match c.hallAt, c.zcAt with
  | some h, some z =>
    let q := meanNat c.hallIv
    if rabs ((z : Rat) - (h : Rat) - q / 2) * 60 ≤ 20 * q then { c with hallAgree := c.hallAgree + 1 }
    else { c with hallAgree := 0 }
  | _, _ => c

/-! Phases. -/

/-- The six-step axis coasts: no sector in force; the windows of the estimate go on (R547). -/
def ComSt.coast (c : ComSt) (ph : ComPhase) : ComSt :=
  { c with phase := ph, prevSector := c.sector, prevOpen := false, sector := 7, zcGot := false, closed := false,
           zcPred := if c.zcGot || c.closed then c.nextPred else c.zcPred }

/-- LISTEN begins (R147). -/
def State.enterListen (s : State) (a : Fin 128) : State :=
  s.modAxis a fun x =>
    { x with state := .catching, com := { x.com.coast .listen with listenFrom := s.nt, heard := [] } }

/-- ALIGN begins (R151). -/
def State.enterAlign (s : State) (a : Fin 128) : State :=
  s.modCom a fun c => { c with phase := .align, alignFrom := s.nt }

/-- A try begins with the IPD (R150, R151): the retry entry is read; without IPD it goes to ALIGN. -/
def State.enterIpd (s : State) (a : Fin 128) (try_ : Nat) : State :=
  let i := try_ - 1
  let s := s.modAxis a fun x =>
    { x with
      state := .starting
      com := { x.com.coast .ipd with
        startTry := try_, ipdFrame := 0, ipdAt := 0, ipdI := Vector.replicate 6 0,
        entryI := s.pN (Pid.axComStartI0 a.val + i), entryRamp := s.pN (Pid.axComStartRamp0 a.val + i),
        entryFend := s.pN (Pid.axComStartFend0 a.val + i),
        zcAt := none, zcIv := [], zcRun := 0, zcValid := false, zcPred := none, missRun := 0, offRun := 0 } }
  if s.pN (Pid.axComIpdMode a.val) = 0 then s.enterAlign a else s

/-- RAMP begins with its start sector (R151). -/
def State.enterRamp (s : State) (a : Fin 128) (sec : Nat) : State :=
  s.modCom a fun c =>
    { c with phase := .ramp, rampFrom := s.nt, theta := 60 * (sec : Rat) + 30, rampZc := 0,
             backRun := 0, backAfter := false }

/-- The start sector after the pattern of sector `b`: the forced field leads the rotor by 90 to 150 °e in the
direction of the request (R133, R151). -/
def ComSt.startFrom (c : ComSt) (b : Nat) : Nat := (if c.neg then b + 1 else b + 2) % 6

/-- The loop states at rest (R210). -/
def StageSt.rest (t : StageSt) : StageSt :=
  { t with velXv := 0, xi := Vector.replicate 2 0, s1 := Vector.replicate 2 0, s2 := Vector.replicate 2 0 }

/-- Sensorless running begins (R146, R148). -/
def State.enterSensorless (s : State) (a : Fin 128) : State :=
  s.modAxis a fun x => { x with state := .run, com := { x.com with phase := .sensorless, missRun := 0, offRun := 0 } }

/-- Running on Hall sensors begins. -/
def State.enterHall (s : State) (a : Fin 128) : State :=
  s.modAxis a fun x => { x with state := .run, com := { x.com with phase := .hall, hallAgree := 0 } }

/-- A start request of a six-step axis (R146): by `AX.COM.SOURCE` and the Hall state. -/
def State.startSixStep (s : State) (a : Fin 128) (neg : Bool) : State :=
  let s := s.modCom a fun c =>
    { c with neg := neg, startTry := 0, recatchAt := [], brakeTotal := 0, hallSince := c.hallNow, hallFwd := 0 }
  match s.pN (Pid.axComSource a.val) with
  | 0 => s.enterHall a
  | 1 => s.enterListen a
  | _ => if s.axes[a].com.hallNow then s.enterHall a else (s.raiseAx 0x1036 a).enterListen a

/-- The axis holds a phase. -/
def State.inPhase (s : State) (a : Fin 128) (ph : ComPhase) : Bool :=
  s.axes[a].com.phase == ph && s.axOn (clusterOf a)

/-! Events of R146. -/

/-- The DC bus of the latest STAT record of an axis's link, in V; otherwise a given value. -/
def State.vbusOr (s : State) (a : Fin 128) (v : Rat) : Rat :=
  match s.links[linkOf a].stat with
  | some r => (r.vbus : Rat) / 100
  | none => v

/-- Seeds of the predictor from LISTEN, and the current loop's preset (R148). -/
def State.catchForward (s : State) (a : Fin 128) (f : Rat) : State :=
  let c := s.axes[a].com
  let fwd := heardForward c.heard
  match c.heard.reverse with
  | [] => s
  | x :: _ =>
    let iv := (heard60 c.heard).take 2
    let rpm := f * 60 / (s.poles a.val : Rat)
    let e := s.ke a.val * rpm * c.keRatio
    let vbus := s.vbusOr a s.axes[a].eng.vbusC
    let u : Rat := if vbus = 0 then 0 else e / vbus * s.axes[a].eng.vbusC
    let s := s.modAxis a fun y =>
      { y with
        com := { y.com with
          zcAt := some x.tm, zcIv := iv, zcRun := 2, zcValid := true, zcDir := if fwd then 1 else -1,
          zcPred := some x.tm, zcGot := true, sector := crossingSector x fwd, sectorAt := x.tm, closed := false }
        eng := { y.eng with st := y.eng.st.rest, preset := #v[some u, none], iSp := 0, fromZero := true } }
    s.enterSensorless a

/-- Listening ends (R147): caught, braked, or started from rest. -/
def execCatchListenEnd (a : Fin 128) (tm : Nat) (s : State) : Host.Outcome State Fault Refusal :=
  let s := s.adv tm
  let c := s.axes[a].com
  let last := match c.heard.reverse with
    | x :: _ => max c.listenFrom x.tm
    | [] => c.listenFrom
  let three := decide (3 ≤ c.heard.length) && decide (c.listenFrom + ms (s.pN (Pid.axComCatchListen a.val)) ≤ s.nt)
  let quiet := decide (last + ms (s.pN (Pid.axComCatchQuiet a.val)) ≤ s.nt)
  if !s.inPhase a .listen || !(three || quiet) then .next s
  else if !three then .next ((s.modCom a fun c => { c with catchSpeed := 0 }).enterIpd a 1)
  else
    let f := hz60 (meanNat (heard60 c.heard))
    let along := heardForward c.heard != c.neg
    let pct := if s.fRated a.val = 0 then 0 else 100 * f / s.fRated a.val
    let sg : Rat := if heardForward c.heard then pct else -pct
    let s := s.modCom a fun c => { c with catchSpeed := sg }
    .next (if along && decide (100 * s.slPct a (s.pN (Pid.axComCatchMin a.val)) ≤ pct) then
        (s.catchForward a f).event 0x1101 a.val (ofSigned 32 (roundAway (sg * 100)))
      else if !along && decide (100 * s.slPct a (s.pN (Pid.axComBrakeMin a.val)) ≤ pct) then
        s.modCom a fun c => { c.coast .brake with brakeFrom := s.nt }
      else s.enterIpd a 1)

/-- `AX.COM.BRAKE_ON` has elapsed (R146). -/
def execBrakeOnElapsed (a : Fin 128) (tm : Nat) (s : State) : Host.Outcome State Fault Refusal :=
  let s := s.adv tm
  let c := s.axes[a].com
  .next (if s.inPhase a .brake && decide (c.brakeFrom + ms (s.pN (Pid.axComBrakeOn a.val)) ≤ s.nt) then
    (s.modCom a fun c => { c with brakeTotal := c.brakeTotal + (s.nt - c.brakeFrom) }).enterListen a
  else s)

/-- Braking since entering CATCH exceeds `AX.COM.BRAKE_TMAX` (R146). -/
def execBrakeTimeout (a : Fin 128) (tm : Nat) (s : State) : Host.Outcome State Fault Refusal :=
  let s := s.adv tm
  let c := s.axes[a].com
  .next (if s.inPhase a .brake && decide (ms (s.pN (Pid.axComBrakeTmax a.val)) < c.brakeTotal + (s.nt - c.brakeFrom)) then
    s.raiseAx 0x1032 a
  else s)

/-- The sector of the largest test pulse: the first of equal ones. -/
def ComSt.ipdMax (c : ComSt) : Nat :=
  (List.range 6).foldl (fun b n => if c.ipdI[fin 6 (by decide) b] < c.ipdI[fin 6 (by decide) n] then n else b) 0

/-- The 18 frames of the IPD are over (R150). -/
def execIpdDone (a : Fin 128) (tm : Nat) (s : State) : Host.Outcome State Fault Refusal :=
  let s := s.adv tm
  let c := s.axes[a].com
  if !s.inPhase a .ipd || c.ipdFrame < 18 then .next s else
  let b := c.ipdMax
  let i := c.ipdI[fin 6 (by decide) b]
  let j := c.ipdI[fin 6 (by decide) (b + 3)]
  let ok := decide ((s.pN (Pid.axComIpdMargin a.val) : Rat) / 100 * i ≤ i - j)
  let s := s.modCom a fun c => { c with ipdResult := b + b2n ok * 8 }
  .next (if ok then s.enterRamp a (c.startFrom b) else s.enterAlign a)

/-- `AX.COM.ALIGN_T` has elapsed (R146, R151). -/
def execAlignElapsed (a : Fin 128) (tm : Nat) (s : State) : Host.Outcome State Fault Refusal :=
  let s := s.adv tm
  let c := s.axes[a].com
  .next (if s.inPhase a .align && decide (c.alignFrom + ms (s.pN (Pid.axComAlignT a.val)) ≤ s.nt) then
    s.enterRamp a (c.startFrom (s.pN (Pid.axComStartSector a.val)))
  else s)

/-- `AX.COM.START_ZC` crossings in forward order (R146): event 0x1102. -/
def execStartZcReached (a : Fin 128) (tm : Nat) (s : State) : Host.Outcome State Fault Refusal :=
  let s := s.adv tm
  let c := s.axes[a].com
  .next (if s.inPhase a .ramp && decide (s.pN (Pid.axComStartZc a.val) ≤ c.rampZc) then
    (s.enterSensorless a).event 0x1102 a.val (c.startTry + c.ipdResult * 256)
  else s)

/-- A try has failed (R152). -/
def ComSt.tryFailed (c : ComSt) (win now : Nat) : Bool :=
  (c.rampZc == 0 && decide (c.rampFrom + ms c.entryRamp + ms win ≤ now)) || decide (2 ≤ c.backRun) || c.backAfter

/-- A try fails (R146, R152): COAST for 50 ms. -/
def execStartTryFail (a : Fin 128) (tm : Nat) (s : State) : Host.Outcome State Fault Refusal :=
  let s := s.adv tm
  let c := s.axes[a].com
  .next (if s.inPhase a .ramp && c.tryFailed (s.pN (Pid.axComStartWin a.val)) s.nt then
    s.modCom a fun c => { c.coast .pause with pauseFrom := s.nt }
  else s)

/-- 50 ms of PAUSE have elapsed (R146): the next entry, or 0x1031 where the table is exhausted. -/
def execStartPauseEnd (a : Fin 128) (tm : Nat) (s : State) : Host.Outcome State Fault Refusal :=
  let s := s.adv tm
  let c := s.axes[a].com
  .next (if s.inPhase a .pause && decide (c.pauseFrom + ms 50 ≤ s.nt) then
    (if c.startTry < 3 then s.enterIpd a (c.startTry + 1) else s.raiseAx 0x1031 a)
  else s)

/-- The rotor is lost (R153): re-catch, fallback to Hall, or fault; the next actuation is COAST. -/
def execRotorLost (a : Fin 128) (tm : Nat) (s : State) : Host.Outcome State Fault Refusal :=
  let s := s.adv tm
  let c := s.axes[a].com
  let miss := decide (2 ≤ c.missRun)
  if !s.inPhase a .sensorless || s.axes[a].state != .run || !(miss || decide (3 ≤ c.offRun)) then .next s
  else if s.pN (Pid.axComSource a.val) = 2 then
    .next (((s.raiseAx 0x1036 a).enterHall a).modAxis a fun x => { x with eng := { x.eng with coastNext := true } })
  else
    let l := within (secs 1) s.nt c.recatchAt
    if 3 ≤ l.length then .next (s.raiseAx 0x1034 a)
    else
      let s := s.modCom a fun c => { c with recatchAt := s.nt :: l, recatch := count32 c.recatch, brakeTotal := 0 }
      .next ((s.enterListen a).event 0x1103 a.val (l.length + 1 + b2n (!miss) * 256))

/-- No crossing for `AX.COM.CATCH_QUIET` in COAST_STOP (R146): READY, or OFF when ENABLE is clear; in FAULT the
stop has ended. -/
def execCoastStopQuiet (a : Fin 128) (tm : Nat) (s : State) : Host.Outcome State Fault Refusal :=
  let s := s.adv tm
  let x := s.axes[a]
  let from_ := max x.com.coastFrom (x.com.zcAt.getD 0)
  .next (if s.inPhase a .coastStop && decide (from_ + ms (s.pN (Pid.axComCatchQuiet a.val)) ≤ s.nt) then
    s.modAxis a fun x =>
      { x with
        com := x.com.coast .none
        state := if x.state == .stop || x.state == .run then (if x.enable then .ready else .off) else x.state
        eng := { x.eng with st := x.eng.st.rest }
        rea := { x.rea with stopDone := true, coasted := x.rea.coasted || x.state == .fault } }
  else s)

/-! HALL_LEARN (R136). -/

/-- AX.COM.HALL_LEARN: the axis must be READY; the call runs over six steps. -/
def execAxComHallLearn (m : Fin 16) (tm : Nat) (s : State) : Host.Outcome State Fault Refusal :=
  .next (s.serveAxis m tm 0x11 0xF001 0 fun a t _ =>
    if t.axes[a].state != .ready || t.motType a.val ≠ 1 || t.axes[a].com.learn.isSome then .fail stState
    else .wait (t.modCom a fun c => { c with learn := some { n := 0, stepFrom := t.nt } })
      (.call (0x1100F001 + a.val * 0x10000)))

/-- The map that six recorded states give, and the result of R136. -/
def learnResult (map : Nat) (seen : List Nat) : Nat × Nat :=
  let st (i : Nat) : Nat := seen.getD i 0
  let valid (v : Nat) : Bool := v != 0 && v != 7
  let all := (List.range 6).map st
  if all.all (fun v => v == st 0) then (map, 3)
  else if !(all.all valid) then (map, 2)
  else if (List.range 6).any fun i => (List.range i).any fun j => st i == st j then (map, 1)
  else
    let nib (v : Nat) : Nat := match (List.range 6).find? fun i => st i == v with
      | some i => (i + 2) % 6
      | none => 15
    ((List.range 8).foldl (fun t v => t + nib v * 16 ^ v) 0, 0)

/-- A step of HALL_LEARN ends (R136): the Hall state is recorded; after the sixth the call answers. An axis that has
left READY ends the call. -/
def execHallLearnStep (a : Fin 128) (tm : Nat) (s : State) : Host.Outcome State Fault Refusal :=
  let s := s.adv tm
  match s.axes[a].com.learn with
  | none => .next s
  | some k =>
    if s.axes[a].state != .ready then
      .next ((s.modCom a fun c => { c with learn := none }).callDone (0x1100F001 + a.val * 0x10000) stState [])
    else if s.nt < k.stepFrom + ms (s.pN (Pid.axComAlignT a.val)) then .next s
    else
      let seen := k.seen ++ [s.axes[a].com.hallState]
      if k.n < 5 then
        .next (s.modCom a fun c => { c with learn := some { n := k.n + 1, stepFrom := s.nt, seen := seen } })
      else
        let id := Pid.axComHallMap a.val
        let (map, res) := learnResult (s.pN id) seen
        let s := s.modCom a fun c => { c.coast .none with learn := none }
        let s := if res = 0 then s.markReady none [(id, .num map)] else s
        .next (s.callDone (0x1100F001 + a.val * 0x10000) stOk (leBytes 4 map ++ leBytes 1 res))

/-! Checks of data that the engine has gathered. -/

/-- 400 frames with a current set-point and no valid sample (R138). -/
def execCurrentBlind (a : Fin 128) (tm : Nat) (s : State) : Host.Outcome State Fault Refusal :=
  let s := s.adv tm
  .next (if 400 ≤ s.axes[a].com.blindRun then s.raiseAx 0x1037 a else s)

/-- The 200 ms window of the induced-voltage check ends (R156, R157): with 100 pairs the ratio is formed and
judged; the value also goes to the ageing monitors. -/
def execKeRatioUpdate (a : Fin 128) (tm : Nat) (s : State) : Host.Outcome State Fault Refusal :=
  let s := s.adv tm
  let c := s.axes[a].com
  if s.nt < c.keFrom + ms 200 then .next s else
  let clear (c : ComSt) : ComSt := { c with keSum := 0, keN := 0, keFrom := s.nt }
  if c.keN < 100 then .next (s.modCom a clear) else
  let r := c.keSum / (c.keN : Rat)
  let s := s.modCom a fun c => { clear c with keRatio := r }
  let g := s.age.axes[a]
  let g := { g with keSum := g.keSum + r, keN := g.keN + 1 }
  let s := s.modAge fun k => { k with axes := k.axes.set a g }
  let s := if r < 85 / 100 || 115 / 100 < r then s.raiseAx 0x1040 a else s
  .next (if r < 70 / 100 || 130 / 100 < r then s.raiseAx 0x1041 a else s)

end Sys2Proof.Machine
end

