-- ==== Sys2Proof/Machine/Loops.lean ====
section
/-! DEFINITION. The loops of R201 (R202 to R218): position, velocity, filters, feed-forward, repetitive controller,
current, and test-signal injection.  Saturations are collected as the bits of R200. -/

namespace Sys2Proof.Machine

/-- The set-points and limits of an axis in a frame, in engine units (R195). -/
structure LoopIn where
  /-- The position loop and the velocity loop run. -/
  pos : Bool := false
  vel : Bool := false
  posSp : Int := 0
  vFf : Rat := 0
  aFf : Rat := 0
  velSp : Rat := 0
  curSp : Rat := 0
  curFf : Rat := 0
  ilim : Rat := 0
  /-- A limit on |v_cmd| beside `AX.VEL.VMAX` (R413). -/
  vlim : Option Rat := none
deriving DecidableEq, Repr

/-- Stage bits of R200: 0 POS, 1 VEL, 2 CUR, 3 FF, 4 RPT, 5 FLT1, 6 FLT2. -/
def satBit (i : Nat) (b : Bool) : BitVec 7 := if b then 1#7 <<< i else 0#7

/-- A stage of the axis has taken a saturated result. -/
def EngSt.mark (e : EngSt) (i : Nat) (b : Bool) : EngSt := { e with sat := e.sat ||| satBit i b }

/-- The present speed in rev/s (R195). -/
def State.vAct (s : State) (a : Fin 128) : Rat := s.axes[a].fbk.vel / (s.cpr a : Rat)

/-! Injection (R217). -/

/-- The injected signal at a point, in the point's unit. -/
def EngSt.injAt (e : EngSt) (p : Nat) : Rat := if e.inj == .running && e.injPoint == p then e.injS else 0

/-- Feedback taps of the shift register (R217). -/
def prbsTaps (n : Nat) : List Nat :=
  match n with
  | 7 => [7, 6] | 8 => [8, 6, 5, 4] | 9 => [9, 5] | 10 => [10, 7] | 11 => [11, 9] | 12 => [12, 11, 10, 4]
  | 13 => [13, 12, 11, 8] | 14 => [14, 13, 12, 2] | _ => [15, 14]

/-- One clock of the shift register: the taps' parity enters stage 1. -/
def prbsNext (n r : Nat) : Nat :=
  let b := (prbsTaps n).foldl (fun t k => t != bit r (k - 1)) false
  (r * 2 + b2n b) % 2 ^ n

/-- The signal of a frame of a running injection (R217), and the state for the next: `t` from the start. -/
def State.injStep (s : State) (e : EngSt) : EngSt :=
  if e.inj != .running then e else
  let t : Rat := (e.injFrames : Rat) * s.tfS
  let total : Rat := (e.injTime : Rat) / 1000
  let n := e.injFrames + 1
  match e.injShape with
  | 0 => { e with injS := e.injAmp * sineTurns (e.injF0 * t), injFrames := n }
  | 1 =>
    let f := e.injF0 * powerQ (e.injF1 / e.injF0) (t / total)
    let ph := e.injPhase + f * s.tfS
    { e with injS := e.injAmp * sineTurns ph, injPhase := ph, injFrames := n }
  | 2 =>
    let r := if e.injFrames ≠ 0 && e.injFrames % e.injHold = 0 then prbsNext e.injN e.prbs else e.prbs
    { e with injS := if bit r (e.injN - 1) then e.injAmp else -e.injAmp, prbs := r, injFrames := n }
  | _ => { e with injS := e.injAmp, injFrames := n }

/-! Position and velocity stages. -/

/-- POS (R202): the exact error, its integer part stored; the velocity command before its limit. -/
def State.posStage (s : State) (a : Fin 128) (e : EngSt) (i : LoopIn) : EngSt × Rat :=
  let ep := s.dispOf a (i.posSp + q32 (e.injAt 1)) s.axes[a].fbk.pos
  let st := e.st
  let (m, b1) := bfpSum st.posE [((ep / 4294967296 : Int) : Rat)]
  let kp := gain24 (s.pF (Pid.axPosKp a.val) / (s.cpr a : Rat))
  let (y, b2) := bfpSum st.posE [kp * bfpVal st.posE m, s.pF (Pid.axPosKvff a.val) * i.vFf]
  let v := bfpVal st.posE y
  let (ne, g) := renorm st.posE (bfpFloor (s.refPos a)) [m, y]
  (({ e with ep := ep, st := { st with posE := ne, posEp := g m, posYp := g y } }).mark 0 (b1 || b2), v)

/-- The integration of R208 at an exponent: bounded, and only towards the limit while the output is limited. -/
def integrate (e x : Int) (ki err unlim lim xmax : Rat) : Int × Bool :=
  let (m, b) := if unlim == lim || err * (unlim - lim) < 0 then bfpSum e [bfpVal e x, ki * err] else (x, false)
  let v := bfpVal e m
  if xmax < v then ((bfpSum e [xmax]).1, b) else if v < -xmax then ((bfpSum e [-xmax]).1, b) else (m, b)

/-- A filter (R204), in direct form II transposed, on the stage `k`: its output. -/
def State.filter (s : State) (a : Fin 128) (e : EngSt) (k : Fin 2) (typ : Nat) (x : Rat) : EngSt × Rat :=
  let st := e.st
  if typ = 0 then ({ e with st := { st with fx := st.fx.set k x } }, x) else
  let ex := st.fltE[k]
  let c (j : Nat) : Rat := f32Dec (s.fltCoef a.val (k.val + 1) j)
  let (y, b0) := bfpSum ex [c 0 * x, bfpVal ex st.s1[k]]
  let yv := bfpVal ex y
  let (m1, b1) := bfpSum ex [c 1 * x, -(c 3 * yv), bfpVal ex st.s2[k]]
  let (m2, b2) := bfpSum ex [c 2 * x, -(c 4 * yv)]
  let (ne, g) := renorm ex (bfpFloor (s.refFf a)) [y, m1, m2]
  let t := { st with
    fltE := st.fltE.set k ne, s1 := st.s1.set k (g m1), s2 := st.s2.set k (g m2), fo := st.fo.set k (g y)
    fx := st.fx.set k x }
  (({ e with st := t }).mark (5 + k.val) (b0 || b1 || b2), yv)

/-- FF (R203): acceleration and friction feed-forward and CUR_FF. -/
def State.ffStage (s : State) (a : Fin 128) (e : EngSt) (i : LoopIn) (vCmd : Rat) : EngSt × Rat :=
  let st := e.st
  let (ia, b0) := bfpSum st.ffE [s.pF (Pid.axVelKaff a.val) * i.aFf]
  let fr := clampRat (-1) 1 (vCmd / s.pF (Pid.axVelFricBand a.val))
  let (fm, b1) := bfpSum st.ffE [s.pF (Pid.axVelKfric a.val) * fr]
  let (o, b2) := bfpSum st.ffE [bfpVal st.ffE ia, bfpVal st.ffE fm, i.curFf]
  let v := bfpVal st.ffE o
  let (ne, g) := renorm st.ffE (bfpFloor (s.refFf a)) [ia, fm, o]
  (({ e with st := { st with ffE := ne, ia := g ia, ifr := g fm, iff := g o } }).mark 3 (b0 || b1 || b2), v)

/-! Repetitive controller (R213 to R215). -/

/-- The bin of a position in cts. -/
def State.rptBin (s : State) (a : Fin 128) (x : Int) : Nat :=
  let p : Int := s.pN (Pid.axRptPeriod a.val)
  ((x % p) * 256 / p).toNat % 256

/-- The engine of a cluster runs in reduced mode (R37). -/
def State.reducedAt (s : State) (a : Fin 128) : Bool := s.frame.reduced.getLsbD (clusterOf a).val

/-- The output r of the RPT stage (R213, R214), clamped: whether the clamp acted. -/
def State.rptOut (s : State) (a : Fin 128) (e : EngSt) : EngSt × Rat :=
  if s.pN (Pid.axRptEnable a.val) = 0 || s.reducedAt a then ({ e with st := { e.st with r := 0 } }, 0) else
  let st := e.st
  let x := s.axes[a].fbk
  let ahead := ((x.vel * s.pF (Pid.axRptLeadT a.val) / 1000000 : Rat) + (x.pos : Rat) / 4294967296).floor
  let lim := s.pF (Pid.axRptLimit a.val)
  let t := bfpVal st.rptE (st.bins.getD (s.rptBin a ahead) 0) - bfpVal st.rptE st.mean
  let c := clampRat (-lim) lim t
  let (m, b) := bfpSum st.rptE [c]
  (({ e with st := { st with r := m }, clamped := e.clamped || decide (lim < rabs t) }).mark 4 b, bfpVal st.rptE m)

/-- The bins from `b0`, exclusive, to `b1`, inclusive, in the direction of motion. -/
def binsCrossed (b0 b1 : Nat) (up : Bool) : List Nat :=
  let n := if up then (b1 + 256 - b0) % 256 else (b0 + 256 - b1) % 256
  (List.range n).map fun k => if up then (b0 + k + 1) % 256 else (b0 + 255 - k) % 256

/-- Learning is allowed in a frame (R214), the number of bins aside. -/
def State.rptMay (s : State) (a : Fin 128) (e : EngSt) (velLoop : Bool) : Bool :=
  let x := s.axes[a]
  s.pN (Pid.axRptEnable a.val) = 1 && s.pN (Pid.axRptFreeze a.val) = 0 && x.state == .run && velLoop &&
  decide (s.pF (Pid.axRptVmin a.val) ≤ rabs (s.vAct a)) && e.sat == 0 && !s.fbkLost a && !x.fbk.estimated &&
  e.inj != .running && !s.reducedAt a

/-- The RPT update after the CUR stage (R213): every bin crossed learns y_v; M follows; the stage renormalises. -/
def State.rptUpdate (s : State) (a : Fin 128) (e : EngSt) (velLoop : Bool) (yv : Rat) : EngSt :=
  if s.pN (Pid.axRptEnable a.val) = 0 || s.reducedAt a then { e with learning := false } else
  let p0 := e.rptPos
  let p1 := s.axes[a].fbk.pos / 4294967296
  let moved := s.dispOf a (cts32 p1) (cts32 p0) / 4294967296
  let hit := if moved = 0 then [] else binsCrossed (s.rptBin a p0) (s.rptBin a p1) (decide (0 < moved))
  let may := s.rptMay a e velLoop
  let beyond := decide (4 < hit.length) || decide (s.pN (Pid.axRptPeriod a.val) ≤ moved.natAbs)
  let st := e.st
  let lim := s.pF (Pid.axRptLimit a.val)
  let fg := gain24 (1 - s.pF (Pid.axRptForget a.val))
  let gn := s.pF (Pid.axRptGain a.val)
  let learn := may && !beyond
  let (bins, sum, sat) := if !learn then (st.bins, (0 : Int), false) else
    hit.foldl (fun (t : List Int × Int × Bool) b =>
      let old := t.1.getD b 0
      let (m, q) := bfpSum st.rptE [fg * bfpVal st.rptE old, gn * yv]
      let m := (bfpSum st.rptE [clampRat (-lim) lim (bfpVal st.rptE m)]).1
      (t.1.set b m, t.2.1 + m - old, t.2.2 || q)) (st.bins, 0, false)
  let (mean, q) := bfpSum st.rptE [bfpVal st.rptE st.mean, bfpVal st.rptE sum / 256]
  let (ne, g) := renorm st.rptE (bfpFloor (s.refRpt a)) (mean :: st.r :: bins)
  ({ e with
      st := { st with bins := bins.map g, mean := g mean, r := g st.r, rptE := ne }
      rptWas := some (s.frame.tick, st.bins, st.mean, st.rptE)
      learning := learn, overspeed := e.overspeed || beyond }).mark 4 (sat || q)

/-! Velocity loop. -/

/-- The velocity loop of a frame (R201, R203): the set current before and after its limit, and y_v.  With `fromZero` the
integrator starts where the set current is 0 (R148). -/
def State.velStage (s : State) (a : Fin 128) (e : EngSt) (i : LoopIn) (vCmd : Rat) : EngSt × Rat × Rat × Rat :=
  let st := e.st
  let ex := st.velE
  let kp := s.pF (Pid.axVelKp a.val)
  let (ev, b0) := bfpSum ex [vCmd, e.injAt 2, -(s.vAct a)]
  let evv := bfpVal ex ev
  let (e, ff) := s.ffStage a e i vCmd
  let (e, r) := s.rptOut a e
  let x0 := if e.fromZero && kp != 0 then (bfpSum ex [-evv - (ff + r + e.injAt 3) / kp]).1 else st.velXv
  let (yv, b1) := bfpSum ex [kp * evv, kp * bfpVal ex x0]
  let y := bfpVal ex yv
  let (e, f1) := s.filter a e 0 (s.pN (Pid.axFltF1Type a.val)) y
  let (e, f2) := s.filter a e 1 (if s.reducedAt a then 0 else s.pN (Pid.axFltF2Type a.val)) f1
  let iu := f2 + ff + r + e.injAt 3
  let isp := clampRat (-i.ilim) i.ilim iu
  let ki := gain24 (s.pF (Pid.axVelKi a.val) * s.tfS)
  let xmax := if kp = 0 then 0 else s.ilim a.val / kp
  let (xv, b2) := integrate ex x0 ki evv iu isp xmax
  let (ne, g) := renorm ex (bfpFloor (s.refVel a)) [ev, xv, yv]
  let e := { e with st := { e.st with velE := ne, velEv := g ev, velXv := g xv, velYv := g yv } }
  (e.mark 1 (b0 || b1 || b2), iu, isp, y)

/-- Position and velocity loops, or the bypass of mode 3 (R201): the set current, and y_v. -/
def State.outerLoops (s : State) (a : Fin 128) (e : EngSt) (i : LoopIn) : EngSt × Rat × Rat :=
  let vmax := match i.vlim with
    | some l => rmin l (s.vmax a.val)
    | none => s.vmax a.val
  let (e, v) := if i.pos then s.posStage a e i else (e, i.velSp)
  if i.vel then
    let vc := clampRat (-vmax) vmax v
    let (e, _, isp, y) := s.velStage a { e with vCmd := vc } i vc
    let isp := if e.fromZero then 0 else isp
    ({ e with iSp := isp, fromZero := false }, isp, y)
  else
    let iu := i.curSp + i.curFf + e.injAt 3
    let isp := if e.fromZero then 0 else clampRat (-i.ilim) i.ilim iu
    ({ e with iSp := isp, vCmd := 0, fromZero := false }, isp, 0)

/-! Current loop. -/

/-- What one current loop works on (R205): set and actual current, back-EMF, motor data and output limits. -/
structure CurIn where
  isp : Rat
  iact : Rat
  emf : Rat
  r : Rat
  l : Rat
  lo : Rat
  hi : Rat
deriving DecidableEq, Repr

/-- The one-frame prediction i_pred at an exponent under a voltage (R207), and whether it saturated. -/
def State.predict (s : State) (a : Fin 128) (ex : Int) (c : CurIn) (u : Rat) : Int × Bool :=
  let gp := if c.l = 0 then 0 else gain24 (s.tfS / c.l)
  let (ip, b) := bfpSum ex [c.iact, gp * u, -(gp * (c.r * c.iact)), -(gp * c.emf)]
  let lim := 3 / 2 * s.ilim a.val
  ((bfpSum ex [clampRat (-lim) lim (bfpVal ex ip)]).1, b)

/-- One CUR evaluation on phase `k` (R205, R207, R208), and its output u; the stage renormalises after it. -/
def State.curStage (s : State) (a : Fin 128) (e : EngSt) (k : Fin 2) (c : CurIn) : EngSt × Rat :=
  let st := e.st
  let ex := st.curE
  let kp := s.pF (Pid.axCurKp a.val)
  let uff := (if s.pB (Pid.axCurFfR a.val) then c.r * c.isp else 0) + (if s.pB (Pid.axCurFfEmf a.val) then c.emf else 0)
  let (ei, b0) := bfpSum ex [c.isp, -c.iact]
  let eiv := bfpVal ex ei
  let x0 := match e.preset[k] with
    | some u => if kp = 0 then st.xi[k] else (bfpSum ex [(u - uff) / kp - eiv]).1
    | none => st.xi[k]
  let (uu, b1) := bfpSum ex [kp * eiv, kp * bfpVal ex x0, uff, e.injAt 4]
  let uuv := bfpVal ex uu
  let u := clampRat c.lo c.hi uuv
  let um := (bfpSum ex [u]).1
  let ki := gain24 (s.pF (Pid.axCurKi a.val) * s.tfS)
  let xmax := if kp = 0 then 0 else 3 / 2 * s.pF (Pid.axMotVbusNom a.val) / kp
  let (xi, b2) := integrate ex x0 ki eiv uuv u xmax
  let (ip, b3) := s.predict a ex c u
  let t := { st with ei := st.ei.set k ei, xi := st.xi.set k xi, u := st.u.set k um, ip := st.ip.set k ip }
  (({ e with st := t, preset := e.preset.set k none }).mark 2 (b0 || b1 || b2 || b3), u)

/-- The renormalisation of CUR after its evaluation (R198). -/
def State.curNorm (s : State) (a : Fin 128) (e : EngSt) : EngSt :=
  let st := e.st
  let (ne, g) := renorm st.curE (bfpFloor (s.refCur a))
    (st.ei.toList ++ st.xi.toList ++ st.u.toList ++ st.ip.toList)
  { e with st := { st with curE := ne, ei := st.ei.map g, xi := st.xi.map g, u := st.u.map g, ip := st.ip.map g } }

/-- The bus voltage that the current loop reckons with (R206). -/
def State.vbusComp (s : State) (a : Fin 128) : Rat :=
  let nom := s.pF (Pid.axMotVbusNom a.val)
  if s.pN (Pid.axCurVbusComp a.val) = 0 then nom else rmax (nom / 2) (s.vbusOr a nom)

/-- The measured bus lies below half its nominal value (R206). -/
def State.vbusIsLow (s : State) (a : Fin 128) : Bool :=
  let nom := s.pF (Pid.axMotVbusNom a.val)
  s.pN (Pid.axCurVbusComp a.val) = 1 && decide (s.vbusOr a nom < nom / 2)

/-- The frame's bookkeeping of saturation (R199, R200). -/
def EngSt.closeSat (e : EngSt) : EngSt :=
  { e with sticky := e.sticky ||| e.sat
           satRun := Vector.ofFn fun i => if e.sat.getLsbD i.val then e.satRun[i] + 1 else 0 }

end Sys2Proof.Machine
end

