-- ==== Sys2Proof/Machine/Profile.lean ====
section
/-! DEFINITION. Profile shapes (R229): changes of speed, moves to an end point, and the interpolation of coarse
set-points (R250 to R252).  Times in s, positions in cts. -/

namespace Sys2Proof.Machine

/-- A change between speeds of one sign (R229): A and J are the limits, J = 0 is trapezoidal. -/
def rampSegs (v0 v1 A J : Rat) : List Seg :=
  let dv := rabs (v1 - v0)
  let sg := rsgn (v1 - v0)
  if dv = 0 || A ≤ 0 then []
  else if J ≤ 0 then [⟨dv / A, v0, sg * A, 0⟩]
  else if A * A / J ≤ dv then
    let t := A / J
    let w := sg * A * A / (2 * J)
    [⟨t, v0, 0, sg * J⟩, ⟨dv / A - t, v0 + w, sg * A, 0⟩, ⟨t, v1 - w, sg * A, -(sg * J)⟩]
  else
    let t := sqrtQ (dv / J)
    [⟨t, v0, 0, sg * J⟩, ⟨t, v0 + sg * dv / 2, sg * J * t, -(sg * J)⟩]

/-- A change of speed (R229): towards a larger |v| under ACC, towards a smaller one under DEC, through 0 as two
changes. -/
def velSegs (v0 v1 acc dec J : Rat) : List Seg :=
  if v0 * v1 < 0 then rampSegs v0 0 dec J ++ rampSegs 0 v1 acc J
  else rampSegs v0 v1 (if rabs v0 < rabs v1 then acc else dec) J

/-- Duration of a plan. -/
def segsDur (l : List Seg) : Rat := l.foldl (fun t g => t + g.dur) 0

/-- Position and speed a time after the start of a piece. -/
def Seg.posAt (g : Seg) (t : Rat) : Rat := g.v0 * t + g.a0 * t * t / 2 + g.j * t * t * t / 6
/-- Speed. -/
def Seg.velAt (g : Seg) (t : Rat) : Rat := g.v0 + g.a0 * t + g.j * t * t / 2
/-- Acceleration. -/
def Seg.accAt (g : Seg) (t : Rat) : Rat := g.a0 + g.j * t

/-- Distance of a plan. -/
def segsDist (l : List Seg) : Rat := l.foldl (fun x g => x + g.posAt g.dur) 0

/-- A plan at a time from its start: distance, speed, acceleration.  After its end the last speed goes on; `v` is
the speed of a plan without pieces. -/
def evalSegs (v : Rat) : List Seg → Rat → Rat × Rat × Rat
  | [], t => (v * t, v, 0)
  | g :: rest, t =>
    if t < g.dur then (g.posAt t, g.velAt t, g.accAt t)
    else
      let r := evalSegs (g.velAt g.dur) rest (t - g.dur)
      (g.posAt g.dur + r.1, r.2)

/-- The distance of a change of speed. -/
def changeDist (v0 v1 acc dec J : Rat) : Rat := segsDist (velSegs v0 v1 acc dec J)

/-- The largest value in [lo, hi] that meets a condition, to within 2^-n of the interval; `lo` meets it. -/
def bisect (n : Nat) (ok : Rat → Bool) (lo hi : Rat) : Rat :=
  match n with
  | 0 => lo
  | n + 1 =>
    let m := (lo + hi) / 2
    if ok m then bisect n ok m hi else bisect n ok lo m

/-- A plan reversed in direction. -/
def negSegs (l : List Seg) : List Seg := l.map fun g => ⟨g.dur, -g.v0, -g.a0, -g.j⟩

/-- A move forward over a distance D ≥ 0 from a speed v0 ≥ 0 that can still stop: its pieces, and the time at which
its last deceleration begins.  It cruises at the largest speed up to V and ends at vj, or below it where it
cannot reach vj. -/
def forwardPlan (D v0 V vj acc dec J : Rat) : List Seg × Rat :=
  let dist (vp : Rat) : Rat := changeDist v0 vp acc dec J + changeDist vp (rmin vj vp) acc dec J
  let vp := if dist V ≤ D then V else if v0 < V then bisect 64 (fun v => decide (dist v ≤ D)) v0 V else v0
  let up := velSegs v0 vp acc dec J
  let beyond := D - dist vp
  let cruise : List Seg := if vp = 0 || beyond ≤ 0 then [] else [⟨beyond / vp, vp, 0, 0⟩]
  (up ++ cruise ++ velSegs vp (rmin vj vp) acc dec J, segsDur (up ++ cruise))

/-- A move over a signed distance from a signed speed (R229, R232): one that cannot stop in time stops, and returns. -/
def movePlan (d v0 V vj acc dec J : Rat) : List Seg × Rat :=
  let sg : Rat := if d < 0 then -1 else 1
  let D := d * sg
  let v := v0 * sg
  let turn (l : List Seg) : List Seg := if d < 0 then negSegs l else l
  if v < 0 then
    let back := velSegs v 0 acc dec J
    let (l, t) := forwardPlan (D - segsDist back) 0 V vj acc dec J
    (turn (back ++ l), segsDur back + t)
  else if D < changeDist v (rmin vj v) acc dec J then
    let stop := velSegs v 0 acc dec J
    let (l, _) := forwardPlan (segsDist stop - D) 0 V 0 acc dec J
    (turn (stop ++ negSegs l), 0)
  else
    let (l, t) := forwardPlan D v V vj acc dec J
    (turn l, t)

/-- The speed at a joint (R233): bounded, and such that an entry that stops at its end still can. -/
def jointSpeed (vmax len : Rat) (stops : Bool) (acc dec J : Rat) : Rat :=
  if !stops || changeDist vmax 0 acc dec J ≤ len then vmax
  else bisect 12 (fun v => decide (changeDist v 0 acc dec J ≤ len)) 0 vmax

/-! Interpolation of coarse set-points. -/

/-- The signed number of frames from one FC to another. -/
def fcDiff (x y : Nat) : Int := toSigned 32 (ofSigned 32 ((x : Int) - (y : Int)))

/-- A set-point arrives (R250, R252): discarded unless its FC is later than that of b. -/
def Ipo.accept (x : Ipo) (c : NetSp) : Ipo × Bool :=
  match x.b with
  | none => ({ a := some c, b := some c }, true)
  | some b =>
    if fcDiff c.fc b.fc ≤ 0 then (x, false)
    else
      let a := x.last.getD b
      if 64 < fcDiff c.fc a.fc then ({ a := some c, b := some c }, true)
      else ({ a := some a, b := some c }, true)

/-- A stream at frame j (R251, R252), with `tfS` = Tf in s: position in 2^-32 cts, v_ff in cts/s, the velocity
set-point in cts/s and the current in mA; and the stream after it.  Before the first FC there is none. -/
def Ipo.form (x : Ipo) (mode j : Nat) (tfS : Rat) : Option (Int × Rat × Rat × Int) × Ipo :=
  match x.a, x.b with
  | some a, some b =>
    let n : Rat := (fcDiff b.fc a.fc : Int)
    let k : Rat := (fcDiff j a.fc : Int)
    let va : Rat := (a.vel : Rat) / 4294967296
    let vb : Rat := (b.vel : Rat) / 4294967296
    let dp : Rat := ((b.pos - a.pos : Int) : Rat) / 4294967296
    let slope : Rat := if n = 0 then vb else dp / (n * tfS)
    if k < 0 then (none, x)
    else if k ≤ n then
      let x := { x with last := none, run := 0 }
      if mode = 0 || n = 0 then (some (a.pos, 0, va, a.cur), x)
      else if mode = 1 then
        (some (a.pos + roundEven (((b.pos - a.pos : Int) : Rat) * k / n), slope, va + (vb - va) * k / n,
               if k < n then a.cur else b.cur), x)
      else
        let u := k / n
        let h := n * tfS
        let d := (u * u * u - 2 * u * u + u) * h * va + (3 * u * u - 2 * u * u * u) * dp +
          (u * u * u - u * u) * h * vb
        let v := ((6 * u - 6 * u * u) * dp + (3 * u * u - 4 * u + 1) * h * va + (3 * u * u - 2 * u) * h * vb) / h
        (some (a.pos + roundEven (d * 4294967296), v, va + (vb - va) * k / n, if k < n then a.cur else b.cur), x)
    else
      let v := if mode = 1 then slope else vb
      let m : Rat := (fcDiff j b.fc : Int)
      let p : Int := if mode = 0 then b.pos else b.pos + roundEven (v * m * tfS * 4294967296)
      let vel : Int := if mode = 0 then 0 else roundEven (v * 4294967296)
      (some (p, if mode = 0 then 0 else v, vb, b.cur),
       { x with last := some { fc := j, pos := p, vel := vel, cur := b.cur, tm := 0 }, run := x.run + 1 })
  | _, _ => (none, x)

end Sys2Proof.Machine
end

