-- ==== Sys2Proof/Machine/MoveQueue.lean ====
section
/-! DEFINITION. The move queue of an axis (R230 to R240): its calls, entries and joints, and the requests that start
and stop motion. -/

namespace Sys2Proof.Machine

/-- An update of the trajectory state of an axis. -/
def State.modPrf (s : State) (a : Fin 128) (f : PrfSt → PrfSt) : State :=
  s.modAxis a fun x => { x with prf := f x.prf }

/-- cts per uu (R228). -/
def State.ctsPerUu (s : State) (a : Fin 128) : Rat :=
  (s.pN (Pid.axPrfScaleNum a.val) : Rat) / (s.pN (Pid.axPrfScaleDen a.val) : Rat)

/-- An F32 parameter in uu/s, uu/s² or uu/s³, in cts. -/
def State.uuF (s : State) (a : Fin 128) (id : Nat) : Rat := s.pF id * s.ctsPerUu a

/-- A position parameter in uu, in 2^-32 cts. -/
def State.uuPos (s : State) (a : Fin 128) (id : Nat) : Int := s.toCts a.val (s.pI 64 id)

/-- The cap of R226 and R141 on speeds, in cts/s. -/
def State.vCap (s : State) (a : Fin 128) : Rat :=
  let v := s.vmax a.val
  let v := if s.motType a.val = 1 then rmin v (s.comFmax / (s.poles a.val : Rat)) else v
  v * (s.cpr a : Rat)

/-- The software limits are in force (R189, R236). -/
def State.limitsOn (s : State) (a : Fin 128) : Bool := s.pB (Pid.axPrfLimitEn a.val) && !s.axes[a].fbk.unref

/-- A position lies within the software limits. -/
def State.inLimits (s : State) (a : Fin 128) (p : Int) : Bool :=
  decide (s.uuPos a (Pid.axPrfPosMin a.val) ≤ p) && decide (p ≤ s.uuPos a (Pid.axPrfPosMax a.val))

/-- A position held within the software limits. -/
def State.limitPos (s : State) (a : Fin 128) (p : Int) : Int :=
  if s.limitsOn a then clampInt (s.uuPos a (Pid.axPrfPosMin a.val)) (s.uuPos a (Pid.axPrfPosMax a.val)) p else p

/-! Calls. -/

/-- An entry of `AX.PRF.APPEND`, with its defaults taken; none where a field is out of range. -/
def State.parseQEntry (s : State) (a : Fin 128) (id : Nat) (bs : List Byte) : Option QEntry :=
  let typ := fld bs 0 1
  let f (o : Nat) : Rat := f32Dec (fld bs o 4)
  let special := [12, 16, 20, 24].any fun o => f32Special (fld bs o 4)
  let tg := toSigned 64 (fld bs 4 8)
  let bad := decide (3 < typ) || decide (1 < fld bs 1 1) || decide (fld bs 2 2 ≠ 0) || special ||
    (decide (typ ≤ 1) && decide (f 12 < 0)) || (typ == 3 && decide (f 12 ≠ 0)) || (typ == 2 && decide (tg ≠ 0)) ||
    (typ == 3 && decide (fld bs 8 4 ≠ 0)) || decide (f 16 < 0) || decide (f 20 < 0)
  if bad then none else
  let k := s.ctsPerUu a
  let pick (o pid : Nat) : Rat := if f o = 0 then s.uuF a pid else f o * k
  some {
    id := id, typ := typ, blend := bit (fld bs 1 1) 0
    target := if typ = 3 then (fld bs 4 4 : Int) else s.toCts a.val tg
    v := if typ ≤ 1 then pick 12 (Pid.axPrfVmax a.val) else f 12 * k
    acc := pick 16 (Pid.axPrfAcc a.val), dec := pick 20 (Pid.axPrfDec a.val)
    jerk := if f 24 < 0 then 0 else pick 24 (Pid.axPrfJerk a.val) }

/-- The end of the last entry in the queue, where it has one (R230): of an absolute entry, or of relative ones from it,
the first of them from the present set-point `base`. -/
def queueEnd (q : List QEntry) (base : Option Int) : Option Int :=
  q.foldl (fun e x => match x.tgt, x.typ with
    | some t, _ => some t
    | none, 0 => some x.target
    | none, 1 => e.map (· + x.target)
    | none, 3 => e
    | none, _ => none) base

/-- An entry of an append ends outside the software limits (R230, R236), `off` from the queue's coordinates; `base` is
the end of the entry before the first. -/
def State.appendOut (s : State) (a : Fin 128) (off : Int) : List QEntry → Option Int → Bool
  | [], _ => false
  | e :: rest, base =>
    let fin_ := queueEnd [e] base
    (decide (e.typ ≤ 1) && (match fin_ with
      | some p => !s.inLimits a (p + off)
      | none => false)) || s.appendOut a off rest fin_

/-- The queue moves of a geared axis are added to the gear output (R248): the set-point less what they have added. -/
def Axis.queueOff (x : Axis) : Int := if x.gea.stat = 0 then 0 else x.prf.next.pos - x.gea.add

/-- The status that the entries of an append meet (R55, R189, R227, R230, R236, R248): 0 for none. -/
def State.appendCheck (s : State) (a : Fin 128) (l : List QEntry) : Nat :=
  let x := s.axes[a]
  let off := x.queueOff
  if s.limitsOn a && s.appendOut a off l (queueEnd x.prf.queue (some (x.prf.next.pos - off))) then stRange
  else if l.any fun e => (s.pN (Pid.axFbkSource a.val) = 0 && e.typ != 2) || (x.gea.stat != 0 && e.typ != 1) ||
    (e.typ == 0 && x.fbk.unref) then stState
  else 0

/-- The entries of a payload. -/
def State.parseQueue (s : State) (a : Fin 128) (n id : Nat) (bs : List Byte) : Option (List QEntry) :=
  match n with
  | 0 => some []
  | n + 1 => match s.parseQEntry a (id % 65536) bs, s.parseQueue a n (id + 1) (bs.drop 28) with
    | some e, some l => some (e :: l)
    | _, _ => none

/-- AX.PRF.APPEND (R230): all entries or none. -/
def execAxPrfAppend (m : Fin 16) (tm : Nat) (s : State) : Host.Outcome State Fault Refusal :=
  .next (s.serve m tm 0x10
    (fun p => idClass (fld p 0 4) = 0x18 && idIndex (fld p 0 4) = 0xF001 && decide (idInst (fld p 0 4) < 128)) 1
    (fun t pay =>
      let a := axisNo (idInst (fld pay 0 4))
      let p := callArgs pay
      let n := fld p 0 1
      let x := t.axes[a].prf
      let ok := decide (1 ≤ n ∧ n ≤ 8) && decide (pay.length = 8 + 28 * n) && decide (fld p 1 3 = 0)
      match (if ok then t.parseQueue a n x.nextId (p.drop 4) else none) with
      | none => .fail stRange
      | some es =>
        let st := t.appendCheck a es
        if st = stRange then .fail stRange
        else withState (!t.drives || st = stState) (
          if 8 < x.queue.length + n then .fail stFull
          else .done (t.modPrf a fun y =>
              { y with queue := y.queue ++ es, nextId := (y.nextId + n) % 65536, reached := false, inWinFrom := none })
            (leBytes 2 x.nextId ++ leBytes 1 (8 - (x.queue.length + n))))))

/-- AX.PRF.FLUSH (R240): the trajectory unit flushes, after a stop of row 1 while the axis moves. -/
def execAxPrfFlush (m : Fin 16) (tm : Nat) (s : State) : Host.Outcome State Fault Refusal :=
  .next (s.serveAxis m tm 0x18 0xF002 0 fun a t _ => .done (t.modPrf a fun y => { y with flushReq := true }))

/-- AX.PRF.RESUME (R238): a resume request of the frame that reads it. -/
def execAxPrfResume (m : Fin 16) (tm : Nat) (s : State) : Host.Outcome State Fault Refusal :=
  .next (s.serveAxis m tm 0x18 0xF003 0 fun a t _ =>
    .done (t.modPrf a fun y => { y with resumeReq := true, reached := false, inWinFrom := none }))

/-- AX.PRF.PAUSE (R237): a stop of row 1 in the frame that reads it. -/
def execAxPrfPause (m : Fin 16) (tm : Nat) (s : State) : Host.Outcome State Fault Refusal :=
  .next (s.serveAxis m tm 0x18 0xF004 0 fun a t _ =>
    if t.motType a.val = 1 && t.pN (Pid.axComSource a.val) = 1 then .fail stState else
    .done (t.modPrf a fun y => { y with pauseReq := true, reached := false, inWinFrom := none }))

/-! Requests (R224, R225, R237, R238). -/

/-- An axis in motion control: RUN, STOP or HOLD, or FAULT while a stop of L2 or L3 has run from one of them. -/
def Axis.active (x : Axis) : Bool :=
  match x.state with
  | .run | .stop | .hold => true
  | .fault => (x.rea.applied == 2 || x.rea.applied == 3) && x.rea.before != .off && x.rea.before != .ready
  | .off | .ready | .catching | .starting | .sto => false

/-- The reaction level that the engine applies is L2 or higher. -/
def Axis.faulted (x : Axis) : Bool := decide (2 ≤ x.rea.applied) && x.rea.applied != 7

/-- The row of R237 that the present causes ask for, 0 none. -/
def Axis.stopCause (x : Axis) : Nat :=
  if x.faulted && decide (4 ≤ x.rea.applied) then 4
  else if x.qstop || (x.faulted && x.rea.applied == 3) then 3
  else if x.halt || x.faulted then 2
  else if !x.run || !x.enable then 1
  else 0

/-- The trajectory of an axis moves. -/
def Axis.trajMoves (x : Axis) : Bool :=
  x.prf.next.v != 0 || x.prf.state == .moving || x.prf.state == .homing || x.prf.state == .geared ||
  x.prf.state == .pausing

/-- The queue is flushed (R240): event 0x1804 with the entries discarded and the cause. -/
def State.flushQueue (s : State) (a : Fin 128) (cause : Nat) : State :=
  let n := s.axes[a].prf.queue.length
  let s := s.modPrf a fun y =>
    { y with queue := [], running := false, kept := false, lateWait := false, lastEnd := none, dwellUntil := none
             dwellLeft := 0, flushReq := false }
  s.event 0x1804 a.val (n + cause * 256)

/-- The code of the set-point mode (R224): of the process image record, or of `AX.PRF.MODE`. -/
def State.modeCode (s : State) (a : Fin 128) : Nat :=
  if s.inMask a.val then s.axes[a].inp.mode else s.pN (Pid.axPrfMode a.val)

/-- The set-point mode that is asked for (R224); 0 keeps the one of the previous frame. -/
def State.modeAsked (s : State) (a : Fin 128) : Nat :=
  if s.modeCode a = 0 then s.axes[a].prf.mode else s.modeCode a

/-- The set-point mode follows (R224, R240): away from 4 while the trajectory moves only after a stop of row 1. -/
def State.modeStep (s : State) (a : Fin 128) : State :=
  let x := s.axes[a]
  let m := s.modeAsked a
  if m = x.prf.mode then (if x.prf.modeWait.isSome then s.modPrf a fun y => { y with modeWait := none } else s)
  else if x.prf.mode = 4 && x.active && x.trajMoves then s.modPrf a fun y => { y with modeWait := some m }
  else
    let s := if x.prf.mode = 4 && !x.prf.queue.isEmpty then s.flushQueue a 4 else s
    s.modPrf a fun y => { y with mode := m, modeWait := none }

/-- Stop and resume requests of an axis in motion control (R237, R238). -/
def Axis.readStops (x : Axis) : Axis :=
  let p := x.prf
  let hard := x.faulted || x.qstop
  let now := x.stopCause
  let call := p.pauseReq || p.modeWait.isSome || (p.flushReq && x.trajMoves)
  let row := if now = 0 && call then 1 else now
  let q := { p with pauseReq := false, resumeReq := false, resumed := false }
  let req := x.inp.runEdge || p.resumeReq || (p.stopSoft && x.run && !x.halt)
  if row ≠ 0 then
    { x with prf := { q with
        stopRow := max p.stopRow row, reached := p.reached && p.stopRow != 0
        inWinFrom := if p.stopRow = 0 then none else p.inWinFrom
        stopSoft := (p.stopRow == 0 || p.stopSoft) && !hard && p.modeWait.isNone } }
  else if p.stopRow ≠ 0 && req && x.enable then
    { x with prf := { q with stopRow := 0, stopSoft := false, resumed := true, iRamp := none, reached := false,
                             inWinFrom := none } }
  else { x with prf := q }

/-- The level that the engine carries out (R436, R411, R509): the level in force once tick + 1.5 µs follows its
raise; L3 while SS1-t runs on the group; L4 where an isolated cluster's stop has ended. -/
def State.reactionNow (s : State) (a : Fin 128) : Nat :=
  let x := s.axes[a]
  let r := x.rea
  let base := if r.level = 7 then 7 else if r.tm < s.frame.tick + 1500 then r.level else r.applied
  let quick := match s.grpOf 0 (linkOf a) with
    | some g => s.saf.quick.getLsbD g.val
    | none => false
  let lv :=
    if x.state == .sto then base
    else if quick && decide (base = 7 ∨ base < 3 ∨ base = 5) then 3
    else if base = 5 then 4 else base
  if lv = 3 && r.stopDone && s.age.isolated.getLsbD (clusterOf a).val then 4 else lv

/-- Resume requests of an axis outside motion control (R238): a stop that a fault or STO has caused stays in force until
one comes. -/
def Axis.readIdle (x : Axis) : Axis :=
  let p := x.prf
  let q := { p with pauseReq := false, resumeReq := false, resumed := false, iRamp := none }
  let free := !x.faulted && x.state != .sto && x.state != .fault && !x.halt && !x.qstop && x.enable
  let req := x.inp.runEdge || p.resumeReq || ((p.stopSoft || p.stopRow == 1) && x.run)
  if p.stopRow ≠ 0 && free && req then
    { x with prf := { q with stopRow := 0, stopSoft := false, reached := false, inWinFrom := none } }
  else { x with prf := q }

/-- The requests that stand at tick + 1.5 µs are read, once in a frame: the reaction in force, the mode, and
stops and resumes. -/
def State.readRequests (s : State) (a : Fin 128) : State :=
  let x := s.axes[a]
  if x.prf.reqTick = some s.frame.tick then s else
  let lv := s.reactionNow a
  let hard (n : Nat) : Bool := decide (3 ≤ n) && n != 7
  let s := s.modAxis a fun x =>
    { x with
      prf := { x.prf with reqTick := some s.frame.tick, hardFault := hard lv && !hard x.rea.applied }
      rea := { x.rea with applied := lv } }
  let s := s.modeStep a
  s.modAxis a fun x => if x.active then x.readStops else x.readIdle

/-! Set-points of the present frame. -/

/-- The set-points of frame k (R224, R225): cyclic ones of the process image, or those of the trajectory unit. -/
def State.spNow (s : State) (a : Fin 128) : SetP :=
  let x := s.axes[a]
  let p := x.prf
  let ff : Rat := if s.inMask a.val then (x.inp.ff : Rat) / 1000 else p.now.curFf
  let stepIn := s.motType a.val = 2 && s.pN (Pid.axStpStepSrc a.val) = 1
  if p.now.own || !s.inMask a.val || p.mode = 0 || p.mode = 4 || stepIn then { p.now with curFf := ff }
  else
    let v : Rat := clampRat (-(s.vCap a)) (s.vCap a) ((x.inp.vel : Rat) / 4294967296)
    { pos := s.limitPos a x.inp.pos, v := if p.mode = 3 then 0 else v, velSp := v, curSp := (x.inp.cur : Rat) / 1000
      curFf := ff }

/-- The position of the axis beside the set-points, across a wrap (R175). -/
def State.posNear (s : State) (a : Fin 128) (b : SetP) : Int := b.pos + s.dispOf a s.axes[a].fbk.pos b.pos

/-- The set-point mode that moves the axis: a step input stands in place of it, and moves as mode 4 does (R262). -/
def State.setMode (s : State) (a : Fin 128) : Nat :=
  if s.motType a.val = 2 && s.pN (Pid.axStpStepSrc a.val) = 1 then 4 else s.axes[a].prf.mode

/-- DEC and JERK in force (R237): of the entry in force, or of `AX.PRF` outside an entry. -/
def State.decInForce (s : State) (a : Fin 128) : Rat × Rat :=
  let x := s.axes[a].prf
  match x.queue with
  | e :: _ => if x.running && e.typ ≠ 3 then (e.dec, e.jerk)
              else (s.uuF a (Pid.axPrfDec a.val), s.uuF a (Pid.axPrfJerk a.val))
  | [] => (s.uuF a (Pid.axPrfDec a.val), s.uuF a (Pid.axPrfJerk a.val))

/-! Entries (R232 to R235). -/

/-- A plan from a speed comes into force. -/
def PrfSt.withPlan (p : PrfSt) (l : List Seg × Rat) (t0 : Rat) (pos : Int) (v : Rat) : PrfSt :=
  { p with plan := l.1, planDec := l.2, planAt := t0, planPos := pos, planV := v, kept := false }

/-- The plan at a device time: position, speed and acceleration. -/
def PrfSt.planEval (p : PrfSt) (t : Rat) : Int × Rat × Rat :=
  let (dx, w, ac) := evalSegs p.planV p.plan ((t - p.planAt) / 1000000000)
  (p.planPos + roundEven (dx * 4294967296), w, ac)

/-- The set-point of frame k + 1 is the plan's. -/
def PrfSt.planNext (p : PrfSt) (t1 : Rat) : PrfSt :=
  let (pos, w, ac) := p.planEval t1
  { p with next := { p.next with own := true, pos := pos, v := w, a := ac, velSp := w } }

/-- A set-point at rest. -/
def restAt (p : SetP) (pos : Int) (v : Rat) : SetP := { p with own := true, pos := pos, v := v, a := 0, velSp := v }

/-- A plan begins at the set-point of frame k + 1 (R225), which the motion before has formed. -/
def PrfSt.planFrom1 (p : PrfSt) (l : List Seg × Rat) (t1 : Rat) : PrfSt :=
  (p.withPlan l t1 p.next.pos p.next.v).planNext t1

/-- A number of 2^-32 cts as cts. -/
def ctsOf (p : Int) : Rat := (p : Rat) / 4294967296

/-- An entry that has an end point. -/
def QEntry.positional (e : QEntry) : Bool := decide (e.typ ≤ 1)

/-- The speed at the joint of an entry that ends at `tgt` with the entries behind it (R233), and whether the entry
must plan for a stop because its successor is not yet in the queue (R234). -/
def joint (cap : Rat) (e : QEntry) (p tgt : Int) (rest : List QEntry) : Rat × Bool :=
  if !e.blend then (0, false)
  else match rest with
    | [] => (0, true)
    | f :: more =>
      if !f.positional then (0, false)
      else
        let end_ := if f.typ = 0 then f.target else tgt + f.target
        let same := decide (0 < (tgt - p) * (end_ - tgt))
        let passes := f.blend && (match more with
          | g :: _ => g.positional
          | [] => false)
        if !same then (0, false)
        else (jointSpeed (rmin (rmin e.v f.v) cap) (rabs (ctsOf (end_ - tgt))) (!passes) f.acc f.dec f.jerk, false)

/-- The plan of an entry in force from a position and speed at a time. -/
def PrfSt.planEntry (p : PrfSt) (cap : Rat) (e : QEntry) (rest : List QEntry) (t0 : Rat) (pos : Int) (v : Rat) : PrfSt :=
  match e.typ, e.tgt with
  | 2, _ =>
    { (p.withPlan (velSegs v (clampRat (-cap) cap e.v) e.acc e.dec e.jerk, 0) t0 pos v) with planStop := false }
  | 3, _ => { (p.withPlan ([], 0) t0 pos 0) with planStop := false }
  | _, some tgt =>
    let (vj, late) := joint cap e pos tgt rest
    { (p.withPlan (movePlan (ctsOf (tgt - pos)) v (rmin e.v cap) vj e.acc e.dec e.jerk) t0 pos v) with
      planStop := late, planVj := vj }
  | _, none => p

/-- The head of the queue comes into force (R232); `prev` is the end point of the entry before it.  A positional entry
that comes after one which had to stop for want of it is counted (R234). -/
def PrfSt.startEntry (p : PrfSt) (cap : Rat) (t0 : Rat) (pos : Int) (v : Rat) (prev : Option Int) : PrfSt :=
  match p.queue with
  | [] => p
  | e :: rest =>
    let e := { e with tgt := match e.typ with
      | 0 => some e.target
      | 1 => some (prev.getD pos + e.target)
      | _ => none }
    let p := { p with
      queue := e :: rest, running := true, entryId := e.id, lateWait := false
      lateJoint := if p.lateWait && e.positional then count32 p.lateJoint else p.lateJoint
      dwellUntil := if e.typ = 3 then some (t0.ceil.toNat + us e.target.toNat) else none }
    p.planEntry cap e rest t0 pos v

/-- The head of the queue ends (R232, R235): events 0x1801, and 0x1802 when it was the last. -/
def PrfSt.endEntry (p : PrfSt) (last : Int) : PrfSt × List (Nat × Nat) :=
  match p.queue with
  | [] => (p, [])
  | e :: rest =>
    ({ p with queue := rest, running := false, kept := false, lastEnd := some last, dwellUntil := none },
     (0x1801, e.id) :: (if rest.isEmpty then [(0x1802, e.id)] else []))

/-- The entry in force is planned again where the joint at its end has changed before its deceleration has begun (R233,
R234); under a jerk limit not while it accelerates, unless the deceleration begins in this frame. -/
def PrfSt.rejoin (p : PrfSt) (cap t0 t1 : Rat) (e : QEntry) (more : List QEntry) : PrfSt :=
  let (pos, v, ac) := p.planEval t0
  let dec := p.planAt + p.planDec * 1000000000
  let j := joint cap e pos (e.tgt.getD pos) more
  if dec ≤ t0 || (j.1 == p.planVj && j.2 == p.planStop) || (decide (0 < e.jerk) && ac != 0 && decide (t1 < dec)) then p
  else p.planEntry cap e more t0 pos v

/-- The entries in force up to the time t1 (R232 to R234), from the present frame's t0: the state, the set-point, and
the events.  `fuel` bounds the entries that end within the frame. -/
def PrfSt.runQueue (fuel : Nat) (p : PrfSt) (cap : Rat) (t0 t1 : Rat) (evs : List (Nat × Nat)) :
    PrfSt × List (Nat × Nat) :=
  match fuel with
  | 0 => (p.planNext t1, evs)
  | n + 1 =>
    match p.queue with
    | [] => (p, evs)
    | e :: more =>
      let p := { p with state := .moving }
      let q := p.planNext t1
      let goOn (prev : Option Int) (q : PrfSt) : PrfSt × List (Nat × Nat) :=
        let (q, ev) := q.endEntry (prev.getD q.next.pos)
        (q.startEntry cap t1 q.next.pos q.next.v prev).runQueue n cap t1 t1 (evs ++ ev)
      if e.typ = 3 then (q, evs)
      else if e.typ = 2 then (if more.isEmpty then (q, evs) else goOn none q)
      else
        let tgt := e.tgt.getD p.planPos
        let begun := decide (p.planAt + p.planDec * 1000000000 ≤ t0)
        if p.planStop && begun && more.head?.any QEntry.positional then
          goOn (some tgt) { q with lateJoint := count32 q.lateJoint }
        else
          let p := p.rejoin cap t0 t1 e more
          let left := (t1 - p.planAt) / 1000000000 - segsDur p.plan
          if left < 0 then (p.planNext t1, evs)
          else
            let vEnd := (evalSegs p.planV p.plan (segsDur p.plan)).2.1
            let (p, ev) := p.endEntry tgt
            if more.isEmpty then
              ({ p with next := restAt p.next tgt 0, lateWait := p.planStop, state := .idle }, evs ++ ev)
            else
              let te := t1 - left * 1000000000
              (p.startEntry cap te tgt vEnd (some tgt)).runQueue n cap te t1 (evs ++ ev)

/-- The queue forms the set-point of frame k + 1; where no entry is in force, its head comes into force at that
set-point, which the motion before has formed (R225, R232). -/
def PrfSt.advance (p : PrfSt) (cap : Rat) (t0 t1 : Rat) : PrfSt × List (Nat × Nat) :=
  if p.running then p.runQueue 10 cap t0 t1 []
  else (p.startEntry cap t1 p.next.pos p.next.v none).runQueue 10 cap t1 t1 []

/-- The events of an axis are sent in order. -/
def State.events (s : State) (a : Fin 128) (l : List (Nat × Nat)) : State := s.each l fun t e => t.event e.1 a.val e.2

/-- A process image append (R231): an absolute entry from the record. -/
def State.appendImage (s : State) (a : Fin 128) : State :=
  let x := s.axes[a]
  if !s.inMask a.val || x.prf.mode ≠ 4 || x.inp.seq = x.prf.seqEcho then s
  else if 8 ≤ x.prf.queue.length then s.modPrf a fun y => { y with queueFull := true }
  else
    let v := rabs (ctsOf x.inp.vel)
    let e : QEntry := {
      id := x.prf.nextId, typ := 0, blend := s.pB (Pid.axPrfBlend a.val), target := x.inp.pos
      v := if v = 0 then s.uuF a (Pid.axPrfVmax a.val) else v
      acc := s.uuF a (Pid.axPrfAcc a.val), dec := s.uuF a (Pid.axPrfDec a.val)
      jerk := s.uuF a (Pid.axPrfJerk a.val) }
    let bad := x.fbk.unref || s.pN (Pid.axFbkSource a.val) = 0 || x.gea.stat != 0 ||
      (s.limitsOn a && !s.inLimits a x.inp.pos)
    s.modPrf a fun y =>
      if bad then { y with seqEcho := x.inp.seq, queueFull := false }
      else { y with queue := y.queue ++ [e], nextId := (y.nextId + 1) % 65536, seqEcho := x.inp.seq, queueFull := false,
                    reached := false, inWinFrom := none }

/-- A dwell entry's time elapses (R232): the entry ends. -/
def execDwellEnd (a : Fin 128) (tm : Nat) (s : State) : Host.Outcome State Fault Refusal :=
  let s := s.adv tm
  let x := s.axes[a]
  match x.prf.dwellUntil with
  | none => .next s
  | some t =>
    if s.nt < t || !x.prf.running || x.prf.stopRow ≠ 0 then .next s
    else
      let (p, ev) := x.prf.endEntry x.prf.next.pos
      .next ((s.modPrf a fun _ => p).events a ev)

/-- The queue is empty and the last entry has ended (R235). -/
def PrfSt.allDone (p : PrfSt) : Bool := p.mode == 4 && p.queue.isEmpty && !p.running

/-- TARGET_REACHED (R235): the queue is empty, the last entry has ended, and |e_p| has stayed within the window. -/
def execTargetReached (a : Fin 128) (tm : Nat) (s : State) : Host.Outcome State Fault Refusal :=
  let s := s.adv tm
  let x := s.axes[a]
  match x.prf.inWinFrom with
  | none => .next s
  | some t =>
    .next (if x.prf.allDone && decide (t + ms (s.pN (Pid.axPrfWindowT a.val)) ≤ s.nt) then
      s.modPrf a fun y => { y with reached := true }
    else s)

/-- `AX.PRF.IPO_TMAX` extrapolated frames in a row (R252): fault 0x1073. -/
def execSetpointLost (a : Fin 128) (tm : Nat) (s : State) : Host.Outcome State Fault Refusal :=
  let s := s.adv tm
  let x := s.axes[a]
  .next (if 1 ≤ x.prf.mode && decide (x.prf.mode ≤ 3) && !s.inMask a.val && x.active &&
      decide (s.pN (Pid.axPrfIpoTmax a.val) ≤ x.prf.ipo.run) then s.raiseAx 0x1073 a else s)

end Sys2Proof.Machine
end

