-- ==== Sys2Proof/Machine/Stepper.lean ====
section
/-! DEFINITION. Stepper axes (R257 to R276): the rate multiplier, the angle, the amplitude, drive modes, alignment,
stall and open phase. -/

namespace Sys2Proof.Machine

/-- An update of the stepper state of an axis. -/
def State.modStp (s : State) (a : Fin 128) (f : StpSt → StpSt) : State :=
  s.modAxis a fun x => { x with stp := f x.stp }

/-! Angle and rate multiplier. -/

/-- Microsteps per electrical cycle. -/
def State.microCycle (s : State) (a : Fin 128) : Nat := 4 * s.pN (Pid.axStpMicro a.val)

/-- The table entry of a microstep position in 32.32 (R257). -/
def State.tableIdx (s : State) (a : Fin 128) (p : Int) : Nat :=
  ((p * 256 / (s.pN (Pid.axStpMicro a.val) : Int)) / 4294967296 % 1024).toNat

/-- The sine of a table entry. -/
def sinE (i : Nat) : Rat := sineTurns (((i % 1024 : Nat) : Rat) / 1024)
/-- The cosine of a table entry. -/
def cosE (i : Nat) : Rat := sineTurns ((((i + 256) % 1024 : Nat) : Rat) / 1024)

/-- Microsteps per ct of an axis with a feedback source (R261). -/
def State.microPerCt (s : State) (a : Fin 128) : Rat :=
  ((s.microCycle a * s.poles a.val : Nat) : Rat) / (s.cpr a : Rat)

/-- A position in 2^-32 cts as a microstep position in 32.32 (R261): one ct is one microstep without a source. -/
def State.toMicro (s : State) (a : Fin 128) (p : Int) : Int :=
  let x := s.axes[a]
  if s.pN (Pid.axFbkSource a.val) = 0 then x.stp.a.toInt + s.fbkSign a * s.dispOf a p x.fbk.pos
  else roundEven ((p : Rat) * s.microPerCt a) + x.stp.ofs

/-- The reverse of `toMicro`, beside the set-point of the frame: A wraps modulo 2^64 (R258). -/
def State.fromMicro (s : State) (a : Fin 128) (m : Int) : Int :=
  let x := s.axes[a]
  if s.pN (Pid.axFbkSource a.val) = 0 then x.fbk.pos + s.fbkSign a * (m - x.stp.a.toInt)
  else
    let p := x.prf.now.pos
    p + roundEven ((toSigned 64 (ofSigned 64 (m - s.toMicro a p)) : Rat) / s.microPerCt a)

/-- A speed in cts/s as a velocity word (R258). -/
def State.wordOf (s : State) (a : Fin 128) (v : Rat) : Int :=
  let k : Rat := if s.pN (Pid.axFbkSource a.val) = 0 then (s.fbkSign a : Rat) else s.microPerCt a
  roundEven (v * k * 4294967296 / 100000000)

/-- v_cap (R260). -/
def State.vWordCap (s : State) (a : Fin 128) : Int :=
  min 343597383 (s.stpFmax * (s.microCycle a : Rat) * 4294967296 / 100000000).floor

/-- The speed of a velocity word in rev/s. -/
def State.wordSpeed (s : State) (a : Fin 128) (v : Int) : Rat :=
  (v : Rat) * 100000000 / 4294967296 / ((s.microCycle a * s.poles a.val : Nat) : Rat)

/-- The accumulator reaches the actuation instant of the present frame (R258): the word in force has been added at
every clock of 10 ns. -/
def State.stepAdvance (s : State) (a : Fin 128) : State :=
  s.modStp a fun p =>
    let n : Int := ((s.frame.tick - p.aTick) / 10 : Nat)
    { p with a := p.a + BitVec.ofInt 64 (p.v * n), aTick := s.frame.tick }

/-- At the transition from READY to RUN, A takes pos_act (R261), and the drive mode that `AX.STP.MODE` gives at rest. -/
def State.stepStart (s : State) (a : Fin 128) : State :=
  let closed := s.pN (Pid.axStpLoop a.val) = 1
  let p0 := roundEven ((s.axes[a].fbk.pos : Rat) * s.microPerCt a)
  s.modStp a fun p =>
    { p with
      a := if s.pN (Pid.axFbkSource a.val) = 0 then p.a else BitVec.ofInt 64 p0
      ofs := 0, v := 0, aTick := s.frame.tick, zeroFrom := none, holdFrom := none
      volt := !closed && s.pN (Pid.axStpMode a.val) != 0, turn := none, blend := none, changeAt := none
      forced := none, overRun := 0, attached := false, stallRun := 0, stallFrom := none, clampRun := 0
      alignFrom := if closed && !p.aligned then some s.frame.tick else none
      maxA := 0, maxB := 0, cycFrom := s.frame.tick, cycAng := if s.pN (Pid.axFbkSource a.val) = 0 then p.a.toInt else p0
      candA := false, candB := false, openA := false, openB := false }

/-- The velocity word of an open-loop stepper in frame k (R259, R271), unclamped: towards the set-point of frame
k + 1, or in cyclic velocity mode that speed, or towards 0 in a stop of row 3, from the word at its start. -/
def State.stepWord (s : State) (a : Fin 128) (row3 velMode : Bool) (sp : SetP) : Int :=
  let x := s.axes[a].stp
  let n : Int := (s.tf / 10 : Nat)
  if row3 then
    let (v0, t0) := x.qFrom.getD (x.v, s.frame.tick)
    let t : Rat := ((s.frame.tick + s.tf - t0 : Nat) : Rat) / 1000000000
    let d := roundEven (s.pF (Pid.axStpQstopAcc a.val) * t * ((s.microCycle a * s.poles a.val : Nat) : Rat) *
      4294967296 / 100000000)
    if 0 ≤ v0 then max 0 (v0 - d) else min 0 (v0 + d)
  else if velMode then s.wordOf a sp.velSp
  else
    let diff := toSigned 64 (ofSigned 64 (s.toMicro a sp.pos - x.a.toInt))
    roundEven ((diff : Rat) / (n : Rat))

/-- The word takes effect, within its cap (R260). -/
def State.setWord (s : State) (a : Fin 128) (v : Int) : State :=
  let cap := s.vWordCap a
  let w := clampInt (-cap) cap v
  s.modStp a fun p =>
    { p with
      v := w, clamped := w != v, clampRun := if w = v then 0 else p.clampRun + 1
      rateClamp := if w = v then p.rateClamp else count32 p.rateClamp
      zeroFrom := if w ≠ 0 then none else p.zeroFrom.orElse fun _ => some s.frame.tick
      holdFrom := if w ≠ 0 then none else p.holdFrom }

/-- The current limit in force (R211, R242): PUSH limits it to `AX.HOM.STOP_I`. -/
def State.limNow (s : State) (a : Fin 128) : Rat :=
  let l := s.iLimit a
  if s.axes[a].hom.phase = 4 then rmin l (s.pPct (Pid.axHomStopI a.val) * s.iRated a.val) else l

/-- The set amplitude of an open-loop stepper (R264), within the current limit of PUSH too (R242). -/
def State.stepAmp (s : State) (a : Fin 128) : Rat :=
  let p := s.axes[a].stp
  let run : Rat := s.pPct (Pid.axStpIRun a.val) * s.iRated a.val
  let hold : Rat := s.pPct (Pid.axStpIHold a.val) * s.iRated a.val
  let i := match p.holdFrom with
    | none => run
    | some t =>
      let r := ms (s.pN (Pid.axStpHoldRamp a.val))
      if t + r ≤ s.frame.tick then hold
      else run + (hold - run) * ((s.frame.tick - t : Nat) : Rat) / (r : Rat)
  rmin i (s.limNow a)

/-- ψ of R265. -/
def State.psi (s : State) (a : Fin 128) : Rat := s.kt a.val / (s.poles a.val : Rat)

/-- The phase voltages of R266 at an amplitude, an electrical speed in rad/s and a table entry. -/
def State.aheadVolts (s : State) (a : Fin 128) (i w : Rat) (th : Nat) : Rat × Rat :=
  let r := s.pF (Pid.axMotR a.val)
  let k := w * (s.pF (Pid.axMotL a.val) * i + s.psi a)
  (r * i * cosE th - k * sinE th, r * i * sinE th + k * cosE th)

/-- The feedback angle of R269 with an offset, as a table entry. -/
def State.fbkAngle (s : State) (a : Fin 128) (ofs : Nat) : Nat :=
  ((((s.axes[a].fbk.pos * 1024 * (s.poles a.val : Int) / (s.cpr a : Int)) / 4294967296) + (ofs : Int)) % 1024).toNat

/-! Currents. -/

/-- The code that a CUR record counts with (R137): full scale, by its sign, where CLIP is set. -/
def curCode (clip : Bool) (v : Int) : Int := if !clip then v else if v < 0 then -2047 else 2047

/-- The mean of the valid current samples of a frame with an index that a condition admits (R137, R138, R263), and how
many there are. -/
def State.meanCur (s : State) (a : Fin 128) (recs : List Stamped) (ok : Nat → Bool) : Option Rat × Nat :=
  let r := recs.foldl (fun (t : Rat × Nat) x => match x.rcd with
    | .cur i clip skipped v =>
      if !ok i || skipped then t else (t.1 + s.curA (linkOf a) (curCode clip v), t.2 + 1)
    | .volt _ _ | .zc _ _ | .dly _ _ | .hall _ _ | .inc _ _ _ _ | .sincos _ _ | .serial _ _ _ | .zone _ _
    | .tripr _ _ => t) (0, 0)
  (if r.2 = 0 then none else some (r.1 / (r.2 : Rat)), r.2)

/-- A 32-bit count by n. -/
def count32By (n c : Nat) : Nat := (List.range n).foldl (fun c _ => count32 c) c

/-- The phase currents of a stepper axis in a frame (R263): i_pred where a phase has no sample, counted. -/
def State.stepCurrents (s : State) (a : Fin 128) (recs : List Stamped) : State × Rat × Rat :=
  let x := s.axes[a]
  let want := if 2 ≤ s.mOf a.val then 2 else 1
  let (ma, na) := s.meanCur a recs (fun i => i % 2 = 0)
  let (mb, nb) := s.meanCur a recs (fun i => i % 2 = 1)
  let e := x.eng.st
  let ia := ma.getD (bfpVal e.curE e.ip[0])
  let ib := mb.getD (bfpVal e.curE e.ip[1])
  let miss := (if na = 0 then want else 0) + (if nb = 0 then want else 0)
  (s.modAxis a fun x => { x with com := { x.com with missed := count32By miss x.com.missed } }, ia, ib)

/-! Drive modes. -/

/-- The drive mode that is to hold (R267 to R269): voltage or current. -/
def State.wantVolt (s : State) (a : Fin 128) (v : Rat) : Bool :=
  let p := s.axes[a].stp
  let isV := p.volt || p.blend.isSome
  if s.pN (Pid.axStpLoop a.val) = 1 || p.forced.isSome then false
  else match s.pN (Pid.axStpMode a.val) with
    | 0 => false
    | 1 => true
    | _ =>
      let sw := s.pF (Pid.axStpVSwitch a.val)
      let want := if isV then !decide (sw < rabs v) else decide (rabs v < 9 / 10 * sw)
      let soon := match p.changeAt with
        | some t => decide (s.frame.tick < t + ms 50)
        | none => false
      if soon then isV else want

/-- What ends a blend when it changes (R268): a stop request, a fault, or the drive mode asked for. -/
def State.blendNow (s : State) (a : Fin 128) : Nat × Nat × Nat :=
  (s.axes[a].prf.stopRow, s.axes[a].rea.level, s.pN (Pid.axStpMode a.val))

/-- A change decided in the frame before takes effect (R268): into current mode with x_i preset, into voltage mode
by a blend. -/
def State.stepTurn (s : State) (a : Fin 128) : State :=
  match s.axes[a].stp.turn with
  | none => s
  | some true =>
    let key := s.blendNow a
    (s.modStp a fun p => { p with turn := none, blend := some 0, blendKey := key, changeAt := some s.frame.tick }).event
      0x1B01 a.val 2
  | some false =>
    (s.modStp a fun p => { p with turn := none, volt := false, blend := none, changeAt := some s.frame.tick }).event
      0x1B01 a.val 0

/-- The decision for the next frame at a speed |v_cmd| in rev/s, and the end of a blend by a stop request, a fault or a mode
change (R268). -/
def State.stepDecide (s : State) (a : Fin 128) (v : Rat) : State :=
  let x := s.axes[a]
  let p := x.stp
  let isV := p.volt || p.blend.isSome
  let want := s.wantVolt a v
  let s := if p.blend.isSome && want && s.blendNow a != p.blendKey then
      (s.modAxis a fun x =>
        { x with stp := { x.stp with blend := none, volt := true }
                 eng := { x.eng with st := { x.eng.st with xi := Vector.replicate 2 0 } } }).event 0x1B01 a.val 1
    else s
  if want != isV then s.modStp a fun p => { p with turn := some want } else s

/-- One frame of the phases: in voltage mode only the prediction of R207 runs on; angle entry, rotor entry for the back-EMF, electrical speed in rad/s, amplitude and
currents; it leaves the applied voltages in the stepper state and answers the demands (R112, R265, R266, R268). -/
def State.stepPhases (s : State) (a : Fin 128) (th thR : Nat) (w i ia ib : Rat) : State × Rat × Rat :=
  let x := s.axes[a]
  let p := x.stp
  let vb := s.vbusComp a
  let lim (u : Rat) : Rat := clampRat (-vb) vb u
  let dem (u : Rat) : Rat := if vb = 0 then 0 else clampRat (-1) 1 (u / vb)
  let (va, vbb) := s.aheadVolts a i w th
  let fresh := match p.changeAt with
    | some t => decide (t = s.frame.tick) && p.blend.isNone && !p.volt
    | none => false
  let forcedNow := match p.forced with
    | some t => decide (s.frame.tick < t + s.tf + s.tf) && decide (p.overRun ≠ 0)
    | none => false
  let e := x.eng
  let e := if fresh || forcedNow then { e with preset := #v[some (lim va), some (lim vbb)] } else e
  let r := s.pF (Pid.axMotR a.val)
  let l := s.pF (Pid.axMotL a.val)
  let k := w * s.psi a
  let inA : CurIn := ⟨i * cosE th, ia, -(k * sinE thR), r, l, -vb, vb⟩
  let inB : CurIn := ⟨i * sinE th, ib, k * cosE thR, r, l, -vb, vb⟩
  let (e, ua, ub) :=
    if p.volt then
      let st := e.st
      let ip := #v[(s.predict a st.curE inA (lim va)).1, (s.predict a st.curE inB (lim vbb)).1]
      ({ e with st := { st with ip := ip } }, lim va, lim vbb)
    else
      let (e, ua) := s.curStage a e 0 inA
      let (e, ub) := s.curStage a e 1 inB
      let e := s.curNorm a e
      match p.blend with
      | none => (e, ua, ub)
      | some j =>
        let n := s.pN (Pid.axStpBlendN a.val)
        let q : Rat := ((min (j + 1) n : Nat) : Rat) / (n : Rat)
        (e, (1 - q) * ua + q * lim va, (1 - q) * ub + q * lim vbb)
  let beyond := p.volt && decide ((125 / 100 * i) * (125 / 100 * i) < ia * ia + ib * ib)
  let s := s.modAxis a fun x =>
    { x with
      eng := { e with d := dem ua, dB := dem ub, iAct := ia, iActB := ib, vbusC := vb }
      stp := { p with
        blend := p.blend.map (· + 1), uA := ua, uB := ub, iA := ia, iB := ib
        overRun := if beyond then p.overRun + 1 else 0 } }
  (s, dem ua, dem ub)

/-! Stall and open phase. -/

/-- The watch for a stall (R272), before the frame's voltages are applied: θ and the currents of the frame. -/
def State.stallWatch (s : State) (a : Fin 128) (th : Nat) (w ia ib : Rat) : State :=
  let x := s.axes[a]
  let p := x.stp
  if s.pN (Pid.axFbkSource a.val) ≠ 0 then
    let fb := s.tableIdx a (s.toMicro a (s.posNear a x.prf.now))
    let d := (toSigned 10 (ofSigned 10 ((th : Int) - fb))).natAbs
    let far := decide (s.pN (Pid.axStpStallAng a.val) * 1024 < d * 360)
    s.modStp a fun p => { p with stallRun := if far && s.pN (Pid.axStpLoop a.val) = 0 then p.stallRun + 1 else 0,
                                 stallFrom := none, noDet := false }
  else if p.volt then s.modStp a fun p => { p with stallRun := 0, stallFrom := none, noDet := true }
  else
    let r := s.pF (Pid.axMotR a.val)
    let l := s.pF (Pid.axMotL a.val)
    let ea := p.uA - r * ia - l * (ia - p.iA) / s.tfS
    let eb := p.uB - r * ib - l * (ib - p.iB) / s.tfS
    let f := rabs (s.wordSpeed a p.v) * (s.poles a.val : Rat)
    let ref := s.pPct (Pid.axStpStallEmf a.val) * w * s.psi a
    let weak := decide (s.pF (Pid.axStpStallFmin a.val) ≤ f) && decide (ea * ea + eb * eb < ref * ref)
    s.modStp a fun p =>
      { p with stallRun := 0, noDet := false
               stallFrom := if weak then p.stallFrom.orElse fun _ => some s.frame.tick else none }

/-- The watch for an open phase (R273): over the last electrical cycle, or 100 ms where that is shorter. -/
def State.openWatch (s : State) (a : Fin 128) (i ia ib : Rat) : State :=
  let ang : Int := if s.pN (Pid.axStpLoop a.val) = 1 then roundEven ((s.axes[a].fbk.pos : Rat) * s.microPerCt a)
    else s.axes[a].stp.a.toInt
  s.modStp a fun p =>
    let ma := rmax p.maxA (rabs ia)
    let mb := rmax p.maxB (rabs ib)
    let turned := ((ang - p.cycAng).natAbs : Int) ≥ (s.microCycle a : Int) * 4294967296
    if turned || decide (p.cycFrom + ms 100 ≤ s.frame.tick) then
      { p with maxA := 0, maxB := 0, cycFrom := s.frame.tick, cycAng := ang
               candA := decide (0 < i) && decide (ma < 20 / 100 * i) && decide (50 / 100 * i ≤ mb)
               candB := decide (0 < i) && decide (mb < 20 / 100 * i) && decide (50 / 100 * i ≤ ma) }
    else { p with maxA := ma, maxB := mb }

/-! The frame of a stepper axis. -/

/-- Both phases off (R271): V is 0; a coast (row 4, STO) takes an open-loop axis its reference. -/
def State.stepOff (s : State) (a : Fin 128) (coast : Bool) : State × Demand :=
  let lose := coast && s.pN (Pid.axStpLoop a.val) == 0
  (s.modAxis a fun x =>
    { x with
      fbk := { x.fbk with unref := x.fbk.unref || lose }
      stp := { x.stp with v := 0, clamped := false, zeroFrom := none, holdFrom := none, blend := none, turn := none,
                          attached := false, uA := 0, uB := 0, alignFrom := none, stallRun := 0, stallFrom := none
                          candA := false, candB := false, qFrom := none } }, .phases none none)

/-- An open-loop frame (R259, R264 to R268). -/
def State.stepOpen (s : State) (a : Fin 128) (row3 velMode : Bool) (sp : SetP) (recs : List Stamped) : State × Demand :=
  let s := s.stepTurn a
  let (s, ia, ib) := s.stepCurrents a recs
  let s := s.modStp a fun p => { p with qFrom := if row3 then some (p.qFrom.getD (p.v, s.frame.tick)) else none }
  let s := s.setWord a (s.stepWord a row3 velMode sp)
  let p := s.axes[a].stp
  let mid := p.a.toInt + p.v * ((s.tf / 20 : Nat) : Int)
  let th := s.tableIdx a mid
  let v := s.wordSpeed a p.v
  let w := twoPi 1 (v * (s.poles a.val : Rat))
  let s := s.stallWatch a th w ia ib
  let i := s.stepAmp a
  let s := s.openWatch a i ia ib
  let (s, da, db) := s.stepPhases a th th w i ia ib
  let s := s.modAxis a fun x => { x with eng := { x.eng with iSp := i } }
  (s.stepDecide a v, .phases (some da) (some db))

/-- A closed-loop frame (R269): i_sp on an angle 90 °e from the feedback angle, or the alignment. -/
def State.stepClosed (s : State) (a : Fin 128) (isp : Rat) (recs : List Stamped) : State × Demand :=
  let s := s.modStp a fun p => { p with volt := false, blend := none, turn := none, noDet := false, stallRun := 0,
                                        stallFrom := none }
  let (s, ia, ib) := s.stepCurrents a recs
  let p := s.axes[a].stp
  let fb := s.fbkAngle a p.fbkOfs
  let align := p.alignFrom.isSome
  let th := if align then 0 else if 0 ≤ isp then (fb + 256) % 1024 else (fb + 768) % 1024
  let i := if align then rmin (s.pPct (Pid.axStpIHold a.val) * s.iRated a.val) (s.iLimit a) else rabs isp
  let w := twoPi 1 (s.vAct a * (s.poles a.val : Rat))
  let s := s.openWatch a i ia ib
  let (s, da, db) := s.stepPhases a th fb w i ia ib
  (s, .phases (some da) (some db))

/-! Events. -/

/-- V has been 0 for `AX.STP.HOLD_T` (R264). -/
def execStpHold (a : Fin 128) (tm : Nat) (s : State) : Host.Outcome State Fault Refusal :=
  let s := s.adv tm
  .next (match s.axes[a].stp.zeroFrom with
    | some t => if s.axes[a].stp.holdFrom.isNone && decide (t + ms (s.pN (Pid.axStpHoldT a.val)) ≤ s.nt) then
        s.modStp a fun p => { p with holdFrom := some s.nt } else s
    | none => s)

/-- The measured amplitude exceeds 1.25 I in 4 frames of voltage mode (R267): current mode is forced. -/
def execStpForced (a : Fin 128) (tm : Nat) (s : State) : Host.Outcome State Fault Refusal :=
  let s := s.adv tm
  let p := s.axes[a].stp
  .next (if p.volt && decide (4 ≤ p.overRun) then
    (s.modStp a fun p => { p with volt := false, blend := none, turn := none, forced := some s.nt,
                                  changeAt := some s.nt }).event 0x1B01 a.val 256
  else s)

/-- One second of forced current mode has passed (R267). -/
def execStpForcedEnd (a : Fin 128) (tm : Nat) (s : State) : Host.Outcome State Fault Refusal :=
  let s := s.adv tm
  .next (match s.axes[a].stp.forced with
    | some t => if t + secs 1 ≤ s.nt then s.modStp a fun p => { p with forced := none } else s
    | none => s)

/-- The frames of a blend are over (R268): voltage mode, with x_i at 0. -/
def execStpBlendEnd (a : Fin 128) (tm : Nat) (s : State) : Host.Outcome State Fault Refusal :=
  let s := s.adv tm
  .next (match s.axes[a].stp.blend with
    | some j => if s.pN (Pid.axStpBlendN a.val) ≤ j then
        (s.modAxis a fun x =>
          { x with stp := { x.stp with blend := none, volt := true }
                   eng := { x.eng with st := { x.eng.st with xi := Vector.replicate 2 0 } } }).event 0x1B01 a.val 1
      else s
    | none => s)

/-- 200 ms of alignment have passed (R269): the offset that makes θ_fb read 0; ALIGNED; event 0x1B02. -/
def execStpAlignEnd (a : Fin 128) (tm : Nat) (s : State) : Host.Outcome State Fault Refusal :=
  let s := s.adv tm
  .next (match s.axes[a].stp.alignFrom with
    | some t => if t + ms 200 ≤ s.nt then
        let ofs := (1024 - s.fbkAngle a 0) % 1024
        (s.modStp a fun p => { p with alignFrom := none, aligned := true, fbkOfs := ofs }).event 0x1B02 a.val ofs
      else s
    | none => s)

/-- The clamp has acted in 100 consecutive frames (R260): warning 0x1080. -/
def execStpRate (a : Fin 128) (tm : Nat) (s : State) : Host.Outcome State Fault Refusal :=
  let s := s.adv tm
  .next (if 100 ≤ s.axes[a].stp.clampRun then s.raiseAx 0x1080 a else s)

/-- A stall is detected (R272): fault 0x1081 and UNREFERENCED. -/
def execStall (a : Fin 128) (tm : Nat) (s : State) : Host.Outcome State Fault Refusal :=
  let s := s.adv tm
  let p := s.axes[a].stp
  let weak := match p.stallFrom with
    | some t => decide (t + ms 20 ≤ s.nt)
    | none => false
  .next (if s.axes[a].active && (decide (3 ≤ p.stallRun) || weak) then
    (s.raiseAx 0x1081 a).modAxis a fun x => { x with fbk := { x.fbk with unref := true } }
  else s)

/-- A phase counts as open (R273): fault 0x1082. -/
def execPhaseOpen (a : Fin 128) (tm : Nat) (s : State) : Host.Outcome State Fault Refusal :=
  let s := s.adv tm
  let p := s.axes[a].stp
  .next (if p.candA || p.candB then
    (s.raiseAx 0x1082 a).modStp a fun p => { p with openA := p.openA || p.candA, openB := p.openB || p.candB }
  else s)

end Sys2Proof.Machine
end

