-- ==== Sys2Proof/Machine/Homing.lean ====
section
/-! DEFINITION. Homing (R241 to R244): its calls, phases, reference, and failures. -/

namespace Sys2Proof.Machine

/-- An update of the homing state of an axis. -/
def State.modHom (s : State) (a : Fin 128) (f : HomSt → HomSt) : State :=
  s.modAxis a fun x => { x with hom := f x.hom }

/-- Device time of the tick of frame k + 1. -/
def State.tick1 (s : State) : Nat := s.frame.tick + s.tf

/-- The motion in force goes on to frame k + 1: along its plan, where that stands at the set-point of frame k, else
at the present speed. -/
def State.goOn (s : State) (a : Fin 128) (b : SetP) : State :=
  s.modPrf a fun p =>
    let (pos, v, _) := p.planEval (s.frame.tick : Rat)
    if p.planAt ≤ (s.frame.tick : Rat) && pos == b.pos && v == b.v then p.planNext (s.tick1 : Rat)
    else { p with next := restAt p.next (b.pos + roundEven (b.v * s.tfS * 4294967296)) b.v }

/-- A change of speed under given limits begins at the set-point of frame k + 1 (R225). -/
def State.changeSpeed (s : State) (a : Fin 128) (v acc dec j : Rat) : State :=
  s.modPrf a fun p => p.planFrom1 (velSegs p.next.v v acc dec j, 0) (s.tick1 : Rat)

/-- The plan in force has come to its end by the tick of frame k + 1. -/
def State.planDone (s : State) (a : Fin 128) : Bool :=
  let p := s.axes[a].prf
  decide (segsDur p.plan ≤ ((s.tick1 : Rat) - p.planAt) / 1000000000)

/-- The search direction: 1 or -1. -/
def State.homDir (s : State) (a : Fin 128) : Rat := if s.pN (Pid.axHomDir a.val) = 1 then -1 else 1

/-- A phase of homing moves at a speed in a direction, under `AX.HOM.ACC` without a jerk limit (R242). -/
def State.homMove (s : State) (a : Fin 128) (v : Rat) : State :=
  let acc := s.uuF a (Pid.axHomAcc a.val)
  s.changeSpeed a (clampRat (-(s.vCap a)) (s.vCap a) v) acc acc 0

/-- The level of the homing switch. -/
def State.homSwitch (s : State) (a : Fin 128) : Bool :=
  let n := s.pN (Pid.axHomSwSrc a.val)
  if n = 0 then s.axes[a].zone else s.finLevel (fin 40 (by decide) (n - 1))

/-- A level of the switch is its active level. -/
def State.homActive (s : State) (a : Fin 128) (lv : Bool) : Bool := lv == (s.pN (Pid.axHomSwLevel a.val) == 1)

/-- The edges of the switch that the trajectory unit has not yet seen: active or not, and stamp. -/
def State.homEdges (s : State) (a : Fin 128) : List (Bool × Nat) :=
  let x := s.axes[a]
  (if s.pN (Pid.axHomSwSrc a.val) = 0 then x.zoneEdges else x.swEdges).map fun e => (s.homActive a e.1, e.2)

/-- The index port (R241). -/
def State.homPort (s : State) (a : Fin 128) : Fin 4 :=
  fin 4 (by decide) (if s.pN (Pid.axFbkSource a.val) = 6 then s.pN (Pid.axFbkLePort a.val)
    else s.pN (Pid.axHomLePort a.val))

/-- Z is armed (R242). -/
def State.homArmZ (s : State) (a : Fin 128) : State :=
  let p := s.homPort a
  let s := s.modPort p fun x => { x with zarm := true, zarmed := false, znew := false }
  s.modHom a fun h => { h with zPort := some p.val, indexFrom := s.ports[p].latched }

/-- The sequence gives its index port back. -/
def State.homRelease (s : State) (a : Fin 128) : State :=
  match s.axes[a].hom.zPort with
  | none => s
  | some p =>
    let s := s.modPort (fin 4 (by decide) p) fun x => { x with zarm := false }
    s.modHom a fun h => { h with zPort := none }

/-- A sequence begins at the set-point of frame k + 1 (R225, R242). -/
def State.homBegin (s : State) (a : Fin 128) (b : SetP) : State :=
  let m := s.pN (Pid.axHomMethod a.val)
  let slow := s.uuF a (Pid.axHomVSlow a.val) * s.homDir a
  let s := s.goOn a b
  let s := s.modHom a fun h =>
    { h with startReq := false, method := m, done := false, failed := false, cause := 0, startPos := b.pos,
             refPos := none, refWait := none, refDone := false, snap := false, stallFrom := none }
  let s := s.modPrf a fun p => { p with state := .homing }
  let ph (s : State) (n : Nat) : State := s.modHom a fun h => { h with phase := n }
  match m with
  | 0 => ph (s.changeSpeed a 0 1 1 0) 5
  | 3 => ph ((s.homArmZ a).homMove a slow) 3
  | 4 => (ph (s.homMove a slow) 4).modHom a fun h => { h with pushFrom := s.frame.tick }
  | _ =>
    if s.homActive a (s.homSwitch a) then ph (s.homMove a (-slow)) 2
    else ph (s.homMove a (s.uuF a (Pid.axHomVFast a.val) * s.homDir a)) 1

/-- FINISH begins: the speed goes to 0 (R242). -/
def State.homFinish (s : State) (a : Fin 128) : State :=
  (s.homMove a 0).modHom a fun h => { h with phase := 5 }

/-- The position at a stamp between two latch instants (R243); none while the later one is to come. -/
def State.refAt (s : State) (a : Fin 128) (st : Nat) : Option Int :=
  let f := s.axes[a].fbk
  if f.posAt < st then none
  else if f.posAt ≤ f.posAtPrev then some f.pos
  else
    let d := s.dispOf a f.pos f.posPrev
    some (f.posPrev + roundEven ((d : Rat) * (((st : Int) - (f.posAtPrev : Int) : Int) : Rat) /
      ((f.posAt - f.posAtPrev : Nat) : Rat)))

/-- A pending reference is resolved (R243). -/
def State.homResolve (s : State) (a : Fin 128) : State :=
  let h := s.axes[a].hom
  match h.refWait with
  | none => s
  | some st => match s.refAt a st with
    | none => s
    | some p => s.modHom a fun h => { h with refWait := none, refPos := some p, refStamp := st }

/-- One frame of a phase (R242): the next phase and its motion. -/
def State.homPhase (s : State) (a : Fin 128) (b : SetP) : State :=
  let h := s.axes[a].hom
  let slow := s.uuF a (Pid.axHomVSlow a.val) * s.homDir a
  match h.phase with
  | 1 =>
    if s.homActive a (s.homSwitch a) || (s.homEdges a).any (·.1) then
      (s.homMove a (-slow)).modHom a fun h => { h with phase := 2 }
    else s
  | 2 =>
    let against := decide (b.v * s.homDir a < 0)
    match (if against then (s.homEdges a).find? (fun e => !e.1) else none) with
    | none => s
    | some e =>
      if h.method = 2 then (s.homArmZ a).modHom a fun h => { h with phase := 3 }
      else (s.homFinish a).modHom a fun h => { h with refWait := some e.2 }
  | 3 =>
    let p := s.ports[s.homPort a]
    if p.znew && h.zPort.isSome then
      let own := s.pN (Pid.axFbkSource a.val) = 6
      let pos := s.axes[a].fbk.pos - (s.fbkSign a) * cts32 (p.latched - p.zlatch)
      ((s.homFinish a).homRelease a).modHom a fun h =>
        if own then { h with refPos := some pos, refStamp := p.zstamp } else { h with refWait := some p.zstamp }
    else s
  | 5 =>
    if h.method = 0 && h.refPos.isNone && !h.refDone && decide (s.axes[a].prf.planAt ≤ (s.frame.tick : Rat)) then
      s.modHom a fun h => { h with refPos := some s.axes[a].fbk.pos, refStamp := s.axes[a].fbk.posAt }
    else s
  | _ => s

/-- The cause of a failure (R244), 0 none. -/
def State.homFails (s : State) (a : Fin 128) : Nat :=
  let h := s.axes[a].hom
  let f := s.axes[a].fbk
  let port := s.ports[s.homPort a]
  let maxD := s.uuPos a (Pid.axHomMaxDist a.val)
  let slow := s.uuF a (Pid.axHomVSlow a.val)
  if h.phase = 0 then 0
  else if maxD < (s.dispOf a f.pos h.startPos).natAbs then 1
  else if h.phase = 2 && (s.homEdges a).any (·.1) then 2
  else if h.phase = 3 && h.zPort.isSome && !port.znew && decide (s.cpr a < (port.latched - h.indexFrom).natAbs) then 3
  else if (h.phase = 1 || h.phase = 2) && s.pN (Pid.axHomSwSrc a.val) ≠ 0 && s.fio.invalid then 4
  else if s.fbkLost a then 5
  else if h.phase = 4 && decide (ctsOf maxD / slow < ((s.frame.tick - h.pushFrom : Nat) : Rat) / 1000000000) then 6
  else 0

/-- The sequence ends without a reference: the offset is unchanged (R244). -/
def State.homDrop (s : State) (a : Fin 128) : State :=
  (s.homRelease a).modHom a fun h =>
    { h with phase := 0, startReq := false, abortReq := false, refPos := none, refWait := none, snap := false }

/-- An abort by a stop request or the call (R244): event 0x1902. -/
def State.homAbort (s : State) (a : Fin 128) : State :=
  let ph := s.axes[a].hom.phase
  (s.homDrop a).event 0x1902 a.val ph

/-- One frame of homing (R242): the set-point of frame k + 1, and DONE at rest with the reference applied.  After a
failure the motion goes on until the stop of its fault (R244). -/
def State.homStep (s : State) (a : Fin 128) (b : SetP) : State :=
  let cause := s.homFails a
  let s := s.goOn a b
  if cause ≠ 0 then
    let s := s.homDrop a
    (s.modHom a fun h => { h with failed := true, cause := cause }).raiseAx 0x1071 a
  else
    let s := (s.homPhase a b).homResolve a
    let h := s.axes[a].hom
    if h.snap then
      let s := s.modHom a fun h => { h with snap := false }
      s.modPrf a fun p => { p with next := restAt p.next (s.posNear a b) 0 }.planFrom1 ([], 0) (s.tick1 : Rat)
    else if h.phase = 5 && h.refDone && s.planDone a && s.axes[a].prf.next.v = 0 then
      let s := s.modHom a fun h => { h with phase := 0, done := true }
      (s.modPrf a fun p => { p with state := .idle }).event 0x1901 a.val h.refStamp
    else s

/-- The reference is applied in the tick after it is known (R243): the same amount goes into `AX.FBK.OFFSET`, the
position and the set-points; UNREFERENCED goes. -/
def State.homApply (s : State) (a : Fin 128) : State :=
  match s.axes[a].hom.refPos with
  | none => s
  | some p =>
    let d := s.uuPos a (Pid.axHomPos a.val) - p
    let micro := roundEven ((d : Rat) * s.microPerCt a)
    let s := s.shiftOffset a d
    s.modAxis a fun x =>
      { x with
        fbk := { x.fbk with unref := false }
        hom := { x.hom with refPos := none, refDone := true, startPos := x.hom.startPos + d }
        stp := { x.stp with ofs := x.stp.ofs - micro }
        prf := { x.prf with
          planPos := x.prf.planPos + d
          now := { x.prf.now with pos := x.prf.now.pos + d }
          next := { x.prf.next with pos := x.prf.next.pos + d } } }

/-- AX.HOM.START (R241, R227). -/
def execAxHomStart (m : Fin 16) (tm : Nat) (s : State) : Host.Outcome State Fault Refusal :=
  .next (s.serveAxis m tm 0x19 0xF001 0 fun a t _ =>
    let x := t.axes[a]
    let n := t.pN (Pid.axHomSwSrc a.val)
    let meth := t.pN (Pid.axHomMethod a.val)
    let bank := n != 0 && t.pN (Pid.fioBMode ((n - 1) / 8)) != 0
    if x.prf.mode ≠ 4 || !x.prf.queue.isEmpty || x.state != .hold || bank || x.hom.phase ≠ 0 || x.gea.stat ≠ 0 ||
      (t.pN (Pid.axFbkSource a.val) = 0 && meth ≠ 0) then .fail stState
    else .done (t.modHom a fun h => { h with startReq := true }))

/-- AX.HOM.ABORT (R244). -/
def execAxHomAbort (m : Fin 16) (tm : Nat) (s : State) : Host.Outcome State Fault Refusal :=
  .next (s.serveAxis m tm 0x19 0xF002 0 fun a t _ =>
    if t.axes[a].hom.phase = 0 && !t.axes[a].hom.startReq then .fail stState
    else .done (t.modHom a fun h => { h with abortReq := true }))

/-- In PUSH the axis has stalled for `AX.HOM.STOP_T` (R242): the reference stands at the end of that time. -/
def execHomingStall (a : Fin 128) (tm : Nat) (s : State) : Host.Outcome State Fault Refusal :=
  let s := s.adv tm
  let h := s.axes[a].hom
  .next (match h.stallFrom with
    | some t => if h.phase = 4 && decide (t + ms (s.pN (Pid.axHomStopT a.val)) ≤ s.nt) then
        s.modHom a fun h => { h with phase := 5, snap := true, stallFrom := none
                                     refWait := some (t + ms (s.pN (Pid.axHomStopT a.val))) }
      else s
    | none => s)

end Sys2Proof.Machine
end

