-- ==== Sys2Proof/Machine/Gearing.lean ====
section
/-! DEFINITION. Electronic gearing (R245 to R249): master values, engaging, the clutch, disengaging. -/

namespace Sys2Proof.Machine

/-- An update of the gear state of an axis. -/
def State.modGea (s : State) (a : Fin 128) (f : GeaSt → GeaSt) : State :=
  s.modAxis a fun x => { x with gea := f x.gea }

/-- The master value at a device time (R245), in 2^-32 master cts: set-points and positions are extrapolated from
frame k; a network channel is interpolated for the frame that begins then. -/
def State.masterAt (s : State) (a : Fin 128) (tm : Nat) : Int :=
  let i := s.pN (Pid.axGeaMaster a.val)
  let ahead (p : Int) (v : Rat) (t0 : Nat) : Int :=
    p + roundEven (v * (((tm : Int) - (t0 : Int) : Int) : Rat) / 1000000000 * 4294967296)
  match s.pN (Pid.axGeaSrc a.val) with
  | 0 =>
    let b := s.spNow (axisNo i)
    ahead b.pos b.v s.frame.tick
  | 1 =>
    let f := s.axes[axisNo i].fbk
    ahead f.pos f.vel f.posAt
  | 2 =>
    let q := fin 4 (by decide) i
    ahead (cts32 s.ports[q].latched) (s.portSpeed q a) s.ports[q].latchAt
  | _ =>
    let x := s.net.sub[fin 16 (by decide) i]
    let j := if tm ≤ s.frame.tick then s.frame.fc else s.frame.fc + 1
    match (x.ipo.form (s.pN (Pid.axPrfIpoMode a.val)) (j % 2 ^ 32) s.tfS).1 with
    | some (p, _, _, _) => p
    | none => s.axes[a].gea.mval

/-- The master is lost (R249). -/
def State.masterLost (s : State) (a : Fin 128) : Bool :=
  let i := s.pN (Pid.axGeaMaster a.val)
  match s.pN (Pid.axGeaSrc a.val) with
  | 0 => s.axes[axisNo i].state == .off
  | 1 => s.fbkLost (axisNo i)
  | 2 => s.leBad (fin 4 (by decide) i) || s.faultOn 0x4060 (i % 4)
  | _ => decide (s.pN (Pid.axPrfIpoTmax a.val) < s.net.sub[fin 16 (by decide) i].ipo.run)

/-- The masters of an axis in a chain: how many, at most 5, and whether the chain comes back to `a`. -/
def State.gearChain (s : State) (a : Fin 128) : Nat → Fin 128 → Nat × Bool
  | 0, _ => (0, false)
  | n + 1, b =>
    if 1 < s.pN (Pid.axGeaSrc b.val) then (1, false)
    else
      let c := axisNo (s.pN (Pid.axGeaMaster b.val))
      if c = a then (1, true)
      else if s.axes[c].gea.stat = 0 && !s.axes[c].gea.engReq then (1, false)
      else
        let r := s.gearChain a n c
        (r.1 + 1, r.2)

/-- The longest chain of geared axes that follow an axis (R245), at most `fuel`. -/
def State.gearBelow (s : State) : Nat → Fin 128 → Nat
  | 0, _ => 0
  | n + 1, b =>
    let slaves := allAxes.filter fun c =>
      (s.axes[c].gea.stat ≠ 0 || s.axes[c].gea.engReq) && decide (s.pN (Pid.axGeaSrc c.val) ≤ 1) &&
      decide (axisNo (s.pN (Pid.axGeaMaster c.val)) = b)
    slaves.foldl (fun d c => max d (1 + s.gearBelow n c)) 0

/-- The clutch function of R246 on |d|, in 2^-32 master cts. -/
def clutchIn (c d : Rat) : Rat := if d ≤ 0 then 0 else if d < c then d * d / (2 * c) else d - c / 2

/-- What the clutch-out of R247 adds on |d|. -/
def clutchOut (c d : Rat) : Rat := if d ≤ 0 then 0 else if d < c then d - d * d / (2 * c) else c / 2

/-- A signed displacement through one of them. -/
def mirrored (f : Rat → Rat) (d : Rat) : Rat := if d < 0 then -(f (-d)) else f d

/-- g of R246, in axis cts per master ct. -/
def State.gearRatio (s : State) (a : Fin 128) : Rat :=
  (s.pI 32 (Pid.axGeaNum a.val) : Rat) / (s.pN (Pid.axGeaDen a.val) : Rat)

/-- The gear output at a master value (R246, R247). -/
def State.gearOut (s : State) (a : Fin 128) (g : GeaSt) (m : Int) : Int :=
  let c : Rat := s.pN (Pid.axGeaClutch a.val)
  let r := s.gearRatio a
  if g.disengaging && !g.disWait then
    g.out1 + roundEven (r * mirrored (clutchOut c) ((m - g.m1 : Int) : Rat))
  else g.s0 + roundEven (r * mirrored (clutchIn c) ((m - g.m0 : Int) : Rat))

/-- Gearing ends (R247 to R249): the queue is flushed and event 0x1A02 sent with its cause. -/
def State.gearEnd (s : State) (a : Fin 128) (cause : Nat) : State :=
  let s := s.modGea a fun g => { g with stat := 0, disengaging := false, disWait := false, disReq := false,
                                        engReq := false, add := 0, addV := 0 }
  let s := if cause ≠ 0 || !s.axes[a].prf.queue.isEmpty then s.flushQueue a 5 else s
  (s.modPrf a fun p => { p with state := .idle, plan := [] }).event 0x1A02 a.val cause

/-- An engage call is read (R246): a master that stands at the engage point has reached it. -/
def State.gearEngage (s : State) (a : Fin 128) (b : SetP) : State :=
  let m0 := s.masterAt a s.frame.tick
  let wait := s.pN (Pid.axGeaEngMode a.val) = 1
  let pos := s.pI 64 (Pid.axGeaEngPos a.val)
  let s := s.modGea a fun g =>
    { g with engReq := false, stat := if wait && m0 != pos then 1 else 2, disengaging := false, disWait := false
             s0 := b.pos, m0 := if wait then pos else m0, below := decide (m0 < pos), add := 0, addV := 0 }
  s.modPrf a fun p => { p with state := .geared }

/-- A disengage call is read (R247): modes 0 and 1. -/
def State.gearRelease (s : State) (a : Fin 128) : State :=
  let g := s.axes[a].gea
  let m := s.masterAt a s.frame.tick
  let pos := s.pI 64 (Pid.axGeaDisPos a.val)
  let wait := s.pN (Pid.axGeaDisMode a.val) = 1
  let m1 := if wait then pos else m
  s.modGea a fun k => { k with disReq := false, disengaging := true, disWait := wait && m != pos, m1 := m1,
                               below := decide (m < pos), out1 := s.gearOut a g m1 }

/-- The master value reaches or passes a point from the side where it stood. -/
def passed (below : Bool) (pos m : Int) : Bool := if below then decide (pos ≤ m) else decide (m ≤ pos)

/-- The queue moves that are added to the gear output (R248). -/
def State.gearAdd (s : State) (a : Fin 128) : State :=
  let x := s.axes[a]
  if x.prf.queue.isEmpty then s.modGea a fun g => { g with addV := 0 } else
  let p := { x.prf with next := restAt x.prf.next x.gea.add x.gea.addV }
  let (p, ev) := p.advance (s.vCap a) (s.frame.tick : Rat) (s.tick1 : Rat)
  let s := s.modAxis a fun x =>
    { x with prf := { p with state := .geared }, gea := { x.gea with add := p.next.pos, addV := p.next.v } }
  s.events a ev

/-- The set-point of frame k + 1 of a geared axis (R245 to R248), within the cap of R226, and whether its clutch-out is
complete. -/
def State.gearForm (s : State) (a : Fin 128) (b : SetP) : State × Bool :=
  let m := s.masterAt a s.tick1
  let c : Int := s.pN (Pid.axGeaClutch a.val)
  let s := s.modGea a fun g =>
    let g := { g with mval := m, stat := if g.stat = 1 && passed g.below g.m0 m then 2 else g.stat }
    if g.disWait && passed g.below g.m1 m then { g with disWait := false, out1 := s.gearOut a g g.m1 } else g
  let g := s.axes[a].gea
  let locks := g.stat = 2 && (!g.disengaging || g.disWait) && decide (c ≤ (m - g.m0).natAbs)
  let at_ : Int := if m < g.m0 then g.m0 - c else g.m0 + c
  let s := if locks then (s.modGea a fun g => { g with stat := 3 }).event 0x1A01 a.val (ofSigned 64 at_) else s
  let s := s.gearAdd a
  let g := s.axes[a].gea
  let want := (if g.stat = 1 then g.s0 else s.gearOut a g m) + g.add
  let cap := q32 (s.vCap a * s.tfS)
  let pos := b.pos + clampInt (-cap) cap (want - b.pos)
  let v := ctsOf (pos - b.pos) / s.tfS
  let s := s.modPrf a fun p =>
    { p with next := { p.next with own := true, pos := pos, v := v, a := (v - b.v) / s.tfS, velSp := v } }
  (s, g.disengaging && !g.disWait && decide (c ≤ (m - g.m1).natAbs) && want = pos)

/-- One frame of a geared axis (R245 to R249).  With its master lost it goes on at its speed until the stop of the
fault; a release before the engage point ends gearing at once; after a clutch-out the set-point rests. -/
def State.gearStep (s : State) (a : Fin 128) (b : SetP) : State :=
  if s.masterLost a then ((s.goOn a b).gearEnd a 2).raiseAx 0x1072 a
  else if s.axes[a].gea.stat = 1 && s.axes[a].gea.disReq then
    (s.gearEnd a 0).modPrf a fun p => { p with next := restAt p.next b.pos 0 }
  else
    let s := if s.axes[a].gea.disReq then s.gearRelease a else s
    let (s, done) := s.gearForm a b
    if done then (s.gearEnd a 0).modPrf a fun p => { p with next := restAt p.next p.next.pos 0 } else s

/-- AX.GEA.ENGAGE (R246, R245, R227): the chain counts the masters above the axis and those that it makes below. -/
def execAxGeaEngage (m : Fin 16) (tm : Nat) (s : State) : Host.Outcome State Fault Refusal :=
  .next (s.serveAxis m tm 0x1A 0xF001 0 fun a t _ =>
    let x := t.axes[a]
    let ch := t.gearChain a 6 a
    if ch.2 || 4 < ch.1 + t.gearBelow 5 a then .fail stRange
    else if x.prf.mode ≠ 4 || !x.prf.queue.isEmpty || x.state != .hold || x.hom.phase ≠ 0 || x.hom.startReq ||
      x.gea.stat ≠ 0 || t.pN (Pid.axFbkSource a.val) = 0 then .fail stState
    else .done (t.modGea a fun g => { g with engReq := true }))

/-- AX.GEA.DISENGAGE (R247). -/
def execAxGeaDisengage (m : Fin 16) (tm : Nat) (s : State) : Host.Outcome State Fault Refusal :=
  .next (s.serveAxis m tm 0x1A 0xF002 0 fun a t _ =>
    if t.axes[a].gea.stat = 0 && !t.axes[a].gea.engReq then .fail stState
    else .done (t.modGea a fun g => { g with disReq := true }))

end Sys2Proof.Machine
end

