-- ==== Sys2Proof/Machine/FieldIo.lean ====
section
/-! DEFINITION. The isolated field inputs and outputs (chapter 12). -/

namespace Sys2Proof.Machine

/-- A bit of an output mask set to a level. -/
def setBit16 (v : BitVec 16) (i : Nat) (lv : Bool) : BitVec 16 :=
  if lv then v ||| (1#16 <<< i) else v &&& ~~~(1#16 <<< i)

/-- Output numbers. -/
def allOuts : List Nat := List.range 16

/-- The outputs of a mask, lowest first. -/
def outsOf (v : BitVec 16) : List Nat := allOuts.filter fun i => v.getLsbD i

/-- The mask of a list of outputs. -/
def outMask (l : List Nat) : BitVec 16 := l.foldl (fun v i => setBit16 v i true) 0

/-- The next actuation instant (R25). -/
def State.nextAct (s : State) : Nat :=
  if !s.frame.ticking then s.nt else if s.nt ≤ s.act then s.act else s.act + s.tf

/-- An output whose commands are recorded and not applied (R321, R324). -/
def FioSt.held (f : FioSt) (i : Nat) : Bool :=
  f.outOff || f.diag.any (fun d => d.allow.getLsbD i) || f.diagBack.any (fun d => d.2.getLsbD i)

/-- The die takes commands for the outputs of a mask at an instant (R317: the comparison is blind after a change). -/
def FioSt.command (f : FioSt) (m v : BitVec 16) (tm : Nat) : FioSt :=
  let c := (f.cmd &&& ~~~m) ||| (v &&& m)
  { f with cmd := c
           changedAt := Vector.ofFn fun i =>
             if c.getLsbD i.val != f.cmd.getLsbD i.val then tm else f.changedAt[i] }

/-- Every output switches off (R310, R318). -/
def FioSt.offAll (f : FioSt) (tm : Nat) : FioSt :=
  { f.command 0xFFFF 0 tm with outOff := true, rearmReady := false, restoreAt := none }

/-- A timed change takes effect: it is recorded, and applied where the output is not held (R315, R321, R324).  A
compare change of an output that now follows the process image is dropped. -/
def FioSt.change (f : FioSt) (c : FoutChange) : FioSt :=
  if c.cmp && f.mask.getLsbD c.out then f
  else
    let f' := { f with latest := setBit16 f.latest c.out c.level }
    if f.held c.out then f' else f'.command (setBit16 0 c.out true) (setBit16 0 c.out c.level) c.tm

/-- A change put into order of instants; at one instant a compare change follows the others (R315). -/
def insertChange (c : FoutChange) : List FoutChange → List FoutChange
  | [] => [c]
  | d :: rest =>
    if c.tm < d.tm ∨ (c.tm = d.tm ∧ !c.cmp ∧ d.cmp) then c :: d :: rest else d :: insertChange c rest

/-- The commands of the present half of a test reach the die (R322). -/
def FioSt.diagApply (f : FioSt) (nt : Nat) : FioSt :=
  let f := match f.diag with
    | some d =>
      if !d.applied && decide (d.since ≤ nt) then
        { f.command d.allow (if d.inverted then d.held ^^^ d.test else d.held) d.since with
          diag := some { d with applied := true } }
      else f
    | none => f
  match f.diagBack with
  | some (t, m) =>
    if t ≤ nt then
      let f := { f with diagBack := none }
      if f.outOff then f else f.command m f.latest t
    else f
  | none => f

/-- A timed output change takes effect at the die (R315). -/
def execFieldOutputChange (tm : Nat) (s : State) : Host.Outcome State Fault Refusal :=
  let s := s.adv tm
  .next (s.modFio fun f =>
    let due := (f.changes.filter fun c => decide (c.tm ≤ s.nt)).foldl (fun l c => insertChange c l) []
    let f := { f with changes := f.changes.filter fun c => decide (s.nt < c.tm) }
    (due.foldl FioSt.change f).diagApply s.nt)

/-! Inputs. -/

/-- The bank of an input (R312). -/
def bankOf (i : Fin 40) : Nat := i.val / 8

/-- The stamp of the filter's acceptance of the level at the die, when it has been accepted (R312, R313). -/
def State.accepted (s : State) (i : Fin 40) : Option Nat :=
  let x := s.fio.ins[i]
  let flt := s.aonN (Pid.fioBFilter (bankOf i))
  let per := s.aonN (Pid.fioBPeriod (bankOf i))
  if x.raw == x.level then none
  else if s.aonN (Pid.fioBMode (bankOf i)) = 0 then
    (if x.since + us flt ≤ s.nt then some (x.since + us flt) else none)
  else
    let n := max 1 ((flt + per - 1) / per)
    let stamp := (x.since / us per + n - 1) * us per
    if stamp ≤ s.nt then some stamp else none

/-- The levels at tick − 0.5 µs, taken at the tick: those before an edge stamped later (R314). -/
def FioSt.cutTick (f : FioSt) (tick : Nat) : FioSt :=
  { f with cut := (List.range 40).foldl (fun v i =>
      let x := f.ins[fin 40 (by decide) i]
      if x.level != decide (tick < x.edgeAt + 500) then v ||| (1#40 <<< i) else v) 0 }

/-- An input takes a new level, with event 0x6081 (R314, R319); one stamped by tick − 0.5 µs shows in the process image
of the frame. -/
def State.inEdge (s : State) (i : Fin 40) (stamp : Nat) (resync : Bool) : State :=
  let s := s.modFio fun f =>
    let lv := (f.ins[i]).raw
    { f with ins := f.ins.set i { f.ins[i] with level := lv, edgeAt := stamp }
             cut := if s.frame.tick < stamp + 500 then f.cut
                    else if lv then f.cut ||| (1#40 <<< i.val) else f.cut &&& ~~~(1#40 <<< i.val) }
  if bit (s.aonN Pid.fioInEvtMask) i.val then
    s.event 0x6081 0 (i.val + b2n (s.finLevel i) * 256 + b2n resync * 512 + stamp % 2 ^ 32 * 2 ^ 32)
  else s

/-- The users of an accepted edge: tracking sensors, homing switches and capture conditions (R241, R287, R335). -/
def State.edgeUsers (s : State) (i : Fin 40) (stamp : Nat) : State :=
  let lv := s.finLevel i
  let s := s.capEventAt 5 i.val stamp
  let s := if s.domainOn 12 && s.pN Pid.trkEnable = 1 then s.modTrk fun k => { k with edges := k.edges ++ [⟨i.val + 1, lv, stamp⟩] } else s
  let users := allAxes.filter fun a =>
    s.pN (Pid.axHomSwSrc a.val) == i.val + 1 && (s.axes[a]).hom.phase != 0
  s.each users fun t a => t.modAxis a fun x => { x with swEdges := x.swEdges ++ [(lv, stamp)] }

/-- A field input level passes its filter (R313, R314); an INVALID input produces no edge (R318). -/
def execFieldInputEdge (i : Fin 40) (tm : Nat) (s : State) : Host.Outcome State Fault Refusal :=
  let s := s.adv tm
  match s.accepted i with
  | some stamp => .next (if s.fio.invalid then s else (s.inEdge i stamp false).edgeUsers i stamp)
  | none => .next s

/-- INVALID ends: inputs that changed meanwhile produce RESYNC edges (R319). -/
def State.inputsValid (s : State) : State :=
  let s := s.modFio fun f => { f with invalid := false }
  s.each (List.range 40) fun t i =>
    let i := fin 40 (by decide) i
    if (t.accepted i).isSome then t.inEdge i t.nt true else t

/-! Diagnosis (R322 to R324). -/

/-- A diagnosis has ended with a result: RESULT, OUTPUT and STEPS. -/
def State.diagDone (s : State) (r out steps : Nat) : State :=
  (s.modFio fun f =>
    { f with diag := none, diagResult := r % 256 + out % 256 * 256 + steps % 256 * 65536 }).callDone 0x6000F003 stOk
    (leBytes 1 r ++ leBytes 1 out ++ leBytes 1 steps ++ leBytes 1 0)

/-- UV_WARN, UV_OFF or CF_LOST abort a running diagnosis (R323, R324). -/
def State.diagAbort (s : State) : State :=
  match s.fio.diag with
  | none => s
  | some d =>
    let (out, s) := s.drawNat
    (s.modFio fun f => { f with diagBack := some (s.nextAct, d.allow) }).diagDone 4 out d.steps

/-- The set that the next test inverts: the lower half of the candidates, or the last one, to confirm it. -/
def DiagSt.next (d : DiagSt) (since : Nat) : DiagSt :=
  let c := outsOf d.cand
  { d with test := outMask (c.take ((c.length + 1) / 2)), confirm := decide (c.length ≤ 1), since := since,
           applied := false, inverted := true }

/-- The outcome of a test: whether the common bit cleared narrows the candidates, or decides. -/
def DiagSt.judge (d : DiagSt) (cleared : Bool) (free since : Nat) : DiagSt :=
  let d := { d with steps := d.steps + 1, inverted := false, applied := false, since := since }
  if d.confirm then
    { d with result := some (if cleared then (0, (outsOf d.cand).headD 0) else (1, free)) }
  else { d with cand := if cleared then d.test else d.cand &&& ~~~d.test }

/-- T_STEP after the actuation instant of a half of a test (R322): the common bit is read, or the next test begins. -/
def execFioDiagTest (tm : Nat) (s : State) : Host.Outcome State Fault Refusal :=
  let s := s.adv tm
  let s := s.modFio (·.diagApply s.nt)
  match s.fio.diag with
  | none => .next s
  | some d =>
    if !d.applied || decide (s.nt < d.since + ms (s.aonN Pid.fioDiagTStep)) then .next s
    else if d.inverted then
      let (free, s) := s.drawNat
      .next (s.modFio fun f => { f with diag := some (d.judge (!f.common) free s.nextAct) })
    else match d.result with
      | none => .next (s.modFio fun f => { f with diag := some (d.next s.nextAct) })
      | some (r, out) =>
        let s := s.modFio fun f => { f with diagBack := some (s.nt, d.allow) }
        .next ((s.diagDone r out d.steps).modFio (·.diagApply s.nt))

/-- FIO.DIAG (R322). -/
def execFioDiag (m : Fin 16) (tm : Nat) (s : State) : Host.Outcome State Fault Refusal :=
  .next (s.serveCall m tm 0x6000F003 4 (fun t p =>
    let allow : BitVec 16 := BitVec.ofNat 16 (fld p 0 2)
    let f := t.fio
    let quick (r : Nat) : Served :=
      let (out, t) := t.drawNat
      .done (t.modFio fun f => { f with diagResult := r + out % 256 * 256 })
        (leBytes 1 r ++ leBytes 1 (out % 256) ++ leBytes 2 0)
    if allow = 0 ∨ fld p 2 2 ≠ 0 then .fail stRange
    else if f.uvWarn || f.uvOff then quick 2
    else if !f.common then quick 3
    else if f.cfLost then quick 4
    else
      let d : DiagSt := { allow := allow, cand := allow, held := f.cmd, since := t.nextAct }
      .wait (t.modFio fun f => { f with diag := some (d.next t.nextAct) }) (.call 0x6000F003))
    (fun t => t.fio.diag.isSome))

/-! Channel F and the field supply. -/

/-- A mismatch of an output that counts: past 200 µs after its command's change, and 100 µs long (R317). -/
def FioSt.mismatch (f : FioSt) (i : Nat) (nt : Nat) : Bool :=
  match f.mismatchFrom[i]? with
  | some (some t) => decide (t + us 100 ≤ nt)
  | _ => false

/-- The common fault bit of the die (R317). -/
def FioSt.commonNow (f : FioSt) (nt : Nat) : Bool :=
  f.uvWarn || f.thermal != 0 || allOuts.any fun i => f.mismatch i nt

/-- The common bit follows its conditions; a rise with FV24 of at least 18.0 V is noted (R317). -/
def FioSt.setCommon (f : FioSt) (nt : Nat) : FioSt :=
  let c := f.commonNow nt
  { f with common := c, rise := f.rise || (c && !f.common && decide (1800 ≤ f.fv24)) }

/-- The sampling period of an input's bank in ns, 0 in continuous mode (R312). -/
def State.finPer (s : State) (i : Fin 40) : Nat :=
  if s.aonN (Pid.fioBMode (bankOf i)) = 0 then 0 else us (s.aonN (Pid.fioBPeriod (bankOf i)))

/-- A sample of an input: in pulsed mode one counts for each sense window, at its end (R312). -/
def FinSt.sample (x : FinSt) (lv : Bool) (per last nt : Nat) : FinSt :=
  if lv == x.raw then x
  else if per = 0 then { x with raw := lv, since := nt }
  else if last / per = nt / per then x
  else { x with raw := lv, since := nt / per * per }

/-- The pins and levels of a valid frame (R310, R312, R317, R318); `per` is each input's sampling period. -/
def FioSt.sampled (f : FioSt) (per : Fin 40 → Nat) (ins : BitVec 40) (pins thermal : BitVec 16) (fv24 nt : Nat) : FioSt :=
  { f with
    ins := Vector.ofFn fun i => (f.ins[i]).sample (ins.getLsbD i.val) (per i) f.lastUp nt
    pins := pins, thermal := thermal, fv24 := fv24
    lowFrom := if fv24 < 1800 then some (f.lowFrom.getD nt) else none
    highFrom := if 1900 < fv24 then some (f.highFrom.getD nt) else none
    lastUp := nt, lastDown := nt, cfLost := false, goodFrom := some (f.goodFrom.getD nt)
    mismatchFrom := Vector.ofFn fun i =>
      if pins.getLsbD i.val == f.cmd.getLsbD i.val || decide (nt < f.changedAt[i] + us 200) then none
      else some ((f.mismatchFrom[i]).getD nt) }

/-- A frame of channel F is exchanged every 1 µs (R310); one that fails its check is discarded. -/
def execChannelFFrame (valid : Bool) (ins : BitVec 40) (pins thermal : BitVec 16) (fv24 tm : Nat) (s : State) :
    Host.Outcome State Fault Refusal :=
  let s := s.adv tm
  if !valid then .next s
  else .next (s.modFio fun f => ((f.diagApply s.nt).sampled s.finPer ins pins thermal fv24 s.nt).setCommon s.nt)

/-- No valid frame for 10 µs at the controller side (R310). -/
def execChannelFLost (tm : Nat) (s : State) : Host.Outcome State Fault Refusal :=
  let s := s.adv tm
  if !s.fio.cfLost && decide (s.fio.lastUp + us 10 ≤ s.nt) then
    let s := s.modFio fun f =>
      { f with cfLost := true, invalid := true, goodFrom := none, lowFrom := none, highFrom := none,
               rearmReady := false, restoreAt := none }
    .next ((s.raise 0x6004 0 []).diagAbort)
  else .next s

/-- No valid frame for 100 µs at the die: every output switches off until it is restored (R310). -/
def execDieOutputsOff (tm : Nat) (s : State) : Host.Outcome State Fault Refusal :=
  let s := s.adv tm
  if !s.fio.dieOff && decide (s.fio.lastDown + us 100 ≤ s.nt) then
    .next (s.modFio fun f => { f.offAll s.nt with dieOff := true })
  else .next s

/-- FV24 below 18.0 V for 100 µs (R318). -/
def execFv24Low (tm : Nat) (s : State) : Host.Outcome State Fault Refusal :=
  let s := s.adv tm
  match s.fio.lowFrom with
  | some t =>
    if !s.fio.uvWarn && decide (t + us 100 ≤ s.nt) then
      let s := s.modFio fun f => { f with uvWarn := true }.setCommon s.nt
      .next ((s.raise 0x6001 0 []).diagAbort)
    else .next s
  | none => .next s

/-- FV24 above 18.5 V ends UV_WARN (R318). -/
def execUvWarnEnd (tm : Nat) (s : State) : Host.Outcome State Fault Refusal :=
  let s := s.adv tm
  .next (if s.fio.uvWarn && decide (1850 < s.fio.fv24) then
    s.modFio fun f => { f with uvWarn := false }.setCommon s.nt else s)

/-- FV24 below 16.0 V: outputs off, inputs INVALID (R318). -/
def execFv24Off (tm : Nat) (s : State) : Host.Outcome State Fault Refusal :=
  let s := s.adv tm
  if !s.fio.uvOff && !s.fio.cfLost && s.fio.goodFrom.isSome && decide (s.fio.fv24 < 1600) then
    let s := s.modFio fun f => { f.offAll s.nt with uvOff := true, invalid := true }
    .next ((s.raise 0x6002 0 []).diagAbort)
  else .next s

/-- Inputs become valid, and outputs that are off may be restored (R318 to R321). -/
def State.fieldReady (s : State) : State :=
  let s := if s.fio.invalid then s.inputsValid else s
  s.modFio fun f =>
    let ready := f.outOff
    { f with uvOff := false, rearmReady := f.rearmReady || ready
             restoreAt := if ready && s.aonN Pid.fioOutRestart = 1 then some (s.nextAct, true) else f.restoreAt }

/-- A condition has held for 10 ms. -/
def heldFor10ms (nt : Nat) (t : Option Nat) : Bool := t.any fun x => decide (x + ms 10 ≤ nt)

/-- FV24 above 19.0 V for 10 ms after UV_OFF (R318). -/
def execFv24Recover (tm : Nat) (s : State) : Host.Outcome State Fault Refusal :=
  let s := s.adv tm
  .next (if s.fio.uvOff && !s.fio.cfLost && heldFor10ms s.nt s.fio.highFrom then s.fieldReady else s)

/-- Channel F has delivered valid frames for 10 ms with FV24 above 19.0 V (R321). -/
def execCfRearmReady (tm : Nat) (s : State) : Host.Outcome State Fault Refusal :=
  let s := s.adv tm
  let f := s.fio
  let want := f.invalid || (f.outOff && !f.rearmReady)
  .next (if want && !f.uvOff && !f.cfLost && heldFor10ms s.nt f.goodFrom && heldFor10ms s.nt f.highFrom then
    s.fieldReady else s)

/-- Outputs that were held off take their latest commands at the actuation instant (R320). -/
def execOutputsOn (tm : Nat) (s : State) : Host.Outcome State Fault Refusal :=
  let s := s.adv tm
  match s.fio.restoreAt with
  | some (t, auto) =>
    if t ≤ s.nt then
      let s := s.modFio fun f =>
        let f := { f with outOff := false, rearmReady := false, restoreAt := none, dieOff := false }
        f.command (outMask (allOuts.filter fun i => !f.held i)) f.latest t
      .next (s.event 0x6082 0 (b2n auto))
    else .next s
  | none => .next s

/-- The common fault bit rose while FV24 was at least 18.0 V (R317). -/
def execOutputFault (tm : Nat) (s : State) : Host.Outcome State Fault Refusal :=
  let s := s.adv tm
  .next (if s.fio.rise then (s.modFio fun f => { f with rise := false }).raise 0x6003 0 [] else s)

/-! Calls and the process image. -/

/-- FIO.OUT.WRITE (R315). -/
def execFioOutWrite (m : Fin 16) (tm : Nat) (s : State) : Host.Outcome State Fault Refusal :=
  .next (s.serveCall m tm 0x6000F001 4 fun t p =>
    if BitVec.ofNat 16 (fld p 2 2) &&& t.fio.mask != 0 then .fail stState
    else .done (t.modFio fun f => { f with writes := f.writes ++ [(fld p 2 2, fld p 0 2)] }))

/-- FIO.OUT.REARM (R320). -/
def execFioOutRearm (m : Fin 16) (tm : Nat) (s : State) : Host.Outcome State Fault Refusal :=
  .next (s.serveCall m tm 0x6000F002 0 fun t _ =>
    if !t.fio.rearmReady || t.fio.cfLost then .fail stCause
    else .done (t.modFio fun f => { f with restoreAt := some (t.nextAct, false) }))

/-- At a tick, accepted writes are handed over for its actuation instant (R315). -/
def State.fioWrites (s : State) : State :=
  let w := s.fio.writes
  let s := s.modFio fun f => { f with writes := [] }
  s.each w fun t x =>
    t.each (allOuts.filter fun i => bit x.1 i && !t.fio.mask.getLsbD i) fun t i => t.queueField i (bit x.2 i) t.act false

/-- A swapped FIO_OUT drives the outputs of FIO_OUT_MASK from the actuation instant on (R62, R315). -/
def State.fioImage (s : State) (out mask : BitVec 16) : State :=
  let f := s.fio
  let s := s.modFio fun f => { f with mask := mask, piOut := out }
  let new := allOuts.filter fun i =>
    mask.getLsbD i && (!f.mask.getLsbD i || out.getLsbD i != f.piOut.getLsbD i)
  s.each new fun t i => t.queueField i (out.getLsbD i) t.act false

end Sys2Proof.Machine
end

