-- ==== Sys2Proof/Machine/ProcessImage.lean ====
section
/-! DEFINITION. The process image (R62 to R64, R306): the axis and global input records, the swap at a tick, and what the
device takes from its bank. -/

namespace Sys2Proof.Machine

/-- STATUS [3:0] of an axis (R62). -/
def AxState.code : AxState → Nat
  | .off => 0 | .ready => 1 | .catching => 2 | .starting => 3 | .run => 4 | .stop => 5 | .hold => 6 | .fault => 7
  | .sto => 8

/-- A reaction of L1 stands on an axis (R435). -/
def State.warns (s : State) (a : Fin 128) : Bool := s.flt.inForce.any fun f => f.targets.contains (a.val, 1)

/-- STATUS of an axis's input record (R62). -/
def State.axStatus (s : State) (a : Fin 128) : Nat :=
  let x := s.axes[a]
  x.state.code + b2n x.fbk.speedValid * 2 ^ 4 + b2n x.fbk.unref * 2 ^ 5 + b2n (x.eng.sat != 0) * 2 ^ 6 +
  b2n x.prf.reached * 2 ^ 7 + b2n x.prf.queueFull * 2 ^ 8 + b2n (x.lat[0]).new * 2 ^ 9 + b2n (x.lat[1]).new * 2 ^ 10 +
  b2n (x.cmp[0]).done * 2 ^ 11 + b2n (x.cmp[1]).done * 2 ^ 12 + b2n (s.warns a) * 2 ^ 13 +
  b2n (s.pwr.state == .service) * 2 ^ 14

/-- A rational in 32.32 format, saturating. -/
def fix32 (v : Rat) : Nat := ofSigned 64 (satSigned 64 (roundEven (v * 4294967296)))

/-- The input record of an axis (R62). -/
def State.inRecord (s : State) (a : Fin 128) : List Byte :=
  let x := s.axes[a]
  let st := s.links[linkOf a].stat
  let vbus := match st with
    | some r => r.vbus
    | none => 0
  let temp : Int := match st with
    | some r => r.temp[slotOf a] * 10
    | none => 0
  leBytes 2 (s.axStatus a) ++ leBytes 1 x.prf.seqEcho ++ leBytes 1 (8 - x.prf.queue.length) ++
  leBytes 2 x.rea.first.code ++ leBytes 2 0 ++
  leBytes 8 (ofSigned 64 x.fbk.pos) ++ leBytes 8 (fix32 x.fbk.vel) ++
  leBytes 4 (ofSigned 32 (satSigned 32 (roundEven (x.eng.iAct * 1000)))) ++
  leBytes 4 (ofSigned 32 (satSigned 32 (x.eng.ep / 4294967296).natAbs)) ++
  leBytes 8 (ofSigned 64 (x.lat[0]).pos) ++ leBytes 8 (ofSigned 64 (x.lat[1]).pos) ++
  leBytes 4 x.fbk.posAt ++ leBytes 2 vbus ++ leBytes 2 (ofSigned 16 temp) ++ leBytes 8 0

/-- FIO status as the process image and STATUS frames carry it (R62). -/
def State.fio3 (s : State) : Nat := s.fioStatus % 8

/-- The global input record (R62). -/
def State.globalIn (s : State) : List Byte :=
  leBytes 4 s.fc ++ leBytes 2 s.status11 ++ leBytes 2 s.fio3 ++ leBytes 8 s.fioCut ++ leBytes 8 s.frame.tick ++
  leBytes 2 s.fio.cmd.toNat ++ leBytes 6 0

/-- The tracking input area (R306). -/
def State.trackIn (s : State) : List Byte :=
  leBytes 2 s.trk.active ++ leBytes 2 0 ++ leBytes 4 s.trk.runFc ++ leBytes 4 s.trk.deferred ++ leBytes 4 s.trk.lateCnt ++
  List.replicate 16 0 ++ allCtx.flatMap fun i => (s.trk.ctx[i]).summary

/-- The device-facing bank. -/
def PiSt.devBank (p : PiSt) : Mem := if p.hostB then p.bankA else p.bankB

/-- Bytes written into the device-facing bank by the device. -/
def State.devWrite (s : State) (off : Nat) (bs : List Byte) : State :=
  s.modPi fun p => if p.hostB then { p with bankA := p.bankA.puts off bs } else { p with bankB := p.bankB.puts off bs }

/-- The status of the present frame is written into the device-facing bank (R64). -/
def State.piStatus (s : State) : State :=
  let s := s.each allAxes fun t a => t.devWrite (0x4000 + 0x40 * a.val) (t.inRecord a)
  let s := (s.devWrite 0x6000 s.globalIn).devWrite 0x6020 s.trackIn
  s.modPi fun p => if p.hostB then { p with fcA := s.fc } else { p with fcB := s.fc }

/-- Tick + 10.5 µs (R64), from full service on. -/
def execPiStatusUpdate (tm : Nat) (s : State) : Host.Outcome State Fault Refusal :=
  let s := s.adv tm
  .next (if s.fullService && s.frame.ticking && decide (s.frame.tick + 10500 ≤ s.nt ∧ s.nt < s.tickAt 1) then s.piStatus
    else s)

/-- The banks swap (R63, R64): the host-facing bank then holds the status of the frame before. -/
def State.piSwap (s : State) : State :=
  (s.modPi fun p =>
    { p with hostB := !p.hostB, handed := false, swaps := count32 p.swaps, dry := 0, dryRaised := false
             fc := if p.hostB then p.fcA else p.fcB }).irq (irqBit 17)

/-- A tick without a swap in handshake mode (R63, R64). -/
def State.piMiss (s : State) (late : Bool) : State :=
  (s.modPi fun p =>
    { p with missed := count32 p.missed, dry := p.dry + 1
             late := if late then count32 p.late else p.late }).irq (irqBit 18)

/-- The process image at a tick (R63): an ENABLE takes effect without a swap, and a swap follows the mode.  It answers
whether the banks were swapped.  The status of the frame before is kept for STATUS frames. -/
def State.piTick (s : State) : Bool × State :=
  let s := s.modPi fun p => { p with prev := p.devBank, prevFc := if p.hostB then p.fcA else p.fcB }
  let p := s.pi
  if !p.enable || !s.fullService then (false, s)
  else if p.enabling then (false, s.modPi fun p => { p with enabling := false, running := true })
  else if !p.handshake then (true, s.piSwap)
  else if p.handed && decide (p.handedAt + 1000 ≤ s.frame.tick) then (true, s.piSwap)
  else (false, s.piMiss p.handed)

/-- An axis takes its output record (R62, R63): CTRL for every axis, set-points for an axis in the mask. -/
def State.takeOutput (s : State) (m : Mem) (a : Fin 128) : State :=
  let b := m.gets (0x40 * a.val) 64
  let ctrl := fld b 0 2
  let mode := fld b 2 1
  let mask := s.inMask a.val
  let take := mask && mode != 0
  let s := if take then s.modPi fun p => { p with taken := p.taken ||| (1#128 <<< a.val) } else s
  s.modAxis a fun x =>
    let sp : AxIn := if take then
        { x.inp with pos := toSigned 64 (fld b 8 8), vel := toSigned 64 (fld b 16 8), cur := toSigned 32 (fld b 24 4)
                     ff := toSigned 32 (fld b 28 4) }
      else x.inp
    let sp : AxIn := if mask then
        { sp with mode := mode, seq := fld b 3 1
                  cmpPos := #v[toSigned 64 (fld b 32 8), toSigned 64 (fld b 40 8)], cmpArm := #v[bit ctrl 4, bit ctrl 5] }
      else sp
    { x with enable := bit ctrl 0, run := bit ctrl 1, halt := bit ctrl 2, qstop := bit ctrl 3
             inp := { sp with runEdge := bit ctrl 1 && !x.run } }

/-- The output area of a context in a bank (R306). -/
def trackEntry (m : Mem) (c : Nat) : List Byte := m.gets (0x2010 + 8 * c) 8

/-- The device takes the output area of its bank (R62 to R64), once it drives (R389); routes and field outputs only
where the banks were swapped. -/
def State.piRead (s : State) (swapped : Bool) : State :=
  if !s.pi.running || !s.drives then { s with axes := s.axes.map fun x => { x with inp := { x.inp with runEdge := false } } }
  else
    let m := s.pi.devBank
    let s := s.each allAxes fun t a => t.takeOutput m a
    let s := s.fioImage (BitVec.ofNat 16 (leNat (m.gets 0x2000 2))) (BitVec.ofNat 16 (leNat (m.gets 0x2002 2)))
    if swapped then s.trkRoutes (trackEntry m) else s

end Sys2Proof.Machine
end

