-- ==== Sys2Proof/Machine/Switch.lean ====
section
/-! DEFINITION. The ports and the switch of each line network (R349 to R356, R383): frames received, links, drops and
gate lists. -/

namespace Sys2Proof.Machine

/-- The IPv4 address of the device on a network (R376). -/
def State.ipAddr (s : State) (net : Nat) : Nat := s.aonN (if net = 0 then Pid.netAIp else Pid.netBIp)

/-- The EtherType of PTP. -/
def etPtp : Nat := 0x88F7

/-- Target address of an ARP packet. -/
def arpTarget (b : List Byte) : Nat := beNat ((b.drop 24).take 4)

/-- An ARP or IPv4 frame to the network's address (R376, R378). -/
def State.ipMine (s : State) (net : Nat) (h : EthHead) : Bool :=
  s.ipAddr net != 0 &&
  ((h.etype == 0x0806 && arpTarget h.body == s.ipAddr net) ||
   (h.etype == 0x0800 && beNat ((h.body.drop 16).take 4) == s.ipAddr net))

/-- A PTP message that a line passes on (R359, R361): Sync and Announce; Follow_Up goes on as R361 states when it is
handled, and peer delay messages end at the port.  Profile 2 passes every message on. -/
def State.ptpPasses (s : State) (h : EthHead) : Bool :=
  s.aonN Pid.ptpProfile = 2 || ptpType h.body == 0 || 0xB ≤ ptpType h.body

/-- Where a frame goes (R351): to the other line port, and to HOST; in a twin pair the partner, whose port is `mate`,
gets every frame of the node too (R385). -/
def State.route (s : State) (port : Fin 4) (h : EthHead) : Bool × Bool :=
  let net := netOf port
  let c := crepraOf h.body
  let twin := s.aonN Pid.twinEnable = 1
  let mate := (otherPort port).val % 2 == 1 - s.pwr.strapPos
  if h.dst = s.mac net then (false, true)
  else if h.etype = etPtp then (s.ptpPasses h, true)
  else if h.etype = s.aonN Pid.netEthertype then
    if twin ∧ c.src = s.nodeId ∧ s.nodeId ≠ 0 then (true, false)
    else if c.dst = s.nodeId ∧ s.nodeId ≠ 0 then (twin && mate, true)
    else if c.dst = 0xFFFF then (true, true)
    else if c.dst = 0xFFFE ∧ c.src ≠ s.nodeId then (false, true)
    else (true, false)
  else if h.dst = macAll ∨ s.ipMine net h = true then (true, true)
  else (true, false)

/-- The link delay that PTP uses for a port (R357): measured, with the asymmetry. -/
def State.portDelay (s : State) (port : Fin 4) : Rat :=
  (s.net.ports[port]).pdelay + (s.pI 32 (Pid.netPAsym port.val) : Rat) / 1000

/-- A message has its twoStepFlag set. -/
def ptpTwoStep (b : List Byte) : Bool := bit (fld b 6 1) 1

/-- A Sync that is passed on is corrected in its Follow_Up (R361); otherwise it carries its correction itself. -/
def State.fwdTwoStep (s : State) (b : List Byte) : Bool := ptpTwoStep b && s.aonN Pid.ptpStepMode = 0

/-- What the egress port does with a passed frame (R361): the link delay is added in profile 0 only. -/
def State.fwdAct (s : State) (port : Fin 4) (h : EthHead) (rx : Rat) : EgAct :=
  if h.etype = etPtp ∧ ptpType h.body = 0 ∧ s.aonN Pid.ptpProfile ≠ 2 then
    if s.fwdTwoStep h.body then .stamp
    else .patch rx (if s.aonN Pid.ptpProfile = 0 then s.portDelay port else 0)
  else .plain

/-- A cut-through frame is possible (R352): same speed, idle egress, gate open. -/
def State.cutThrough (s : State) (port : Fin 4) (prio : Nat) : Bool :=
  let p := s.net.ports[port]
  let q := s.net.ports[otherPort port]
  p.gig == q.gig && q.queue.isEmpty && decide (q.busyTil ≤ s.nt) &&
  q.gateStart prio (q.wireNs 2000) s.nt == some s.nt

/-- A frame goes on to the other line port (R352, R353): cut-through within the bound on the residence time, or
stored and forwarded; without room it is dropped and counted at its ingress port. -/
def State.passOn (s : State) (port : Fin 4) (bytes : List Byte) (rx : Rat) : State :=
  let h := ethHead bytes
  let p := s.net.ports[port]
  let out := otherPort port
  let q := s.net.ports[out]
  let (d, s) := s.drawNat
  let cut := s.cutThrough port h.prio
  let f : EgFrame :=
    { prio := h.prio
      ready := if cut then s.nt + d % ((if p.gig then 900 else 6000) + 1)
        else s.nt + (bytes.length + 4) * p.byteNs + d % 1000
      need := if cut then q.wireNs 2000 else q.wireNs (bytes.length + 4)
      bytes := bytes, act := s.fwdAct port h rx }
  let (ok, s) := s.enqueue out f
  if ok then s
  else
    let x := s.net.ports[port]
    let x := { x with drop := count32 x.drop, dropAt := within (secs 1) s.nt (s.nt :: x.dropAt) }
    s.modNet fun n => { n with ports := n.ports.set port x }

/-- The frame's user takes it at HOST (R360, R368, R376): set-points, channels, safe telegrams, hand-offs, wake
frames, PTP messages, ARP and IPv4 to the address. -/
def State.hostUser (s : State) (net : Nat) (h : EthHead) : Bool :=
  if h.etype = s.aonN Pid.netEthertype then [1, 3, 4, 5, 6].contains (fld h.body 1 1)
  else if h.etype = etPtp then [0, 8, 0xB].contains (ptpType h.body)
  else s.ipMine net h

/-- The clock identity of a network's PTP port: EUI-64 from its MAC. -/
def State.clockId (s : State) (net : Nat) : List Byte :=
  let m := beBytes 6 (s.mac net)
  m.take 3 ++ [0xFF, 0xFE] ++ m.drop 3

/-- A PTP header of the device's own (IEEE 1588). -/
def State.ptpHead (s : State) (port : Fin 4) (typ len seq : Nat) (two : Bool) (log : Int) : List Byte :=
  leBytes 1 (typ + (if s.aonN Pid.ptpProfile = 0 then 16 else 0)) ++ leBytes 1 2 ++ beBytes 2 len ++
  leBytes 1 (s.aonN Pid.ptpDomain) ++ leBytes 1 0 ++ leBytes 1 (b2n two * 2) ++ leBytes 1 8 ++ beBytes 8 0 ++
  beBytes 4 0 ++ s.clockId (netOf port.val) ++ beBytes 2 (port.val % 2 + 1) ++ beBytes 2 seq ++
  leBytes 1 (if typ = 0 then 0 else 5) ++ leBytes 1 (ofSigned 8 log)

/-- The link-local address of PTP messages. -/
def ptpMac : Nat := 0x0180C200000E

/-- A PTP message of the device's own leaves a port. -/
def State.ptpOut (s : State) (port : Fin 4) (msg : List Byte) (act : EgAct) : State :=
  s.ethOut port (s.ownPrio 16) (ethPad (s.ownHead (netOf port.val) ptpMac 16 etPtp ++ msg)) act

/-- The engine answers a peer's Pdelay_Req (R360): request receipt time in the answer and the departure in its
follow-up, or the turnaround in the answer's correction. -/
def State.pdelayAnswer (s : State) (port : Fin 4) (req : List Byte) (rx : Rat) : State :=
  if s.aonN Pid.ptpProfile = 2 then s
  else
    let two := s.aonN Pid.ptpStepMode = 0
    let t2 : Nat := if two then (roundEven rx).toNat else 0
    let msg := s.ptpHead port 3 54 (ptpSeq req) two 127 ++ ptpTime t2 ++ (req.drop 20).take 10
    s.ptpOut port msg (if two then .follow else .patch rx 0)

/-- A frame reaches HOST (R351): while CORE is off only a WAKE frame does. -/
def State.toHost (s : State) (port : Fin 4) (bytes : List Byte) (rx : Rat) : State :=
  let h := ethHead bytes
  let f : RxFrame := ⟨port.val, s.nt, rx, bytes⟩
  if !s.domainOn 8 && !s.isCrepra 6 f then s
  else if s.hostUser (netOf port.val) h then s.modNet fun n => { n with rx := n.rx ++ [f] }
  else if h.etype = etPtp ∧ ptpType h.body = 2 then s.pdelayAnswer port h.body rx
  else if h.etype = s.aonN Pid.netEthertype then (s.crepraCheck f).2
  else s

/-- A frame is received on a network port, stamped as its first bit passes (R351, R352, R357). -/
def execEthFrameReceive (port : Fin 4) (fcsOk : Bool) (bytes : List Byte) (tm : Nat) (s : State) :
    Host.Outcome State Fault Refusal :=
  let s := (s.adv tm).drainPorts
  if s.portOk port.val && fcsOk && decide (bytes.length + 4 ≤ 2000) then
    let rx : Rat := (tm : Rat) - (s.aonN (Pid.netPPhyRx port.val) : Rat) / 1000
    let (on, host) := s.route port (ethHead bytes)
    let s := if on then s.passOn port bytes rx else s
    .next (if host then s.toHost port bytes rx else s)
  else .next s

/-- An update of a line port. -/
def State.modNetPort (s : State) (port : Fin 4) (f : NetPort → NetPort) : State :=
  s.modNet fun n => { n with ports := n.ports.set port (f n.ports[port]) }

/-- A port gains link, or its in-band status comes (R349, R383). -/
def execPortUp (port : Fin 4) (speed : Fin 4) (full : Bool) (tm : Nat) (s : State) :
    Host.Outcome State Fault Refusal :=
  let s := s.adv tm
  let p := s.net.ports[port]
  if !s.domainOn (10 + netOf port.val) || (p.link && (p.inband != 0 || speed.val == 0)) then .next s
  else
    let from_ := if p.link then p.linkAt else s.nt
    let s := s.modNetPort port fun x =>
      { x with link := true, linkAt := from_, inband := speed.val, full := full, gig := speed.val == 3 }
    .next (if speed.val = 0 then s else s.event 0x3081 0 (port.val + b2n (speed.val == 3) * 4))

/-- A port loses its link (R383). -/
def execPortDown (port : Fin 4) (tm : Nat) (s : State) : Host.Outcome State Fault Refusal :=
  let s := s.adv tm
  if (s.net.ports[port]).link then
    let s := s.modNetPort port fun x =>
      { x with link := false, gig := false, inband := 0, full := false, configErr := false, queue := [] }
    let s := s.event 0x3082 0 port.val
    .next (if s.aonN (Pid.netPEnable port.val) = 1 then s.raise 0x3001 0 [] else s)
  else .next s

/-- A port in a mode that the MAC does not take, or without in-band status for 100 ms, is held disabled (R349). -/
def execPortConfig (port : Fin 4) (tm : Nat) (s : State) : Host.Outcome State Fault Refusal :=
  let s := s.adv tm
  let p := s.net.ports[port]
  let bad := if p.inband = 0 then decide (p.linkAt + ms 100 ≤ s.nt) else p.inband == 1 || !p.full
  if p.link && !p.configErr && bad then
    .next ((s.modNetPort port fun x => { x with configErr := true }).raise 0x3008 0 [])
  else .next s

/-- More than 100 drops on a port in 1 s (R353). -/
def execNetDrop (port : Fin 4) (tm : Nat) (s : State) : Host.Outcome State Fault Refusal :=
  let s := s.adv tm
  .next (if 100 < (within (secs 1) s.nt (s.net.ports[port]).dropAt).length then s.raise 0x3009 0 [] else s)

/-- A gate cycle starts, and a changed list comes into force (R354). -/
def execGclCycleStart (port : Fin 4) (tm : Nat) (s : State) : Host.Outcome State Fault Refusal :=
  let s := (s.adv tm).drainPorts
  let c := s.aonN (Pid.netPGclCycle port.val)
  let run := if c = 0 then (s.net.ports[port]).gclCycle else c
  if run ≠ 0 ∧ s.nt % run = 0 then
    .next ((s.modNetPort port fun x =>
      { x with gclCycle := c, gcl := (List.range 16).map fun i => s.aonN (Pid.netPGcl port.val i) }).drainPorts)
  else .next s

end Sys2Proof.Machine
end

