-- ==== Sys2Proof/Machine/Cyclic.lean ====
section
/-! DEFINITION. Cyclic frames (R368 to R372, R375): set-points, master channels, STATUS, wake frames, and the faults of
tags and copies. -/

namespace Sys2Proof.Machine

/-- An entry of a SETPOINT frame (R370): its axis, its mode and the set-point. -/
def setpointEntry (fc tm : Nat) (b : List Byte) : Nat × Nat × NetSp :=
  (fld b 0 1, fld b 1 1,
   { fc := fc, cur := toSigned 32 (fld b 4 4), pos := toSigned 64 (fld b 8 8), vel := toSigned 64 (fld b 16 8), tm := tm })

/-- A set-point is kept for its axis, or ignored and counted (R370). -/
def State.takeSetpoint (s : State) (e : Nat × Nat × NetSp) : State :=
  let a := axisNo e.1
  let p := s.axes[a].prf
  if e.1 < 128 && !s.inMask e.1 && 1 ≤ p.mode && decide (p.mode ≤ 3) && e.2.1 == p.mode then
    s.modAxis a fun x => { x with prf := { x.prf with spIn := x.prf.spIn ++ [e.2.2] } }
  else s.modNet fun n => { n with mismatch := count32 n.mismatch }

/-- A frame for FC_APPLY comes after tick FC_APPLY - 1 + 1.0 µs (R370). -/
def State.isLate (s : State) (fcApply : Nat) : Bool :=
  let d := toSigned 32 ((fcApply + 2 ^ 32 - s.fc) % 2 ^ 32)
  decide (((s.frame.tick : Int) + (d - 1) * (s.tf : Int) + 1000) < (s.nt : Int))

/-- The first Crepra frame of a TYPE at HOST, checked (R368): the frame on which the device acts, if any. -/
def State.takeCrepra (s : State) (typ : Nat) : Option Crepra × State :=
  match s.takeRx (s.isCrepra typ) with
  | none => (none, s)
  | some (f, s) => s.crepraCheck f

/-- A SETPOINT frame (R370). -/
def execSetpoint (tm : Nat) (s : State) : Host.Outcome State Fault Refusal :=
  let s := s.adv tm
  match s.takeCrepra 1 with
  | (none, s) => .next s
  | (some c, s) =>
    let n := fld c.payload 4 1
    if n = 0 ∨ 64 < n ∨ c.payload.length ≠ 8 + 24 * n then .next s
    else
      let fc := fld c.payload 0 4
      let s := if s.isLate fc then s.modNet fun k => { k with late := count32 k.late } else s
      .next (s.each (List.range n) fun t i => t.takeSetpoint (setpointEntry fc t.nt (c.payload.drop (8 + 24 * i))))

/-- A published value that arrives in time is kept for each master channel that subscribes it (R372). -/
def State.takeChannel (s : State) (src fc : Nat) (b : List Byte) : State :=
  let v : NetSp := { fc := fc, pos := toSigned 64 (fld b 4 8), vel := toSigned 64 (fld b 12 8), tm := s.nt }
  if s.isLate fc then s else s.each ((List.range 16).filter fun i =>
      let p := s.pN (Pid.cycSubM i)
      p != 0 && p / 65536 == src && p % 16 == fld b 0 1) fun t i =>
    t.modNet fun n =>
      let c : Fin 16 := fin 16 (by decide) i
      let x := n.sub[c]
      { n with sub := n.sub.set c { x with spIn := x.spIn ++ [v], est := bit (fld b 1 1) 0 } }

/-- A CHANNEL frame (R372). -/
def execChannelReceive (tm : Nat) (s : State) : Host.Outcome State Fault Refusal :=
  let s := s.adv tm
  match s.takeCrepra 3 with
  | (none, s) => .next s
  | (some c, s) =>
    let n := fld c.payload 4 1
    if c.payload.length ≠ 8 + 20 * n then .next s
    else .next (s.each (List.range n) fun t i =>
      t.takeChannel c.src (fld c.payload 0 4) (c.payload.drop (8 + 20 * i)))

/-- At a tick, subscribed values that arrived by the cut-off enter their streams, which move on one frame (R250 to
R252, R372); a channel without a value yet counts its frames too (R249). -/
def State.subTick (s : State) : State :=
  let due (c : NetSp) : Bool := decide (c.tm ≤ s.frame.tick + 1000)
  let fc := (s.frame.fc + 1) % 2 ^ 32
  s.modNet fun n => { n with sub := n.sub.map fun x =>
    let ipo := (x.spIn.filter due).foldl (fun t c => (t.accept c).1) x.ipo
    let r := ipo.form 1 fc s.tfS
    { x with ipo := if r.1.isNone then { r.2 with run := r.2.run + 1 } else r.2, spIn := x.spIn.filter fun c => !due c } }

/-- An entry of a STATUS frame (R371). -/
def State.statusEntry (s : State) (a : Fin 128) : List Byte :=
  let r := s.pi.prev.gets (0x4000 + 0x40 * a.val) 64
  leBytes 1 a.val ++ leBytes 1 0 ++ r.take 2 ++ (r.drop 4).take 2 ++ leBytes 2 0 ++ (r.drop 8).take 16

/-- The axes of CYC.STAT_MASK, in axis order. -/
def State.statusAxes (s : State) : List (Fin 128) :=
  allAxes.filter fun a => if a.val < 64 then bit (s.pN Pid.cycStatMaskLo) a.val else bit (s.pN Pid.cycStatMaskHi) (a.val - 64)

/-- A STATUS frame's payload for some axes (R371): the status of the frame before. -/
def State.statusPayload (s : State) (l : List (Fin 128)) : List Byte :=
  leBytes 4 s.pi.prevFc ++ leBytes 2 s.status11 ++ leBytes 2 s.fio3 ++
  leBytes 1 l.length ++ leBytes 3 0 ++ l.flatMap s.statusEntry

/-- Tick + 11.0 µs of the present frame has come and its frame has not been sent. -/
def State.sendDue (s : State) (last : Option Nat) : Bool :=
  s.frame.ticking && s.drives && decide (s.frame.tick + 11000 ≤ s.nt ∧ s.nt < s.tickAt 1) && last != some s.fc

/-- STATUS at tick + 11.0 µs (R369, R371). -/
def execStatusSend (tm : Nat) (s : State) : Host.Outcome State Fault Refusal :=
  let s := s.adv tm
  let div := s.pN Pid.cycStatDiv
  if s.sendDue s.net.statFc && div != 0 && s.fc % div == 0 then
    let s := s.modNet fun n => { n with statFc := some s.fc }
    let l := s.statusAxes
    let dst := s.pN Pid.cycStatDst
    let ports := s.sendPorts true true
    let s := s.crepraSend 2 dst (s.statusPayload (l.take 64)) ports
    .next (if 64 < l.length then s.crepraSend 2 dst (s.statusPayload (l.drop 64)) ports else s)
  else .next s

/-- Position, speed in cts/s and ESTIMATED of a published channel for the present frame (R245, R372). -/
def State.published (s : State) (kind i : Nat) : Int × Rat × Bool :=
  let atTick (p : Int) (v : Rat) (t0 : Nat) : Int :=
    p + q32 (v * (((s.frame.tick : Int) - (t0 : Int) : Int) : Rat) / 1000000000)
  match kind with
  | 1 =>
    let p := s.spNow (axisNo i)
    (p.pos, p.v, false)
  | 2 =>
    let f := s.axes[axisNo i].fbk
    (atTick f.pos f.vel f.posAt, f.vel, f.estimated)
  | _ =>
    let q := fin 4 (by decide) i
    (atTick (cts32 s.ports[q].latched) s.ports[q].vel s.ports[q].latchAt, s.ports[q].vel, s.leBad q)

/-- An entry of a CHANNEL frame (R372): the value extrapolated by its speed over the lead. -/
def State.channelEntry (s : State) (c : Nat) : List Byte :=
  let w := s.pN (Pid.cycPubC c)
  let (pos, v, est) := s.published (w / 2 ^ 24) (w % 256)
  let ahead := v * (s.pN Pid.cycPubLead : Rat) * s.tfS
  leBytes 1 c ++ leBytes 1 (b2n est) ++ leBytes 2 0 ++
  leBytes 8 (ofSigned 64 (satSigned 64 (pos + roundEven (ahead * 4294967296)))) ++ leBytes 8 (fix32 v)

/-- CHANNEL at tick + 11.0 µs (R369, R372). -/
def execChannelSend (tm : Nat) (s : State) : Host.Outcome State Fault Refusal :=
  let s := s.adv tm
  let l := (List.range 16).filter fun c => s.pN (Pid.cycPubC c) / 2 ^ 24 != 0
  if s.sendDue s.net.chanFc && !l.isEmpty then
    let s := s.modNet fun n => { n with chanFc := some s.fc }
    let pay := leBytes 4 ((s.fc + s.pN Pid.cycPubLead) % 2 ^ 32) ++ leBytes 1 l.length ++ leBytes 3 0 ++
      l.flatMap s.channelEntry
    .next (s.crepraSend 3 0xFFFF pay (s.sendPorts true true))
  else .next s

/-- A sender's copies have been missing on one network for 100 frames while they arrive on the other (R369). -/
def Copies.oneNet (c : Copies) (fc : Nat) : Bool :=
  let ago (t : Nat) : Nat := (fc + 2 ^ 32 - t % 2 ^ 32) % 2 ^ 32
  let missing (x : Option Nat) : Bool := decide (100 ≤ ago (x.getD c.since))
  let present (x : Option Nat) : Bool := match x with
    | some t => decide (ago t < 100)
    | none => false
  (missing c.lastA && present c.lastB) || (missing c.lastB && present c.lastA)

/-- Copies missing on one network (R369). -/
def execCycOneNetwork (tm : Nat) (s : State) : Host.Outcome State Fault Refusal :=
  let s := s.adv tm
  if s.pN Pid.cycDual = 1 && s.net.copies.any (fun c => c.oneNet s.frame.fc && !c.raised) then
    .next ((s.modNet fun n =>
      { n with copies := n.copies.map fun c => { c with raised := c.oneNet s.frame.fc } }).raise 0x3006 0 [])
  else .next (s.modNet fun n => { n with copies := n.copies.map fun c => { c with raised := c.raised && c.oneNet s.frame.fc } })

/-- More than 10 tag failures on a port in 1 s (R368). -/
def execAuthFail (port : Fin 4) (tm : Nat) (s : State) : Host.Outcome State Fault Refusal :=
  let s := s.adv tm
  .next (if 10 < (within (secs 1) s.nt (s.net.ports[port]).authAt).length then s.raise 0x3004 0 [] else s)

/-- A WAKE frame goes to the Percolator in every power state (R351, R375). -/
def execWakeFrame (tm : Nat) (s : State) : Host.Outcome State Fault Refusal :=
  let s := s.adv tm
  match s.takeRx (s.isCrepra 6) with
  | none => .next s
  | some (f, s) =>
    let c := crepraOf (ethHead f.bytes).body
    .next (if c.ver = 1 ∧ c.key = 0xFF ∧ c.payload.length = 2 then
      s.modPwr fun p => { p with wakeFrames := p.wakeFrames ++ [(fld c.payload 0 1, fld c.payload 1 1)] } else s)

end Sys2Proof.Machine
end

