-- ==== Sys2Proof/Machine/Tracking.lean ====
section
/-! DEFINITION. The tracking run (R277, R278, R283 to R297) and hand-offs between nodes (R303 to R305, R374). -/

namespace Sys2Proof.Machine

/-! Zone motion (R277, R278). -/

/-- A zone that moves by a displacement of its source in 2^-32 cts, its speed in cts/s and its t0. -/
def State.zoneMove (s : State) (z : Nat) (d : Int) (v : Rat) (t0 : Nat) (est : Bool) : State :=
  let r : Rat := (s.pI 32 (Pid.topoZNum z) : Rat) / (s.pN (Pid.topoZDen z) : Rat)
  s.modZone z fun x => { x with dx := roundEven ((d : Rat) * r), v := v * r, t0 := t0, est := est }

/-- A zone whose source has no valid position moves by its last speed (R278). -/
def State.zoneCoast (s : State) (z t0 : Nat) : State :=
  s.modZone z fun x => { x with dx := um32 (x.v * s.tfS), t0 := t0, est := true }

/-- Fault 0x4006, once until the source is valid again (R278). -/
def State.driverFault (s : State) (z : Nat) (bad : Bool) : State :=
  let was := (s.zoneSt z).driverRaised
  let s := s.modZone z fun x => { x with driverRaised := bad }
  if bad && !was then s.raise 0x4006 z [] else s

/-- The displacement of a zone of kind 1, 2 or 3 in the run: an axis moves it by what it did in the frame before,
whether or not its engine has run in this one (R277). -/
def State.zoneSource (s : State) (z : Nat) : State :=
  let used := (s.zoneSt z).t0
  match s.pN (Pid.topoZKind z) with
  | 1 =>
    let a := axisNo z
    let f := s.axes[a].fbk
    let m := if f.move.tm = s.latchAt a then f.movePrev else f.move
    if m.tm = used || !(m.est || m.ok) then (s.zoneCoast z (s.latchAt a - s.tf)).driverFault z true
    else (s.zoneMove z m.d m.v m.tm m.est).driverFault z m.est
  | 2 =>
    let p := fin 4 (by decide) (s.pN (Pid.topoZSrc z))
    let x := s.ports[p]
    let bad := x.wire || s.faultOn 0x4060 p.val || x.latchAtPrev == used
    if bad then (s.zoneCoast z (s.frame.tick - s.tf - 500)).driverFault z true
    else (s.zoneMove z (x.finePrev - x.finePrev2) x.velPrev x.latchAtPrev false).driverFault z false
  | 3 =>
    let v := s.pI 32 (Pid.topoZSpeed z)
    s.modZone z fun x =>
      { x with dx := um32 ((v : Rat) * s.tfS), v := v, t0 := s.frame.tick - s.tf, est := false }
  | _ => s

/-- The displacement of a zone of kind 4: that of its source zone times the ratio. -/
def State.zoneCopy (s : State) (z : Nat) : State :=
  if s.pN (Pid.topoZKind z) = 4 then
    let x := s.zoneSt (s.pN (Pid.topoZSrc z))
    s.zoneMove z x.dx x.v x.t0 x.est
  else s

/-- Every zone's displacement in the run. -/
def State.zonesRun (s : State) : State :=
  let l := (List.range 160).filter s.zoneUsed
  (s.each l State.zoneSource).each l State.zoneCopy

/-! Steps 2 and 4. -/

/-- A context advances by its drive zone (R285). -/
def State.ctxAdvance (s : State) (i : Fin 256) : State :=
  let c := s.trk.ctx[i]
  if c.state == .free then s else
  let z := s.zoneSt (s.driveZone c)
  s.modCtx i fun c =>
    let c := { c with age := min (c.age + (if c.fresh then 0 else 1)) 0xFFFFFFFF }
    if c.fresh then c
    else { c with pos := c.pos + z.dx, vel := satSigned 32 (roundEven z.v)
                  flags := setFlag (if z.est then setFlag c.flags 0 true else c.flags) 7 (decide (z.dx < 0)) }

/-- A context whose leading edge passes zone ends (R286): at most 4 in a run. -/
def State.ctxCross : Nat → State → Fin 256 → State
  | n, s, i =>
    let c := s.trk.ctx[i]
    let nx := s.ctxNext c
    if c.pos < s.zoneLen c.zone || nx = 255 then s
    else match n with
      | 0 => s.ctxLost i
      | n + 1 =>
        let ex := s.pN (Pid.topoZExport nx) = 1
        State.ctxCross n (s.modCtx i fun c =>
          { c with pos := c.pos - s.zoneLen c.zone, prev := c.zone, zone := nx
                   state := if ex then .exporting else c.state, entered := c.entered || ex }) i

/-- The zone hand-offs of a context (R286). -/
def State.ctxZones (s : State) (i : Fin 256) : State :=
  if s.trk.ctx[i].state == .free then s else
  let s := s.ctxCross 4 i
  let c := s.trk.ctx[i]
  if c.state == .free then s
  else if s.ctxNext c = 255 && decide (s.zoneLen c.zone ≤ c.pos - um c.len) then
    s.ctxFree i (if s.pN (Pid.topoZExport c.zone) = 1 then 3 else 0)
  else if 0 ≤ c.pos then s
  else
    let s := if c.prev = 255 then s else s.modCtx i fun c =>
      { c with zone := c.prev, pos := c.pos + s.zoneLen c.prev, prev := 255 }
    if s.trk.ctx[i].pos < -(um (s.pN Pid.trkBackMax)) then s.ctxLost i else s

/-! Step 3: imports and acknowledgements (R304, R305). -/

/-- The neighbour side of a port: UP or DOWN, of both networks with CYC.DUAL. -/
def State.sideOf (s : State) (port : Nat) (opposite : Bool) : List Nat :=
  let down := (port % 2 = 1) != opposite
  s.sendPorts (!down) down

/-- An ACK of a record leaves by the ports opposite to those on which it arrived (R303, R374). -/
def State.sendAck (s : State) (port status : Nat) (r : List Byte) : State :=
  s.crepraSend 5 0xFFFE (leBytes 1 2 ++ leBytes 1 status ++ (r.drop 2).take 14) (s.sideOf port true)

/-- A HANDOFF record is handled (R304). -/
def State.importCtx (s : State) (port : Nat) (r : List Byte) : State :=
  let z := fld r 2 1
  let id := fld r 4 4
  let nt := fld r 8 8
  if !(s.zoneUsed z && s.pN (Pid.topoZImport z) = 1) then s.sendAck port 3 r
  else if s.trk.recent.any fun x => x.1 == id && x.2.1 == nt then s.sendAck port 1 r
  else match s.freeSlot with
    | none => (s.sendAck port 2 r).raise 0x4001 0 []
    | some i =>
      let vel := toSigned 32 (fld r 28 4)
      let dt : Rat := ((((s.zoneSt z).t0 : Int) - (nt : Int) : Int) : Rat) / 1000000000
      let f := fld r 1 1
      let flags := setFlag (setFlag (setFlag 0 6 true) 0 (bit f 0)) 2 (bit f 1)
      let s := (s.touch i).ctxNew i
        { state := .active, zone := z, objId := id, pos := um (toSigned 32 (fld r 16 4)) + um32 ((vel : Rat) * dt)
          len := fld r 20 4, route := BitVec.ofNat 32 (fld r 24 4), vel := vel, flags := flags }
      let s := s.modTrk fun k => { k with recent := k.recent ++ [(id, nt, s.nt)] }
      (s.event 0x4083 0 (i.val + s.trk.ctx[i].gen * 256 + id * 2 ^ 32)).sendAck port 0 r

/-- An ACK record is handled (R305): status 0 and 1 end a hand-off, 3 raises 0x4004. -/
def State.takeAck (s : State) (r : List Byte) : State :=
  let st := fld r 1 1
  let hit (h : HandOff) : Bool := h.seq == fld r 3 1 && fld h.rcd 4 4 == fld r 4 4 && fld h.rcd 8 8 == fld r 8 8
  if !(s.trk.out.any hit) || st = 2 then s
  else
    let s := s.modTrk fun k => { k with out := k.out.filter fun h => !hit h }
    if st = 3 then s.raise 0x4004 0 [] else s

/-- A received record of R303. -/
def State.takeHandoff (s : State) (x : Nat × Nat × List Byte) : State :=
  if fld x.2.2 0 1 = 1 then s.importCtx x.1 x.2.2
  else if fld x.2.2 0 1 = 2 then s.takeAck x.2.2 else s

/-! Step 5: zone edges (R287 to R290). -/

/-- An edge as a zone counts it: its instant less the delay, the zone, and whether it blocks (R287). -/
structure ZoneEdge where
  t : Int
  zone : Nat
  blocking : Bool
deriving DecidableEq, Repr

/-- The zones that a sensor edge concerns. -/
def State.zoneEdges (s : State) (e : ZEdge) : List ZoneEdge :=
  if 1 ≤ e.sensor ∧ e.sensor ≤ 40 ∧ s.fio.invalid then []
  else ((List.range 160).filter fun z => s.zoneUsed z && s.pN (Pid.topoZSensor z) = e.sensor).map fun z =>
    ⟨(e.stamp : Int) - (s.pN (Pid.topoZSensDelay z) : Int), z, e.level == (s.pN (Pid.topoZSensLevel z) == 1)⟩

/-- Edges in the order of their instants. -/
def insertEdge (e : ZoneEdge) : List ZoneEdge → List ZoneEdge
  | [] => [e]
  | d :: rest => if e.t < d.t then e :: d :: rest else d :: insertEdge e rest

/-- The contexts with their leading edge at an instant in a zone's coordinates. -/
def State.edgesAt (s : State) (z : Nat) (t : Int) : List (Fin 256 × Int) :=
  allCtx.filterMap fun i =>
    let c := s.trk.ctx[i]
    if c.state == .free then none else (s.yIn c z).map fun y => (i, y + s.travel c t)

/-- The best of a list by an order. -/
def bestOf {α : Type} (better : α → α → Bool) : List α → Option α
  | [] => none
  | x :: rest => match bestOf better rest with
    | none => some x
    | some y => if better y x then some y else some x

/-- A blocking edge corrects the nearest context (R288), or creates one or is unexpected (R289). -/
def State.blockingEdge (s : State) (z : Nat) (t : Int) : State :=
  let sp := s.sensPos z
  let cand := (s.edgesAt z t).filter fun x =>
    s.trk.ctx[x.1].sensed != z && decide ((sp - x.2).natAbs ≤ s.zoneWin z)
  match bestOf (fun a b => decide ((sp - a.2).natAbs < (sp - b.2).natAbs ∨
      ((sp - a.2).natAbs = (sp - b.2).natAbs ∧ b.2 < a.2))) cand with
  | some (i, y) =>
    let e := sp - y
    let s := s.modZone z fun x => { x with matched := count32 x.matched }
    (s.modCtx i fun c =>
      { c with pos := c.pos + e, corr := satSigned 16 (roundEven ((e : Rat) / 42949672960)), sensed := z, misses := 0
               flags := setFlag (setFlag (setFlag c.flags 1 true) 0 false) 3 false }).ctxZones i
  | none =>
    let x := s.zoneSt z
    if s.pN (Pid.topoZCreate z) = 1 then
      match s.freeSlot with
      | none => s.raise 0x4001 0 []
      | some i =>
        let back := um32 (x.v * ((t - (x.t0 : Int) : Int) : Rat) / 1000000000)
        (s.ctxNew i { state := .active, zone := z, pos := sp - back, sensed := z, flags := setFlag 0 2 true
                      vel := satSigned 32 (roundEven x.v) }).ctxCreated i z true
    else
      let s := s.modZone z fun x => { x with unexp := count32 x.unexp }
      if longAgo (secs 1) s.nt x.unexpAt then
        (((s.modZone z fun x => { x with unexpAt := some s.nt }).event 0x4086 0 z).raise 0x4002 0 [])
      else s

/-- A clearing edge measures a length (R290). -/
def State.clearingEdge (s : State) (z : Nat) (t : Int) : State :=
  let sp := s.sensPos z
  let cand := (s.edgesAt z t).filter fun x => s.trk.ctx[x.1].sensed == z
  let off (x : Fin 256 × Int) : Nat := (x.2 - um s.trk.ctx[x.1].len - sp).natAbs
  let known := cand.filter fun x => s.trk.ctx[x.1].len != 0 && decide (off x ≤ s.zoneWin z)
  let open_ := cand.filter fun x => s.trk.ctx[x.1].len == 0 && decide (sp ≤ x.2)
  let hit := match bestOf (fun a b => decide (off a < off b)) known with
    | some x => some x
    | none => bestOf (fun (a b : Fin 256 × Int) => decide (a.2 < b.2)) open_
  match hit with
  | none => s.modZone z fun x => { x with unexp := count32 x.unexp }
  | some (i, y) =>
    let m := roundEven ((y - sp : Int) / 4294967296 : Rat)
    let s := s.modZone z fun x => { x with matched := count32 x.matched }
    let len := s.trk.ctx[i].len
    if len = 0 then s.modCtx i fun c => { c with len := m.toNat }
    else if s.pN (Pid.topoZLenTol z) < (m - len).natAbs then
      (s.modCtx i fun c => { c with flags := setFlag c.flags 4 true }).event 0x4085 0 (i.val + ofSigned 32 m * 2 ^ 32)
    else s

/-- The zone edges of a frame (R283, R287). -/
def State.edgesRun (s : State) : State :=
  let cut := s.frame.tick - 500
  let due := s.trk.edges.filter fun e => decide (e.stamp ≤ cut)
  let s := s.modTrk fun k => { k with edges := k.edges.filter fun e => decide (cut < e.stamp) }
  let l := (due.flatMap s.zoneEdges).foldl (fun l e => insertEdge e l) []
  s.each l fun t e => if e.blocking then t.blockingEdge e.zone e.t else t.clearingEdge e.zone e.t

/-! Step 6: missed sensors (R287, R291). -/

/-- A context that has passed the sensor of a zone without an edge (R291), or while its input was INVALID (R287). -/
def State.missedAt (s : State) (i : Fin 256) (z : Nat) : State :=
  let c := s.trk.ctx[i]
  let sensor := s.pN (Pid.topoZSensor z)
  if c.state == .free || !s.zoneUsed z || sensor = 0 || c.sensed = z then s
  else match s.yIn c z with
    | none => s
    | some y =>
      if y ≤ s.sensPos z + s.zoneWin z then s
      else if sensor ≤ 40 && s.fio.invalid then
        s.modCtx i fun c => { c with flags := setFlag c.flags 5 true, sensed := z }
      else
        let s := s.modZone z fun x => { x with missed := count32 x.missed }
        let s := s.modCtx i fun c =>
          { c with flags := setFlag c.flags 3 true, misses := min 255 (c.misses + 1), sensed := z }
        if s.pN Pid.trkMissMax ≤ s.trk.ctx[i].misses then s.ctxLost i else s

/-- Missed sensors of a context, in the order of its path: one that lies behind a sensor already met is done. -/
def State.missedRun (s : State) (i : Fin 256) : State :=
  let c := s.trk.ctx[i]
  if c.state == .free || c.sensed = c.zone then s
  else
    let s := if c.prev = 255 then s else s.missedAt i c.prev
    s.missedAt i s.trk.ctx[i].zone

/-! Step 7: compare events (R292 to R297). -/

/-- An update of a compare event. -/
def State.modEv (s : State) (i : Fin 256) (j : Fin 4) (f : CmpEv → CmpEv) : State :=
  s.modCtx i fun c => { c with ev := c.ev.set j (f c.ev[j]) }

/-- Event 0x4084 (R308). -/
def State.evLate (s : State) (i : Fin 256) (j : Fin 4) (skipped : Bool) : State :=
  s.event 0x4084 0 (i.val + j.val * 256 + b2n skipped * 1024)

/-- An event is SKIPPED. -/
def State.evSkip (s : State) (i : Fin 256) (j : Fin 4) : State :=
  s.modEv i j fun e => { e with armed := false, skipped := true }

/-- The action of a placed event (R292, R295, R296): false where its output cannot be placed. -/
def State.evAct (s : State) (i : Fin 256) (j : Fin 4) (e : CmpEv) (inst4 : Nat) : State × Bool :=
  let tm := s.act + s.tf + 4 * inst4
  let lv := bit e.act 4
  let w := ms e.width
  match e.act % 16 with
  | 1 =>
    let a := axisNo e.target
    if s.stageOut a then (s.placeStage a lv true inst4 false w, true) else (s, false)
  | 2 =>
    if s.fio.mask.getLsbD e.target then (s, false)
    else (s.queueField e.target lv tm true false w, true)
  | 3 => (s.modTrk fun k => { k with requests := k.requests ++ [(e.target, false)] }, true)
  | 4 => (s.modTrk fun k => { k with requests := k.requests ++ [(e.target, true)] }, true)
  | _ => (s.event 0x4087 0 (i.val + j.val * 256 + tm % 2 ^ 32 * 2 ^ 32), true)

/-- An event is placed at an instant of the window of frame k + 1 (R293, R297). -/
def State.evPlace (s : State) (i : Fin 256) (j : Fin 4) (inst4 : Nat) (late : Bool) : State :=
  let c := s.trk.ctx[i]
  if c.flags.getLsbD 0 && s.pN Pid.trkEstCmp = 0 then (s.evSkip i j).evLate i j true
  else
    let (s, ok) := s.evAct i j c.ev[j] inst4
    if !ok then s.evSkip i j
    else
      let s := s.modEv i j fun e => { e with armed := false, done := true, late := late }
      if late then (s.modTrk fun k => { k with lateCnt := count32 k.lateCnt }).evLate i j false else s

/-- An armed event in the run (R292 to R294). -/
def State.evRun (s : State) (i : Fin 256) (j : Fin 4) : State :=
  let c := s.trk.ctx[i]
  let e := c.ev[j]
  if c.state == .free || !e.armed then s
  else if !(e.zone = c.zone || e.zone = c.prev) then
    if e.been then s.evSkip i j else s.modEv i j fun e => { e with fresh := false }
  else
    let s := s.modEv i j fun e => { e with been := true, fresh := false }
    let y := (s.yIn c e.zone).getD 0
    let x := c.point y (if c.len = 0 then 0 else bits e.act 6 5)
    let v := s.ctxV c
    let w0 := s.act + s.tf
    if e.fresh && decide (um e.pos ≤ x + s.travel c w0) then
      if s.pN Pid.trkCmpLate = 0 then s.evPlace i j 0 true else (s.evSkip i j).evLate i j true
    else if v ≤ 0 then s
    else
      let t : Rat := (s.ctxT0 c : Rat) + ((um e.pos - x : Int) : Rat) / 4294967296 / v * 1000000000
      if ((w0 + s.tf : Nat) : Rat) ≤ t then s
      else if t < (w0 : Rat) then s.evPlace i j 0 true
      else s.evPlace i j (roundAway ((t - (w0 : Rat)) / 4)).toNat false

/-! Step 8: hand-offs (R303). -/

/-- A context that entered an export zone in this run is handed to the neighbour. -/
def State.handOff (s : State) (i : Fin 256) : State :=
  let c := s.trk.ctx[i]
  let s := s.modCtx i fun c => { c with entered := false, fresh := false }
  if c.state == .free || !c.entered || !s.drives then s
  else
    let z := c.zone
    let r := leBytes 1 1 ++ leBytes 1 (b2n (c.flags.getLsbD 0) + b2n (c.flags.getLsbD 2) * 2) ++
      leBytes 1 (s.pN (Pid.topoZPeerZone z)) ++ leBytes 1 s.trk.seq ++ leBytes 4 c.objId ++ leBytes 8 (s.ctxT0 c) ++
      leBytes 4 (ofSigned 32 (roundEven ((c.pos : Rat) / 4294967296))) ++ leBytes 4 c.len ++ leBytes 4 c.route.toNat ++
      leBytes 4 (ofSigned 32 c.vel)
    let up := s.pN (Pid.topoZPeer z) = 1
    (s.modTrk fun k =>
      { k with out := k.out ++ [⟨k.seq, z, r, s.nt, 0⟩], seq := (k.seq + 1) % 256 }).crepraSend 5 0xFFFE r
      (s.sendPorts up (!up))

/-- Field inputs that tracking uses are INVALID (R308). -/
def State.sensorInvalid (s : State) : Bool :=
  s.fio.invalid && (List.range 160).any fun z =>
    let n := s.pN (Pid.topoZSensor z)
    s.zoneUsed z && decide (1 ≤ n ∧ n ≤ 40)

/-- TRACKING_RUN (R284): at tick + 1.5 µs. -/
def execTrackingRun (s : State) : Host.Outcome State Fault Refusal :=
  if !s.trkOn || !s.frame.ticking then .next s else
  let s := s.adv (s.frame.tick + 1500)
  let s := if s.sensorInvalid && !s.faultOn 0x4005 0 then s.raise 0x4005 0 [] else s
  let s := s.zonesRun
  let calls := s.trk.due
  let s := s.modTrk fun k =>
    { k with due := [], runFc := s.fc, recent := k.recent.filter fun x => decide (s.nt < x.2.2 + secs 1) }
  let s := s.each calls fun t x => t.trkApply x.1 x.2
  let s := s.each allCtx State.ctxAdvance
  let top := s.frame.tick + 1000
  let due := s.trk.inbox.filter fun x => decide (x.2.1 ≤ top)
  let s := s.modTrk fun k => { k with inbox := k.inbox.filter fun x => decide (top < x.2.1) }
  let s := s.each due State.takeHandoff
  let s := (s.each allCtx State.ctxZones).edgesRun
  let s := s.each allCtx State.missedRun
  let s := s.each allCtx fun t i => [0, 1, 2, 3].foldl (fun t j => t.evRun i j) t
  .next (s.each allCtx State.handOff)

/-- A HANDOFF or ACK frame arrives and waits for the next run (R374); a device that does not drive ignores it
(R388). -/
def execHandoffFrame (tm : Nat) (s : State) : Host.Outcome State Fault Refusal :=
  let s := s.adv tm
  match s.takeRx (s.isCrepra 5) with
  | none => .next s
  | some (f, s) =>
    let (c, s) := s.crepraCheck f
    .next (match c with
      | some c => if s.drives && s.trkOn then
          s.modTrk fun k => { k with inbox := k.inbox ++ [(f.port, f.tm, c.payload)] } else s
      | none => s)

/-- No ACK came within HO_TIMEOUT (R305): the record goes again, or fault 0x4004 is raised. -/
def execHandoffRetry (tm : Nat) (s : State) : Host.Outcome State Fault Refusal :=
  let s := s.adv tm
  match s.trk.out.find? fun h => decide (h.sentAt + ms (s.pN Pid.trkHoTimeout) ≤ s.nt) with
  | none => .next s
  | some h =>
    if h.tries < s.pN Pid.trkHoRetry then
      let up := s.pN (Pid.topoZPeer h.zone) = 1
      let s := s.modTrk fun k =>
        { k with out := k.out.map fun x => if x == h then { x with tries := x.tries + 1, sentAt := s.nt } else x }
      .next (s.crepraSend 5 0xFFFE h.rcd (s.sendPorts up (!up)))
    else .next ((s.modTrk fun k => { k with out := k.out.filter (· != h) }).raise 0x4004 0 [])

end Sys2Proof.Machine
end

