-- ==== Sys2Proof/Machine/Trips.lean ====
section
/-! DEFINITION. Trips (R124 to R131): trip pins with their blanking windows, stage trips, kill repetition, and the
call TRP.CLEAR. -/

namespace Sys2Proof.Machine

/-- The trip logic of a pin works: its AX domain is on and the pin is in use (R124, R130). -/
def State.pinUsed (s : State) (p : Fin 8) : Bool := s.axOn p && s.pN (Pid.trpPEnable p.val) = 1

/-- The links of a cluster that kill slots of given axes send their kills (R89). -/
def State.killAxes (s : State) (c : Fin 8) (hit : List (Fin 128)) : State :=
  s.each (clusterLinks c) fun t l =>
    if hit.any (fun b => linkOf b == l) then t.sendKill l (t.killMask l) else t

/-- A trip pin latches with a stamp (R124, R126): a later trip keeps the first stamp and is counted (R128). -/
def State.pinLatch (s : State) (p : Fin 8) (stamp : Nat) (late : Bool) : State :=
  if s.pins[p].latched then s.modPin p fun x => { x with count := count32 x.count, waiting := none }
  else
    let s := s.modPin p fun x =>
      { x with latched := true, stamp := stamp, late := late, refused := false, waiting := none }
    ((s.raise 0x2101 p.val (s.pinAxes p)).capEventAt 4 p.val stamp).killAxes p (s.pinAxes p)

/-- An activation of a trip pin is ignored and counted (R126). -/
def PinSt.ignore (x : PinSt) (now : Nat) : PinSt :=
  { x with waiting := none, blanked := count32 x.blanked, ignoredAt := within (secs 1) now (now :: x.ignoredAt) }

/-- A trip pin has become active at `instant` (R124). When its filter has accepted it by `tm`: outside every window
it latches at that instant, inside one it waits for the window's end. When `tm` comes before the filter accepts, it
has ended then: inside a window it counts as ignored (R126). -/
def execTripPinActivation (p : Fin 8) (instant tm : Nat) (s : State) : Host.Outcome State Fault Refusal :=
  let s := s.adv tm
  if s.nt < instant + s.pN (Pid.trpPFilter p.val) then
    .next (if s.pinUsed p && (s.blankEnd p instant).isSome then s.modPin p (·.ignore s.nt) else s)
  else
  let s := s.modPin p fun x => { x with active := true, activeFrom := instant }
  let s := s.modPwr fun k => { k with aonTrip := k.aonTrip ||| (1#8 <<< p.val) }
  if !s.pinUsed p then .next s else
  match s.blankEnd p instant with
  | none => .next (s.pinLatch p instant false)
  | some e => .next (if e ≤ s.nt then s.pinLatch p e true else s.modPin p fun x => { x with waiting := some instant })

/-- A blanking window ends with the pin still active (R126). -/
def execBlankWindowEnd (p : Fin 8) (tm : Nat) (s : State) : Host.Outcome State Fault Refusal :=
  let s := s.adv tm
  let x := s.pins[p]
  match x.waiting with
  | none => .next s
  | some t =>
    let e := (s.blankEnd p t).getD t
    .next (if s.pinUsed p && x.active && e ≤ s.nt then s.pinLatch p e true else s)

/-- A trip pin is inactive after its filter (R126, R129): an activation that waited in a window is ignored. -/
def execTripPinRelease (p : Fin 8) (tm : Nat) (s : State) : Host.Outcome State Fault Refusal :=
  let s := s.adv tm
  .next (s.modPin p fun x =>
    let x := if x.active then { x with active := false, inactiveFrom := s.nt } else x
    if x.waiting.isSome then x.ignore s.nt else x)

/-- More than 100 ignored activations within 1 s (R126); 0x2103 names the 16 axes of the pin's cluster (DESIGN CHOICE,
log 161). -/
def execTripNoise (p : Fin 8) (tm : Nat) (s : State) : Host.Outcome State Fault Refusal :=
  let s := s.adv tm
  .next (if 100 < (within (secs 1) s.nt s.pins[p].ignoredAt).length then s.raise 0x2103 p.val (clusterAxes p) else s)

/-- A stage trip of an axis latches with the arrival of the TRIP symbol as stamp (R127); a trip while the latch is
set keeps the first stamp (R128). -/
def State.stageTrip (s : State) (a : Fin 128) : State :=
  let hit := s.spread a
  let s := s.modAxis a fun x =>
    let p := x.pwm
    let p := if p.trip then p
      else { p with trip := true, tripCause := 0, tripStamp := s.nt, tripRefused := false }
    { x with pwm := { p with tripStat := false } }
  (s.raise 0x2102 a.val hit).killAxes (clusterOf a) hit

/-- A TRIP sequence arrives (R92, R127). -/
def execTripSequence (l : Fin 32) (mask : BitVec 4) (tm : Nat) (s : State) : Host.Outcome State Fault Refusal :=
  let s := s.adv tm
  if !s.linkOn l then .next s
  else .next (s.each ((List.range 4).filter fun k => mask.getLsbD k) fun t k => t.stageTrip (axisAt l k))

/-- A kill sequence is repeated while its cause remains, 1.0 µs after the one before, in place of IDLE (R89; log 156). -/
def execKillRepeat (l : Fin 32) (tm : Nat) (s : State) : Host.Outcome State Fault Refusal :=
  let s := s.adv tm
  let x := s.links[l]
  let m := s.killMask l
  .next (if s.linkOn l && m != 0 && decide (x.killAt + us 1 ≤ s.nt) && decide (x.txEnd ≤ s.nt) then s.sendKills l m 1 else s)

/-! TRP.CLEAR (R129). -/

/-- A pin latch's input is active, or has been inactive for less than `TRP.RECLEAR`. -/
def State.pinHeld (s : State) (p : Fin 8) : Bool :=
  let x := s.pins[p]
  x.active || decide (s.nt < x.inactiveFrom + us (s.pN Pid.trpReclear))

/-- A stage-trip latch's input is active, or has been inactive for less than `TRP.RECLEAR`. -/
def State.stageHeld (s : State) (a : Fin 128) : Bool :=
  let x := s.axes[a].pwm
  !x.tripStat || x.tripBit || decide (s.nt < x.tripBitEnd + us (s.pN Pid.trpReclear))

/-- The pins and axes that TRP.CLEAR names, those whose latch is set. -/
def State.clearNamed (s : State) (p : List Byte) : List (Fin 8) × List (Fin 128) :=
  (allPins.filter fun c => bit (fld p 0 1) c.val && s.pins[c].latched,
   allAxes.filter fun a => s.axes[a].pwm.trip &&
     (if a.val < 64 then bit (fld p 4 8) a.val else bit (fld p 12 8) (a.val - 64)))

/-- TRP.CLEAR (R129): all named latches go at the next tick, or none. -/
def execTrpClear (m : Fin 16) (tm : Nat) (s : State) : Host.Outcome State Fault Refusal :=
  .next (s.serveCall m tm 0x2100F001 20 fun t p =>
    let (pins, axes) := t.clearNamed p
    if fld p 1 3 ≠ 0 then .fail stRange
    else if pins.any t.pinHeld || axes.any t.stageHeld then
      let u := t.each (pins.filter t.pinHeld) fun u c => u.modPin c fun x => { x with refused := true }
      let u := u.each (axes.filter t.stageHeld) fun u a => u.modAxis a fun x =>
        { x with pwm := { x.pwm with tripRefused := true } }
      .failed u stCause
    else
      let u := t.each pins fun u c => u.modPin c fun x => { x with clearReq := true }
      .done (u.each axes fun u a => u.modAxis a fun x => { x with pwm := { x.pwm with clearReq := true } }))

/-- The latches that TRP.CLEAR named go at a tick, with their refusal bit (R129); BLANKED_LATE goes with its latch
(DESIGN CHOICE, log 160). -/
def State.trpClearDue (s : State) : State :=
  { s with
    pins := s.pins.map fun x =>
      if x.clearReq then { x with latched := false, refused := false, late := false, clearReq := false } else x
    axes := s.axes.map fun x =>
      if x.pwm.clearReq then
        { x with pwm := { x.pwm with trip := false, tripCause := 0, tripRefused := false, clearReq := false } }
      else x }

end Sys2Proof.Machine
end

