-- ==== Sys2Proof/Machine/Causes.lean ====
section
/-! DEFINITION. What clears a fault (R445), the causes that last, and the ends of stops (R435, R438). -/

namespace Sys2Proof.Machine

/-- A number of events lies within the last second. -/
def State.inSecond (s : State) (n : Nat) (l : List Nat) : Bool := decide (n < (within (secs 1) s.nt l).length)

/-- Causes of classes 0x01 and 0x02 (R23, R37, R64, R65, R499, R501). -/
def State.causeDevice (s : State) (code inst : Nat) : Bool :=
  let c : Fin 8 := fin 8 (by decide) inst
  let f := s.frame
  match code with
  | 0x0103 => s.age.tjWarn
  | 0x0104 => s.age.tjHot.any fun t => decide (t + ms 10 ≤ s.nt)
  | 0x0105 => decide (3 ≤ (within (secs 1) s.nt s.age.droopAt).length)
  | 0x0110 => s.host.wdogExpired
  | 0x0111 => s.pi.dryRaised
  | 0x0202 => decide (3 ≤ f.consec[c])
  | 0x0203 => f.unalignedFrom.any fun t => decide (t + secs 1 ≤ s.nt)
  | 0x0204 => f.gatesOff.getLsbD c.val && decide (0 < f.consec[c])
  | _ => false

/-- Causes of class 0x10 on an axis (R118, R138, R157, R170, R187, R199, R202, R206, R236, R249, R260, R262). -/
def State.causeAxis (s : State) (code : Nat) (a : Fin 128) : Bool :=
  let x := s.axes[a]
  let lim := s.limitsOn a && !s.inLimits a
    (if s.inMask a.val && x.prf.mode = 1 then x.inp.pos else x.prf.now.pos)
  match code with
  | 0x1020 => (x.pwm.hb.toList.any fun h => decide (16 ≤ h.overRun)) ||
      (s.motType a.val != 0 && decide (s.pN (Pid.axPwmDtMax a.val) < s.stageDtMin a.val))
  | 0x1037 => decide (400 ≤ x.com.blindRun)
  | 0x1040 => decide (x.com.keRatio < 85 / 100 ∨ 115 / 100 < x.com.keRatio)
  | 0x1041 => decide (x.com.keRatio < 70 / 100 ∨ 130 / 100 < x.com.keRatio)
  | 0x1050 | 0x1051 => decide (x.fbk.goodRun < 3) || s.lossCause a x.fbk != 0
  | 0x1052 => x.fbk.serWarn
  | 0x1060 => x.eng.feFrom.any fun t => decide (t + ms (s.pN (Pid.axPosFeTime a.val)) ≤ s.nt)
  | 0x1061 => x.eng.satRun.toList.any fun n => decide (64 ≤ n)
  | 0x1062 => decide (10 ≤ x.eng.vbusLow)
  | 0x1070 => lim
  | 0x1072 => x.gea.stat != 0 && s.masterLost a
  | 0x1080 => decide (100 ≤ x.stp.clampRun)
  | 0x1084 => x.stp.attached && s.leBad (fin 4 (by decide) (s.pN (Pid.axStpStepPort a.val)))
  | _ => false

/-- Causes of class 0x20, of 0x1021 and of 0x9004 on a link (R106, R119, R502). -/
def State.causeLink (s : State) (code : Nat) (l : Fin 32) : Bool :=
  let x := s.links[l]
  let flag (i : Nat) : Bool := x.stat.any fun r => bit r.flags i
  match code with
  | 0x1021 => decide (2 ≤ x.dtUnanswered)
  | 0x2001 => x.state != .up && s.pN (Pid.lnkEnable l.val) = 1
  | 0x2002 => s.inSecond 16 x.crcAt
  | 0x2003 => (List.range 4).any (s.slotLacks l) || x.slotCfg.toList.any (·.refused)
  | 0x2004 => decide (8 ≤ x.discards) || (x.state == .up && x.stat.any fun r => !r.timeLock)
  | 0x2005 => decide (100 ≤ x.dropRun)
  | 0x2006 => s.inSecond 10 x.lateAt
  | 0x2007 => x.state == .up && (x.stat.any fun r => r.valid && !r.hb r.obeyed) &&
      ((linkAxes l).any fun a => s.axes[a].state == .run) && (!s.ib || !s.linkSto 0 l)
  | 0x2008 => x.state == .up && (flag 6 || flag 3)
  | 0x2009 => s.drives && s.statCounts l x.statTick && x.stat.any s.showsLost
  | 0x200A => x.beaconLost
  | 0x9004 => decide (x.eye < 25)
  | _ => false

/-- Causes of classes 0x30 to 0x60 (R173, R291, R308, R317, R328, R383). -/
def State.causeNet (s : State) (code inst : Nat) : Bool :=
  let ports := s.net.ports.toList
  match code with
  | 0x3001 => ports.zipIdx.any fun x => !x.1.link && s.aonN (Pid.netPEnable x.2) = 1
  | 0x3002 => s.net.holdFrom.isSome
  | 0x3003 => s.net.divergeFrom.any fun t => decide (t + secs 10 ≤ s.nt)
  | 0x3004 => ports.any fun p => s.inSecond 10 p.authAt
  | 0x3005 => s.inSecond 10 s.net.tsqAt
  | 0x3006 => s.net.copies.any fun c => c.oneNet s.frame.fc
  | 0x3008 => ports.any (·.configErr)
  | 0x3009 => ports.any fun p => s.inSecond 100 p.dropAt
  | 0x4005 => s.sensorInvalid
  | 0x4006 => (s.zoneSt inst).driverRaised
  | 0x4060 => s.leBad (fin 4 (by decide) inst)
  | 0x6001 => s.fio.uvWarn
  | 0x6002 => s.fio.uvOff
  | 0x6003 => s.fio.common
  | 0x6004 => s.fio.cfLost
  | _ => false

/-- Causes of classes 0x80, 0x90 and 0xB0 (R395, R398, R401, R495, R500, R503, R507, R509). -/
def State.causeOther (s : State) (code inst : Nat) : Bool :=
  let k := s.twin
  match code with
  | 0x8006 => s.sec.jtagOpen
  | 0x9001 => s.age.items.any fun x => x.warnTtl || x.warnRest
  | 0x9002 => s.pN Pid.ageAvsEnable = 1 && decide (s.age.slack < (s.pN Pid.ageAvsSlackTgt : Nat)) &&
      decide (s.age.vdd = s.pN Pid.ageAvsVmax)
  | 0x9003 => s.pN Pid.ageDerate = 1 && s.age.axes.toList.any (·.below)
  | 0x9005 => s.age.isolated.getLsbD (inst % 8)
  | 0x9006 => s.age.xtalWarn
  | 0xB002 => k.state == .active && decide (8 ≤ k.retMiss)
  | 0xB004 => k.state == .standby && decide (4 ≤ k.splitLease)
  | 0xB005 => k.split
  | 0xB006 => k.state == .syncing && !k.pairOk
  | 0xB008 => k.state == .standby && decide (4 ≤ k.trkDiff)
  | 0xB009 => k.state == .syncing && k.startFrom.any fun t => decide (t + ms (s.pN Pid.twinStartWait) ≤ s.nt)
  | _ => false

/-- The cause of a fault is active (R445): the condition of its owning rule holds, or R129, R187 or R317 holds it. -/
def State.causeOn (s : State) (code inst : Nat) : Bool :=
  match code / 256 with
  | 0x01 | 0x02 => s.causeDevice code inst
  | 0x10 => if code = 0x1021 then s.causeLink code (linkNo inst) else s.causeAxis code (axisNo inst)
  | 0x20 => s.causeLink code (linkNo inst)
  | 0x21 =>
    let p : Fin 8 := fin 8 (by decide) inst
    if code = 0x2101 then s.pinHeld p
    else if code = 0x2102 then s.stageHeld (axisNo inst)
    else s.inSecond 100 s.pins[p].ignoredAt
  | 0x30 | 0x40 | 0x50 | 0x60 => s.causeNet code inst
  | 0x70 => true
  | _ => if code = 0x9004 then s.causeLink code (linkNo inst) else s.causeOther code inst

/-- A CLEAR_REFUSED entry for each refused fault (R444, R445). -/
def State.refuseClear (s : State) (l : List InForce) : State :=
  s.each l fun t x => t.modFlt fun f =>
    (f.write { seq := 0, nt := t.nt, fc := t.fc, code := x.code, inst := x.inst, applied := x.level, dflt := x.dflt,
               override := false, first := false, kind := .refused }).1

/-- A code and an INSTANCE match those of a clear, wildcards included (R445). -/
def clearHit (code inst c i : Nat) : Bool := (code == 0xFFFF || c == code) && (inst == 0xFF || i == inst)

/-- A latch after a clear (R443): one marked PRE_RESET that matches empties. -/
def Latch.afterClear (l : Latch) (code inst : Nat) : Latch :=
  if l.preReset && clearHit code inst l.code l.inst then {} else l

/-- The latches of the axes and classes after a clear (R443). -/
def State.clearLatches (s : State) (code inst : Nat) : State :=
  let s := s.each allAxes fun t a => t.modAxis a fun x =>
    { x with rea := { x.rea with first := x.rea.first.afterClear code inst } }
  s.modFlt fun f => { f with classLatch := Vector.ofFn fun i => (f.classLatch[i]).afterClear code inst }

/-- The faults in force that a clear matches and refuses: their cause is active (R445). -/
def State.clearOn (s : State) (code inst : Nat) : List InForce :=
  s.flt.inForce.filter fun x => clearHit code inst x.code x.inst && !x.clearing && x.code / 256 != 0x70 &&
    s.causeOn x.code x.inst

/-- A clear (R445, R446): the matching faults whose cause has gone leave force at the next tick, unless CODE and
INSTANCE are exact and the cause is active; `copied` where it came through the image. -/
def State.clearFaults (s : State) (code inst : Nat) (copied : Bool) : State :=
  let on := s.clearOn code inst
  if decide (code ≠ 0xFFFF ∧ inst ≠ 0xFF) && !on.isEmpty then s.refuseClear on
  else
    let going (x : InForce) : Bool :=
      clearHit code inst x.code x.inst && x.code / 256 != 0x70 && !s.causeOn x.code x.inst
    let u := s.modFlt fun f =>
      { f with inForce := f.inForce.map fun x => if going x then { x with clearing := true, copied := copied } else x }
    (u.refuseClear on).clearLatches code inst

/-- FLOG.CLEAR (R445): faults whose cause has gone leave force at the next tick; the image carries it (R446). -/
def execFlogClear (m : Fin 16) (tm : Nat) (s : State) : Host.Outcome State Fault Refusal :=
  .next (s.serveCall m tm 0xF000F001 4 fun t p =>
    let code := fld p 0 2
    let inst := fld p 2 1
    let exact := decide (code ≠ 0xFFFF ∧ inst ≠ 0xFF)
    let all := t.flt.inForce.filter fun x => clearHit code inst x.code x.inst && !x.clearing
    let rest := all.filter fun x => x.code / 256 != 0x70
    let on := t.clearOn code inst
    let u := (t.clearFaults code inst false).varItem 10 [code, inst]
    if fld p 3 1 ≠ 0 then .fail stRange
    else if exact && all.any (fun x => x.code / 256 == 0x70) then .fail stState
    else if exact && !on.isEmpty then .failed u stCause
    else .done u (leBytes 2 (rest.length - on.length) ++ leBytes 2 on.length))

/-- An L2 or L3 stop runs on an axis: of a reaction in force, or of one whose faults have been cleared (R438, R442). -/
def Axis.stopRuns (x : Axis) : Bool :=
  !x.rea.stopDone && ((x.state == .fault && (x.rea.applied == 2 || x.rea.applied == 3)) || (x.state == .stop && x.rea.cleared))

/-- STOP_TIMEOUT (R438): such a stop has not ended within `AX.REA.STOP_TMAX`. -/
def execStopTimeout (a : Fin 128) (tm : Nat) (s : State) : Host.Outcome State Fault Refusal :=
  let s := s.adv tm
  let x := s.axes[a]
  .next (if x.stopRuns && decide (x.rea.stopFrom + ms (s.pN (Pid.axReaStopTmax a.val)) ≤ s.nt) then s.raiseAx 0x1090 a
    else s)

/-- L3_STOP_END (R435): the speed has stayed at or below `AX.REA.STOP_V` for 10 ms. -/
def execL3StopEnd (a : Fin 128) (tm : Nat) (s : State) : Host.Outcome State Fault Refusal :=
  let s := s.adv tm
  match s.axes[a].rea.quietFrom with
  | some t => .next (if t + ms 10 ≤ s.nt then s.modAxis a fun x => { x with rea := { x.rea with stopDone := true } } else s)
  | none => .next s

end Sys2Proof.Machine
end

