-- ==== Sys2Proof/Machine/Compare.lean ====
section
/-! DEFINITION. The compare and latch units of an axis (R299 to R302). -/

namespace Sys2Proof.Machine

/-- The unit numbers. -/
def bothUnits : List (Fin 2) := [0, 1]

/-- An update of a compare unit. -/
def State.modCmp (s : State) (a : Fin 128) (u : Fin 2) (f : CmpUnit → CmpUnit) : State :=
  s.modAxis a fun x => { x with cmp := x.cmp.set u (f x.cmp[u]) }

/-- An update of a latch unit. -/
def State.modLat (s : State) (a : Fin 128) (n : Fin 2) (f : LatchUnit → LatchUnit) : State :=
  s.modAxis a fun x => { x with lat := x.lat.set n (f x.lat[n]) }

/-- The refined position of an axis at its latch instant (R277). -/
def State.refinedPos (s : State) (a : Fin 128) : Int :=
  let f := s.axes[a].fbk
  let src := s.pN (Pid.axFbkSource a.val)
  if src = 1 ∨ src = 2 ∨ src = 6 then refine f.pos f.vel (f.posAt - f.te) else f.pos

/-- The position predicted for an instant. -/
def State.predicted (s : State) (a : Fin 128) (t : Nat) : Int :=
  let f := s.axes[a].fbk
  s.posWrap a (f.fine + q32 (f.vel * (((t : Int) - (f.posAt : Int) : Int) : Rat) / 1000000000))

/-- A distance in the direction of motion; on a modulo axis the way round to the point. -/
def State.ahead (s : State) (a : Fin 128) (sg : Int) (p q : Int) : Int :=
  if s.pN (Pid.axFbkModulo a.val) = 1 then ((q - p) * sg) % s.modRange a else (q - p) * sg

/-- A step in the direction of motion. -/
def State.stepAhead (s : State) (a : Fin 128) (sg step : Int) : Int :=
  if s.pN (Pid.axFbkModulo a.val) = 1 then
    let r := (step * sg) % s.modRange a
    if r = 0 then s.modRange a else r
  else step * sg

/-- The action of a fired unit at its placed instant (R299, R295): false where its output cannot be placed. -/
def State.cmpAct (s : State) (a : Fin 128) (u : Fin 2) (inst4 : Nat) (late : Bool) : State × Bool :=
  let act := s.pN (Pid.axCmpUAct a.val u.val)
  let lv := bit act 4
  let out := bits act 11 8
  let tm := s.act + 4 * inst4
  let w := us (s.pN (Pid.axCmpUWidth a.val u.val))
  match act % 16 with
  | 1 => if s.stageOut a then (s.placeStage a lv false inst4 false w, true) else (s, false)
  | 2 => if s.fio.mask.getLsbD out then (s, false) else (s.queueField out lv tm true false w, true)
  | _ => (s.event 0x1E01 a.val (u.val + b2n late * 2 + tm % 2 ^ 32 * 2 ^ 32), true)

/-- A unit fires (R299, R300): `rem` is the distance from its target to the end of the window in the direction of
motion. -/
def State.cmpFire (s : State) (a : Fin 128) (u : Fin 2) (inst4 : Nat) (late : Bool) (sg rem : Int) : State :=
  let (s, ok) := s.cmpAct a u inst4 late
  let single := s.pN (Pid.axCmpUMode a.val u.val) = 1
  let step := s.pI 64 (Pid.axCmpUStep a.val u.val)
  let st := s.stepAhead a sg step
  let n := if single || st ≤ 0 then 0 else ((rem - 1) / st).toNat
  s.modCmp a u fun c =>
    let c := { c with lateNow := false, late := c.late || late, skipped := c.skipped || !ok, done := c.done || ok,
                      fired := if ok then s.act + 4 * inst4 else c.fired }
    if single then { c with armed := false }
    else { c with target := s.posWrap a (c.target + step * (n + 1)),
                  skip := if c.skip + n < 2 ^ 32 then c.skip + n else Config.counterTop (c.skip + n) }

/-- A compare unit in a frame, after the engine (R299). -/
def State.cmpRun (s : State) (a : Fin 128) (u : Fin 2) : State :=
  let c := s.axes[a].cmp[u]
  let v := s.axes[a].fbk.vel
  let dir := s.pN (Pid.axCmpUDir a.val u.val)
  if !c.armed || s.pN (Pid.axCmpUMode a.val u.val) = 0 then s
  else
    let sg : Int := if v < 0 then -1 else 1
    let x1 := s.predicted a (s.act + s.tf)
    let s := if v = 0 then s else s.modCmp a u fun c => { c with seen := x1 }
    if c.lateNow then s.cmpFire a u 0 true sg (s.dispOf a x1 c.target * sg)
    else if v = 0 || (dir = 1 && v < 0) || (dir = 2 && 0 < v) then s
    else
      let d := s.dispOf a x1 c.seen * sg
      let goal := s.ahead a sg c.seen c.target
      if 0 ≤ goal ∧ goal < d then
        let rem := d - goal
        let back : Rat := (rem : Rat) / 4294967296 / rabs v * 1000000000
        let ofs : Rat := (s.tf : Rat) - back
        if ofs < 0 then s.cmpFire a u 0 true sg rem
        else s.cmpFire a u (roundAway (ofs / 4)).toNat false sg rem
      else s

/-! Arming. -/

/-- A unit gets a target, at arming or by a change (R300): what happens when it lies behind. -/
def State.cmpTarget (s : State) (a : Fin 128) (u : Fin 2) (target : Int) : State :=
  let f := s.axes[a].fbk
  let p := s.predicted a s.act
  let behind := f.speedValid && f.vel != 0 && decide ((s.dispOf a target p : Rat) * f.vel < 0)
  let late := s.pN (Pid.axCmpULate a.val u.val)
  s.modCmp a u fun c =>
    let c := { c with target := target, seen := p, lateNow := false }
    if !behind then c
    else if late = 0 then { c with lateNow := true }
    else if late = 1 then { c with skipped := true, armed := false }
    else c

/-- A unit is armed with a target. -/
def State.cmpArm (s : State) (a : Fin 128) (u : Fin 2) (target : Int) : State :=
  if s.pN (Pid.axCmpUMode a.val u.val) = 0 then s
  else (s.modCmp a u fun c => { c with armed := true, done := false, late := false, skipped := false }).cmpTarget a u target

/-- The compare unit at a tick (R300): calls, the process image, and changed targets; `changed` holds the IDs
committed at this tick. -/
def State.cmpTick (s : State) (changed : List Nat) (a : Fin 128) (u : Fin 2) : State :=
  let c := s.axes[a].cmp[u]
  let i := s.axes[a].inp
  let image := s.inMask a.val
  let pos := s.pI 64 (Pid.axCmpUPos a.val u.val)
  let piPos := i.cmpPos[u]
  let arm := i.cmpArm[u]
  let s := s.modCmp a u fun c => { c with armReq := none, piArm := image && arm, piPos := piPos }
  if s.pN (Pid.axCmpUMode a.val u.val) = 0 then s.modCmp a u fun c => { c with armed := false, lateNow := false }
  else if image && arm && !c.piArm then s.cmpArm a u piPos
  else match c.armReq with
    | some true => s.cmpArm a u pos
    | some false => s.modCmp a u fun c => { c with armed := false, lateNow := false }
    | none =>
      if c.piArm && !(image && arm) then s.modCmp a u fun c => { c with armed := false, lateNow := false }
      else if c.armed && !c.done && image && arm && piPos != c.piPos then s.cmpTarget a u piPos
      else if c.armed && !c.done && changed.contains (Pid.axCmpUPos a.val u.val) then s.cmpTarget a u pos
      else s

/-- A latch unit at a tick: arming and disarming (R301, R302). -/
def LatchUnit.tick (q : LatchUnit) : LatchUnit :=
  match q.armReq with
  | some true => { q with armReq := none, armed := true, new := false, est := false }
  | some false => { q with armReq := none, armed := false }
  | none => q

/-- The compare and latch units of every axis at a tick. -/
def State.cmpTicks (s : State) (changed : List Nat) : State :=
  let s : State := { s with axes := s.axes.map fun x => { x with lat := x.lat.map LatchUnit.tick } }
  s.each allAxes fun t a => bothUnits.foldl (fun t u => t.cmpTick changed a u) t

/-- AX.CMP.ARM and AX.CMP.DISARM put their request for the next tick. -/
def State.armReq (s : State) (a : Fin 128) (units : Nat) (on : Bool) : State :=
  let set_ (n : Nat) (r : Option Bool) : Option Bool := if bit units n then some on else r
  s.modAxis a fun x =>
    { x with cmp := Vector.ofFn fun u => { x.cmp[u] with armReq := set_ u.val (x.cmp[u]).armReq }
             lat := Vector.ofFn fun n => { x.lat[n] with armReq := set_ (2 + n.val) (x.lat[n]).armReq } }

/-- AX.CMP.ARM (R300, R302). -/
def execAxCmpArm (m : Fin 16) (tm : Nat) (s : State) : Host.Outcome State Fault Refusal :=
  .next (s.serveAxis m tm 0x1E 0xF001 1 fun a t p =>
    if 16 ≤ fld p 0 1 then .fail stRange else .done (t.armReq a (fld p 0 1) true))

/-- AX.CMP.DISARM (R302). -/
def execAxCmpDisarm (m : Fin 16) (tm : Nat) (s : State) : Host.Outcome State Fault Refusal :=
  .next (s.serveAxis m tm 0x1E 0xF002 1 fun a t p =>
    if 16 ≤ fld p 0 1 then .fail stRange else .done (t.armReq a (fld p 0 1) false))

/-! Latches. -/

/-- The interpolated position at a stamp (R301). -/
def State.latchPos (s : State) (a : Fin 128) (stamp : Nat) : Int :=
  let f := s.axes[a].fbk
  let d : Rat := (s.dispOf a f.fine f.finePrev : Rat)
  let q := d * (((stamp : Int) - (f.posAtPrev : Int) : Int) : Rat) / (((f.posAt : Int) - (f.posAtPrev : Int) : Int) : Rat)
  s.posWrap a (f.finePrev + roundEven q)

/-- An edge before the latest latch instant latches (R301): single mode keeps the first after arming. -/
def State.latchOne (s : State) (a : Fin 128) (n : Fin 2) (stamp : Nat) : State :=
  let q := s.axes[a].lat[n]
  let single := s.pN (Pid.axCmpLMode a.val n.val) = 0
  if single && (!q.armed || q.new) then s
  else
    (s.modLat a n fun q =>
      { q with new := true, est := s.axes[a].fbk.estimated, pos := s.latchPos a stamp, stamp := stamp
               armed := q.armed && !single }).event 0x1E02 a.val (n.val + stamp % 2 ^ 32 * 2 ^ 32)

/-- Edges that waited for their latch instant. -/
def State.latchWaits (s : State) (a : Fin 128) (n : Fin 2) : State :=
  let top := s.axes[a].fbk.posAt
  let due := (s.axes[a].lat[n]).waits.filter fun t => decide (t < top)
  let s := s.modLat a n fun q => { q with waits := q.waits.filter fun t => decide (top ≤ t) }
  s.each due fun t e => t.latchOne a n e

/-- An edge at a latch unit's source (R301): counted, and latched with the positions around its stamp. -/
def execLatchEdge (a : Fin 128) (n : Fin 2) (rising : Bool) (stamp : Nat) (s : State) :
    Host.Outcome State Fault Refusal :=
  let kind := s.pN (Pid.axCmpLEdge a.val n.val)
  if s.pN (Pid.axCmpLSrc a.val n.val) = 0 || (kind = 0 && !rising) || (kind = 1 && rising) ||
      !s.axOn (clusterOf a) then .next s
  else
    let s := s.modLat a n fun q => { q with count := count32 q.count, waits := q.waits ++ [stamp] }
    .next (s.latchWaits a n)

/-- An axis has a valid position sample; an axis without a source has its own (R178, R261, R545). -/
def State.axisSample (s : State) (a : Fin 128) : Bool :=
  let f := s.axes[a].fbk
  s.axOn (clusterOf a) && s.motType a.val != 0 &&
  (if s.pN (Pid.axFbkSource a.val) = 0 then s.motType a.val = 2 || f.edgeOk else f.valid)

/-- What a zone that the axis drives takes of its frame (R277, R278). -/
def State.axisMove (s : State) (a : Fin 128) : AxMove :=
  let f := s.axes[a].fbk
  { tm := f.posAt, d := s.dispOf a f.fine f.finePrev, v := f.vel, est := f.estimated, ok := s.axisSample a }

/-- The compare and latch units of an axis in a frame, after the engine (R299, R301). -/
def State.unitsRun (s : State) (a : Fin 128) : State :=
  let s := s.modAxis a fun x =>
    { x with fbk := { x.fbk with fine := s.refinedPos a, finePrev := x.fbk.fine }
             lat := Vector.ofFn fun n =>
               if s.pN (Pid.axCmpLMode a.val n.val) = 1 then { x.lat[n] with new := false } else x.lat[n] }
  let s := s.modAxis a fun x => { x with fbk := { x.fbk with move := s.axisMove a, movePrev := x.fbk.move } }
  let s := bothUnits.foldl (fun t n => t.latchWaits a n) s
  bothUnits.foldl (fun t u => t.cmpRun a u) s

end Sys2Proof.Machine
end

