-- ==== Sys2Proof/Machine/TimeShift.lean ====
section
/-! DEFINITION. The instants that a step of the time base moves (R366): those from which a running interval is counted.
A step changes the count of NT and no interval of device time, so such an instant moves with NT; what a log, a latch or
a capture has recorded stays as it was recorded (log 170). -/

namespace Sys2Proof.Machine

/-- An instant after a step of NT by `d` ns. -/
def moved (d : Int) (t : Nat) : Nat := ((t : Int) + d).toNat

/-- An instant that may be absent. -/
def moved? (d : Int) (t : Option Nat) : Option Nat := t.map (moved d)

/-- A network port's instants (R349 to R358, R368). -/
def NetPort.shift (d : Int) (p : NetPort) : NetPort :=
  { p with linkAt := moved d p.linkAt, dropAt := p.dropAt.map (moved d), authAt := p.authAt.map (moved d)
           busyTil := moved d p.busyTil, queue := p.queue.map fun f => { f with ready := moved d f.ready }
           tsq := p.tsq.map fun e => { e with tm := moved d e.tm } }

/-- A time-base unit's instants (R362 to R365). -/
def UnitSt.shift (d : Int) (u : UnitSt) : UnitSt :=
  { u with lastSync := moved d u.lastSync, lockedFrom := moved? d u.lockedFrom, masterAt := moved d u.masterAt
           wait := u.wait.map fun w => { w with tRx := w.tRx + (d : Rat) } }

/-- The networks' instants, with the frames of copies (R369), `k` frames apart. -/
def NetSt.shift (d : Int) (k : Nat) (n : NetSt) : NetSt :=
  let fc (x : Nat) : Nat := (x + k) % 2 ^ 32
  { n with ports := n.ports.map (·.shift d), units := n.units.map (·.shift d)
           rx := n.rx.map fun f => { f with tm := moved d f.tm, stamp := f.stamp + (d : Rat) }
           divergeFrom := moved? d n.divergeFrom, tsqAt := n.tsqAt.map (moved d), holdFrom := moved? d n.holdFrom
           copies := n.copies.map fun c =>
             { c with since := fc c.since, lastA := c.lastA.map fc, lastB := c.lastB.map fc } }

/-- A link's instants (R75, R84, R90, R99, R105, R119, R502). -/
def LinkSt.shift (d : Int) (l : LinkSt) : LinkSt :=
  { l with t1 := moved? d l.t1, slotCfg := l.slotCfg.map fun c => { c with sentTick := moved d c.sentTick }
           dtMsg := l.dtMsg.map fun m => { m with sentTick := moved d m.sentTick }
           dtLastTick := moved d l.dtLastTick, statTick := moved d l.statTick, firstTick := moved? d l.firstTick
           crcAt := l.crcAt.map (moved d), lateAt := l.lateAt.map (moved d), upTick := moved d l.upTick
           beaconAt := moved d l.beaconAt, txFrom := moved d l.txFrom, sentAct := moved d l.sentAct
           killAt := moved d l.killAt, syncTick := moved? d l.syncTick, dreqTick := moved? d l.dreqTick
           eyeAt := moved? d l.eyeAt, eyeLow := moved? d l.eyeLow }

/-- A trip pin's instants (R126, R131). -/
def PinSt.shift (d : Int) (p : PinSt) : PinSt :=
  { p with activeFrom := moved d p.activeFrom, inactiveFrom := moved d p.inactiveFrom
           waiting := moved? d p.waiting, ignoredAt := p.ignoredAt.map (moved d) }

/-- The instants of a cluster's way into sleep and of deep sleep (R462, R464). -/
def DozePhase.shift (d : Int) : DozePhase → DozePhase
  | .dozeSent t => .dozeSent (moved d t)
  | .trafficOff t => .trafficOff (moved d t)
  | .awake => .awake
  | .requested => .requested
  | .asleep => .asleep

/-- The instant of a wake from deep sleep. -/
def DeepPhase.shift (d : Int) : DeepPhase → DeepPhase
  | .waking t c w => .waking (moved d t) c w
  | .awake => .awake
  | .requested n => .requested n
  | .asleep n w => .asleep n w

/-- The power state's instants (R450, R460 to R471). -/
def PwrSt.shift (d : Int) (p : PwrSt) : PwrSt :=
  { p with t0 := moved d p.t0, resetAt := moved d p.resetAt, callReset := moved? d p.callReset
           switching := p.switching.map fun x => (x.1, moved d x.2)
           doze := p.doze.map (·.shift d), offFrom := p.offFrom.map (moved? d)
           deep := p.deep.shift d, bypassFrom := moved? d p.bypassFrom, lastCmd := moved d p.lastCmd
           rules := p.rules.map fun r => { r with first := moved d r.first, timerFrom := moved d r.timerFrom }
           lastSample := moved d p.lastSample }

/-- A safety channel's instants (R403, R411 to R423). -/
def ChanSt.shift (d : Int) (c : ChanSt) : ChanSt :=
  { c with groups := c.groups.map fun g => { g with ends := moved d g.ends, slsFrom := moved? d g.slsFrom }
           pairs := c.pairs.map fun p =>
             { p with badFrom := moved? d p.badFrom, goodFrom := moved? d p.goodFrom, sameFrom := moved? d p.sameFrom
                      demandFrom := moved d p.demandFrom }
           telAt := moved d c.telAt, rxAt := moved d c.rxAt, diffFrom := moved? d c.diffFrom
           degFrom := moved d c.degFrom
           axes := c.axes.map fun x => { x with wordAt := moved d x.wordAt } }

/-- The safety function's instants (R420 to R430). -/
def SafSt.shift (d : Int) (s : SafSt) : SafSt :=
  { s with chan := s.chan.map (·.shift d), lockedUntil := moved? d s.lockedUntil
           login := s.login.map fun l => (l.1, moved d l.2.1, l.2.2)
           copies := s.copies.map fun c => { c with tm := moved d c.tm }
           missFrom := s.missFrom.map (moved? d)
           so := s.so.map fun o => { o with nextP := moved d o.nextP, nextL := moved d o.nextL }
           clearFrom := moved? d s.clearFrom, exitAt := moved? d s.exitAt }

/-- The instants of field inputs and outputs (R309 to R324). -/
def FioSt.shift (d : Int) (f : FioSt) : FioSt :=
  { f with ins := f.ins.map fun i => { i with since := moved d i.since, edgeAt := moved d i.edgeAt }
           lowFrom := moved? d f.lowFrom, highFrom := moved? d f.highFrom, lastUp := moved d f.lastUp
           lastDown := moved d f.lastDown, goodFrom := moved? d f.goodFrom
           changedAt := f.changedAt.map (moved d), mismatchFrom := f.mismatchFrom.map (moved? d)
           changes := f.changes.map fun c => { c with tm := moved d c.tm }
           restoreAt := f.restoreAt.map fun r => (moved d r.1, r.2)
           diag := f.diag.map fun g => { g with since := moved d g.since }
           diagBack := f.diagBack.map fun g => (moved d g.1, g.2) }

/-- The instants of the tracking unit (R289, R295, R304, R305). -/
def TrkSt.shift (d : Int) (t : TrkSt) : TrkSt :=
  { t with zones := t.zones.map fun z => { z with t0 := moved d z.t0, unexpAt := moved? d z.unexpAt }
           out := t.out.map fun h => { h with sentAt := moved d h.sentAt }
           inbox := t.inbox.map fun x => (x.1, moved d x.2.1, x.2.2)
           recent := t.recent.map fun r => (r.1, r.2.1, moved d r.2.2)
           returns := t.returns.map fun r => { r with tm := moved d r.tm } }

/-- The instants of twin operation (R396 to R400). -/
def TwinSt.shift (d : Int) (t : TwinSt) : TwinSt :=
  { t with seen := t.seen.map fun x => (x.1, moved d x.2), startFrom := moved? d t.startFrom
           halfAt := t.halfAt.map (moved d), comTick := moved? d t.comTick, snapTick := moved? d t.snapTick }

/-- The instants of sessions and keys (R489, R491, R492). -/
def SecSt.shift (d : Int) (s : SecSt) : SecSt :=
  { s with sessions := s.sessions.map fun x => { x with lastCmd := moved d x.lastCmd, evtFrom := moved d x.evtFrom }
           failAt := s.failAt.map (moved d), lockedUntil := moved? d s.lockedUntil
           keyFaultAt := s.keyFaultAt.map (moved? d) }

/-- The instants of ageing and tests (R498 to R514). -/
def AgeSt.shift (d : Int) (g : AgeSt) : AgeSt :=
  { g with axes := g.axes.map fun x => { x with fAt := moved d x.fAt, kAt := moved d x.kAt
                                                fricFrom := x.fricFrom.map fun f => (moved d f.1, f.2) }
           items := g.items.map fun m => { m with replannedAt := moved? d m.replannedAt }
           lastDaily := moved d g.lastDaily, flushAt := moved d g.flushAt, vddAt := moved d g.vddAt
           droopAt := g.droopAt.map (moved d), tjHot := moved? d g.tjHot, tjVery := moved? d g.tjVery
           sliceTick := moved? d g.sliceTick
           clt := g.clt.map fun o => o.map fun c => { c with since := moved d c.since }
           loop := g.loop.map fun l => { l with since := moved d l.since }
           wdogAt := g.wdogAt.map (moved d), serviceFrom := moved d g.serviceFrom
           restartReq := moved? d g.restartReq }

/-- An axis's instants: those of reactions (R435, R438), of a standing position (R183) and of its records waiting. -/
def Axis.shift (d : Int) (x : Axis) : Axis :=
  { x with inbox := x.inbox.map fun r => { r with stamp := moved d r.stamp, arr := moved d r.arr }
           rea := { x.rea with tm := moved d x.rea.tm, quietFrom := moved? d x.rea.quietFrom
                               stopFrom := if x.rea.stopFrom = 0 then 0 else moved d x.rea.stopFrom }
           fbk := { x.fbk with frozenFrom := x.fbk.frozenFrom.map fun f => (moved d f.1, f.2) } }

/-- The instants of mailboxes and host (R43, R49, R65). -/
def HostSt.shift (d : Int) (h : HostSt) : HostSt :=
  { h with wdogFrom := moved d h.wdogFrom, fwAliveAt := moved d h.fwAliveAt }

/-- Every running interval keeps its length over a step of NT by `d` ns, `k` frames (R366). -/
def State.shiftInstants (s : State) (d : Int) (k : Nat) : State :=
  { s with host := s.host.shift d, mbx := s.mbx.map fun b => { b with bellAt := moved d b.bellAt }
           pi := { s.pi with handedAt := moved d s.pi.handedAt }
           par := { s.par with ready := s.par.ready.map fun g => { g with readyAt := moved d g.readyAt } }
           flt := { s.flt with inForce := s.flt.inForce.map fun f => { f with tm := moved d f.tm } }
           frame := { s.frame with unalignedFrom := moved? d s.frame.unalignedFrom }
           net := s.net.shift d k, links := s.links.map (·.shift d), pins := s.pins.map (·.shift d)
           pwr := s.pwr.shift d, saf := s.saf.shift d, fio := s.fio.shift d, trk := s.trk.shift d
           twin := s.twin.shift d, sec := s.sec.shift d, age := s.age.shift d, axes := s.axes.map (·.shift d)
           cap := { s.cap with armTick := moved d s.cap.armTick, lastAt := moved d s.cap.lastAt } }

end Sys2Proof.Machine
end

