-- ==== Sys2Proof/Machine/NetworkTime.lean ====
section
/-! DEFINITION. Network time (R357 to R366): Syncs and Follow_Ups, the servo, unit states, holdover, the choice of the
driver, steps, link delay, Announces, the device's own Syncs, and the time faults. -/

namespace Sys2Proof.Machine

/-- An update of a time-base unit. -/
def State.modUnit (s : State) (n : Fin 2) (f : UnitSt → UnitSt) : State :=
  s.modNet fun k => { k with units := k.units.set n (f k.units[n]) }

/-- What the servo computes at an offset (R363): the integrator and rate. -/
def servo (kp ki ts o integ : Rat) : Rat × Int :=
  let y := -(kp * o + integ + ki * o) / ts
  let integ := if rabs y ≤ 500000 then integ + ki * o else integ
  (integ, roundEven (clampRat (-500000) 500000 y / 1000000000 * 4294967296))

/-- A step of the time base is permitted (R22, R366). -/
def State.stepAllowed (s : State) : Bool := s.allOff && s.twin.state == .solo

/-- The time base moves at once by a whole number of ns (R366), with event 0x3084; the frame then ends at the first
instant at which the new NT is a whole multiple of Tf, and running intervals keep their length (log 170). -/
def State.timeStep (s : State) (d : Int) : State :=
  let nt := moved d s.nt
  let tick := (nt - 1) / s.tf * s.tf
  let k := (((tick : Int) - (s.frame.tick : Int)) / (s.tf : Int) % 2 ^ 32).toNat
  let s : State := { s.shiftInstants d k with nt := nt }
  (s.modFrame fun f => { f with tick := tick }).event 0x3084 0 (ofSigned 64 d)

/-- A message interval in s from logMessageInterval. -/
def logSecs (log : Int) : Rat := if 0 ≤ log then (2 ^ log.toNat : Nat) else 1 / ((2 ^ (-log).toNat : Nat) : Rat)

/-- logMessageInterval of a message. -/
def ptpLog (b : List Byte) : Int := toSigned 8 (fld b 33 1)

/-- AB_DIFF above 1 µs while both units are LOCKED, and since when (R362). -/
def State.watchDiverge (s : State) : State :=
  let a := s.net.units[0]
  let b := s.net.units[1]
  let apart := a.state == .locked && b.state == .locked && decide (1000 < rabs (a.offset - b.offset))
  s.modNet fun n => { n with divergeFrom := if apart then some (n.divergeFrom.getD s.nt) else none }

/-- A unit's state and counts after an accepted Sync with its offset (R364). -/
def UnitSt.onOffset (u : UnitSt) (now : Nat) (o : Rat) (log : Int) : UnitSt :=
  let good := decide (rabs o ≤ 1000)
  let u := { u with offset := o, lastSync := now, wait := none, interval := (roundEven (logSecs log * 1000000000)).toNat }
  match u.state with
  | .listening | .holdover => { u with state := .locking, goodRun := 0, badRun := 0, lockedFrom := none }
  | .locking =>
    if good && 4 ≤ u.goodRun + 1 then { u with state := .locked, goodRun := 0, badRun := 0, lockedFrom := some now }
    else { u with goodRun := if good then u.goodRun + 1 else 0 }
  | .locked =>
    if !good && 4 ≤ u.badRun + 1 then { u with state := .locking, goodRun := 0, badRun := 0, lockedFrom := none }
    else { u with badRun := if good then 0 else u.badRun + 1 }
  | .master => u

/-- The driving unit acts on its offset (R363): a step, or the servo. -/
def State.servoStep (s : State) (o : Rat) (log : Int) : State :=
  let thr := s.pN Pid.ptpStepThr
  if thr ≠ 0 && decide ((thr : Rat) < rabs o) && s.stepAllowed then s.timeStep (roundEven (-o))
  else
    let (i, r) := servo (s.pF Pid.ptpKp) (s.pF Pid.ptpKi) (logSecs log) o s.net.integ
    s.modNet fun n => { n with integ := i, rate := r, rates := pushN 16 r n.rates }

/-- A Sync accepted from the grandmaster: t_rx, and origin with corrections (R362 to R364). -/
def State.syncAccepted (s : State) (n : Fin 2) (port : Fin 4) (rx origin : Rat) (log : Int) : State :=
  let o := rx - (origin + s.portDelay port)
  let s := s.modUnit n fun u => u.onOffset s.nt o log
  let drives := s.net.driver == n.val
  let s := if drives then s.servoStep o log else s
  let s := if drives && (s.net.units[n]).state == .locked then
      s.modNet fun k => { k with holdExpired := false, holdFrom := none } else s
  s.watchDiverge.alignWatch

/-- A PTP message at HOST. -/
def isPtp (typ : Nat) (f : RxFrame) : Bool :=
  let h := ethHead f.bytes
  h.etype == etPtp && ptpType h.body == typ

/-- The unit uses event messages of this port (R360, R362): domain of the network, port in state slave. -/
def State.slaveOn (s : State) (port : Fin 4) (b : List Byte) : Bool :=
  let u := s.net.units[fin 2 (by decide) (netOf port.val)]
  u.state != .master && u.slave == some (port.val % 2) && fld b 4 1 = s.aonN Pid.ptpDomain

/-- A Sync at HOST (R361, R362): a two-step Sync waits for its Follow_Up. -/
def execPtpSync (tm : Nat) (s : State) : Host.Outcome State Fault Refusal :=
  let s := s.adv tm
  match s.takeRx (isPtp 0) with
  | none => .next s
  | some (f, s) =>
    let port : Fin 4 := fin 4 (by decide) f.port
    let n : Fin 2 := fin 2 (by decide) (netOf f.port)
    let b := (ethHead f.bytes).body
    if ptpTwoStep b then
      .next (s.modUnit n fun u =>
        { u with wait := some { port := f.port, seq := ptpSeq b, tRx := f.stamp, corr := ptpCorr b, log := ptpLog b } })
    else if s.slaveOn port b then
      .next (s.syncAccepted n port f.stamp ((ptpStamp b 34 : Rat) + ptpCorr b) (ptpLog b))
    else .next s

/-- A Follow_Up passed on (R358, R361): with the correction of its Sync; not where the stamp was not recorded. -/
def State.passFollow (s : State) (port : Fin 4) (w : SyncWait) (f : RxFrame) : State :=
  let k := bodyAt f.bytes
  let b := f.bytes.drop k
  if s.aonN Pid.ptpProfile = 2 then s
  else if s.aonN Pid.ptpStepMode = 1 then s.ethOut (otherPort port) (ethHead f.bytes).prio f.bytes .plain
  else match s.takeTsq (otherPort port) (ptpSeq b % 4096) with
    | (none, s) => s
    | (some tx, s) =>
      let d := (tx : Rat) - w.tRx + (if s.aonN Pid.ptpProfile = 0 then s.portDelay port else 0)
      s.ethOut (otherPort port) (ethHead f.bytes).prio (f.bytes.take k ++ ptpAddCorr b d) .plain

/-- A Follow_Up at HOST completes its Sync and is passed on corrected (R358, R361). -/
def execFollowUp (tm : Nat) (s : State) : Host.Outcome State Fault Refusal :=
  let s := (s.adv tm).drainPorts
  match s.takeRx (isPtp 8) with
  | none => .next s
  | some (f, s) =>
    let port : Fin 4 := fin 4 (by decide) f.port
    let n : Fin 2 := fin 2 (by decide) (netOf f.port)
    let b := (ethHead f.bytes).body
    match (s.net.units[n]).wait with
    | none => .next s
    | some w =>
      if w.port ≠ f.port ∨ w.seq ≠ ptpSeq b then .next s
      else
        let s := s.modUnit n fun u => { u with wait := none }
        let s := s.passFollow port w f
        .next (if s.slaveOn port b then
          s.syncAccepted n port w.tRx ((ptpStamp b 34 : Rat) + w.corr + ptpCorr b) w.log else s)

/-- The engine has measured the link delay of a port (R360): MAC stamps t1 and t4 of its request and the answer, and
the peer's t2 and t3. -/
def execPdelayMeasure (port : Fin 4) (t1 t2 t3 t4 tm : Nat) (s : State) : Host.Outcome State Fault Refusal :=
  let s := s.adv tm
  if s.portOk port.val then
    let a := s.txStamp port t1
    let d : Rat := (t4 : Rat) - (s.aonN (Pid.netPPhyRx port.val) : Rat) / 1000
    let delay : Rat := ((d - a) - ((t3 : Rat) - (t2 : Rat))) / 2
    .next (s.modNetPort port fun p => { p with pdelay := delay })
  else .next s

/-- The device becomes or ceases to be grandmaster of a network (R364, R365). -/
def State.setMaster (s : State) (n : Fin 2) (on : Bool) : State :=
  let was := (s.net.units[n]).state == .master
  let s := s.modUnit n fun u =>
    if on then { u with state := .master, offset := 0, slave := none, wait := none, masterAt := if was then u.masterAt else s.nt }
    else if was then { u with state := .listening, goodRun := 0, badRun := 0, lockedFrom := none } else u
  (if on && s.net.driver == n.val then s.modNet fun k => { k with rate := 0 } else s).alignWatch

/-- An Announce at HOST (R360): the firmware's best master clock algorithm sets the port states. -/
def execAnnounce (tm : Nat) (s : State) : Host.Outcome State Fault Refusal :=
  let s := s.adv tm
  match s.takeRx (isPtp 0xB) with
  | none => .next s
  | some (f, s) =>
    let n : Fin 2 := fin 2 (by decide) (netOf f.port)
    let b := (ethHead f.bytes).body
    if !s.fwRuns || fld b 4 1 ≠ s.pN Pid.ptpDomain then .next s
    else
      let can := s.pN Pid.ptpRole = 1
      let r := Config.bmca (s.clockId n.val) (s.pN Pid.ptpPriority1) can (f.port % 2) b
        ((s.net.units[n]).state == .master)
      if r = 0 ∧ can then .next (s.setMaster n true)
      else if r = 1 ∨ r = 2 then .next ((s.setMaster n false).modUnit n fun u => { u with slave := some (r - 1) })
      else .next s

/-- No accepted Sync for PTP.SYNC_LOSS intervals (R364, R365). -/
def execSyncLoss (net : Fin 2) (tm : Nat) (s : State) : Host.Outcome State Fault Refusal :=
  let s := s.adv tm
  let u := s.net.units[net]
  let lost := u.lastSync + s.pN Pid.ptpSyncLoss * u.interval ≤ s.nt
  if (u.state == .locking || u.state == .locked) && decide lost then
    let s := s.modUnit net fun u => { u with state := .holdover, lockedFrom := none, goodRun := 0, badRun := 0 }
    let s := s.watchDiverge.alignWatch
    if s.net.driver = net.val then
      let l := s.net.rates
      let mean : Int := if l.isEmpty then 0 else roundEven (((l.foldl (· + ·) 0 : Int) : Rat) / (l.length : Rat))
      .next ((s.modNet fun n => { n with holdFrom := some s.nt, rate := mean }).raise 0x3002 0 [])
    else .next s
  else .next s

/-- PTP.HOLDOVER_T has passed in HOLDOVER of the driving unit (R365). -/
def execHoldoverExpiry (tm : Nat) (s : State) : Host.Outcome State Fault Refusal :=
  let s := s.adv tm
  let u := s.net.units[fin 2 (by decide) s.net.driver]
  match s.net.holdFrom with
  | some t =>
    .next (if u.state == .holdover && decide (t + secs (s.pN Pid.ptpHoldoverT) ≤ s.nt) then
      (s.modNet fun n => { n with holdExpired := true }).alignWatch else s)
  | none => .next s

/-- A unit that can drive the time base (R364). -/
def UnitState.fit (u : UnitState) : Bool := u == .locking || u == .locked || u == .master

/-- The unit that drives (R364): fixed by PTP.SOURCE, or by the states of both. -/
def State.driverNow (s : State) : Nat :=
  let a := s.net.units[0]
  let b := s.net.units[1]
  match s.pN Pid.ptpSource with
  | 0 => 0
  | 1 => 1
  | _ =>
    if s.net.driver = 0 then
      if (a.state == .holdover || a.state == .listening) && (b.state == .locking || b.state == .locked) then 1 else 0
    else if a.state == .master || (a.state == .locked && longAgo (secs 10) s.nt a.lockedFrom) ||
        (a.state.fit && !b.state.fit) then 0
    else 1

/-- The driver changes where R364 says so: the integrator stays, and event 0x3083 tells. -/
def State.pickDriver (s : State) : State :=
  let d := s.driverNow
  if d = s.net.driver then s
  else
    let u := s.net.units[fin 2 (by decide) d]
    (s.modNet fun n =>
      { n with driver := d, rate := if u.state == .master then 0 else n.rate
               holdFrom := if u.state == .holdover then some s.nt else none
               holdExpired := n.holdExpired && u.state != .locked && u.state != .master }).alignWatch.event 0x3083 0 d

/-- The choice of the driving unit (R364). -/
def execTimeDriver (tm : Nat) (s : State) : Host.Outcome State Fault Refusal := .next (s.adv tm).pickDriver

/-- The units have disagreed by more than 1 µs for 10 s (R362). -/
def execTimeDivergence (tm : Nat) (s : State) : Host.Outcome State Fault Refusal :=
  let s := (s.adv tm).watchDiverge
  match s.net.divergeFrom with
  | some t => .next (if t + secs 10 ≤ s.nt then s.raise 0x3003 0 [] else s)
  | none => .next s

/-- ALIGNED has been false for 1 s in OPERATE (R23). -/
def execTickUnaligned (tm : Nat) (s : State) : Host.Outcome State Fault Refusal :=
  let s := s.adv tm
  match s.frame.unalignedFrom with
  | some t =>
    .next (if s.pwr.state == .operate && !s.aligned && decide (t + secs 1 ≤ s.nt) then s.raise 0x0203 0 [] else s)
  | none => .next s

/-- Time-stamp entries not taken within 10 ms are discarded (R358). -/
def execTsqEntryExpire (port : Fin 4) (tm : Nat) (s : State) : Host.Outcome State Fault Refusal :=
  let s := s.adv tm
  .next (s.modNetPort port fun p => { p with tsq := p.tsq.filter fun e => s.nt < e.tm + ms 10 })

/-- More than 10 stamps not recorded in 1 s (R358). -/
def execTsqOverflow (tm : Nat) (s : State) : Host.Outcome State Fault Refusal :=
  let s := s.adv tm
  .next (if 10 < (within (secs 1) s.nt s.net.tsqAt).length then s.raise 0x3005 0 [] else s)

/-- A unit that is MASTER sends a Sync on both ports every 2^PTP.LOG_SYNC s (R360, R381). -/
def execMasterSync (net : Fin 2) (tm : Nat) (s : State) : Host.Outcome State Fault Refusal :=
  let s := (s.adv tm).drainPorts
  let u := s.net.units[net]
  let log := s.pI 8 Pid.ptpLogSync
  let every := (roundEven (logSecs log * 1000000000)).toNat
  if u.state == .master && decide (u.masterAt ≤ s.nt) then
    let s := s.modUnit net fun u => { u with masterAt := s.nt + every, syncSeq := (u.syncSeq + 1) % 65536 }
    let two := s.pN Pid.ptpStepMode = 0
    .next (s.each [2 * net.val, 2 * net.val + 1] fun t p =>
      let port : Fin 4 := fin 4 (by decide) p
      let msg := t.ptpHead port 0 44 u.syncSeq two log ++ List.replicate 10 0
      t.ptpOut port msg (if two then .follow else .origin))
  else .next s

/-- `PTP.SET_TIME` (R366): only as MASTER on the driving network, and where a step is permitted. -/
def execPtpSetTime (m : Fin 16) (tm : Nat) (s : State) : Host.Outcome State Fault Refusal :=
  .next (s.serveCall m tm 0x3100F001 8 fun t p =>
    let u := t.net.units[fin 2 (by decide) t.net.driver]
    if u.state != .master || !t.stepAllowed then .fail stState
    else .done (t.timeStep ((fld p 0 8 : Int) - (t.nt : Int))))

end Sys2Proof.Machine
end

