-- ==== Sys2Proof/Machine/Commit.lean ====
section
/-! DEFINITION. The commit of a tick (R28, R58): which ready groups are committed, and what the hardware does at
the commit of parameters that act once (R24, R65, R99, R106, R122, R124, R178, R204, R209, R291, R469). -/

namespace Sys2Proof.Machine

/-! What a commit changes, by comparing the state before it, `o`, with the state after it. -/

/-- A parameter's value in force has changed. -/
def State.changed (o s : State) (id : Nat) : Bool := o.pget id != s.pget id

/-- Feedback parameters whose change leaves the axis unreferenced (R178). -/
def fbkFormatIds (a : Nat) : List Nat :=
  [Pid.axFbkSource a, Pid.axFbkLePort a, Pid.axFbkDir a, Pid.axFbkCpr a, Pid.axFbkModulo a, Pid.axFbkModRevs a,
   Pid.axFbkSerStBits a, Pid.axFbkSerMtBits a, Pid.axFbkSerOfs a, Pid.axFbkSerGray a]

/-- Feedback at a commit (R178, R190): a new format re-seeds the reading, from which the position continues without a
step, so that no later reading counts as the first after reset (DEDUCED, log 164); a new offset moves the position. -/
def State.commitFbk (o s : State) (a : Fin 128) : State :=
  if (fbkFormatIds a.val).any (o.changed s) then
    s.modAxis a fun x =>
      { x with fbk := { x.fbk with seeded := false, serFirst := false, unref := true }, stp := { x.stp with aligned := false } }
  else
    let id := Pid.axFbkOffset a.val
    if o.changed s id then s.shiftPos a (s.pI 64 id - o.pI 64 id) else s

/-- An integrator at the commit of a new KP (R209): x' = (KPold ÷ KPnew)(e + x) − e, within the bound of R208. -/
def rescaled (ex : Int) (kOld kNew e x top : Rat) : Int :=
  (bfpSum ex [clampRat (-top) top (kOld / kNew * (e + x) - e)]).1

/-- The gains of the velocity and current loops at a commit (R209). -/
def State.commitGains (o s : State) (a : Fin 128) : State :=
  let t := s.axes[a].eng.st
  let v0 := o.pF (Pid.axVelKp a.val)
  let v1 := s.pF (Pid.axVelKp a.val)
  let xv := if v0 == v1 || v1 == 0 then t.velXv else
    rescaled t.velE v0 v1 (bfpVal t.velE t.velEv) (bfpVal t.velE t.velXv) (s.ilim a.val / v1)
  let c0 := o.pF (Pid.axCurKp a.val)
  let c1 := s.pF (Pid.axCurKp a.val)
  let xi : Vector Int 2 := if c0 == c1 || c1 == 0 then t.xi else
    Vector.ofFn fun k => rescaled t.curE c0 c1 (bfpVal t.curE t.ei[k]) (bfpVal t.curE t.xi[k])
      (3 / 2 * s.pF (Pid.axMotVbusNom a.val) / c1)
  s.modAxis a fun x => { x with eng := { x.eng with st := { x.eng.st with velXv := xv, xi := xi } } }

/-- A filter at the commit of new coefficients (R204): its states make the output the DC gain times the input. -/
def State.commitFilter (o s : State) (a : Fin 128) (k : Fin 2) : State :=
  let i := k.val + 1
  let ids := s.fltVal a.val (i * 16) :: (List.range 5).map (s.fltCoef a.val i)
  let was := o.fltVal a.val (i * 16) :: (List.range 5).map (o.fltCoef a.val i)
  if ids == was then s else
  let c (j : Nat) : Rat := f32Dec (s.fltCoef a.val i j)
  let t := s.axes[a].eng.st
  let x := t.fx[k]
  let ex := t.fltE[k]
  let den := 1 + c 3 + c 4
  let y := if den == 0 then 0 else (c 0 + c 1 + c 2) / den * x
  let m1 := (bfpSum ex [y, -(c 0 * x)]).1
  let m2 := (bfpSum ex [c 2 * x, -(c 4 * y)]).1
  s.modAxis a fun z =>
    { z with eng := { z.eng with st := { z.eng.st with s1 := z.eng.st.s1.set k m1, s2 := z.eng.st.s2.set k m2 } } }

/-- Overrides of a slot's wiring wait for the next schedule (R122). -/
def State.commitOverride (o s : State) (a : Fin 128) : State :=
  if o.changed s (Pid.axPwmSwap a.val) || o.changed s (Pid.axPwmInvert a.val) then
    s.modLink (linkOf a) fun x => { x with overrideNew := x.overrideNew ||| (1#4 <<< (slotOf a).val) }
  else s

/-- Dead times at a commit (R117, R118): a change of `AX.PWM.DT_MODE` starts adaptation from the dead times then in
force, with the edges of a new 16 frames. -/
def State.commitDt (o s : State) (a : Fin 128) : State :=
  let s := if o.changed s (Pid.axPwmDtMode a.val) then
      s.modAxis a fun x => { x with pwm := { x.pwm with
        hb := Vector.ofFn fun j => { x.pwm.hb[j] with dt := o.dtWant a j, hardN := 0, hardMax := 0, overRun := 0 }
        adaptTick := s.frame.tick } }
    else s
  s.dtLimit a

/-- What a commit does to an axis. -/
def State.commitAxis (o s : State) (a : Fin 128) : State :=
  let s := o.commitDt (o.commitOverride (o.commitFbk s a) a) a
  (o.commitFilter (o.commitFilter (o.commitGains s a) a 0) a 1)

/-- SLOT_CFG of a slot is due when the configuration that it carries has changed (R84, R544). -/
def State.commitSlot (s : State) (l : Fin 32) (k : Fin 4) : State :=
  let c := s.links[l].slotCfg[k]
  if c.sent != 0 && c.content != s.slotCfgBytes l k then
    s.modLink l fun x =>
      { x with slotCfg := x.slotCfg.set k { c with due := true, ok := false, refused := false, raised := false, sent := 0 } }
  else s

/-- A link at a commit (R99): `LNK.ENABLE` trains it or takes it down. -/
def State.commitLink (o s : State) (l : Fin 32) : State :=
  let id := Pid.lnkEnable l.val
  let s : State :=
    if !o.changed s id then s
    else if s.pN id = 1 then s.linkTrain l
    else
      (s.leavesUp l).modLink l fun x =>
        { serial := x.serial, crcErr := x.crcErr, lateRec := x.lateRec, upMax := x.upMax, drop := x.drop,
          killSaf := x.killSaf }
  [0, 1, 2, 3].foldl (fun t k => t.commitSlot l k) s

/-- A trip pin at a commit (R124, R130): a pin put into use, or whose active level changes, while active latches. -/
def State.commitPin (o s : State) (p : Fin 8) : State :=
  let s : State := if o.changed s (Pid.trpPActive p.val) then
      s.modPin p fun x => { x with active := !x.active, activeFrom := s.nt, inactiveFrom := s.nt }
    else s
  let new := o.changed s (Pid.trpPEnable p.val) || o.changed s (Pid.trpPActive p.val)
  if new && s.pinUsed p && s.pins[p].active then s.pinLatch p s.nt false else s

/-- The Percolator reads the committed rules and timers (R469, R473); a new rule starts afresh. -/
def State.commitPerc (s : State) : State :=
  let s := s.modPwr fun p => { p with timerS := Vector.ofFn fun t => s.pget (Pid.percTimer t.val) }
  s.each allRules fun t r =>
    let w := t.pget (Pid.percR r.val)
    if t.pwr.ruleWord[r] == w then t
    else t.modPwr fun p => { p with ruleWord := p.ruleWord.set r w, rules := p.rules.set r { timerFrom := t.nt } }

/-- Both ports of a network switched off take its FWD_OK low (R349, R356). -/
def State.commitNet (o s : State) : State :=
  if (List.range 4).any fun p => o.changed s (Pid.netPEnable p) then s.fwdOkSet else s

/-- `TWIN.ENABLE` at a commit (R387). -/
def State.commitTwin (o s : State) : State :=
  if !o.changed s Pid.twinEnable then s
  else if s.pN Pid.twinEnable = 1 then
    if s.twin.state == .solo then s.startSyncing else s
  else
    let epoch := if s.twin.state == .active then s.twin.epoch else 0
    (s.twinTo .solo).modTwin fun k =>
      { k with epoch := epoch, partner := 5, resign := false, resignSent := false, split := false, bulk := false,
               items := [], carried := [], dry := Vector.replicate 2 4 }

/-- Device parameters that act at a commit (R24, R65, R291, R365, R387). -/
def State.commitDevice (o s : State) : State :=
  let s : State := if o.changed s Pid.sysFramePeriod then
      s.modFrame fun f => { f with tfNext := some (s.pN Pid.sysFramePeriod) } else s
  let s : State := if o.changed s Pid.hostWdogTime then s.modHost fun h => { h with wdogFrom := s.nt } else s
  let s : State := if o.changed s Pid.trkEnable && s.pN Pid.trkEnable = 0 then s.trkDisabled else s
  let s : State := if o.changed s Pid.ptpSource then s.pickDriver else s
  o.commitTwin (o.commitNet s.commitPerc)

/-- A Z latch is armed or disarmed by its RW parameter (R173, R174). -/
def State.commitZarm (s : State) (id v : Nat) : State :=
  s.modPort (fin 4 (by decide) (idIndex id / 16)) fun x =>
    if v = 0 then { x with zarm := false, zarmed := false } else { x with zarm := true, zarmed := false, znew := false }

/-- Parameters that are acted on and not held: `LE.Pp.ZARM` and `SYS.FRAME.STAT_CLR`. -/
def actsOnly (id : Nat) : Bool :=
  id == Pid.sysFrameStatClr || (idClass id == 0x61 && idIndex id / 256 == 1 && idIndex id % 16 == 6)

/-- The entries of a commit that are acted on and not held. -/
def State.commitActs (s : State) (es : List (Nat × PVal)) : State :=
  s.each (es.filter fun e => actsOnly e.1) fun t e =>
    if e.1 = Pid.sysFrameStatClr then t.modPar fun p => { p with statClr := true }
    else t.commitZarm e.1 e.2.toNat

/-- Everything that the hardware does at a commit, from the state before it. -/
def State.commitEffects (o s : State) : State :=
  let s := allAxes.foldl (fun t a => o.commitAxis t a) s
  let s := allLinks.foldl (fun t l => o.commitLink t l) s
  let s := allPins.foldl (fun t p => o.commitPin t p) s
  o.commitDevice s

/-! The copier. -/

/-- The groups that a tick commits, and those that wait (R28): ready before tick − 3.0 µs, whole and in order, up to
4,096 bytes; `ok` says which may commit at all (R394). -/
def pickGroups (tick : Nat) (ok : Group → Bool) (room : Nat) : List Group → List Group × List Group × Bool
  | [] => ([], [], false)
  | g :: rest =>
    let n := groupSize g.entries
    if tick ≤ g.readyAt + us 3 then ([], g :: rest, false)
    else if !ok g || decide (room < n) then ([], g :: rest, true)
    else
      let r := pickGroups tick ok (room - n) rest
      (g :: r.1, r.2.1, r.2.2)

/-- Entries are committed: the store takes them, and the hardware acts on the changes. -/
def State.commitEntries (s : State) (es : List (Nat × PVal)) : State :=
  if es.isEmpty then s else
  let t := (s.applyGroup (es.filter fun e => !actsOnly e.1)).commitActs es
  s.commitEffects t

/-- The mailbox of a committed group gets its answer with the FC (R50, R53). -/
def State.groupDone (s : State) (g : Group) : State :=
  match g.mbx with
  | none => s
  | some m =>
    let i : Fin 16 := fin 16 (by decide) m
    if s.mbx[i].wait == .group g.num then
      (s.modMbx i fun b => { b with wait := .none }).answer i stOk 0 (leBytes 4 s.fc) else s

/-- A group gives NET_ONLY to a mailbox that a local path owns at its commit (R48): the commit returns STATE. -/
def State.reserves (s : State) (g : Group) : Bool :=
  g.entries.any fun e => e.1 == Pid.hostMbxNetCount && !s.ownerIdle e.1 e.2.toNat

/-- The mailbox of a group that its commit turns away gets STATE. -/
def State.groupRefused (s : State) (g : Group) : State :=
  match g.mbx with
  | none => s
  | some m =>
    let i : Fin 16 := fin 16 (by decide) m
    if s.mbx[i].wait == .group g.num then (s.modMbx i fun b => { b with wait := .none }).answer i stState 0 [] else s

/-- A link's capability record is an input of derivations from this commit on (R57). -/
def State.capInputs (s : State) : State :=
  { s with links := s.links.map fun x => { x with dtMinIn := match x.cap with
      | some c => c.dtMin
      | none => 20 } }

/-- The RWX parameters of entries. -/
def rwxOf (es : List (Nat × PVal)) : List Nat :=
  (es.map (·.1)).filter fun id => match findRow id with
    | some (r, _) => r.acc == .rwx
    | none => false

/-- The commit of a tick (R28, R48, R57, R394): the answers, event 0x0105 when a mailbox's group was applied, and the
entries committed. -/
def State.commitTick (s : State) (ok : Group → Bool) : State × List (Nat × PVal) :=
  let s := s.capInputs
  let bad := s.par.ready.filter s.reserves
  let s := s.each bad State.groupRefused
  let r := pickGroups s.frame.tick ok 4096 (s.par.ready.filter fun g => !bad.contains g)
  let es := r.1.flatMap (·.entries)
  let s := s.modPar fun p =>
    { p with ready := r.2.1, landed := rwxOf es,
             commitDefer := if r.2.2 then count32 p.commitDefer else p.commitDefer }
  let s := s.commitEntries es
  let s := s.each r.1 State.groupDone
  (if r.1.any (·.mbx.isSome) then s.event 0x0105 0 s.fc else s, es)

end Sys2Proof.Machine
end

