-- ==== Sys2Proof/Machine/TwinImage.lean ====
section
/-! DEFINITION. The frame image of a twin pair (R390 to R395): how the active builds it and what the receiver adopts
of it.  The layouts that belong to the firmware (inside AXIS, RPT and VAR, and the TRK section's first 8 bytes) are
opaque constants of Config. -/

namespace Sys2Proof.Machine

/-! Numbers in VAR items. -/

/-- An integer as a number. -/
def intN (i : Int) : Nat := if 0 ≤ i then 2 * i.natAbs else 2 * i.natAbs - 1
/-- And back. -/
def natI (n : Nat) : Int := if n % 2 = 0 then (n / 2 : Nat) else -((n / 2 + 1 : Nat) : Int)
/-- A rational as two numbers. -/
def ratN (q : Rat) : List Nat := [intN q.num, q.den]
/-- Number `i` of a list as an integer. -/
def intAt (l : List Nat) (i : Nat) : Int := natI (l.getD i 0)
/-- Numbers `i` and `i + 1` of a list as a rational. -/
def ratAt (l : List Nat) (i : Nat) : Rat := (intAt l i : Rat) / (max 1 (l.getD (i + 1) 1) : Nat)

/-- A queue entry as 13 numbers. -/
def QEntry.numbers (e : QEntry) : List Nat :=
  [e.id, e.typ, b2n e.blend, intN e.target] ++ ratN e.v ++ ratN e.acc ++ ratN e.dec ++ ratN e.jerk ++
  [match e.tgt with
   | none => 0
   | some t => 1 + intN t]

/-- And back. -/
def qentryOf (l : List Nat) : QEntry :=
  { id := l.getD 0 0, typ := l.getD 1 0, blend := l.getD 2 0 != 0, target := intAt l 3, v := ratAt l 4, acc := ratAt l 6
    dec := ratAt l 8, jerk := ratAt l 10, tgt := if l.getD 12 0 = 0 then none else some (natI (l.getD 12 0 - 1)) }

/-- The queue, homing and gear constants of an axis that VAR and BULK carry (R390, R392), with its derating and scaling
(R505). -/
def State.axisItem (s : State) (a : Fin 128) : List Nat :=
  let x := s.axes[a]
  let h := x.hom
  let g := x.gea
  [a.val, s.pget (Pid.axFbkOffset a.val), x.prf.nextId, x.prf.seqEcho] ++
  [h.phase, h.method, b2n h.done, b2n h.failed, h.cause, h.refStamp, intN h.startPos, intN h.indexFrom, b2n h.refDone,
   b2n x.fbk.unref] ++
  [g.stat, b2n g.disengaging, b2n g.disWait, intN g.s0, intN g.m0, intN g.m1, b2n g.below, intN g.out1, intN g.add] ++
  ratN g.addV ++ ratN s.age.axes[a].f ++ ratN s.age.axes[a].k ++ x.prf.queue.flatMap QEntry.numbers

/-- What shows that such constants were set since the last image: entries appended, homing done, gears engaged, a limit
or a threshold re-planned. -/
def State.axisSig (s : State) (a : Fin 128) : List Nat :=
  let x := s.axes[a]
  [s.pget (Pid.axFbkOffset a.val), x.prf.nextId, b2n x.prf.queue.isEmpty, b2n x.hom.done, x.hom.refStamp, x.hom.phase,
   x.gea.stat, intN x.gea.s0, intN x.gea.m0, intN x.gea.m1, intN x.gea.out1] ++
  ratN s.age.axes[a].f ++ ratN s.age.axes[a].k

/-- The standby takes such an item. -/
def State.takeAxisItem (s : State) (l : List Nat) : State :=
  let a := axisNo (l.getD 0 0)
  let id := Pid.axFbkOffset a.val
  let d := toSigned 64 (l.getD 1 0) - s.pI 64 id
  let s : State := if d = 0 then s else
    (s.modPar fun p => { p with store := storePut p.store ⟨id, .num (l.getD 1 0), true⟩ }).shiftPos a d
  let s := s.modAge fun k =>
    let g := { k.axes[a] with f := ratAt l 25, k := ratAt l 27, fNow := ratAt l 25, kNow := ratAt l 27, fAt := s.nt }
    { k with axes := k.axes.set a g }
  let q := l.drop 29
  let n := q.length / 13
  s.modAxis a fun x =>
    let h : HomSt := { x.hom with
      phase := l.getD 4 0, method := l.getD 5 0, done := l.getD 6 0 != 0, failed := l.getD 7 0 != 0, cause := l.getD 8 0
      refStamp := l.getD 9 0, startPos := intAt l 10, indexFrom := intAt l 11, refDone := l.getD 12 0 != 0 }
    let g : GeaSt := { x.gea with
      stat := l.getD 14 0, disengaging := l.getD 15 0 != 0, disWait := l.getD 16 0 != 0, s0 := intAt l 17
      m0 := intAt l 18, m1 := intAt l 19, below := l.getD 20 0 != 0, out1 := intAt l 21, add := intAt l 22
      addV := ratAt l 23 }
    { x with hom := h, gea := g, fbk := { x.fbk with unref := l.getD 13 0 != 0 }
             prf := { x.prf with nextId := l.getD 2 0, seqEcho := l.getD 3 0
                                 queue := (List.range n).map fun i => qentryOf (q.drop (13 * i)) } }

/-- A parameter entry as numbers: ID, then 0 and a number, or a length and one, and the bytes. -/
def entryNumbers (e : Nat × PVal) : List Nat :=
  match e.2 with
  | .num n => [e.1, 0, n]
  | .str bs => [e.1, bs.length + 1] ++ bs.map BitVec.toNat

/-- The entries of a group, from numbers; the fuel bounds their count. -/
def entriesOf : Nat → List Nat → List (Nat × PVal)
  | 0, _ => []
  | f + 1, id :: 0 :: n :: rest => (id, .num n) :: entriesOf f rest
  | f + 1, id :: (k + 1) :: rest => (id, .str ((rest.take k).map (BitVec.ofNat 8))) :: entriesOf f (rest.drop k)
  | _ + 1, _ => []

/-! VAR on the active. -/

/-- Items for groups that are ready and for constants set since the last image (R390, R394). -/
def State.newItems (s : State) : State :=
  let known := s.twin.items.filterMap (·.grp)
  let s := s.each (s.par.ready.filter fun g => !known.contains g.num) fun t g => t.modTwin fun k =>
    { k with nextItem := k.nextItem + 1
             items := k.items ++ [{ num := k.nextItem % 65536, grp := some g.num
                                    bytes := Config.varPack 0 (g.entries.flatMap entryNumbers) }] }
  s.each (allAxes.filter fun a => s.motType a.val ≠ 0) fun t a =>
    let sig := t.axisSig a
    if t.twin.axSig[a] == sig then t
    else (t.varItem 1 (t.axisItem a)).modTwin fun k => { k with axSig := k.axSig.set a sig }

/-- The items of an image (R393): repeats before new ones, oldest first, until one finds no room. -/
def fitItems (room : Nat) : List VarItem → List VarItem
  | [] => []
  | x :: rest =>
    let n := x.bytes.length + 4
    if room < n then [] else x :: fitItems (room - n) rest

/-! The sections on the active. -/

/-- Bytes cut or filled up to a length. -/
def exactly (n : Nat) (bs : List Byte) : List Byte := bs.take n ++ List.replicate (n - bs.length) 0

/-- Axes whose AXIS record an image holds. -/
def State.imageAxes (s : State) : List (Fin 128) := allAxes.filter fun a => s.motType a.val ≠ 0
/-- Axes whose RPT slice an image holds. -/
def State.imageRpt (s : State) : List (Fin 128) :=
  s.imageAxes.filter fun a => s.pN (Pid.axRptEnable a.val) = 1

/-- The RPT slice of an axis (R390). -/
def State.rptSlice (s : State) (a : Fin 128) (j : Nat) : List Byte :=
  let t := s.axes[a].eng.st
  exactly 28 (Config.rptImage (t.rptE :: t.mean :: (t.bins.drop (8 * j)).take 8))

/-- CRC-32C of all context records (R391). -/
def State.trkCrc (s : State) : Nat := crc32c (s.trk.ctx.toList.flatMap Ctx.record)

/-- The byte limit of an image (R29). -/
def State.imageLimit (s : State) : Nat := if s.frame.tf = 0 then 16384 else 40960

/-- BULK items, two in a frame (R392): RPT tables, contexts, queues with homing and gear states; 512 in all. -/
def State.bulkItem (s : State) (i : Nat) : Nat × List Byte :=
  if i < 128 then
    let t := s.axes[axisNo i].eng.st
    (i, Config.varPack 3 ([i, intN t.rptE, intN t.mean] ++ t.bins.map intN))
  else if i < 384 then (i, Config.varPack 4 ((i - 128) :: ((s.trk.ctx[ctxNo (i - 128)]).record).map BitVec.toNat))
  else (i, Config.varPack 1 (s.axisItem (axisNo (i - 384))))

/-- The words of a link: every second 8-byte word of the image, from word `k` on (R392). -/
def linkWords (k : Nat) (img : List Byte) : List Byte :=
  (List.range ((img.length + 7) / 8)).flatMap fun w => if w % 2 = k then exactly 8 (img.drop (8 * w)) else []

/-- The image put together again from the words of both links. -/
def joinWords (a b : List Byte) : List Byte :=
  (List.range (max a.length b.length / 8 + 1)).flatMap fun w => (a.drop (8 * w)).take 8 ++ (b.drop (8 * w)).take 8

/-- The image of the frame, with what the active keeps of it (R390 to R394). -/
def State.buildImage (s : State) : List Byte × State :=
  let s := s.newItems
  let axes := s.imageAxes.flatMap fun a => exactly 80 (Config.axisImage s.axes[a])
  let j := s.frame.fc % 32
  let rpt := s.imageRpt.flatMap fun a => s.rptSlice a j
  let on := s.pN Pid.trkEnable = 1
  let moved := s.trk.touched.take 8
  let named := moved ++ [s.twin.slice % 256, (s.twin.slice + 1) % 256]
  let trk := if on then exactly 8 (Config.trkHead named) ++ named.flatMap fun i => (s.trk.ctx[ctxNo i]).record else []
  let pending := on && decide (8 < s.trk.touched.length)
  let fixed := 32 + axes.length + rpt.length + trk.length + 16
  let k := s.twin
  let sent := fitItems (s.imageLimit - fixed) (k.items.filter (·.fc.isSome) ++ k.items.filter (·.fc.isNone))
  let var := if sent.isEmpty then [] else Config.itemsPack (sent.map fun x => (x.num, x.bytes))
  let bulk := decide (k.partner = 1 ∧ k.bulkSent < 512)
  let len := fixed + var.length
  let ovr := s.frame.overran.toNat
  let hdr := leBytes 4 s.frame.fc ++ leBytes 3 k.epoch ++
    leBytes 1 (b2n k.resign + b2n k.split * 2 + b2n pending * 4 + b2n bulk * 8) ++ leBytes 4 len ++
    leBytes 4 s.fwVersion ++ leBytes 1 s.frame.tf ++ leBytes 1 ovr ++ leBytes 1 s.frame.reduced.toNat ++ leBytes 1 j ++
    leBytes 2 s.imageAxes.length ++ leBytes 2 sent.length ++ leBytes 4 s.trkCrc ++ leBytes 4 0
  let body := hdr ++ axes ++ rpt ++ trk ++ var
  let crc := crc32c body
  let img := body ++ leBytes 4 s.frame.fc ++ leBytes 4 len ++ leBytes 4 crc ++ leBytes 4 (0xFFFFFFFF - crc)
  let more := if bulk then exactly ((8 - img.length % 8) % 8) [] ++
      Config.itemsPack ([k.bulkSent, k.bulkSent + 1].map s.bulkItem) else []
  let nums := sent.map (·.num)
  let s := s.modTrk fun t => { t with touched := t.touched.drop 8 }
  let s := s.modTwin fun k =>
    { k with imgSize := len, carried := sent.filterMap (·.grp), slice := (k.slice + 2) % 256
             bulkSent := if bulk then k.bulkSent + 2 else k.bulkSent, bulk := bulk
             resignSent := k.resignSent || k.resign
             items := k.items.map fun x => if nums.contains x.num then { x with fc := some (x.fc.getD s.frame.fc) } else x }
  (img ++ more, s)

/-! The receiver. -/

/-- An event of a context record (R281). -/
def evOf (b : List Byte) (st : Nat) : CmpEv :=
  { zone := fld b 0 1, act := fld b 1 1, target := fld b 2 1, width := fld b 3 1, pos := fld b 4 4, armed := bit st 0
    done := bit st 1, late := bit st 2, skipped := bit st 3 }

/-- A context from its record (R281). -/
def ctxOf (r : List Byte) : Ctx :=
  { state := if fld r 0 1 = 1 then .active else if fld r 0 1 = 2 then .exporting else .free
    flags := BitVec.ofNat 8 (fld r 1 1), zone := fld r 2 1, prev := fld r 3 1, objId := fld r 4 4
    pos := toSigned 64 (fld r 8 8), len := fld r 16 4, route := BitVec.ofNat 32 (fld r 20 4)
    vel := toSigned 32 (fld r 24 4), gen := fld r 30 1, sensed := fld r 31 1, corr := toSigned 16 (fld r 32 2)
    misses := fld r 34 1, age := fld r 68 4
    ev := Vector.ofFn fun i => evOf (r.drop (36 + 8 * i.val)) (fld r 28 2 / 16 ^ i.val % 16) }

/-- A context takes the record of an image; what no record holds stays. -/
def State.takeCtx (s : State) (i : Nat) (r : List Byte) : State :=
  s.modCtx (ctxNo i) fun c =>
    let n := ctxOf r
    { n with rseq := c.rseq, ev := Vector.ofFn fun j => { n.ev[j] with been := (c.ev[j]).been, fresh := (c.ev[j]).fresh } }

/-- An axis takes its AXIS record (R390, R393): engine, PWM, commutation, stepper and trajectory state. -/
def State.takeAxisRec (s : State) (a : Fin 128) (r : List Byte) : State :=
  let u := Config.axisOfImage r
  s.modAxis a fun x =>
    let st : StageSt := { u.eng.st with bins := x.eng.st.bins, mean := x.eng.st.mean }
    let p : PrfSt := { u.prf with
      queue := x.prf.queue, nextId := x.prf.nextId, seqEcho := x.prf.seqEcho, ipo := x.prf.ipo, spIn := x.prf.spIn
      extrap := x.prf.extrap, disc := x.prf.disc, lateJoint := x.prf.lateJoint }
    let w : PwmSt := { x.pwm with
      brakeCarry := u.pwm.brakeCarry, lastSector := u.pwm.lastSector, lastVariant := u.pwm.lastVariant
      lastPolicy := u.pwm.lastPolicy, inRun := u.pwm.inRun
      hb := Vector.ofFn fun j => { x.pwm.hb[j] with carry := (u.pwm.hb[j]).carry } }
    { x with eng := { x.eng with st := st }, com := u.com, stp := u.stp, prf := p, pwm := w, state := u.state
             enable := u.enable, run := u.run, halt := u.halt, qstop := u.qstop, needEdge := u.needEdge }

/-- The results of frame k of an axis are replaced by the repeat (R36, R393): the pattern before it stays in force,
and its RPT table is as frame k found it. -/
def State.takeBack (s : State) (a : Fin 128) : State :=
  s.modAxis a fun x =>
    let e := match x.eng.rptWas with
      | some (t, bins, mean, ex) =>
        if t + s.tf = s.frame.tick then { x.eng with st := { x.eng.st with bins := bins, mean := mean, rptE := ex } } else x.eng
      | none => x.eng
    { x with pwm := { x.pwm with live := x.pwm.livePrev }, eng := e }

/-- An axis takes its RPT slice (R215, R393). -/
def State.takeRpt (s : State) (a : Fin 128) (j : Nat) (r : List Byte) : State :=
  let u := Config.rptOfImage r
  s.modAxis a fun x =>
    let t := x.eng.st
    let bins := t.bins.take (8 * j) ++ (u.2 ++ List.replicate 8 0).take 8 ++ t.bins.drop (8 * j + 8)
    { x with eng := { x.eng with st := { t with bins := bins, mean := u.1 } } }

/-- The set that SAVE writes: every P parameter as committed (R61). -/
def State.savedSet (s : State) : List PEntry :=
  s.par.store.filter fun e => match findRow e.id with
    | some (r, _) => r.flash
    | none => false

/-- The standby takes a VAR or BULK item: 0 a group, 1 constants of an axis, 2 SAVE, 3 an RPT table, 4 a context,
5 to 9 what chapters 18 and 19 copy, 10 a clear of faults (R446). -/
def State.takeItem (s : State) (bytes : List Byte) : State :=
  let (kind, l) := Config.varUnpack bytes
  match kind with
  | 0 => s.commitEntries (entriesOf l.length l)
  | 1 => s.takeAxisItem l
  | 2 => s.modPar fun p => { p with saving := some (s.savedSet, none) }
  | 3 => s.modAxis (axisNo (l.getD 0 0)) fun x =>
      let t := x.eng.st
      { x with eng := { x.eng with st := { t with rptE := intAt l 1, mean := intAt l 2
                                                  bins := (List.range 256).map fun i => intAt l (i + 3) } } }
  | 4 => s.takeCtx (l.getD 0 0) ((l.drop 1).map (BitVec.ofNat 8))
  | 5 =>
    let key := (l.drop 2).map (BitVec.ofNat 8)
    let i := l.getD 0 0
    let erase := key.all (· == 0)
    let o : Operator := if erase then {} else { rights := l.getD 1 0, key := key }
    let s := s.modSec fun k => { k with operators := k.operators.set (fin 8 (by decide) i) o }
    if erase then s.endCred i else s
  | 6 => s.modSec fun k => { k with keyChange := k.keyChange ++ [(l.getD 0 0, some ((l.drop 1).map (BitVec.ofNat 8)))] }
  | 7 => s.modSec fun k => { k with keyChange := k.keyChange ++ [(l.getD 0 0, none)] }
  | 8 => s.modPwr fun k => { k with sleepAt := some (l.getD 0 0, bit (l.getD 1 0) 0, bit (l.getD 1 0) 1) }
  | 9 =>
    let s := s.modTwin fun k => { k with wakePass := k.wakePass &&& ~~~BitVec.ofNat 8 (l.getD 0 0) }
    s.modPwr fun k => { k with wakeAt := some ((k.wakeAt.getD 0) ||| l.getD 0 0) }
  | 10 => s.clearFaults (l.getD 0 0) (l.getD 1 0) true
  | _ => s

/-- Each VAR item is applied once, by its number (R393). -/
def State.takeItems (s : State) (items : List (Nat × List Byte)) : State :=
  s.each items fun t x =>
    if t.twin.applied.contains x.1 then t
    else (t.takeItem x.2).modTwin fun k => { k with applied := pushN 4096 x.1 k.applied }

/-- FC b is later than a, by 1 to 2^31 − 1 (R393). -/
def fcLater (a b : Nat) : Bool :=
  let d := (b + 2 ^ 32 - a % 2 ^ 32) % 2 ^ 32
  decide (1 ≤ d ∧ d < 2 ^ 31)

/-- The checks of R393 on a received image. -/
def State.imageOk (s : State) (b : List Byte) : Bool :=
  let len := fld b 8 4
  let m := b.drop (len - 16)
  let body := b.take (len - 16)
  let crc := fld m 8 4
  decide (48 ≤ len ∧ len ≤ b.length) && fld m 0 4 == fld b 0 4 && fld m 4 4 == len && crc == crc32c body &&
  fld m 12 4 == 0xFFFFFFFF - crc &&
  (match s.twin.lastFc with
   | some f => fcLater f (fld b 0 4)
   | none => true) && (!s.twin.split || fld b 0 4 % 2 == 0)

/-- The commit of a checked image (R393, R394). -/
def State.adoptImage (s : State) (b : List Byte) : State :=
  let len := fld b 8 4
  let fl := fld b 7 1
  let j := fld b 19 1 % 32
  let l1 := s.imageAxes
  let l2 := s.imageRpt
  let p1 := 32
  let p2 := p1 + 80 * l1.length
  let p3 := p2 + 28 * l2.length
  let trkOn := s.pN Pid.trkEnable = 1
  let named := if trkOn then Config.trkNamed ((b.drop p3).take 8) else []
  let p4 := if trkOn then p3 + 8 + 72 * named.length else p3
  let items := if fld b 22 2 = 0 then [] else Config.itemsUnpack ((b.drop p4).take (len - 16 - p4))
  let beyond : BitVec 8 := BitVec.ofNat 8 (fld b 17 1)
  let differs := !bit fl 2 && decide (s.trkCrc ≠ fld b 24 4)
  let s := s.each ((allClusters.filter fun c => beyond.getLsbD c.val).flatMap clusterAxes) State.takeBack
  let s := l1.zipIdx.foldl (fun t x => t.takeAxisRec x.1 ((b.drop (p1 + 80 * x.2)).take 80)) s
  let s := l2.zipIdx.foldl (fun t x => t.takeRpt x.1 j ((b.drop (p2 + 28 * x.2)).take 28)) s
  let s := named.zipIdx.foldl (fun t x => t.takeCtx x.1 ((b.drop (p3 + 8 + 72 * x.2)).take 72)) s
  let s := s.modFrame fun f => { f with reduced := BitVec.ofNat 8 (fld b 18 1) }
  let s := s.takeItems items
  let bulk := bit fl 3
  let at8 := (len + 7) / 8 * 8
  let s := if bulk then s.each (Config.itemsUnpack (b.drop at8)) fun t x => t.takeItem x.2 else s
  s.modTwin fun k =>
    { k with resigned := bit fl 0, lastFc := some (fld b 0 4), noCommit := 0, commitRun := k.commitRun + 1
             bulkDone := k.bulkDone || (k.bulk && !bulk), bulk := bulk
             trkDiff := if differs && trkOn then k.trkDiff + 1 else 0 }

end Sys2Proof.Machine
end

