-- ==== Sys2Proof/Machine/Ageing.lean ====
section
/-! DEFINITION. Ageing, margins, engine tests, port loops and the firmware restart (chapter 20). -/

namespace Sys2Proof.Machine

/-! Margin items. -/

/-- A sample of a margin item (R506). -/
def State.margin (s : State) (kind inst : Nat) (v : Rat) : State :=
  s.modAge fun k =>
    if k.items.any fun x => x.kind == kind && x.inst == inst then
      { k with items := k.items.map fun x =>
          if x.kind = kind ∧ x.inst = inst then { x with sum := x.sum + v, n := x.n + 1 } else x }
    else { k with items := k.items ++ [{ kind := kind, inst := inst, sum := v, n := 1 }] }

/-- An item's value was re-planned (R506). -/
def State.replanned (s : State) (kind inst : Nat) : State :=
  s.modAge fun k => { k with items := k.items.map fun x =>
    if x.kind = kind ∧ x.inst = inst then { x with replannedAt := some s.nt } else x }

/-- A straight line through the daily means, latest first: slope per hour and coefficient of
determination (R506). -/
def fitLine (d : List Rat) : Rat × Rat :=
  let n : Rat := (d.length : Rat)
  let ps := d.zipIdx.map fun x => (-24 * (x.2 : Rat), x.1)
  let sum (f : Rat × Rat → Rat) : Rat := ps.foldl (fun t p => t + f p) 0
  let sx := sum (·.1)
  let sy := sum (·.2)
  let sxx := sum fun p => p.1 * p.1
  let sxy := sum fun p => p.1 * p.2
  let syy := sum fun p => p.2 * p.2
  let vx := n * sxx - sx * sx
  let vy := n * syy - sy * sy
  let c := n * sxy - sx * sy
  if vx = 0 ∨ vy = 0 then (if vx = 0 then 0 else c / vx, 0) else (c / vx, c * c / (vx * vy))

/-- The daily update of an item (R506, R507): the mean of its day, the fit and the warnings. -/
def State.dailyItem (s : State) (x : Margin) : Margin × Bool :=
  let days := if x.n = 0 then x.days else (x.sum / (x.n : Rat) :: x.days).take 400
  let v := days.headD 0
  let first := match x.first with
    | some f => some f
    | none => days.head?
  let lim := s.marginLimit x.kind x.inst v
  let (slope, r2) := fitLine (days.take 30)
  let fit := decide (7 ≤ (days.take 30).length) && decide (0 < (lim - v) * slope) && decide (1 / 2 ≤ r2)
  let ttl := if fit then min 0xFFFFFFFE ((lim - v) / slope).floor.toNat else 0xFFFFFFFF
  let wTtl := fit && decide (ttl < s.pN Pid.ageTtlWarn)
  let wRest := first.any fun f => decide (rabs (lim - v) < rabs (lim - f) / 5)
  ({ x with sum := 0, n := 0, days := days, first := first, warnTtl := wTtl, warnRest := wRest,
            fitValid := fit, slope := slope * 1000, ttl := ttl },
   (wTtl && !x.warnTtl) || (wRest && !x.warnRest))

/-- The daily update (R498, R499, R506, R507). -/
def execDailyUpdate (tm : Nat) (s : State) : Host.Outcome State Fault Refusal :=
  let s := s.adv tm
  if !s.fwRuns || decide (s.nt < s.age.lastDaily + secs 86400) then .next s else
  let s := s.margin 6 0 (lifeOf s.age.hist 175200)
  let s := s.each (allAxes.filter fun a => s.motType a.val ≠ 0) fun t a =>
    t.margin 7 a.val (lifeOf t.age.axes[a].hist (t.pN Pid.ageBridgeLife))
  let s := s.each ((List.range 16).filter fun i => s.fio.cmd.getLsbD i) fun t i =>
    let (v, t) := t.drawRat
    t.margin 8 i v
  let s := s.each ((allAxes.filter fun a => (0 : Nat) < (s.age.axes[a]).fricN)) fun t a =>
    let x := t.age.axes[a]
    let t := t.margin 10 a.val (x.fricSum / (x.fricN : Rat))
    t.modAge fun k => { k with axes := k.axes.set a { x with fricSum := 0, fricN := 0 } }
  let up := s.age.items.map fun x => (x, s.dailyItem x)
  let s := s.modAge fun k => { k with items := up.map (·.2.1), lastDaily := s.nt }
  .next (s.each (up.filter (·.2.2)) fun t x => t.raise 0x9001 0 [] (x.1.kind + x.1.inst * 256))

/-! Re-planning. -/

/-- The AVS law of every 10 ms (R500). -/
def execAvsUpdate (slack : Int) (tm : Nat) (s : State) : Host.Outcome State Fault Refusal :=
  let s := s.adv tm
  if !s.fullService then .next s else
  let tgt : Int := (s.pN Pid.ageAvsSlackTgt : Nat)
  let vmax := s.pN Pid.ageAvsVmax
  let v := s.age.vdd
  let s := (s.modAge fun k => { k with slack := slack }).margin 1 0 (slack : Rat)
  if s.pN Pid.ageAvsEnable = 0 ∨ s.pwr.state == .service then .next s else
  let up := slack < tgt ∧ v < vmax
  let down := !decide (slack < tgt) && decide (tgt + 20 < slack ∧ 750 < v ∧ s.age.vddAt + ms 1000 ≤ s.nt)
  let w := if up then min (v + 5) vmax else if down then v - 5 else v
  let s := s.modAge fun k => { k with vdd := w, vddAt := if w = v then k.vddAt else s.nt }
  let s := (s.emit (.avs w)).margin 2 0 ((vmax : Rat) - (w : Rat))
  let s := if w = v then s else (s.replanned 1 0).replanned 2 0
  .next (if slack < tgt ∧ v = vmax then s.raise 0x9002 0 [] else s)

/-- The deepest dip of VDD_CORE of a frame (R501). -/
def execSupplyDroop (mv tm : Nat) (s : State) : Host.Outcome State Fault Refusal :=
  let s := s.adv tm
  let s := s.margin 3 0 (mv : Rat)
  if s.pN Pid.ageDroopMax < mv then
    let l := within (secs 1) s.nt (s.nt :: s.age.droopAt)
    if 3 ≤ l.length then
      let s := s.modAge fun k => { k with droopAt := [], stagger := 2 * k.stagger }
      .next ((s.replanned 3 0).raise 0x0105 0 [])
    else .next (s.modAge fun k => { k with droopAt := l })
  else .next s

/-- The equaliser settings next to one. -/
def eqNear (e : Nat) : List Nat := (if e < 15 then [e + 1] else []) ++ (if 0 < e then [e - 1] else [])

/-- The eye of an UP link is measured (R498, R502), once a second: settings are tried one at a time, each measured for
1 s; one that causes a code violation is reverted at once. -/
def execEyeTune (l : Fin 32) (eye : Nat) (viol : Bool) (tm : Nat) (s : State) : Host.Outcome State Fault Refusal :=
  let s := s.adv tm
  let x := s.links[l]
  if x.state != .up || (!viol && x.eyeAt.any fun t => decide (s.nt < t + secs 1)) then .next s else
  let s := s.modLink l fun y => { y with eyeAt := some s.nt }
  let s := s.margin 4 l.val (eye : Rat)
  let set := s.pN (Pid.lnkEq l.val)
  if set ≠ 255 then .next (s.modLink l fun y => { y with eye := eye, eq := set, eyeLow := none, eqTrial := none })
  else
    let minE := s.pN Pid.ageEyeMin
    let low := if eye < minE then some (x.eyeLow.getD s.nt) else none
    let drop (y : LinkSt) (prev pe : Nat) : LinkSt :=
      { y with eqTrial := none, eqTried := y.eq :: y.eqTried, eq := prev, eye := pe }
    match x.eqTrial with
    | some (prev, pe) =>
      if viol then .next (s.modLink l fun y => { drop y prev pe with crcErr := count32 y.crcErr })
      else if pe + 3 ≤ eye then
        .next ((s.modLink l fun y => { y with eye := eye, eqTrial := none, eqTried := [prev], eyeLow := low }).replanned
          4 l.val)
      else .next (s.modLink l fun y => drop y prev pe)
    | none =>
      let s := s.modLink l fun y =>
        { y with eye := eye, eyeLow := low, eqTried := if low.isNone then [] else y.eqTried }
      let due := low.any fun t => decide (t + secs 10 ≤ s.nt)
      if !due || s.pwr.state == .service then .next s
      else match (eqNear x.eq).filter (fun e => !x.eqTried.contains e) with
        | e :: _ => .next (s.modLink l fun y => { y with eq := e, eqTrial := some (x.eq, eye) })
        | [] => .next (if eye < 25 ∧ !s.faultOn 0x9004 l.val then s.raise 0x9004 l.val (linkAxes l) else s)

/-- The bin of a temperature in 0.1 °C (R499). -/
def histBin (t : Int) : Nat := (clampInt 0 19 ((t + 400) / 100)).toNat

/-- A histogram after `ns` at a temperature. -/
def histAdd (h : List Nat) (t : Int) (ns : Nat) : List Nat := h.modify (histBin t) (· + ns)

/-- A sample of the hottest junction sensor, every 1 ms (R452, R498, R499, R507). -/
def execJunctionSample (tj : Int) (tm : Nat) (s : State) : Host.Outcome State Fault Refusal :=
  let s := s.adv tm
  let warn := s.pI 16 Pid.ageTjWarn * 10
  let hot := if 1250 < tj then some (s.age.tjHot.getD s.nt) else none
  let very := if 1500 < tj then some (s.age.tjVery.getD s.nt) else none
  let was := s.age.tjWarn
  let s := s.modAge fun k =>
    { k with tj := tj, hist := histAdd k.hist tj 1000000, tjWarn := decide (warn < tj), tjHot := hot,
             tjVery := very, xtalSum := k.xtalSum + (s.net.rate : Rat), xtalN := k.xtalN + 1 }
  let s := if s.age.xtalN < 3600000 then s
    else
      let ppm := s.age.xtalSum / (s.age.xtalN : Rat) * 1000000 / 4294967296
      let beyond := decide ((s.pN Pid.ageXtalWarn : Rat) < rabs ppm)
      let was := s.age.xtalWarn
      let s := (s.modAge fun k => { k with xtalSum := 0, xtalN := 0, xtalWarn := beyond }).margin 5 0 ppm
      if beyond && !was then s.raise 0x9006 0 [] else s
  let s := if warn < tj ∧ !was then s.raise 0x0103 0 [] else s
  let s := if hot.any (fun t => decide (t + ms 10 ≤ s.nt)) && !s.faultOn 0x0104 0 then s.raise 0x0104 0 allAxes else s
  .next (if very.any fun t => decide (t + ms 1 ≤ s.nt) then s.deviceReset 5 0 else s)

/-- The histograms go to flash every 24 h (R499). -/
def execLifeFlush (tm : Nat) (s : State) : Host.Outcome State Fault Refusal :=
  let s := s.adv tm
  .next (if s.age.flushAt + secs 86400 ≤ s.nt then
    s.modAge fun k =>
      { k with flushAt := s.nt, flashHist := k.hist, flashAx := k.axes.map AgeAx.hist } else s)

/-- f_T of R503 at a temperature in °C. -/
def State.derateT (s : State) (t : Int) : Rat :=
  let t0 := s.pI 16 Pid.ageDerateT0
  let t1 := s.pI 16 Pid.ageDerateT1
  let lo := (s.pN Pid.ageDerateMin : Rat) / 100
  if t ≤ t0 then 1 else if t1 ≤ t then lo
  else 1 - (1 - lo) * ((t - t0 : Int) : Rat) / ((t1 - t0 : Int) : Rat)

/-- f_H of R503 at a life consumed in %. -/
def derateH (p : Rat) : Rat := if p < 80 then 1 else if 100 ≤ p then 8 / 10 else 1 - (p - 80) / 100

/-- The bridge temperature of an axis in °C: TEMP of its slot in the latest STAT (R87, R503). -/
def State.bridgeTemp (s : State) (a : Fin 128) : Option Int :=
  s.links[linkOf a].stat.map fun r => r.temp[slotOf a]

/-- The derating of an axis (R503), which the next commit puts in force (R505): a fall at once, a rise by at most 1 % per
second. -/
def execDerateUpdate (a : Fin 128) (tm : Nat) (s : State) : Host.Outcome State Fault Refusal :=
  let s := s.adv tm
  if !s.fwRuns || !s.drives then .next s else
  let x := s.age.axes[a]
  let ft := match s.bridgeTemp a with
    | some t => s.derateT t
    | none => 1
  let fh := derateH (lifeOf x.hist (s.pN Pid.ageBridgeLife))
  let goal := rmin ft fh
  let rise := x.f + (((s.nt - x.fAt : Nat) : Rat) / 1000000000) / 100
  let f := if goal < x.f then goal else rmin goal rise
  let again := decide (fh ≤ x.fhRaised - 5 / 100)
  let first := decide (f < 1) && !x.below
  let y := { x with f := f, fAt := s.nt, below := decide (f < 1), fhRaised := if again then fh else x.fhRaised }
  let s := s.modAge fun k => { k with axes := k.axes.set a y }
  let s := if f = x.f then s else s.replanned 7 a.val
  .next (if s.pN Pid.ageDerate = 1 ∧ (first ∨ again) then s.raise 0x9003 0 [] a.val else s)

/-- The hourly scaling of the sensorless thresholds of an axis (R504), in force from the next commit (R505). -/
def execKeScaleUpdate (a : Fin 128) (tm : Nat) (s : State) : Host.Outcome State Fault Refusal :=
  let s := s.adv tm
  let x := s.age.axes[a]
  if !s.fwRuns || !s.drives || decide (s.nt < x.kAt + secs 3600) || x.keN = 0 then .next s else
  let mean := x.keSum / (x.keN : Rat)
  let goal := clampRat (7 / 10) 1 mean
  let k := clampRat (x.k - 1 / 100) (x.k + 1 / 100) goal
  let s := s.modAge fun y => { y with axes := y.axes.set a { x with k := k, kAt := s.nt, keSum := 0, keN := 0 } }
  let s := s.margin 9 a.val mean
  .next (if k = x.k then s else s.replanned 9 a.val)

/-! Engine tests. -/

/-- The engine whose slice runs in this frame: one whose failed slice is repeated, else the next in the rotation
(R508, R509). -/
def State.sliceRepeat (s : State) : Option (Fin 8) :=
  allClusters.find? fun c => s.age.etest[c].any fun e => decide (e.tries < 3)

/-- A slice fits into the slack of its engine (R38, R508): the engine has written its last schedule, and the slice
ends by tick + 9.5 µs; so none starts in the quiet window (R27).  A slice that does not fit waits for the next frame.
DESIGN CHOICE (log 151): the slices of an engine without power are passed over. -/
def State.sliceFits (s : State) : Bool :=
  let c : Fin 8 := s.sliceRepeat.getD (fin 8 (by decide) s.age.slice)
  s.age.sliceTick != some s.frame.tick &&
  (!s.axOn c ||
   (s.frame.finished.getLsbD c.val && decide (s.frame.doneAt[c] ≤ s.nt ∧ s.nt ≤ s.frame.tick + 9500)))

/-- The slice of the frame ran (R508, R509): a failed slice is repeated in the next 3 frames. -/
def execEngineTestSlice (ok : Bool) (tm : Nat) (s : State) : Host.Outcome State Fault Refusal :=
  let s := s.adv tm
  if !s.frame.ticking || !s.fullService || !s.sliceFits then .next s else
  let rep := s.sliceRepeat
  let s := s.modAge fun k => { k with sliceTick := some s.frame.tick }
  match rep with
  | some c => .next (s.modAge fun k =>
      { k with etest := k.etest.set c (k.etest[c].map fun e =>
          { e with tries := e.tries + 1, fails := e.fails + b2n (!ok) }) })
  | none =>
    let n := s.age.slice
    let c : Fin 8 := fin 8 (by decide) n
    let last := n + 1 = 1024
    .next (s.modAge fun k =>
      { k with slice := if last then 0 else n + 1, cycles := if last then count32 k.cycles else k.cycles,
               etest := if ok then k.etest else k.etest.set c (some { slice := n, tries := 0, fails := 0 }) })

/-- The microcode store of an engine is checked by CRC-32C (R508). -/
def execMicrocodeCrc (c : Fin 8) (ok : Bool) (tm : Nat) (s : State) : Host.Outcome State Fault Refusal :=
  let s := s.adv tm
  .next (if ok then s else s.modAge fun k => { k with mcFail := k.mcFail ||| (1#8 <<< c.val) })

/-- The engine of a cluster failed its test (R509): the cluster is isolated. -/
def execEngineTest (c : Fin 8) (tm : Nat) (s : State) : Host.Outcome State Fault Refusal :=
  let s := s.adv tm
  let e := s.age.etest[c]
  let done := e.any fun e => decide (3 ≤ e.tries)
  let bad := (e.any fun e => decide (3 ≤ e.tries ∧ 2 ≤ e.fails)) || s.age.mcFail.getLsbD c.val
  let s := if done then s.modAge fun k => { k with etest := k.etest.set c none } else s
  .next (if bad then
    (s.modAge fun k => { k with isolated := k.isolated ||| (1#8 <<< c.val),
                                mcFail := k.mcFail &&& ~~~(1#8 <<< c.val) }).raise 0x9005 c.val (clusterAxes c)
  else s)

/-- AGE.CLUSTER.TEST (R510). -/
def execAgeClusterTest (m : Fin 16) (tm : Nat) (s : State) : Host.Outcome State Fault Refusal :=
  .next (s.serveCall m tm 0x0A00F001 4
    (fun t p =>
      let c : Fin 8 := fin 8 (by decide) (fld p 0 1)
      if 7 < fld p 0 1 ∨ fld p 1 3 ≠ 0 then .fail stRange
      else if !(clusterAxes c).all t.axOff then .fail stState
      else .wait (t.modAge fun k => { k with clt := k.clt.set c (some ⟨t.nt, m.val⟩) }) (.call 0x0A00F001))
    (fun t => t.age.clt.toList.any Option.isSome))

/-- The cluster test ends (R510): a pass clears the isolation. -/
def execClusterTestDone (c : Fin 8) (fail : Bool) (item tm : Nat) (s : State) : Host.Outcome State Fault Refusal :=
  let s := s.adv tm
  if s.age.clt[c].isNone then .next s else
  let s := s.modAge fun k => { k with clt := k.clt.set c none }
  let s := if fail then s
    else s.modAge fun k => { k with isolated := k.isolated &&& ~~~(1#8 <<< c.val),
                                    mcFail := k.mcFail &&& ~~~(1#8 <<< c.val), etest := k.etest.set c none }
  .next (s.callDone 0x0A00F001 stOk (leBytes 1 (b2n fail) ++ leBytes 1 (if fail then item else 0)))

/-- AGE.AXIS.RESET (R511): the motor items of an axis are reset. -/
def execAgeAxisReset (m : Fin 16) (tm : Nat) (s : State) : Host.Outcome State Fault Refusal :=
  .next (s.serveCall m tm 0x0A00F003 4 fun t p =>
    let a := axisNo (fld p 0 1)
    if 127 < fld p 0 1 ∨ fld p 1 3 ≠ 0 then .fail stRange
    else
      let y := { t.age.axes[a] with k := 1, keSum := 0, keN := 0, fricFrom := none, fricSum := 0, fricN := 0 }
      .done (t.modAge fun k =>
        { k with axes := k.axes.set a y,
                 items := k.items.filter fun x => !((x.kind == 9 || x.kind == 10) && x.inst == a.val) }))

/-- AGE.PORT.LOOP (R512). -/
def execAgePortLoop (m : Fin 16) (tm : Nat) (s : State) : Host.Outcome State Fault Refusal :=
  .next (s.serveCall m tm 0x0A00F002 4
    (fun t p =>
      let port := fld p 0 1
      let mode := fld p 1 1
      let net := netOf port
      let other : Fin 2 := fin 2 (by decide) (1 - net)
      let up (i : Nat) : Bool := (t.net.ports[fin 4 (by decide) i]).link
      let u := (t.net.units[other]).state
      if 3 < port ∨ mode < 1 ∨ 2 < mode ∨ fld p 2 2 ≠ 0 then .fail stRange
      else if !(up (2 * other.val) && up (2 * other.val + 1)) ||
          !(u == .locked || u == .locking || u == .master) ||
          (t.net.driver == net && t.pN Pid.ptpSource != 2) then .fail stState
      else
        let i : Fin 4 := fin 4 (by decide) port
        let t := t.modNet fun n => { n with ports := n.ports.set i { n.ports[i] with looped := true } }
        .wait (t.fwdOkSet.modAge fun k => { k with loop := some ⟨port, mode, t.nt, m.val⟩ }) (.call 0x0A00F002))
    (fun t => t.age.loop.isSome))

/-- The port loop ends (R512). -/
def execPortLoopDone (errors sum tm : Nat) (s : State) : Host.Outcome State Fault Refusal :=
  let s := s.adv tm
  match s.age.loop with
  | none => .next s
  | some x =>
    if s.nt < x.since + ms (s.pN Pid.netBypassLead) then .next s else
    let i : Fin 4 := fin 4 (by decide) x.port
    let s := s.modNet fun n => { n with ports := n.ports.set i { n.ports[i] with looped := false } }
    let s := s.fwdOkSet.modAge fun k => { k with loop := none }
    .next (s.callDone 0x0A00F002 stOk (leBytes 4 errors ++ leBytes 4 (if x.mode = 2 then sum else 0)))

/-! Firmware restart. -/

/-- The device enters SERVICE (R513 to R515): hardware answers the mailboxes BUSY, sessions end, and the
ROM chooses the image that restarts, unless the device stays in SERVICE. -/
def State.enterService (s : State) : State :=
  let was := if s.pwr.state == .service then s.pwr.serviceWas else s.pwr.state
  let s := s.each (allMbx.filter fun m => s.mbx[m].state == .executing) fun t m => t.restartMbx m
  let s := s.endSessions
  let s := if s.age.fwStuck then s else s.modSec SecSt.restartSelect
  let s := s.modPwr fun p => { p with serviceWas := was }
  let s := s.modAge fun k =>
    { k with serviceFrom := s.nt, restartReq := none
             fwRestarts := if k.fwStuck then k.fwRestarts else count32 k.fwRestarts }
  let s := s.modPwr fun p => { p with state := .service }
  (((s.irq (irqBit 21)).irq (irqBit 20)).event 0x0101 0 s.status11).event 0x0104 0 1

/-- A restart asked by a call begins at the tick after its answer (R513). -/
def State.restartDue (s : State) : State :=
  if s.age.restartReq.isSome && s.answered && s.fwRuns then s.enterService else s

/-- AGE.FW.RESTART (R513). -/
def execAgeFwRestart (m : Fin 16) (tm : Nat) (s : State) : Host.Outcome State Fault Refusal :=
  .next (s.serveCall m tm 0x0A00F004 0 fun t _ =>
    .done (t.modAge fun k => { k with restartReq := some t.nt }))

/-- The firmware watchdog, or a lockstep mismatch (R513): after the third restart within 1 h the device
stays in SERVICE. -/
def execFwWatchdog (lockstep : Bool) (tm : Nat) (s : State) : Host.Outcome State Fault Refusal :=
  let s := s.adv tm
  let stuck := s.pwr.state == .service && !s.age.fwStuck && decide (s.age.serviceFrom + ms 1500 ≤ s.nt)
  let dead := s.fwRuns && (lockstep || decide (s.host.fwAliveAt + ms (s.pN Pid.ageFwWdogT) ≤ s.nt))
  if !(stuck || dead) then .next s else
  let s := s.raise 0x0102 0 []
  let l := within (secs 3600) s.nt (s.nt :: s.age.wdogAt)
  let s := s.modAge fun k => { k with wdogAt := l, fwStuck := decide (4 ≤ l.length) }
  .next s.enterService

/-- SERVICE ends (R515): the restarted firmware passed its self-checks. -/
def execServiceLeave (tm : Nat) (s : State) : Host.Outcome State Fault Refusal :=
  let s := s.adv tm
  if s.pwr.state == .service && !s.age.fwStuck && s.sec.bootable && decide (s.age.serviceFrom + ms 60 ≤ s.nt) then
    let s := s.modHost fun h => { h with fwAliveAt := s.nt }
    let fb := s.sec.fallback
    let rb := s.sec.rollback
    let s := ((s.irq (irqBit 21)).setDev s.pwr.serviceWas).event 0x0104 0 0
    let s := s.modSec fun k => { k with fallback := false, rollback := false }
    let s := if fb then s.raise 0x8001 0 [] else s
    .next (if rb then s.raise 0x8002 0 [] else s)
  else .next s

/-- SYS_FW_ALIVE counts every 1 ms while the firmware runs (R43). -/
def execFwAlive (tm : Nat) (s : State) : Host.Outcome State Fault Refusal :=
  let s := s.adv tm
  .next (if s.fwRuns && decide (s.host.fwAliveAt + ms 1 ≤ s.nt) then s.modHost fun h =>
    { h with fwAlive := count32 h.fwAlive, fwAliveAt := s.nt } else s)

end Sys2Proof.Machine
end

