-- ==== Sys2Proof/Machine/BringUp.lean ====
section
/-! DEFINITION. The rest of bring-up and the exit from deep sleep (R457 to R460, R464). -/

namespace Sys2Proof.Machine

/-- A restored set is committed at one tick (R457, R464), with the effects of a commit.  An axis whose serial sensor
counts turns is referenced (R188). -/
def State.restoreSet (s : State) (l : List PEntry) : State :=
  let t := s.modPar fun p => { p with store := l.foldl storePut p.store, restored := true }
  let t := s.commitEffects t
  t.each allAxes fun u a =>
    let src := u.pN (Pid.axFbkSource a.val)
    if (src = 4 ∨ src = 5) ∧ 0 < u.pN (Pid.axFbkSerMtBits a.val) then
      u.modAxis a fun x => { x with fbk := { x.fbk with unref := false } } else u

/-- The saved set is restored from flash (R457): a set that fails its check leaves the defaults, with fault 0x0101 and
full service in CONFIG. -/
def State.restoreFlash (s : State) : State :=
  match s.par.flash with
  | none => s.restoreSet []
  | some l =>
    if s.par.flashGood then s.restoreSet l
    else ((s.restoreSet []).modPar fun p => { p with restoreBad := true }).raise 0x0101 0 [] (l.length % 65536)

/-- PARAM_RESTORE (R457). -/
def execParamRestore (tm : Nat) (s : State) : Host.Outcome State Fault Refusal :=
  let s := s.adv tm
  .next (if s.pwr.state == .ristretto && !s.par.restored then s.restoreFlash.safBoot else s)

/-- Every enabled link is UP, or has been tried for 20 ms (R458). -/
def State.linksTried (s : State) : Bool :=
  allLinks.all (fun l => s.pN (Pid.lnkEnable l.val) = 0 || s.links[l].state == .up) ||
  decide (s.pwr.origin + us s.pwr.ristrettoT + ms 20 ≤ s.nt)

/-- FULL_SERVICE (R458, R459): OPERATE when `PWR.START_STATE` is 1 and no value was lost, else CONFIG. -/
def execFullService (tm : Nat) (s : State) : Host.Outcome State Fault Refusal :=
  let s := s.adv tm
  if s.pwr.state == .ristretto && s.par.restored && (!s.ib || s.saf.armed) && s.linksTried then
    let s := s.modPwr fun p => { p with fullT := (s.nt - p.origin) / 1000 }
    .next (s.setDev (if s.pN Pid.pwrStartState = 1 ∧ !s.par.restoreBad then .operate else .config))
  else .next s

/-- Each stage's exponent at its floor, as at a reset (R200). -/
def State.expReset (s : State) (a : Fin 128) : State :=
  let f := bfpFloor (s.refFf a)
  s.modAxis a fun x => { x with eng := { x.eng with st := { x.eng.st with
    posE := bfpFloor (s.refPos a), velE := bfpFloor (s.refVel a), curE := bfpFloor (s.refCur a), ffE := f,
    rptE := bfpFloor (s.refRpt a), fltE := Vector.replicate 2 f } } }

/-- An AX domain is usable (R99, R124, R200, R463): its engine starts with every exponent at its floor, its links
train, and a trip pin that is active latches with the switch-on instant as its stamp (R467). -/
def State.axReady (s : State) (c : Fin 8) (onAt : Nat) : State :=
  let s := s.each (clusterAxes c) State.expReset
  let s := s.each (clusterLinks c) State.linkTrain
  let p : Fin 8 := c
  if s.pinUsed p && s.pins[p].active then s.pinLatch p onAt false else s

/-- DOMAIN_READY (R460): the switch-on time of a domain is over. -/
def execDomainReady (i : Fin 16) (tm : Nat) (s : State) : Host.Outcome State Fault Refusal :=
  let s := s.adv tm
  match s.pwr.switching.find? fun x => x.1 == i.val && decide (x.2 + switchTime i.val ≤ s.nt) with
  | some x =>
    let s := s.modPwr fun p => { p with switching := p.switching.filter (·.1 != i.val) }
    .next (if h : i.val < 8 then s.axReady ⟨i.val, h⟩ x.2 else s)
  | none => .next s

/-- The P-channel takes the block in force again after deep sleep (R464, R427): every group is in STO; a block in flash
that fails its CRC enters SAFE. -/
def State.safWake (s : State) : State :=
  if !s.ib then s else
  match s.saf.flash with
  | none => s
  | some b =>
    if s.saf.flashGood then
      (s.modChan 0 fun c => { c with block := b, configured := true, crc := blockCrc 0 b }).safDone
    else (s.safFault 0x700B 0 0 allGroups).enterSafe

/-- DEEP_SLEEP_EXIT (R464): 8 ms after the wake, parameters come back from the retention store, the other domains and
the named AX domains are switched on, and the device is in the state it held. -/
def execDeepSleepExit (tm : Nat) (s : State) : Host.Outcome State Fault Refusal :=
  let s := s.adv tm
  match s.pwr.deep with
  | .waking t clusters was =>
    if t + ms 8 ≤ s.nt ∧ s.domainOn 8 = true then
      let s := s.each [9, 12, 13, 15] State.domOn
      let kept := s.pwr.retention
      let s := s.modPwr fun p => { p with deep := .awake, retention := none, state := was, lastCmd := s.nt }
      let s := s.startTicks
      let s := match kept with
        | some l => s.restoreSet l
        | none => s.restoreFlash
      .next (s.safWake.each (allClusters.filter fun c => bit clusters c.val) State.wakeCluster)
    else .next s
  | .awake | .requested _ | .asleep _ _ => .next s

end Sys2Proof.Machine
end

