-- ==== Sys2Proof/Machine/Capture.lean ====
section
/-! DEFINITION. Trigger and capture (R329 to R348). -/

namespace Sys2Proof.Machine

/-! Sources (R220, R330, R331). -/

/-- KIND, instance and signal of a source code. -/
def srcKind (c : Nat) : Nat := bits c 31 24
/-- Instance. -/
def srcInst (c : Nat) : Nat := bits c 23 16
/-- Signal. -/
def srcSig (c : Nat) : Nat := bits c 15 0

/-- A source is stored as U32 (R330). -/
def srcU32 (c : Nat) : Bool :=
  (srcKind c = 3 && srcSig c = 2) || (srcKind c = 4 && srcSig c != 0x13) || (srcKind c = 5 && srcSig c = 3)

/-- A source fits a sampling mode (R330); a record source names the link of `CAP.REC.SEL`. -/
def srcFits (mode sel c : Nat) : Bool :=
  let sg := srcSig c
  match srcKind c with
  | 1 => mode != 1 && decide (srcInst c < 128) && decide (1 ≤ sg ∧ sg ≤ 0x12)
  | 2 => mode != 1 && decide (srcInst c < 32) && decide (1 ≤ sg ∧ sg ≤ 6)
  | 3 => mode == 2 && (sg == 1 || sg == 2) && srcInst c == bits sel 15 8
  | 4 => (sg == 1 && decide (srcInst c < 4)) || (decide (0x10 ≤ sg ∧ sg ≤ 0x13) && srcInst c == 0)
  | 5 => mode != 1 && decide (1 ≤ sg ∧ sg ≤ 3)
  | _ => false

/-- An engine signal (R220). -/
def State.engSignal (s : State) (a : Fin 128) (sg : Nat) : Rat :=
  let e := s.axes[a].eng
  let st := e.st
  let cts (x : Int) : Rat := (x : Rat) / 4294967296
  let inj : Nat := match e.inj with
    | .idle => 0 | .running => 1 | .done => 2 | .aborted => 3
  match sg with
  | 1 => cts e.posSp
  | 2 => cts s.axes[a].fbk.pos
  | 3 => cts e.ep
  | 4 => e.vCmd
  | 5 => e.vAct
  | 6 => bfpVal st.velE st.velEv
  | 7 => bfpVal st.velE st.velXv
  | 8 => bfpVal st.velE st.velYv
  | 9 => bfpVal st.ffE st.iff
  | 10 => bfpVal st.rptE st.r
  | 11 => e.iSp
  | 12 => e.iAct
  | 13 => e.iActB
  | 14 => bfpVal st.curE st.u[0]
  | 15 => e.d
  | 16 => e.vbusC
  | 17 => e.injS
  | _ => ((s.engStat a / 2 ^ 56 + inj * 256 : Nat) : Rat)

/-- The field inputs from `lo` on, up to `n` of them, as bits. -/
def State.finBits (s : State) (lo n : Nat) : Nat := s.fioLevels / 2 ^ lo % 2 ^ n

/-- The value of a source in a source sample, with the record that clocks record mode; none where it has no value
(R331). -/
def State.capSource (s : State) (c : Nat) (r : CapVal × Nat) : Option CapVal :=
  let sg := srcSig c
  match srcKind c with
  | 1 =>
    let a := axisNo (srcInst c)
    if s.axOn (clusterOf a) then some (.f (s.engSignal a sg)) else none
  | 2 =>
    let l := linkNo (srcInst c)
    if !(s.axOn (clusterOfLink l) && s.links[l].state == .up) then none
    else if sg = 6 then some (.f (s.linkDelay l / 1000))
    else s.links[l].stat.map fun x =>
      if sg = 1 then .f ((x.vbus : Rat) / 100) else .f ((x.temp[fin 4 (by decide) (sg - 2)] : Int) : Rat)
  | 3 => if sg = 1 then some r.1 else some (.u (BitVec.ofNat 32 r.2))
  | 4 => match sg with
    | 1 => some (.u (BitVec.ofInt 32 (s.ports[fin 4 (by decide) (srcInst c)]).count))
    | 0x10 => some (.u (BitVec.ofNat 32 (allPins.foldl (fun n p => n + b2n s.pins[p].active * 2 ^ p.val) 0)))
    | 0x11 => some (.u (BitVec.ofNat 32 (s.finBits 0 32)))
    | 0x12 => some (.u (BitVec.ofNat 32 (s.finBits 32 8 + s.fio.cmd.toNat * 256)))
    | _ => some (.f ((s.fio.fv24 : Rat) / 100))
  | _ =>
    let x := s.trk.ctx[fin 256 (by decide) (srcInst c)]
    if x.state == .free then none
    else match sg with
      | 1 => some (.f ((x.pos : Rat) / 4294967296))
      | 2 => some (.f x.vel)
      | _ => some (.u (BitVec.ofNat 32 x.zone))

/-- The enabled channels of a configuration. -/
def CapCfg.chans (g : CapCfg) : List (Fin 16) := allMbx.filter fun i => g.src[i] != 0

/-- The number of a value; none for a NaN. -/
def CapVal.num : CapVal → Option Rat
  | .f v => some v
  | .nan => none
  | .u w => some w.toNat

/-- A value as it is stored (R330, R331). -/
def CapVal.word : CapVal → Word
  | .f v => BitVec.ofNat 32 (f32Enc v)
  | .nan => 0x7FC00000
  | .u w => w

/-- What is stored where a source has no value (R331). -/
def gapOf (c : Nat) : CapVal := if srcU32 c then .u 0xFFFFFFFF else .nan

/-! Conditions (R334 to R336). -/

/-- A condition of a channel in a source sample (R334). -/
def condChan (g : CapCfg) (x : Fin 4) (st : CondSt) (v : CapVal) : Bool × CondSt :=
  match v.num with
  | none => (false, { st with prev := none })
  | some q =>
    let l := g.level[x]
    let h := g.hyst[x]
    let w := v.word &&& BitVec.ofNat 32 (g.tmask[x])
    let next (armed : Bool) (hit : Bool) : CondSt := { prev := some q, primed := !hit && (st.primed || armed) }
    match g.ttyp[x] with
    | 1 =>
      let hit := st.prev.any (fun p => decide (p < l)) && decide (l ≤ q) && st.primed
      (hit, next (decide (q < l - h)) hit)
    | 2 =>
      let hit := st.prev.any (fun p => decide (l < p)) && decide (q ≤ l) && st.primed
      (hit, next (decide (l + h < q)) hit)
    | 3 => (decide (l < q), next false false)
    | 4 => (decide (q < l), next false false)
    | 5 => (decide (l ≤ q ∧ q ≤ g.level2[x]), next false false)
    | 6 => (decide (q < l ∨ g.level2[x] < q), next false false)
    | 7 => (decide ((w.toNat : Rat) = l), next false false)
    | _ => (false, next false false)

/-- A condition in a source sample at an instant. -/
def CapSt.cond (c : CapSt) (x : Fin 4) (vals : Vector CapVal 16) (inst : Nat) : Bool × CondSt :=
  let g := c.cfg
  let src := g.tsrc[x]
  if g.ttyp[x] = 8 then
    (c.events.any fun e => e.1 == bits src 23 16 && e.2.1 == bits src 15 0 && decide (c.lastAt < e.2.2 ∧ e.2.2 ≤ inst),
     c.conds[x])
  else if g.ttyp[x] = 0 then (false, c.conds[x])
  else condChan g x c.conds[x] vals[fin 16 (by decide) (bits src 3 0)]

/-- The trigger decision of a source sample (R336): whether it is the trigger point, and SEQ_A with its count after it. -/
def CapSt.decide_ (c : CapSt) (hit : Vector Bool 4) : Bool × Bool × Nat :=
  let g := c.cfg
  let on (x : Fin 4) : Bool := g.ttyp[x] != 0
  let xs : List (Fin 4) := [0, 1, 2, 3]
  match g.combine with
  | 0 => (xs.any fun x => hit[x], false, 0)
  | 1 => (xs.any on && xs.all fun x => !on x || hit[x], false, 0)
  | _ =>
    let n := c.seqN + 1
    let live := c.seqA && (g.within = 0 || decide (n ≤ g.within))
    if hit[0] && hit[1] && g.sameOk then (true, false, 0)
    else if hit[0] then (false, true, 0)
    else if hit[1] && live then (true, false, 0)
    else (false, live, if live then n else 0)

/-! Stored samples (R332, R333). -/

/-- The stored values of a channel: the source samples of its group in time order. -/
def storedOf (reduce : Nat) (u32 : Bool) (xs : List CapVal) : List CapVal :=
  let two (a b : CapVal) : List CapVal := if reduce = 2 then [a, b] else [a]
  match xs with
  | [] => []
  | x :: rest =>
    if u32 then
      let l := rest.getLastD x
      two l l
    else
      let ns := xs.filterMap CapVal.num
      if ns.length < xs.length then two .nan .nan
      else
        let v := (x.num).getD 0
        let lo := ns.foldl rmin v
        let hi := ns.foldl rmax v
        if reduce = 0 then [x]
        else if reduce = 1 then [.f (ns.foldl (· + ·) 0 / (ns.length : Rat))]
        else [.f lo, .f hi]

/-- A limit of the mask (R341, R342): none where it is a NaN. -/
def CapCfg.limit (g : CapCfg) (n : Fin 16) (j : Nat) (upper : Bool) : Option Rat :=
  let w := fld g.mask ((n.val * 64 + j) * 8 + (if upper then 0 else 4)) 4
  if bits w 30 23 = 255 ∧ bits w 22 0 ≠ 0 then none else some (f32Dec w)

/-- The violation of a limit by a value (R341). -/
def violates (upper : Bool) (lim : Option Rat) (v : CapVal) : Bool :=
  match lim with
  | none => false
  | some l => match v.num with
    | none => true
    | some q => if upper then decide (l < q) else decide (q < l)

/-- The first violation of a stored sample, post-trigger sample `q`: channel, segment, upper (R341, R343). -/
def CapCfg.violation (g : CapCfg) (q : Nat) (stored : List (Fin 16 × List CapVal)) : Option (Nat × Nat × Bool) :=
  let j := q / g.segLen
  if g.maskAct = 0 ∨ 64 ≤ j then none
  else
    let l := (stored.filter fun x => bit g.maskEn x.1.val).flatMap fun x =>
      let lo := x.2.headD .nan
      let hi := x.2.getLastD .nan
      (if violates true (g.limit x.1 j true) hi then [(x.1.val, j, true)] else []) ++
      (if violates false (g.limit x.1 j false) lo then [(x.1.val, j, false)] else [])
    l.head?

/-- A run begins (R339): at arming, and in repeat mode at the next source sample. -/
def CapSt.newRun (c : CapSt) : CapSt :=
  { c with state := if c.cfg.p = 0 then .wait else .fill, held := 0, post := 0, group := [], groupN := 0, mtch := 0,
           forced := false, forceNext := false, maskFail := false, seqA := false, seqN := 0, preAct := 0, count := 0 }

/-- A stored sample is written at the next ring index (R332, R344). -/
def CapSt.store (c : CapSt) (stored : List (Fin 16 × List CapVal)) : CapSt :=
  let g := c.cfg
  let ws := (if g.mode = 2 then [BitVec.ofNat 32 c.groupAt] else []) ++
    stored.flatMap fun x => x.2.map CapVal.word
  { c with carafe := wordPuts c.carafe (c.wr * g.w) ws, times := (c.wr, c.groupAt) :: c.times.filter (·.1 != c.wr)
           wr := (c.wr + 1) % g.cap, held := min g.cap (c.held + 1), group := [], groupN := 0 }

/-- The indexes of the capture so far (R344, R345). -/
def CapSt.indexed (c : CapSt) : CapSt :=
  let st := (c.trigIdx + c.cfg.cap - c.preAct) % c.cfg.cap
  { c with count := c.preAct + c.post, start := st
           firstNt := ((c.times.find? fun x => x.1 == st).map (·.2)).getD 0 }

/-- The group in progress is complete: its stored sample is written, tested and counted (R332, R339, R343). -/
def State.capClose (s : State) : State :=
  let c := s.cap
  let g := c.cfg
  let order := c.group.reverse
  let chans := g.chans
  let stored := (List.range chans.length).map fun k =>
    let n := chans.getD k 0
    (n, storedOf g.reduce (srcU32 g.src[n]) (order.map fun v => v.getD k .nan))
  let q := c.post
  let c := c.store stored
  match c.state with
  | .fill => s.modCap fun _ => if g.p ≤ c.held then { c with state := .wait } else c
  | .post =>
    let c := { c with post := q + 1 }.indexed
    let first := g.violation q stored
    let fail := first.isSome && !c.maskFail
    let stop := first.isSome && g.maskAct = 2
    let full := decide (g.q ≤ c.post)
    let code := match first with
      | some (n, j, up) => n * 2 ^ 60 + j * 2 ^ 54 + b2n up * 2 ^ 53 + q % 2 ^ 32
      | none => 0
    let c := { c with maskFail := c.maskFail || first.isSome, maskFirst := if fail then code else c.maskFirst }
    let c := if full then { c with state := .done, runs := count32 c.runs } else c
    let c := if stop then { c with state := .done, stopAfter := true } else c
    let s := s.modCap fun _ => c
    let s := if fail then (s.event 0x5083 0 code).raise 0x5001 0 [] else s
    if full then s.event 0x5082 0 (c.runs % 2 ^ 32 + b2n c.maskFail * 2 ^ 32) else s
  | .idle | .wait | .done | .stopped => s.modCap fun _ => c

/-- The trigger point (R336, R337, R339). -/
def State.capTrigger (s : State) (hit : Vector Bool 4) : State :=
  let c := s.cap
  let m : BitVec 4 := BitVec.ofNat 4 (b2n hit[0] + b2n hit[1] * 2 + b2n hit[2] * 4 + b2n hit[3] * 8)
  (s.modCap fun c => { c with state := .post, mtch := m, forced := c.forceNext, forceNext := false, seqA := false
                              trigIdx := c.wr, trigNt := c.groupAt, preAct := min c.cfg.p c.held, post := 0 }).event
    0x5081 0 (m.toNat + b2n c.forceNext * 16 + c.groupAt % 2 ^ 32 * 2 ^ 32)

/-- The unit is armed. -/
def CapSt.armed (c : CapSt) : Bool :=
  match c.state with
  | .fill | .wait | .post => true
  | .idle | .done | .stopped => false

/-- A source sample is taken at an instant (R329 to R339). -/
def State.capTake (s : State) (inst : Nat) (r : CapVal × Nat) : State :=
  let s := if s.cap.state == .done && s.cap.cfg.rep && !s.cap.stopAfter then s.modCap CapSt.newRun else s
  if !s.cap.armed then s else
  let g := s.cap.cfg
  let got := g.chans.map fun n => (n, s.capSource g.src[n] r)
  let vals := got.map fun x => x.2.getD (gapOf g.src[x.1])
  let gap := got.any fun x => x.2.isNone
  let byCh : Vector CapVal 16 := Vector.ofFn fun n =>
    match got.find? fun x => x.1 == n with
    | some x => x.2.getD (gapOf g.src[n])
    | none => .nan
  let c := s.cap
  let ev : Vector (Bool × CondSt) 4 := Vector.ofFn fun x => c.cond x byCh inst
  let hit := ev.map (·.1)
  let (trig, seqA, seqN) := c.decide_ hit
  let look := c.state == .fill || c.state == .wait
  let s := s.modCap fun c =>
    { c with srcGap := c.srcGap || gap, conds := ev.map (·.2), lastAt := inst, n := c.n + 1
             events := c.events.filter fun e => decide (inst < e.2.2)
             group := vals :: c.group, groupN := c.groupN + 1, groupAt := if c.groupN = 0 then inst else c.groupAt
             seqA := look && seqA, seqN := seqN }
  let s := if look && (trig || c.forceNext) then s.capTrigger hit else s
  if g.decim ≤ s.cap.groupN then s.capClose else s

/-- CAPTURE_SAMPLE (R329): the source sample that the sampling mode has due. -/
def execCaptureSample (tm : Nat) (s : State) : Host.Outcome State Fault Refusal :=
  let s := s.adv tm
  let c := s.cap
  let g := c.cfg
  if !s.domainOn 13 || !(c.armed || (c.state == .done && g.rep && !c.stopAfter)) then .next s
  else match g.mode with
    | 0 => .next (if s.frame.tick + 9500 ≤ s.nt ∧ (c.n = 0 ∨ c.lastAt < s.frame.tick) then
        s.capTake s.frame.tick (.nan, 0) else s)
    | 1 =>
      let t := c.armTick + 14000 + c.n * g.period
      .next (if t ≤ s.nt then s.capTake t (.nan, 0) else s)
    | _ =>
      let l := c.recs
      let s := s.modCap fun c => { c with recs := [] }
      .next (s.each l fun t x => t.capTake x.1 (x.2.1, x.2.2))

/-! Calls (R337 to R340). -/

/-- The configuration that a commit latches (R338, R339). -/
def State.capLatch (s : State) : CapCfg :=
  let w := s.capWords
  let c := capC w
  let q0 := s.pN Pid.capPost
  let p0 := s.pN Pid.capPre
  let q := min q0 c
  let p := if c < q0 then 0 else min p0 (c - q)
  { mode := s.pN Pid.capMode, rep := s.pN Pid.capRun = 1, reduce := s.pN Pid.capReduce, decim := s.pN Pid.capDecim
    period := s.pN Pid.capPeriod, recSel := s.pN Pid.capRecSel, combine := s.pN Pid.capTrigCombine
    sameOk := s.pN Pid.capSeqSameOk = 1, within := s.pN Pid.capSeqWithin, maskEn := s.pN Pid.capMaskEn
    segLen := s.pN Pid.capMaskSegLen, maskAct := s.pN Pid.capMaskAction
    src := Vector.ofFn fun n => s.pN (Pid.capChSrc n.val)
    tsrc := Vector.ofFn fun x => s.pN (Pid.capTSrc x.val), ttyp := Vector.ofFn fun x => s.pN (Pid.capTType x.val)
    level := Vector.ofFn fun x => s.pF (Pid.capTLevel x.val)
    level2 := Vector.ofFn fun x => s.pF (Pid.capTLevel2 x.val)
    hyst := Vector.ofFn fun x => s.pF (Pid.capTHyst x.val), tmask := Vector.ofFn fun x => s.pN (Pid.capTMask x.val)
    mask := s.cap.maskFile, p := p, q := q, cap := c, w := w }

/-- A condition's source fits its type (R335). -/
def condFits (src typ : Nat) : Bool :=
  let arg := bits src 15 0
  if typ = 0 then true
  else if typ = 8 then
    bits src 31 24 = 1 && (match bits src 23 16 with
      | 1 => decide (arg < 128)
      | 2 | 6 => true
      | 3 => decide (arg ≤ 5)
      | 4 => decide (arg < 8)
      | 5 => decide (arg < 40)
      | _ => false)
  else bits src 31 24 = 0

/-- CAP.ARM finds the configuration valid (R330, R333, R335, R336). -/
def CapCfg.valid (g : CapCfg) : Bool :=
  let xs : List (Fin 4) := [0, 1, 2, 3]
  decide (1 ≤ g.w ∧ g.w ≤ 16) && !g.chans.isEmpty && (g.chans.all fun n => srcFits g.mode g.recSel g.src[n]) &&
  (xs.all fun x => condFits g.tsrc[x] g.ttyp[x]) && (g.combine != 2 || (g.ttyp[2] == 0 && g.ttyp[3] == 0))

/-- The unit is armed at a tick (R338, R339). -/
def State.capArmed (s : State) (g : CapCfg) : State :=
  let cl := g.q != s.pN Pid.capPost || g.p != s.pN Pid.capPre
  s.modCap fun c => CapSt.newRun
    { c with cfg := g, armTick := s.frame.tick, wr := 0, clamped := cl, srcGap := false, runs := 0
             conds := Vector.replicate 4 {}, events := [], lastAt := s.frame.tick, recs := [], n := 0, stopAfter := false
             times := [] }

/-- A capture call at the commit that applies it: 1 CAP.ARM, 2 CAP.FORCE, 3 CAP.STOP (R337, R339). -/
def State.capCall (s : State) (m k : Nat) : State :=
  let c := s.cap
  let id := 0x5000F000 + k
  match k with
  | 1 =>
    let g := s.capLatch
    if c.armed then s.lateAnswer m id stState []
    else if g.valid then (s.capArmed g).lateAnswer m id stOk []
    else s.lateAnswer m id stRange []
  | 2 => match c.state with
    | .fill | .wait => (s.modCap fun c => { c with forceNext := true }).lateAnswer m id stOk []
    | .post => s.lateAnswer m id stOk []
    | .idle | .done | .stopped => s.lateAnswer m id stState []
  | _ => match c.state with
    | .fill | .wait => (s.modCap fun c => { c with state := .stopped, count := 0 }).lateAnswer m id stOk []
    | .post => (s.modCap fun c =>
        if c.cfg.rep then { c with stopAfter := true } else { c.indexed with state := .stopped }).lateAnswer m id stOk []
    | .done =>
      if c.cfg.rep && !c.stopAfter then (s.modCap fun c => { c with stopAfter := true }).lateAnswer m id stOk []
      else s.lateAnswer m id stState []
    | .idle | .stopped => s.lateAnswer m id stState []

/-- Capture calls take effect at a tick (R339); CAP.ARM, and what follows it, waits while an RWX parameter of the unit is on
its way (R60). -/
def State.capTick (s : State) : State :=
  let wait := s.rwxClass 0x50 && s.cap.calls.any (·.1 == 1)
  if wait then s else
  let l := s.cap.calls
  let s := s.modCap fun c => { c with calls := [] }
  s.each l fun t x => t.capCall x.2 x.1

/-- A capture call waits for its commit. -/
def State.capWait (s : State) (m : Fin 16) (k : Nat) : Served :=
  if !s.domainOn 13 then .fail stState
  else .wait (s.modCap fun c => { c with calls := c.calls ++ [(k, m.val)] }) (.call (0x5000F000 + k))

/-- CAP.ARM (R339). -/
def execCapArm (m : Fin 16) (tm : Nat) (s : State) : Host.Outcome State Fault Refusal :=
  .next (s.serveCall m tm 0x5000F001 0 fun t _ => t.capWait m 1)

/-- CAP.FORCE (R337). -/
def execCapForce (m : Fin 16) (tm : Nat) (s : State) : Host.Outcome State Fault Refusal :=
  .next (s.serveCall m tm 0x5000F002 0 fun t _ => t.capWait m 2)

/-- CAP.STOP (R339). -/
def execCapStop (m : Fin 16) (tm : Nat) (s : State) : Host.Outcome State Fault Refusal :=
  .next (s.serveCall m tm 0x5000F003 0 fun t _ => t.capWait m 3)

end Sys2Proof.Machine
end

