-- ==== Sys2Proof/Machine/Datagrams.lean ====
section
/-! DEFINITION. IP services of the networks (R376 to R379): ARP, ICMP echo, clear and protected mailbox datagrams, and
event datagrams. -/

namespace Sys2Proof.Machine

/-- An ARP request for the network's address (R376). -/
def State.isArp (s : State) (f : RxFrame) : Bool :=
  let h := ethHead f.bytes
  h.etype == 0x0806 && beNat ((h.body.drop 6).take 2) == 1 && s.ipMine (netOf f.port) h

/-- An IPv4 packet: its header length in bytes, protocol, source and the bytes after the header. -/
structure Ip4 where
  hlen : Nat
  proto : Nat
  src : Nat
  /-- The packet is a fragment. -/
  frag : Bool
  data : List Byte
deriving DecidableEq, Repr

/-- The IPv4 packet of a frame body, cut to its total length. -/
def ip4Of (b : List Byte) : Ip4 :=
  let hlen := fld b 0 1 % 16 * 4
  { hlen := hlen, proto := fld b 9 1, src := beNat ((b.drop 12).take 4)
    frag := beNat ((b.drop 6).take 2) % 0x4000 != 0
    data := (b.take (beNat ((b.drop 2).take 2))).drop hlen }

/-- An IPv4 packet to the network's address that is no fragment, of a protocol (R376). -/
def State.isIp (s : State) (proto : Nat) (f : RxFrame) : Bool :=
  let h := ethHead f.bytes
  h.etype == 0x0800 && s.ipMine (netOf f.port) h && (ip4Of h.body).proto == proto && !(ip4Of h.body).frag

/-- An ICMP echo request. -/
def State.isEcho (s : State) (f : RxFrame) : Bool :=
  s.isIp 1 f && fld (ip4Of (ethHead f.bytes).body).data 0 1 == 8

/-- A mailbox datagram: what its UDP carries (R377). -/
structure Dgram where
  net : Nat
  mac : Nat
  ip : Nat
  port : Nat
  bytes : List Byte
deriving DecidableEq, Repr

/-- The UDP datagram of a frame. -/
def dgramOf (f : RxFrame) : Dgram :=
  let h := ethHead f.bytes
  let p := ip4Of h.body
  { net := netOf f.port, mac := h.src, ip := p.src, port := beNat (p.data.take 2)
    bytes := (p.data.take (beNat ((p.data.drop 4).take 2))).drop 8 }

/-- A UDP datagram to the mailbox port (R376). -/
def State.isUdp (s : State) (f : RxFrame) : Bool :=
  s.isIp 17 f && beNat (((ip4Of (ethHead f.bytes).body).data.drop 2).take 2) == s.aonN Pid.netUdpPort

/-- A mailbox datagram of a KIND (R377): at most 544 bytes, with a mailbox frame header in its body. -/
def State.isDgram (s : State) (kind : Nat) (f : RxFrame) : Bool :=
  let b := (dgramOf f).bytes
  s.isUdp f && fld b 0 1 == 1 && fld b 1 1 == kind && decide (32 ≤ b.length ∧ b.length ≤ 544)

/-- A frame to the address that no service takes is discarded (R376). -/
def State.dropIp (s : State) : State :=
  s.modNet fun n => { n with rx := n.rx.filter fun f =>
    let h := ethHead f.bytes
    !(h.etype == 0x0806 && !s.isArp f) &&
    !(h.etype == 0x0800 && !s.isEcho f && !s.isDgram 0 f && !s.isDgram 1 f) }

/-- The Internet checksum of a list of bytes. -/
def inetSum (bs : List Byte) : Nat :=
  let rec go : Nat → List Byte → Nat
    | n, a :: b :: rest => go (n + a.toNat * 256 + b.toNat) rest
    | n, [a] => n + a.toNat * 256
    | n, [] => n
  let t := go 0 bs
  let t := t % 65536 + t / 65536
  65535 - (t % 65536 + t / 65536)

/-- The first frame of a service, without those that no service takes. -/
def State.takeIp (s : State) (hit : RxFrame → Bool) : Option (RxFrame × State) := s.dropIp.takeRx hit

/-- An ARP request for the device's address is answered (R376). -/
def execArpRequest (tm : Nat) (s : State) : Host.Outcome State Fault Refusal :=
  let s := s.adv tm
  match s.takeIp s.isArp with
  | none => .next s.dropIp
  | some (f, s) =>
    let h := ethHead f.bytes
    let n := netOf f.port
    let pkt := h.body.take 6 ++ beBytes 2 2 ++ beBytes 6 (s.mac n) ++ beBytes 4 (s.ipAddr n) ++
      (h.body.drop 8).take 10
    .next (s.ethOut (fin 4 (by decide) f.port) (s.ownPrio 12) (ethPad (s.ownHead n h.src 12 0x0806 ++ pkt)) .plain)

/-- An ICMP echo request is answered (R376): same data, source and destination exchanged. -/
def execIcmpEcho (tm : Nat) (s : State) : Host.Outcome State Fault Refusal :=
  let s := s.adv tm
  match s.takeIp s.isEcho with
  | none => .next s.dropIp
  | some (f, s) =>
    let h := ethHead f.bytes
    let n := netOf f.port
    let p := ip4Of h.body
    let icmp0 := leBytes 4 0 ++ p.data.drop 4
    let icmp := patchAt icmp0 2 (beBytes 2 (inetSum icmp0))
    let ip0 := beBytes 2 0x4500 ++ beBytes 2 (20 + icmp.length) ++ beBytes 4 0 ++ beBytes 2 0x4001 ++ beBytes 2 0 ++
      beBytes 4 (s.ipAddr n) ++ beBytes 4 p.src
    let ip := patchAt ip0 10 (beBytes 2 (inetSum ip0))
    .next (s.ethOut (fin 4 (by decide) f.port) (s.ownPrio 12) (ethPad (s.ownHead n h.src 12 0x0800 ++ ip ++ icmp)) .plain)

/-- A clear response header with SEQ copied and status BUSY (R378). -/
def State.udpBusy (s : State) (d : Dgram) : State :=
  s.emit (.udp d.net d.mac d.ip d.port (clearHeader ++ response ((d.bytes.drop 16).take 16) stBusy 0 0 []))

/-- A command of the network enters a mailbox and is rung (R48, R378). -/
def State.netCommand (s : State) (m : Fin 16) (frame : List Byte) : State :=
  s.modMbx m fun b =>
    { b with owner := .net, cmd := Mem.ofList frame, state := .pending, cmdCount := count32 b.cmdCount
             lockWrite := false, bellIgnored := false, bellAt := s.nt, deadlineNow := b.deadline }

/-- SEQ of the command that a mailbox holds. -/
def Mbx.seqNow (b : Mbx) : Nat := if b.state == .executing then fld b.copy 0 2 else fld (b.cmd.gets 0 2) 0 2

/-- The mailbox that serves a clear datagram of the same sender and SEQ (R378). -/
def State.clearRuns (s : State) (d : Dgram) (seq : Nat) : Bool :=
  s.net.clear.any fun x => x.2 == (d.net, d.mac, d.ip, d.port) && (s.mbx[fin 16 (by decide) x.1]).seqNow == seq

/-- A clear mailbox datagram (R378). -/
def execClearDatagram (tm : Nat) (s : State) : Host.Outcome State Fault Refusal :=
  let s := s.adv tm
  match s.takeIp (s.isDgram 0) with
  | none => .next s.dropIp
  | some (f, s) =>
    let d := dgramOf f
    let frame := d.bytes.drop 16
    if !s.fwRuns then .next (s.udpBusy d)
    else if fld d.bytes 2 1 ≠ 0xFF ∨ fld d.bytes 4 4 ≠ 0 ∨ s.clearRuns d (fld frame 0 2) = true then .next s
    else match allMbx.find? fun m => s.netOnly m && (s.mbx[m]).owner == .free with
      | none => .next (s.udpBusy d)
      | some m => .next ((s.modNet fun n =>
          { n with clear := n.clear ++ [(m.val, d.net, d.mac, d.ip, d.port)] }).netCommand m frame)

/-- COUNTER is fresh in a session (R378): above every one accepted, or among the 64 below and not seen. -/
def Session.fresh (x : Session) (c : Nat) : Bool :=
  decide (x.rxTop < c) || (decide (x.rxTop ≤ c + 64 ∧ c < x.rxTop) && !x.rxSeen.contains c)

/-- A session that has accepted COUNTER. -/
def Session.accept (x : Session) (c : Nat) : Session :=
  let top := max x.rxTop c
  { x with rxTop := top, rxSeen := (c :: x.rxSeen).filter fun k => top ≤ k + 64 }

/-- A protected datagram that is not served (R378). -/
def State.udpReject (s : State) : State := s.modNet fun n => { n with udpRej := count32 n.udpRej }

/-- The network session and mailbox frame of a protected datagram that passes every check (R378, R488). -/
def State.openDgram (s : State) (d : Dgram) : Option (Session × List Byte) :=
  let c := fld d.bytes 8 8
  match s.session (fld d.bytes 4 4) with
  | none => none
  | some x =>
    if x.owner != .net || x.mbx != fld d.bytes 2 1 || !x.fresh c then none
    else
      (Config.gcmOpen (x.keys.take 32) (leBytes 4 x.id ++ leBytes 8 c) (d.bytes.take 16) (d.bytes.drop 16)).map
        fun frame => (x, frame)

/-- A protected mailbox datagram (R376, R378). -/
def execProtectedDatagram (tm : Nat) (s : State) : Host.Outcome State Fault Refusal :=
  let s := s.adv tm
  match s.takeIp (s.isDgram 1) with
  | none => .next s.dropIp
  | some (f, s) =>
    let d := dgramOf f
    if !s.fwRuns then .next (s.udpBusy d)
    else match s.openDgram d with
      | none => .next s.udpReject
      | some (x, frame) =>
        let s := s.modSession x.id fun y =>
          { y.accept (fld d.bytes 8 8) with net := d.net, peerMac := d.mac, peerIp := d.ip, peerPort := d.port }
        let m : Fin 16 := fin 16 (by decide) x.mbx
        let b := s.mbx[m]
        let seq := fld frame 0 2
        let x := (s.session x.id).getD x
        match b.state with
        | .pending | .executing =>
          .next (if b.seqNow = seq then s else s.sendSession x (response (frame.take 16) stBusy 0 0 []))
        | .done =>
          .next (if b.lastSeq = seq then s.sendSession x (b.resp.gets 0 (16 + fld (b.resp.gets 0 16) 6 2))
            else s.netCommand m frame)
        | .idle => .next (s.netCommand m frame)

/-- A network session's event records leave (R379): 30 waiting, or NET.EVT_PERIOD with at least one. -/
def execEventDatagramSend (sid tm : Nat) (s : State) : Host.Outcome State Fault Refusal :=
  let s := s.adv tm
  match s.session sid with
  | none => .next s
  | some x =>
    let due := decide (30 ≤ x.evts.length) || decide (x.evtFrom + ms (s.pN Pid.netEvtPeriod) ≤ s.nt)
    if x.owner == .net && x.proved && !x.evts.isEmpty && due then
      let l := x.evts.take 30
      let cmd := leBytes 2 x.evtSeq ++ leBytes 2 0x20 ++ leBytes 4 0 ++ leBytes 4 x.id
      let s := s.modSession sid fun y =>
        { y with evts := y.evts.drop 30, evtFrom := s.nt, evtSeq := (y.evtSeq + 1) % 65536 }
      .next (s.sendSession x (response cmd 0 0 4 (l.flatMap EvtRec.bytes)))
    else .next s

end Sys2Proof.Machine
end

