-- ==== Sys2Proof/Machine/Trajectory.lean ====
section
/-! DEFINITION. The trajectory unit (R224 to R252): the set-points of frame k + 1 of every axis of a cluster, from
the queue, homing, gearing, a step input, or network set-points; stops and software limits. -/

namespace Sys2Proof.Machine

/-- Network set-points that arrived before the cut-off enter the stream's buffer (R250). -/
def State.acceptNet (s : State) (a : Fin 128) : State :=
  let p := s.axes[a].prf
  let due (c : NetSp) : Bool := decide (c.tm ≤ s.frame.tick + 1000)
  let (ipo, disc) := (p.spIn.filter due).foldl (fun (t : Ipo × Nat) c =>
    let r := t.1.accept c
    (r.1, if r.2 then t.2 else count32 t.2)) (p.ipo, p.disc)
  s.modPrf a fun p => { p with ipo := ipo, disc := disc, spIn := p.spIn.filter fun c => !due c }

/-- The entry in force is kept for a resume: a dwell keeps its remaining time (R237, R239). -/
def PrfSt.keepDwell (p : PrfSt) (now : Nat) : PrfSt :=
  match p.dwellUntil with
  | some t => { p with dwellUntil := none, dwellLeft := t - now }
  | none => p

/-- An axis outside motion control in mode 4 whose velocity entry has a successor: that comes into force (R232). -/
def PrfSt.passVelocity (p : PrfSt) : PrfSt × List (Nat × Nat) :=
  match p.queue with
  | e :: _ :: _ => if p.running && decide (e.typ = 2) then p.endEntry p.next.pos else (p, [])
  | _ => (p, [])

/-- The trajectory state of an axis outside motion control (R237): PAUSED after a stop that it was in, or that its fault or
STO has caused; IDLE in OFF with nothing queued. -/
def Axis.idleState (x : Axis) : PrfState :=
  let stopped := x.prf.state == .pausing || x.prf.state == .paused || x.state == .fault || x.state == .sto
  if x.prf.stopRow ≠ 0 && stopped && !(x.state == .off && x.prf.queue.isEmpty) then .paused else .idle

/-- An axis outside motion control: the set-point follows the position; the entry in force is kept (R237, R239). -/
def State.trajIdle (s : State) (a : Fin 128) (b : SetP) : State :=
  let x := s.axes[a]
  let s := if x.hom.phase ≠ 0 || x.hom.startReq then s.homAbort a else s
  let s := if x.gea.stat ≠ 0 || x.gea.engReq then s.gearEnd a 1 else s
  let v : Rat := if x.state == .catching || x.state == .starting then x.fbk.vel else 0
  let (p, ev) := ((s.axes[a].prf.keepDwell s.frame.tick)).passVelocity
  let st := x.idleState
  let s := (s.modPrf a fun _ => p).events a ev
  let s := if st == .paused && p.state != .paused && p.mode = 4 then
      s.event 0x1803 a.val (p.entryId + p.stopRow * 65536) else s
  let s := if p.flushReq then s.flushQueue a 0 else s
  let pos := s.posNear a b
  (s.acceptNet a).modAxis a fun x =>
    { x with
      stp := { x.stp with attached := false }
      prf := { x.prf with
        next := { restAt x.prf.next pos v with own := false }
        state := st, kept := x.prf.running, runOut := false, plan := [], dwellUntil := none } }

/-- The distance from a position to the software limit in the direction of a speed (R236), when it is in force. -/
def State.limitAhead (s : State) (a : Fin 128) (pos : Int) (v : Rat) : Option Rat :=
  if !s.limitsOn a || v = 0 then none
  else some (ctsOf ((if v < 0 then s.uuPos a (Pid.axPrfPosMin a.val) else s.uuPos a (Pid.axPrfPosMax a.val)) - pos))

/-- A stop over a signed distance at most, from a speed towards it (R236): under DEC and JERK after a rest of the way
at that speed, without a jerk limit where it needs that, and at the last as hard as the distance asks. -/
def stopWithin (d v dec j : Rat) : List Seg :=
  if changeDist (rabs v) 0 dec dec j ≤ rabs d then (movePlan d v (rabs v) 0 dec dec j).1
  else if changeDist (rabs v) 0 dec dec 0 ≤ rabs d then (movePlan d v (rabs v) 0 dec dec 0).1
  else rampSegs v 0 (v * v / (2 * rabs d)) 0

/-- The stop of rows 1 and 2 begins at the set-point of frame k + 1 (R225, R237, R435): under DEC and JERK in force, and
no further than a software limit; `limit`: it ends at the limit (R236). -/
def State.stopPlan (s : State) (a : Fin 128) (limit : Bool) : State :=
  let (dec, j) := s.decInForce a
  let n := s.axes[a].prf.next
  let v := if s.setMode a = 2 then n.velSp else n.v
  let free := velSegs v 0 dec dec j
  let segs := match s.limitAhead a n.pos v with
    | some d => if 0 < d * v && (limit || decide (rabs d < rabs (segsDist free))) then stopWithin d v dec j else free
    | none => free
  s.modPrf a fun p =>
    { ((p.keepDwell s.frame.tick).withPlan (segs, 0) (s.tick1 : Rat) n.pos v).planNext (s.tick1 : Rat) with
      runOut := false, state := .pausing }

/-- The set-point rests: PAUSED, with its event in mode 4 (R237); a flush or a mode change that waited follows. -/
def State.nowPaused (s : State) (a : Fin 128) : State :=
  let p := s.axes[a].prf
  let s := s.modPrf a fun p => { p with state := .paused }
  let s := if p.mode = 4 then s.event 0x1803 a.val (p.entryId + p.stopRow * 65536) else s
  let s := if p.flushReq then s.flushQueue a 0 else s
  match p.modeWait with
  | none => s
  | some m =>
    let s := s.flushQueue a 4
    s.modPrf a fun p => { p with mode := m, modeWait := none, stopSoft := !s.axes[a].faulted && !s.axes[a].qstop }

/-- A stop of row 3 or 4 (R237, R271): the set-point follows the position, or in an open-loop stepper's row 3 A,
until the stop has ended. -/
def State.stopHard (s : State) (a : Fin 128) (b : SetP) : State :=
  let x := s.axes[a]
  let ended := x.state == .hold || x.rea.stopDone
  let at_ := if s.motType a.val = 2 && s.pN (Pid.axStpLoop a.val) = 0 && decide (x.prf.stopRow = 3) then
      s.fromMicro a x.stp.a.toInt
    else s.posNear a b
  let s := s.modPrf a fun p =>
    let p := p.keepDwell s.frame.tick
    { p with runOut := false, kept := p.running, state := if p.state == .paused then .paused else .pausing
             next := restAt p.next (if ended then p.next.pos else at_) 0 }
  if ended && s.axes[a].prf.state != .paused then s.nowPaused a else s

/-- The current set-point of a stop in mode 3 (R435): from its value at the start to 0 over `AX.REA.I_RAMP`. -/
def State.currentRamp (s : State) (a : Fin 128) (b : SetP) : State :=
  let (t0, i0) := match s.axes[a].prf.iRamp with
    | some r => r
    | none => (s.frame.tick, b.curSp)
  let w := ms (s.pN (Pid.axReaIRamp a.val))
  let t := s.tick1 - t0
  let s := s.modPrf a fun p => { p with iRamp := some (t0, i0) }
  if w ≤ t then
    let s := s.modPrf a fun p => { p with next := { restAt p.next s.axes[a].fbk.pos 0 with curSp := 0 } }
    if s.axes[a].prf.state != .paused then s.nowPaused a else s
  else s.modPrf a fun p =>
    { p with state := .pausing
             next := { restAt p.next s.axes[a].fbk.pos 0 with curSp := i0 * (1 - (t : Rat) / (w : Rat)) } }

/-- A stop of rows 1 and 2 (R237), from the set-point of frame k + 1 that the motion before has formed. -/
def State.stopBegin (s : State) (a : Fin 128) (limit : Bool) : State :=
  let s := s.stopPlan a limit
  if s.planDone a then (s.modPrf a fun p => { p with next := restAt p.next p.next.pos 0 }).nowPaused a else s

/-- The set-points of a stop of rows 1 and 2 that runs, or has ended (R237); in cyclic velocity mode the position is
that of the axis. -/
def State.stopRuns (s : State) (a : Fin 128) (b : SetP) : State :=
  if s.axes[a].prf.state == .paused then
    s.modPrf a fun p => { p with next := { restAt p.next p.next.pos 0 with curSp := 0 } }
  else
    let done := s.planDone a
    let s := s.modPrf a fun p => p.planNext (s.tick1 : Rat)
    let s := if s.setMode a = 2 then
        s.modPrf a fun p => { p with next := { p.next with pos := s.posNear a b } } else s
    if done then (s.modPrf a fun p => { p with next := restAt p.next p.next.pos 0 }).nowPaused a else s

/-- The motion outside an entry runs out under `AX.PRF.DEC` and `AX.PRF.JERK` (R247), from the set-point of frame
k + 1. -/
def State.runOutBegin (s : State) (a : Fin 128) : State :=
  (s.changeSpeed a 0 (s.uuF a (Pid.axPrfDec a.val)) (s.uuF a (Pid.axPrfDec a.val))
    (s.uuF a (Pid.axPrfJerk a.val))).modPrf a fun p => { p with runOut := true, state := .moving }

/-- No entry is in force and none is queued: the set-point rests, or its motion runs out. -/
def State.restStep (s : State) (a : Fin 128) (b : SetP) : State :=
  let s := s.goOn a b
  if s.axes[a].prf.runOut then
    if s.planDone a then
      s.modPrf a fun p => { p with runOut := false, state := .idle, next := restAt p.next p.next.pos 0 }
    else s
  else if s.axes[a].prf.next.v ≠ 0 then s.runOutBegin a
  else s.modPrf a fun p => { p with state := .idle, next := restAt p.next p.next.pos 0 }

/-- The interrupted entry is planned again from the set-point of frame k + 1 (R239), which the motion before has
formed. -/
def State.replan (s : State) (a : Fin 128) : State :=
  s.modPrf a fun p =>
    let t := (s.tick1 : Rat)
    let p := { p with runOut := false, kept := false, state := .moving }
    match p.queue with
    | e :: rest =>
      if e.typ = 3 then
        { p.planFrom1 ([], 0) t with dwellUntil := some (s.tick1 + p.dwellLeft), dwellLeft := 0, planStop := false }
      else (p.planEntry (s.vCap a) e rest t p.next.pos p.next.v).planNext t
    | [] => p

/-- The move queue drives the axis. -/
def State.queueStep (s : State) (a : Fin 128) (b : SetP) : State :=
  let x := s.axes[a].prf
  if x.queue.isEmpty then s.restStep a b
  else if x.running && (x.resumed || x.kept) then (s.goOn a b).replan a
  else
    let s := if x.running then s else s.goOn a b
    let (p, ev) := { s.axes[a].prf with runOut := false }.advance (s.vCap a) (s.frame.tick : Rat) (s.tick1 : Rat)
    (s.modPrf a fun _ => p).events a ev

/-- The motion in force goes on to frame k + 1 for a stop to begin there (R225, R237): gearing, an entry of the queue, or
what else moves the set-point. -/
def State.stepOn (s : State) (a : Fin 128) (b : SetP) : State :=
  let x := s.axes[a]
  if x.gea.stat ≠ 0 && !s.masterLost a then (s.gearForm a b).1
  else if (x.prf.mode = 4 || x.prf.mode = 0) && x.hom.phase = 0 && x.prf.running && !x.prf.kept then s.queueStep a b
  else s.goOn a (if s.setMode a = 2 then { b with pos := s.posNear a b, v := b.velSp } else b)

/-- A stop in force (R237): it ends homing, gearing and a step input, and then moves as its row says. -/
def State.stopStep (s : State) (a : Fin 128) (b : SetP) : State :=
  let x := s.axes[a]
  let going := x.prf.state == .pausing || x.prf.state == .paused
  let soft := decide (x.prf.stopRow < 3)
  let s := if soft && !going && s.setMode a ≠ 3 then s.stepOn a b else s
  let s := if x.hom.phase ≠ 0 || x.hom.startReq then s.homAbort a else s
  let s := if x.gea.stat ≠ 0 || x.gea.engReq then s.gearEnd a 1 else s
  let s := s.modStp a fun p => { p with attached := false }
  if !soft then s.stopHard a b
  else if s.setMode a = 3 && x.prf.state != .paused then s.currentRamp a b
  else if going then s.stopRuns a b
  else s.stopBegin a false

/-- Self-generated set-points (R224): homing, gearing, or the queue. -/
def State.profileStep (s : State) (a : Fin 128) (b : SetP) : State :=
  let x := s.axes[a]
  if (x.hom.phase ≠ 0 || x.hom.startReq) && x.hom.abortReq then
    let s := (s.goOn a b).homAbort a
    (s.modPrf a fun p => { p with stopRow := 1, stopSoft := true }).stopBegin a false
  else if x.hom.startReq then s.homBegin a b
  else if x.hom.phase ≠ 0 then s.homStep a b
  else
    let s := if x.gea.engReq then s.gearEngage a b else s
    let g := s.axes[a].gea
    if g.stat ≠ 0 && g.disReq && s.pN (Pid.axGeaDisMode a.val) = 2 then
      (((s.gearForm a b).1).gearEnd a 0).runOutBegin a
    else if g.stat ≠ 0 then s.gearStep a b
    else s.queueStep a b

/-- A step input drives a stepper axis (R262), within the software limits (R236): beyond one the set-point is held there,
with fault 0x1070.  At attachment D makes the target equal A; in closed loop, where A stands still, the set-point. -/
def State.stepInput (s : State) (a : Fin 128) (b : SetP) : State :=
  let q := fin 4 (by decide) (s.pN (Pid.axStpStepPort a.val))
  let mult : Int := s.pN (Pid.axStpStepMult a.val)
  let p := s.ports[q]
  let v := s.portSpeed q a
  let raw := cts32 p.latched + roundEven (v * (((s.tick1 : Int) - (p.latchAt : Int) : Int) : Rat) / 1000000000 * 4294967296)
  let x := s.axes[a].stp
  let start := if s.pN (Pid.axStpLoop a.val) = 1 then s.toMicro a b.pos else x.a.toInt
  let d := if x.attached then x.attachD else start - raw * mult
  let s := s.modStp a fun k => { k with attached := true, attachD := d }
  let free := s.fromMicro a (raw * mult + d)
  let s := if s.limitsOn a && !s.inLimits a free then s.raiseAx 0x1070 a else s
  let pos := s.limitPos a free
  let k : Rat := if s.pN (Pid.axFbkSource a.val) = 0 then (s.fbkSign a : Rat) else 1 / s.microPerCt a
  let w := v * (mult : Rat) * k
  let s := s.modPrf a fun p => { p with next := { restAt p.next pos w with a := (w - b.v) / s.tfS }, state := .moving }
  if s.leBad q || s.faultOn 0x4060 q.val then s.raiseAx 0x1084 a else s

/-- The set-points that the stream of network cyclic data gives for frame k + 1 (R250 to R252); under code 0 those of the
frame before are held (R224). -/
def State.cyclicStep (s : State) (a : Fin 128) (b : SetP) : State :=
  let s := s.modPrf a fun p => { p with state := .cyclic }
  if s.inMask a.val then
    let s := if s.limitsOn a && s.axes[a].prf.mode = 1 && !s.inLimits a s.axes[a].inp.pos then s.raiseAx 0x1070 a else s
    s.modPrf a fun p => { p with next := { b with own := false, a := 0 } }
  else
    let s := s.acceptNet a
    let p := s.axes[a].prf
    if s.modeCode a = 0 then s.modPrf a fun p => { p with next := { b with own := false } } else
    let (r, ipo) := p.ipo.form (s.pN (Pid.axPrfIpoMode a.val)) ((s.frame.fc + 1) % 2 ^ 32) s.tfS
    let s := s.modPrf a fun p => { p with ipo := ipo, extrap := if ipo.run = 0 then p.extrap else count32 p.extrap }
    match r with
    | none => s.modPrf a fun p => { p with next := { b with own := false } }
    | some (pos, v, vel, cur) =>
      let cap := s.vCap a
      let out := s.limitsOn a && p.mode = 1 && !s.inLimits a pos
      let s := if out then s.raiseAx 0x1070 a else s
      s.modPrf a fun p =>
        { p with next := { p.next with
            own := false, pos := s.limitPos a pos
            v := if p.mode = 2 then clampRat (-cap) cap vel else if p.mode = 3 then 0 else v
            a := 0, velSp := clampRat (-cap) cap vel, curSp := (cur : Rat) / 1000, curFf := 0 } }

/-- The motion in force ends by itself within the software limits (R236): its last deceleration has begun, or begins
before frame k + 2, and the plan ends at rest, or at the joint of an entry. -/
def State.settles (s : State) (a : Fin 128) : Bool :=
  let p := s.axes[a].prf
  let t2 : Rat := ((s.tick1 + s.tf : Nat) : Rat)
  let (dx, vEnd, _) := evalSegs p.planV p.plan (segsDur p.plan)
  let head := match p.queue with
    | e :: _ => p.running && e.positional
    | [] => false
  s.axes[a].gea.stat = 0 && (head || p.runOut) && (head || vEnd == 0) &&
  decide (p.planAt + p.planDec * 1000000000 ≤ t2) && s.inLimits a (p.planPos + roundEven (dx * 4294967296))

/-- Where the set-point stands in frame k + 2, with its speed, if its motion goes on (R236). -/
def State.ahead2 (s : State) (a : Fin 128) : Int × Rat :=
  let p := s.axes[a].prf
  let t : Rat := s.tfS
  if p.mode = 2 then
    (s.axes[a].fbk.pos + roundEven (2 * p.next.velSp * t * 4294967296), p.next.velSp)
  else
    let (pos, v, _) := p.planEval (s.tick1 : Rat)
    if s.axes[a].gea.stat = 0 && p.planAt ≤ (s.tick1 : Rat) && pos == p.next.pos && v == p.next.v then
      let (pos, v, _) := p.planEval ((s.tick1 + s.tf : Nat) : Rat)
      (pos, v)
    else
      (p.next.pos + roundEven ((p.next.v * t + p.next.a * t * t / 2) * 4294967296), p.next.v + p.next.a * t)

/-- The check of the software limits (R236) in mode 4, gearing and cyclic velocity mode: where the stopping distance
from the next frame on would pass a limit, fault 0x1070, and the stop that ends at the limit begins; within 2^-32 cts,
to which positions are rounded. -/
def State.limitCheck (s : State) (a : Fin 128) : State :=
  let p := s.axes[a].prf
  if p.mode = 1 || p.mode = 3 || s.settles a then s
  else
    let (pos, v) := s.ahead2 a
    match s.limitAhead a pos v with
    | none => s
    | some d =>
      let (dec, j) := s.decInForce a
      if changeDist (rabs v) 0 dec dec j ≤ d * rsgn v + 1 / 2147483648 then s
      else
        let s := s.raiseAx 0x1070 a
        let s := if s.axes[a].gea.stat ≠ 0 then s.gearEnd a 1 else s
        let s := if s.axes[a].hom.phase ≠ 0 then s.homAbort a else s
        let near := s.axes[a].fbk.pos + roundEven (p.next.velSp * s.tfS * 4294967296)
        (s.modPrf a fun p =>
          { p with stopRow := 2, stopSoft := false, next := if p.mode = 2 then { p.next with pos := near } else p.next }).stopBegin a true

/-- Flushes that do not wait for a stop (R240).  An axis that reaches OFF under R442 after L4 or STO keeps its queue, as
R239 and `AX.PRF.KEEP` ask (DEDUCED, log 166). -/
def State.flushChecks (s : State) (a : Fin 128) : State :=
  let x := s.axes[a]
  let unref := x.fbk.unref && !x.prf.unrefSeen
  let absEnd := x.prf.queue.any fun e => e.typ == 0 || (e.tgt.isSome && e.positional)
  let keep := s.pN (Pid.axPrfKeep a.val) = 1
  let s := if x.prf.queue.isEmpty then s
    else if x.prf.offFlush then s.flushQueue a 1
    else if unref && absEnd then s.flushQueue a 2
    else if x.prf.hardFault && !keep then s.flushQueue a 3
    else s
  let s := if s.axes[a].prf.flushReq && !(x.active && x.trajMoves) then s.flushQueue a 0 else s
  s.modPrf a fun p => { p with unrefSeen := x.fbk.unref, offFlush := false }

/-- An axis in the mask ignores network cyclic set-points (R62): nothing of a stream is left when it leaves the mask,
so that it holds its last image set-point until a new one arrives. -/
def State.dropStream (s : State) (a : Fin 128) : State :=
  if s.inMask a.val then s.modPrf a fun p => { p with ipo := {}, spIn := [] } else s

/-- The set-point wraps as positions do (R176, R177), and with it what the trajectory unit reckons from it. -/
def State.rebase (s : State) (a : Fin 128) : State :=
  let p := s.axes[a].prf.now.pos
  let d := s.posWrap a p - p
  if d = 0 || !s.axes[a].prf.now.own && s.inMask a.val then s else
  s.modAxis a fun x =>
    { x with
      prf := { x.prf with
        now := { x.prf.now with pos := x.prf.now.pos + d }, next := { x.prf.next with pos := x.prf.next.pos + d }
        planPos := x.prf.planPos + d, lastEnd := x.prf.lastEnd.map (· + d)
        queue := x.prf.queue.map fun e => { e with tgt := e.tgt.map (· + d) } }
      gea := { x.gea with s0 := x.gea.s0 + d, out1 := x.gea.out1 + d }
      stp := { x.stp with ofs := x.stp.ofs - roundEven ((d : Rat) * s.microPerCt a) } }

/-- The set-points of frame k + 1 of one axis, once in a frame (R225). -/
def State.trajAxis (s : State) (a : Fin 128) : State :=
  if s.axes[a].prf.spTick = some s.frame.tick then s else
  let s := s.readRequests a
  let s := s.modPrf a fun p => { p with spTick := some s.frame.tick }
  let s := (((s.dropStream a).appendImage a).rebase a).flushChecks a
  let b0 := s.spNow a
  let b := { b0 with pos := s.posWrap a b0.pos }
  let x := s.axes[a]
  let stepIn := s.motType a.val = 2 && s.pN (Pid.axStpStepSrc a.val) = 1
  let s :=
    if !x.active then s.trajIdle a b
    else if x.prf.stopRow ≠ 0 then s.stopStep a b
    else if x.stp.alignFrom.isSome then s.modPrf a fun p => { p with next := restAt p.next (s.posNear a b) 0 }
    else if stepIn then s.stepInput a b
    else if (x.prf.mode = 4 || x.prf.mode = 0) && s.modeCode a = 0 then
      s.modPrf a fun p => { p with next := { b with own := true }, kept := p.running, plan := [] }
    else if x.prf.mode = 4 || x.prf.mode = 0 then (s.profileStep a b).limitCheck a
    else (s.cyclicStep a b).limitCheck a
  s.modAxis a fun x => { x with zoneEdges := [], swEdges := [], hom := { x.hom with abortReq := false } }

/-- The trajectory unit of a cluster works: its domain is powered and ticks have begun. -/
def State.trajRuns (s : State) (c : Fin 8) : Bool := s.axOn c && s.frame.ticking

/-- The set-points of frame k + 1 of every axis of a cluster (R225). -/
def State.trajCluster (s : State) (c : Fin 8) : State :=
  s.each ((clusterAxes c).filter fun a => s.motType a.val ≠ 0) fun t a => t.trajAxis a

/-- TRAJECTORY_RUN (R225): the trajectory unit is part of its engine, so an overrun of the frame discards its results
too (R36): before the engine has written its last schedule they wait for it (log 118). -/
def execTrajectoryRun (c : Fin 8) (s : State) : Host.Outcome State Fault Refusal :=
  .next (if !s.trajRuns c || s.frame.overran.getLsbD c.val then s
    else if s.frame.finished.getLsbD c.val then s.trajCluster c
    else s.modFrame fun f => { f with traj := f.traj ||| (1#8 <<< c.val) })

end Sys2Proof.Machine
end

