-- ==== Sys2Proof/Machine/AxisState.lean ====
section
/-! DEFINITION. The state of an axis (R62, R146, R154, R155, R210, R221, R435, R442): when it may leave OFF, starts,
stops, HOLD, faults, and the loop states that follow. -/

namespace Sys2Proof.Machine

/-! Leaving OFF. -/

/-- The motor data admit running (R221, R270). -/
def State.motorOk (s : State) (a : Fin 128) : Bool :=
  let t := s.motType a.val
  t != 0 && decide (s.iRated a.val ≠ 0) && decide (s.pF (Pid.axMotR a.val) ≠ 0) &&
  decide (s.pF (Pid.axMotL a.val) ≠ 0) && decide (s.pF (Pid.axMotJ a.val) ≠ 0) &&
  (if t = 1 then decide (s.pF (Pid.axMotKe a.val) ≠ 0) else decide (s.pF (Pid.axStpTHold a.val) ≠ 0))

/-- The slot is configured and its dead times are acknowledged (R99, R119, R544); a device that does not drive
configures no slot (R388). -/
def State.slotReady (s : State) (a : Fin 128) : Bool :=
  let l := linkOf a
  let c := s.links[l].slotCfg[slotOf a]
  s.linkIsUp l && !s.slotLacks l (slotOf a).val && (!s.drives || (c.ok && !c.due && !c.refused && s.links[l].dtAcked))

/-- Nothing forbids that an enabled axis leaves OFF; while the links of its cluster go to DOZE it waits (R102, R463). -/
def State.mayLeave (s : State) (a : Fin 128) : Bool :=
  let x := s.axes[a]
  let c := clusterOf a
  let state := s.pwr.state == .operate || (s.pwr.state == .service && s.pwr.serviceWas == .operate)
  let testing := (s.age.clt[c]).isSome
  let dozing := match s.pwr.doze[c] with
    | .awake | .requested => false
    | .dozeSent _ | .trafficOff _ | .asleep => true
  state && !x.needEdge && s.motorOk a && s.slotReady a && !s.age.isolated.getLsbD c.val && !testing && !dozing &&
  !s.sec.jtagOpen && !s.sec.bundling && !s.rwxPending a && !s.tripKills a && (!s.ib || !s.linkSto 0 (linkOf a)) &&
  (!s.inMask a.val || s.pi.enable || s.pi.taken.getLsbD a.val) && x.rea.applied == 7

/-! Speeds that commutation compares. -/

/-- `AX.COM.SL_MIN` in force, rev/s. -/
def State.slMin (s : State) (a : Fin 128) : Rat := s.slPct a (s.pN (Pid.axComSlMin a.val)) * s.nRated a.val

/-- The axis runs on crossings alone: no Hall sensors, or its feedback is lost (R154, R185). -/
def State.sensorlessOnly (s : State) (a : Fin 128) : Bool :=
  s.motType a.val == 1 && s.axes[a].com.phase == .sensorless && (s.pN (Pid.axComSource a.val) == 1 || s.fbkLost a)

/-- The newest set-point of an axis outside motion control: process image, or network (R62, R250). -/
def State.spIdle (s : State) (a : Fin 128) : SetP :=
  let p := s.axes[a].prf
  if s.inMask a.val then s.spNow a
  else
    let n := match p.ipo.b with
      | some b => some b
      | none => p.ipo.a
    match n with
    | some c => { velSp := (c.vel : Rat) / 4294967296, v := (c.vel : Rat) / 4294967296, curSp := (c.cur : Rat) / 1000 }
    | none => {}

/-- The speed, in rev/s, that a start is asked for (mode 3: the current, A): of the set-points, or of the velocity
entry at the head of the queue. -/
def State.startSpeed (s : State) (a : Fin 128) : Rat :=
  let x := s.axes[a]
  let sp := s.spIdle a
  let cpr : Rat := s.cpr a
  match x.prf.mode with
  | 1 => sp.v / cpr
  | 2 => sp.velSp / cpr
  | 3 => sp.curSp
  | _ => match x.prf.queue with
    | e :: _ => if e.typ = 2 then e.v / cpr
        else match e.tgt, e.typ with
          | some t, _ => rsgn (t - x.prf.next.pos : Int) * (e.v / cpr)
          | none, 1 => rsgn (e.target : Rat) * (e.v / cpr)
          | none, _ => rsgn (e.target - x.fbk.pos : Int) * (e.v / cpr)
    | [] => 0

/-- A start request of a six-step axis that is READY (R132, R146, R154). -/
def State.startWanted (s : State) (a : Fin 128) : Bool :=
  let v := s.startSpeed a
  if s.pN (Pid.axComSource a.val) ≠ 1 then true
  else if s.axes[a].prf.mode = 3 then v != 0 else decide (s.slMin a ≤ rabs v)

/-- The speed, in rev/s, that a running axis is to reach; none in cyclic current mode. -/
def State.goalSpeed (s : State) (a : Fin 128) : Option Rat :=
  let x := s.axes[a]
  let cpr : Rat := s.cpr a
  let sp := s.spNow a
  match x.prf.mode with
  | 3 => none
  | 2 => some (sp.velSp / cpr)
  | 1 => some (sp.v / cpr)
  | _ => match x.prf.queue with
    | e :: _ => if x.prf.running && e.typ = 2 then some (e.v / cpr) else some (sp.v / cpr)
    | [] => some (sp.v / cpr)

/-- A sensorless axis is to end by a coast: its set-point lies below `AX.COM.SL_MIN`, or reverses (R154). -/
def State.mustCoast (s : State) (a : Fin 128) : Bool :=
  match s.goalSpeed a with
  | none => false
  | some v => decide (rabs v < s.slMin a) || (if s.axes[a].com.neg then decide (0 < v) else decide (v < 0))

/-- |v_act| lies below `AX.COM.SL_MIN`. -/
def State.belowSl (s : State) (a : Fin 128) : Bool := decide (rabs (s.vAct a) < s.slMin a)

/-! Transitions. -/

/-- The axis takes a state with its gates off; OFF flushes its queue (R240). -/
def Axis.gatesOff (x : Axis) (st : AxState) : Axis :=
  { x with state := st, com := x.com.coast .none, eng := { x.eng with preset := Vector.replicate 2 none, fromZero := false }
           prf := { x.prf with offFlush := x.prf.offFlush || st == .off } }

/-- The loop states of a transition that sets them to 0 (R210). -/
def Axis.restLoops (x : Axis) : Axis := { x with eng := { x.eng with st := x.eng.st.rest } }

/-- OFF or READY, as ENABLE says. -/
def Axis.restState (x : Axis) : AxState := if x.enable then .ready else .off

/-- OFF to READY (R91, R210): the slot's kill latch is to be cleared. -/
def State.leaveOff (s : State) (a : Fin 128) : State :=
  let s := s.modLink (linkOf a) fun x => { x with kclr := x.kclr ||| (1#4 <<< (slotOf a).val) }
  s.modAxis a fun x => (x.gatesOff .ready).restLoops

/-- A stop begins (R237, R438). -/
def State.beginStop (s : State) (a : Fin 128) : State :=
  s.modAxis a fun x =>
    { x with
      state := .stop
      rea := { x.rea with stopFrom := s.frame.tick, stopDone := false, quietFrom := none, cleared := false } }

/-- A stop has ended (R237, R62): HOLD, or OFF where ENABLE is clear. -/
def Axis.stopped (x : Axis) : Axis :=
  if x.enable then { x with state := .hold, rea := { x.rea with stopDone := true } }
  else { (x.gatesOff .off).restLoops with rea := { x.rea with stopDone := true } }

/-- COAST_STOP begins (R154): gates off; the sectors are still predicted. -/
def State.beginCoast (s : State) (a : Fin 128) : State := s.modCom a fun c => { c with phase := .coastStop, coastFrom := s.nt }

/-- Row 4 of R237 stops an axis: only a fresh request ends it (R238). -/
def Axis.stopRow4 (x : Axis) : Axis := { x with prf := { x.prf with stopRow := 4, stopSoft := false } }

/-- A reaction of L2 or higher puts the axis in FAULT (R435, R155). -/
def State.enterFault (s : State) (a : Fin 128) : State :=
  let x := s.axes[a]
  let was := x.state
  let starts := was == .catching || was == .starting
  let done := decide (4 ≤ x.rea.applied) || starts || was == .off || was == .ready
  let fresh := decide (x.rea.level = 7 ∨ x.rea.level < 2)
  let s := s.modAxis a fun x =>
    let x := if !done then { x with state := .fault }
      else if 4 ≤ x.rea.applied then (x.gatesOff .fault).restLoops else x.gatesOff .fault
    let x := if 4 ≤ x.rea.applied && was != .off && was != .ready then x.stopRow4 else x
    { x with rea := { x.rea with
        before := if fresh then was else x.rea.before
        stopFrom := if fresh then s.frame.tick else x.rea.stopFrom
        quietFrom := if fresh then none else x.rea.quietFrom
        stopDone := done || (!fresh && x.rea.stopDone)
        coasted := (!fresh && x.rea.coasted) || starts } }
  s

/-- With sensors and crossings (SOURCE 2), the source follows the speed (R146). -/
def State.switchSource (s : State) (a : Fin 128) : State :=
  let c := s.axes[a].com
  let v := rabs (s.vAct a)
  if s.motType a.val ≠ 1 || s.pN (Pid.axComSource a.val) ≠ 2 then s
  else if c.phase == .hall && s.axes[a].state == .run && decide (6 ≤ c.hallAgree) && decide (12 / 10 * s.slMin a < v) then
    s.modCom a fun c => { c with phase := .sensorless, missRun := 0, offRun := 0 }
  else if c.phase == .sensorless && decide (v < s.slMin a) && !s.fbkLost a then
    s.modCom a fun c => { c with phase := .hall, hallAgree := 0 }
  else s

/-- Mode 4 has nothing in force and the set-point rests: the axis holds. -/
def State.atRest (s : State) (a : Fin 128) : Bool :=
  let x := s.axes[a]
  let stepIn := s.motType a.val = 2 && s.pN (Pid.axStpStepSrc a.val) = 1
  (x.prf.mode = 4 || x.prf.mode = 0) && x.prf.queue.isEmpty && x.prf.next.v == 0 && x.prf.now.v == 0 &&
  x.hom.phase = 0 && !x.hom.startReq && x.gea.stat = 0 && !x.gea.engReq && !x.prf.runOut && !stepIn &&
  x.stp.alignFrom.isNone

/-- READY (R146): OFF without ENABLE; a start with RUN set, HALT and QSTOP clear, and no stop in force (R238). -/
def State.readyStep (s : State) (a : Fin 128) : State :=
  let x := s.axes[a]
  if !x.enable then s.modAxis a (·.gatesOff .off)
  else if x.com.learn.isSome then s
  else if !x.run || x.halt || x.qstop || x.prf.stopRow ≠ 0 then s
  else if s.motType a.val = 2 then
    if x.prf.mode = 3 && s.pN (Pid.axStpLoop a.val) = 0 then s
    else (s.stepStart a).modAxis a fun x => { x with state := .run }
  else if s.startWanted a then s.startSixStep a (decide (s.startSpeed a < 0))
  else s

/-- RUN (R146, R154, R237). -/
def State.runStep (s : State) (a : Fin 128) : State :=
  let row := s.axes[a].prf.stopRow
  if s.sensorlessOnly a then (if row ≠ 0 || s.mustCoast a then s.beginStop a else s)
  else if row ≠ 0 then s.beginStop a
  else if s.atRest a then s.modAxis a fun x => { x with state := .hold }
  else s.switchSource a

/-- STOP (R154, R237, R435). -/
def State.stopState (s : State) (a : Fin 128) : State :=
  let x := s.axes[a]
  if x.com.phase == .coastStop then s
  else if s.sensorlessOnly a then (if s.belowSl a then s.beginCoast a else s)
  else
    let s := s.switchSource a
    if x.prf.stopRow = 0 then s.modAxis a fun x => { x with state := .run }
    else if x.prf.stopRow ≤ 2 then (if x.prf.state == .paused then s.modAxis a Axis.stopped else s)
    else if x.rea.stopDone then s.modAxis a Axis.stopped
    else s

/-- HOLD: ENABLE clear gives OFF; something to do gives RUN. -/
def State.holdStep (s : State) (a : Fin 128) : State :=
  let x := s.axes[a]
  if !x.enable then s.modAxis a fun x => (x.gatesOff .off).restLoops
  else if x.prf.stopRow = 0 && !s.atRest a then s.modAxis a fun x => { x with state := .run }
  else s

/-- FAULT (R154, R185, R411, R435, R442): how far the stop has run. -/
def State.faultStep (s : State) (a : Fin 128) : State :=
  let x := s.axes[a]
  let lv := x.rea.applied
  let done (y : Axis) : Axis := { y with rea := { y.rea with stopDone := true } }
  if lv = 7 || lv < 2 then
    s.modAxis a fun x =>
      let x := { x with rea := { x.rea with level := 3 } }
      let y := x.leaveFault x.enable
      if lv = 7 then y else { y with rea := { y.rea with level := lv, applied := lv, cause := s.axes[a].rea.cause, tm := s.axes[a].rea.tm } }
  else if 4 ≤ lv then
    s.modAxis a fun x =>
      let y := (x.gatesOff .fault).restLoops
      let y := if x.rea.before == .off || x.rea.before == .ready then y else y.stopRow4
      done { y with rea := { y.rea with coasted := y.rea.coasted || decide (lv = 4) } }
  else if x.rea.before == .off || x.rea.before == .ready || x.rea.coasted then s.modAxis a done
  else if x.com.phase == .coastStop then s
  else if s.sensorlessOnly a then (if s.belowSl a then s.beginCoast a else s)
  else if s.fbkLost a && lv = 3 && decide (x.fbk.vEst = 0) then
    s.modAxis a fun x => done { x.gatesOff .fault with rea := { x.rea with coasted := true } }
  else
    let s := s.switchSource a
    if lv = 2 && x.prf.state == .paused then s.modAxis a done else s

/-- The end condition of an L3 stop (R435): |v_act| at or below `AX.REA.STOP_V`. -/
def State.quietWatch (s : State) (a : Fin 128) : State :=
  let x := s.axes[a]
  let runs := (x.state == .stop || x.state == .fault) && x.prf.stopRow == 3 && !x.rea.stopDone
  let slow := decide (rabs (s.vAct a) ≤ s.pPct (Pid.axReaStopV a.val) * s.nRated a.val)
  s.modAxis a fun x =>
    { x with rea := { x.rea with
        quietFrom := if runs && slow then some (x.rea.quietFrom.getD s.frame.tick) else none } }

/-- The state of an axis at tick + 1.5 µs (R62, R146, R435). -/
def State.axisStep (s : State) (a : Fin 128) : State :=
  let s := s.modAxis a fun x => { x with needEdge := x.needEdge && x.enable }
  let x := s.axes[a]
  let lv := x.rea.applied
  let hit := decide (2 ≤ lv) && lv != 7
  let s : State := match x.state with
    | .sto => s.modAxis a fun x => (x.gatesOff .sto).restLoops
    | .fault => s.faultStep a
    | .off => if hit then s.enterFault a else if x.enable && s.mayLeave a then s.leaveOff a else s
    | .ready => if hit then s.enterFault a else s.readyStep a
    | .catching | .starting =>
      if hit then s.enterFault a
      else if !x.run || x.halt || x.qstop || !x.enable then s.modAxis a fun x => x.gatesOff x.restState
      else s
    | .run => if hit then s.enterFault a else s.runStep a
    | .stop => if hit then s.enterFault a else s.stopState a
    | .hold => if hit then s.enterFault a else s.holdStep a
  s.quietWatch a

end Sys2Proof.Machine
end

