-- ==== Sys2Proof/Machine/Engine.lean ====
section
/-! DEFINITION. The engines (R201): the frame of a six-step and of a stepper axis, what the engine watches and
reports, and the calls and checks that belong to it. -/

namespace Sys2Proof.Machine

/-! Injection (R217, R218). -/

/-- The injection point is bypassed in the present mode. -/
def State.injBypassed (s : State) (a : Fin 128) (p : Nat) : Bool :=
  let m := s.axes[a].prf.mode
  p = 0 || (p = 1 && (m = 2 || m = 3)) || (p = 2 && m = 3) ||
  (s.motType a.val = 2 && s.pN (Pid.axStpLoop a.val) = 0 && (p ≠ 4 || s.axes[a].stp.volt))

/-- A running injection ends at once (R218): event 0x1702 with its cause. -/
def State.injAbort (s : State) (a : Fin 128) (cause : Nat) : State :=
  let e := s.axes[a].eng
  if e.inj != .running then s
  else (s.modAxis a fun x => { x with eng := { x.eng with inj := .aborted, injCause := cause, injS := 0 } }).event 0x1702
    a.val (e.injFrames + cause * 2 ^ 32)

/-- What ends an injection other than the call and its time (R218). -/
def State.injWatch (s : State) (a : Fin 128) : State :=
  let x := s.axes[a]
  if x.eng.inj != .running then s
  else if x.faulted then s.injAbort a 2
  else if x.state != .run && x.state != .hold then s.injAbort a 3
  else if s.injBypassed a x.eng.injPoint then s.injAbort a 4
  else if s.reducedAt a then s.injAbort a 5
  else if x.eng.satRun.toList.any (fun n => decide (8 ≤ n)) then s.injAbort a 6
  else s

/-- The injected signal of a frame (R217): it starts at the tick after its start call, and returns to 0 at T. -/
def State.injFrame (s : State) (a : Fin 128) : State :=
  let e := s.axes[a].eng
  if e.inj != .running || decide (s.frame.tick ≤ e.injAccept) then s
  else
    let t := if e.injFrames = 0 then s.capEvent 1 a.val else s
    t.modAxis a fun x =>
      { x with eng := if ms e.injTime ≤ e.injFrames * s.tf then { x.eng with injS := 0 } else s.injStep x.eng }

/-- AX.INJ.START (R218). -/
def execAxInjStart (m : Fin 16) (tm : Nat) (s : State) : Host.Outcome State Fault Refusal :=
  .next (s.serveAxis m tm 0x17 0xF001 0 fun a t _ =>
    let x := t.axes[a]
    let p := t.pN (Pid.axInjPoint a.val)
    if x.eng.inj == .running || (x.state != .run && x.state != .hold) || t.injBypassed a p || t.reducedAt a then
      .fail stState
    else
      let n := t.pN (Pid.axInjPrbsN a.val)
      .done (t.modAxis a fun x =>
        { x with eng := { x.eng with
            inj := .running, injCause := 0, injPoint := p, injShape := t.pN (Pid.axInjShape a.val)
            injAmp := t.pF (Pid.axInjAmp a.val), injTime := t.pN (Pid.axInjTime a.val)
            injF0 := t.pF (Pid.axInjF0 a.val), injF1 := t.pF (Pid.axInjF1 a.val), injN := n
            injHold := t.pN (Pid.axInjPrbsHold a.val), injFrames := 0, injPhase := 0, prbs := 2 ^ n - 1, injS := 0
            injAccept := t.nt } }))

/-- AX.INJ.STOP (R218). -/
def execAxInjStop (m : Fin 16) (tm : Nat) (s : State) : Host.Outcome State Fault Refusal :=
  .next (s.serveAxis m tm 0x17 0xF002 0 fun a t _ => .done (t.injAbort a 1))

/-- The time of an injection is over (R218): event 0x1701. -/
def execInjDone (a : Fin 128) (tm : Nat) (s : State) : Host.Outcome State Fault Refusal :=
  let s := s.adv tm
  let e := s.axes[a].eng
  .next (if e.inj == .running && decide (ms e.injTime ≤ e.injFrames * s.tf) then
    (s.modAxis a fun x => { x with eng := { x.eng with inj := .done, injS := 0 } }).event 0x1701 a.val e.injFrames
  else s)

/-! The loops of a frame (R201, R435). -/

/-- Which loops run in a frame, and on what (R201, R225, R237, R435): stops, holds after a stop, lost feedback. -/
def State.loopsOf (s : State) (a : Fin 128) : LoopIn :=
  let x := s.axes[a]
  let sp := s.spNow a
  let cpr : Rat := s.cpr a
  let mode := x.prf.mode
  let row := x.prf.stopRow
  let lost := s.fbkLost a
  let hard := decide (3 ≤ row)
  let ended := row ≠ 0 && x.prf.state == .paused
  let cyclic := mode = 2 || mode = 3
  let only := s.sensorlessOnly a
  let pos := !lost && (if ended then !(hard || x.faulted || cyclic) || !x.fbk.unref else !hard && !cyclic)
  let vel := mode ≠ 3 || ended || hard
  let v : Rat := if hard || ended then 0 else if mode = 2 then sp.velSp else sp.v
  let back := only && (if x.com.neg then decide (0 < v) else decide (v < 0))
  let cap := s.vCap a
  { pos := pos, vel := vel, posSp := sp.pos, vFf := if hard || ended then 0 else sp.v / cpr
    aFf := if hard || ended then 0 else sp.a / cpr
    velSp := if back then 0 else clampRat (-cap) cap v / cpr
    curSp := if hard then 0 else sp.curSp, curFf := sp.curFf, ilim := s.limNow a, vlim := s.slsClamp a }

/-- The outer loops of a frame: the set current, and what the engine keeps. -/
def State.runLoops (s : State) (a : Fin 128) : State × Rat × Bool × Rat :=
  let x := s.axes[a]
  let i := s.loopsOf a
  let e := { x.eng with posSp := i.posSp, vFf := i.vFf * (s.cpr a : Rat), vAct := s.vAct a, clamped := x.eng.clamped }
  let e := if i.vel && !e.velOn && x.prf.mode = 3 then { e with st := { e.st with velXv := 0 } } else e
  let (e, isp, yv) := s.outerLoops a { e with velOn := i.vel } i
  let far := decide ((s.pN (Pid.axPosFeMax a.val) : Int) < (e.ep / 4294967296).natAbs)
  let e := { e with feFrom := if i.pos && far then some (e.feFrom.getD s.frame.tick) else none }
  (s.modAxis a fun x => { x with eng := e }, isp, i.vel, yv)

/-- The frame ends for the loops: RPT update and saturation bookkeeping. -/
def State.endLoops (s : State) (a : Fin 128) (vel : Bool) (yv : Rat) : State :=
  let e := s.rptUpdate a s.axes[a].eng vel yv
  s.modAxis a fun x => { x with eng := e.closeSat }

/-- A frame without loops: no current, nothing predicted. -/
def State.idleLoops (s : State) (a : Fin 128) : State :=
  let vb := s.vbusComp a
  s.modAxis a fun x =>
    { x with
      eng := EngSt.closeSat { x.eng with
        iSp := 0, iAct := 0, iActB := 0, iWind := 0, iDc := 0, d := 0, dB := 0, vCmd := 0, vbusC := vb, feFrom := none
        learning := false, velOn := false, st := { x.eng.st with ip := Vector.replicate 2 0 } }
      com := { x.com with blindRun := 0, overI := 0 } }

/-! Six-step axes. -/

/-- The winding current of a frame (R138): the mean of the valid samples, or the prediction of R207. -/
def State.sixCurrent (s : State) (a : Fin 128) (recs : List Stamped) : State × Rat × Bool :=
  let (m, n) := s.meanCur a recs (fun _ => true)
  let e := s.axes[a].eng
  let i := m.getD (bfpVal e.st.curE e.st.ip[0])
  let on := match s.axes[a].pwm.live.chopped with
    | some h => h.tOff - h.tOn
    | none => 0
  (s.modAxis a fun x =>
    { x with
      eng := { x.eng with iDc := i * (on : Rat) / (s.tc a.val : Rat) * (s.mOf a.val : Rat) } }, i, n ≠ 0)

/-- The current loop of a six-step axis at a set current in a sector (R205): demand on the driven pair. -/
def State.sixLoop (s : State) (a : Fin 128) (isp : Rat) (sec : Nat) (recs : List Stamped) : State × Demand :=
  let (s, i, valid) := s.sixCurrent a recs
  let x := s.axes[a]
  let vb := s.vbusComp a
  let sg : Rat := if isp < 0 then -1 else 1
  let emf := s.ke a.val * 60 * s.vAct a * sg
  let r := 2 * s.pF (Pid.axMotR a.val)
  let l := 2 * s.pF (Pid.axMotL a.val)
  let (e, u) := s.curStage a x.eng 0 ⟨rabs isp, i, emf, r, l, 0, vb⟩
  let e := s.curNorm a e
  let d := if vb = 0 then 0 else u / vb
  let n := if valid && u = 0 && decide (s.iLimit a < rabs i) then x.com.overI + 1 else 0
  let blind := (x.state == .run || x.state == .starting) && isp != 0 && !valid
  let sector := if isp < 0 then (sec + 3) % 6 else sec
  let s := s.modAxis a fun x =>
    { x with
      eng := { e with iSp := isp, iAct := i, iWind := i, d := d, vbusC := vb, coastNext := decide (n = 2) }
      com := { x.com with overI := if n = 2 then 0 else n, blindRun := if blind then x.com.blindRun + 1 else 0 } }
  (s, if sec ≥ 6 then .coast 3 else if x.eng.coastNext then .coast (sectorPhases sec).2.2 else .sector sector d)

/-- The loops and the commutation of a running six-step axis. -/
def State.sixRun (s : State) (a : Fin 128) (recs : List Stamped) : State × Demand :=
  let (s, isp, vel, yv) := s.runLoops a
  let (s, d) := s.sixLoop a isp s.axes[a].com.sector recs
  (s.endLoops a vel yv, d)

/-- A start current, in % of `AX.MOT.I_RATED`, on a sector (R151): negative where it drives backward (R133). -/
def State.sixForce (s : State) (a : Fin 128) (pct : Int) (sec : Nat) (recs : List Stamped) : State × Demand :=
  let (s, d) := s.sixLoop a ((pct : Rat) / 100 * s.iRated a.val) sec recs
  (s.modAxis a fun x => { x with eng := x.eng.closeSat }, d)

/-- The on-time of a test pulse (R150, R159): at basic level formed at each IPD. -/
def State.ipdTime (s : State) (a : Fin 128) : Nat :=
  if s.expert 0x11 a.val then s.pN (Pid.axComIpdT a.val) else
  let tc := s.tc a.val
  let dt := (List.range 3).foldl (fun n j => max n (s.dtNow a (s.phys a j))) 0
  let top : Int := (tc : Int) - (s.tminAt a dt : Int)
  let v := s.vbusOr a (s.pF (Pid.axMotVbusNom a.val))
  let want : Int := if v = 0 then top
    else roundAway (6 / 10 * s.iRated a.val * s.pF (Pid.axMotL a.val) / ((s.mOf a.val : Rat) * v) * 1000000000)
  (max 0 (min top want)).toNat

/-- A frame of the IPD (R150): a pulse, or COAST with the sample of the pulse before. -/
def State.ipdFrame (s : State) (a : Fin 128) (recs : List Stamped) : State × Demand :=
  let j := s.axes[a].com.ipdFrame
  let (m, _) := s.meanCur a recs (fun _ => true)
  let k := fin 6 (by decide) ((j - 1) / 3)
  let s := s.modCom a fun c =>
    { c with
      ipdFrame := j + 1, ipdAt := if j = 0 then s.act else c.ipdAt
      ipdI := match m with
        | some i => if j % 3 = 0 then c.ipdI else c.ipdI.set k i
        | none => c.ipdI }
  (s.idleLoops a, if j % 3 = 0 && decide (j < 18) then .pulse (j / 3) (s.ipdTime a) else .coast 3)

/-- The braking duty of R149. -/
def State.brakeDuty (s : State) (a : Fin 128) : Rat :=
  let e := s.ke a.val * (rabs s.axes[a].com.catchSpeed / 100 * s.nRated a.val * 60)
  if e = 0 then 1
  else rmin 1 (s.pPct (Pid.axComBrakeI a.val) * s.iRated a.val * 2 * s.pF (Pid.axMotR a.val) / e)

/-- A frame of HALL_LEARN (R136): the patterns of sectors n and n + 1 in turn. -/
def State.learnFrame (s : State) (a : Fin 128) (k : LearnSt) (recs : List Stamped) : State × Demand :=
  let j := (s.frame.tick - k.stepFrom) / s.tf % 2
  let sec := (k.n + j) % 6
  (s.modCom a fun c => s.toSector c sec).sixForce a (s.pN (Pid.axComStartI0 a.val)) sec recs

/-- The frame of a six-step axis by its state and phase (R146). -/
def State.sixFrame (s : State) (a : Fin 128) (recs : List Stamped) : State × Demand :=
  let x := s.axes[a]
  let off (fl : Nat) : State × Demand := (s.idleLoops a, .coast fl)
  match x.state with
  | .off | .sto => off 3
  | .ready => match x.com.learn with
    | some k => s.learnFrame a k recs
    | none => off 3
  | .catching | .starting | .run | .stop | .hold | .fault =>
    match x.com.phase with
    | .none | .pause => off 3
    | .listen => off (nextHeard x.com.heard)
    | .brake => (s.idleLoops a, .brake (s.brakeDuty a))
    | .ipd => s.ipdFrame a recs
    | .align =>
      let sec := s.pN (Pid.axComStartSector a.val)
      (s.modCom a fun c => s.toSector c sec).sixForce a x.com.entryI sec recs
    | .ramp =>
      let s := s.modCom a fun c => s.rampStep a c
      s.sixForce a (if x.com.neg then -x.com.entryI else x.com.entryI) s.axes[a].com.sector recs
    | .hall => (s.modCom a fun c => s.predictHall a c).sixRun a recs
    | .sensorless => (s.modCom a fun c => s.predictZc a c).sixRun a recs
    | .coastStop =>
      let s := s.modCom a fun c => s.predictZc a c
      (s.idleLoops a, .coast (sectorPhases s.axes[a].com.sector).2.2)

/-- The CUR records of a frame that came with SKIPPED set (R137). -/
def skippedCurs (recs : List Stamped) : Nat :=
  (recs.filter fun r => match r.rcd with
    | .cur _ _ skipped _ => skipped
    | .volt _ _ | .zc _ _ | .dly _ _ | .hall _ _ | .inc _ _ _ _ | .sincos _ _ | .serial _ _ _ | .zone _ _
    | .tripr _ _ => false).length

/-- Hall states, crossings, windows and skipped samples of a frame (R134 to R153), before its feedback. -/
def State.sixTrack (s : State) (a : Fin 128) (recs : List Stamped) : State :=
  s.modCom a fun c =>
    let c := { c with missed := count32By (skippedCurs recs) c.missed }
    let c := s.windows (s.crossings a (s.hallTrack a c recs) recs)
    if c.phase == .hall && s.pN (Pid.axComSource a.val) = 2 then c.agreeHall else c

/-- The voltage pairs of the induced-voltage check (R156): the slope of the floating phase against the slope that
`AX.MOT.KE` gives, with both samples within 20 °e of a predicted crossing. -/
def State.kePairs (s : State) (a : Fin 128) (recs : List Stamped) : State :=
  let x := s.axes[a]
  let c := x.com
  let v := rabs (s.vAct a)
  if x.state != .run || decide (10 * v ≤ s.nRated a.val) then s else
  match c.t60 with
  | none => s
  | some q =>
    let deg (st : Nat) : Option Rat :=
      (if c.sectorAt ≤ st then c.zcPred else c.prevPred).map fun p => ((st : Rat) - (p : Rat)) / q * 60
    let ok (st : Nat) : Bool := match deg st with
      | some d => decide (rabs d ≤ 20)
      | none => false
    let l : List (Nat × Rat) := recs.filterMap fun r => match r.rcd with
      | .volt _ n => if ok r.stamp then some (r.stamp, s.voltV (linkOf a) n) else none
      | .cur _ _ _ _ | .zc _ _ | .dly _ _ | .hall _ _ | .inc _ _ _ _ | .sincos _ _ | .serial _ _ _ | .zone _ _
      | .tripr _ _ => none
    match l with
    | [(t0, v0), (t1, v1)] =>
      let rad := twoPi 1 ((((t1 : Int) - (t0 : Int) : Int) : Rat) / q / 6)
      let want := s.ke a.val * v * 60 / sqrtQ 3
      if rad = 0 || want = 0 then s
      else s.modCom a fun c => { c with keSum := c.keSum + rabs ((v1 - v0) / rad) / want, keN := c.keN + 1 }
    | _ => s

/-! Stepper axes. -/

/-- The frame of a stepper axis (R257 to R271). -/
def State.stepFrame (s : State) (a : Fin 128) (recs : List Stamped) : State × Demand :=
  let x := s.axes[a]
  let closed := s.pN (Pid.axStpLoop a.val) = 1
  let off (coast : Bool) : State × Demand :=
    let (s, d) := s.stepOff a coast
    (s.idleLoops a, d)
  match x.state with
  | .off | .ready | .catching | .starting => off false
  | .sto => off true
  | .run | .stop | .hold | .fault =>
    if x.state == .fault && (decide (4 ≤ x.rea.applied) || x.rea.coasted) then off true
    else if x.state == .fault && (x.rea.before == .off || x.rea.before == .ready) then off false
    else
      let s := if x.stp.alignFrom.isSome then
          s.modPrf a fun p => { p with next := restAt p.next x.fbk.pos 0, now := restAt p.now x.fbk.pos 0 } else s
      if closed then
        let (s, isp, vel, yv) := s.runLoops a
        let (s, d) := s.stepClosed a isp recs
        (s.endLoops a vel yv, d)
      else
        let p := s.axes[a].prf
        let (s, d) := s.stepOpen a (p.stopRow == 3) (s.setMode a == 2) p.next recs
        (s.modAxis a fun x =>
          { x with eng := EngSt.closeSat { x.eng with posSp := p.now.pos, vAct := s.vAct a, ep := s.dispOf a p.now.pos x.fbk.pos } }, d)

/-! Watches and reports. -/

/-- TARGET_REACHED's window, the stall watch of PUSH, and a low bus (R206, R235, R242). -/
def State.watches (s : State) (a : Fin 128) : State :=
  let low := s.vbusIsLow a && s.axes[a].state == .run
  let win := cts32 (s.pN (Pid.axPrfWindow a.val))
  let vSlow := s.uuF a (Pid.axHomVSlow a.val)
  let stopI := s.pPct (Pid.axHomStopI a.val) * s.iRated a.val
  s.modAxis a fun x =>
    let inWin := decide (x.eng.ep.natAbs ≤ win.natAbs)
    let stall := x.hom.phase == 4 && decide (rabs x.fbk.vel < vSlow / 10) && decide (stopI ≤ rabs x.eng.iSp)
    { x with
      prf := { x.prf with
        inWinFrom := if inWin then some (x.prf.inWinFrom.getD s.frame.tick) else none
        reached := x.prf.reached && inWin && x.prf.allDone }
      hom := { x.hom with stallFrom := if stall then some (x.hom.stallFrom.getD s.frame.tick) else none }
      eng := { x.eng with vbusLow := if low then x.eng.vbusLow + 1 else 0 } }

/-- Friction sampling (R498): the mean of i_sp over each second in which the speed stays within 2 % of a constant
with a_ff at 0. -/
def State.friction (s : State) (a : Fin 128) : State :=
  let x := s.axes[a]
  let g := s.age.axes[a]
  let v := s.vAct a
  let steady := x.state == .run && (s.spNow a).a == 0 && v != 0
  let put (g : AgeAx) : State := s.modAge fun k => { k with axes := k.axes.set a g }
  match g.fricFrom with
  | none => if steady then put { g with fricFrom := some (s.frame.tick, v), fricAcc := x.eng.iSp, fricCnt := 1 } else s
  | some (t, v0) =>
    if !steady then put { g with fricFrom := none }
    else if 2 / 100 * rabs v0 < rabs (v - v0) then
      put { g with fricFrom := some (s.frame.tick, v), fricAcc := x.eng.iSp, fricCnt := 1 }
    else
      let acc := g.fricAcc + x.eng.iSp
      let n := g.fricCnt + 1
      if t + secs 1 ≤ s.frame.tick then
        put { g with fricFrom := some (s.frame.tick, v), fricAcc := 0, fricCnt := 0, fricSum := g.fricSum + acc / (n : Rat)
                     fricN := g.fricN + 1 }
      else put { g with fricAcc := acc, fricCnt := n }

/-- Time at the bridge temperature (R499). -/
def State.bridgeTime (s : State) (a : Fin 128) : State :=
  match s.bridgeTemp a with
  | none => s
  | some t =>
    let g := s.age.axes[a]
    s.modAge fun k => { k with axes := k.axes.set a { g with hist := histAdd g.hist (t * 10) s.tf } }

/-- The axis word of a frame (R412). -/
def State.axisWord (s : State) (a : Fin 128) : Nat :=
  let x := s.axes[a]
  let t := s.motType a.val
  let fbk := decide (s.pN (Pid.axFbkSource a.val) ≠ 0) && !s.fbkLost a
  let hall := x.com.phase == .hall || x.state == .off || x.state == .ready
  let (src, ok, v) : Nat × Bool × Rat :=
    if t = 0 then (0, false, 0)
    else if fbk then (1, x.fbk.speedValid, s.vAct a)
    else if t = 1 then
      (2, x.com.zcValid || (hall && s.pN (Pid.axComSource a.val) ≠ 1), s.speedE a s.frame.tick / (s.poles a.val : Rat))
    else (3, true, s.wordSpeed a x.stp.v)
  let driving := x.pwm.cmd.kind != 0 && x.pwm.cmd.hb.toList.any fun h => h.mode != modeOff
  ofSigned 24 (satSigned 24 (roundEven (v * 1024))) + s.frame.fc % 16 * 2 ^ 24 + b2n driving * 2 ^ 28 + b2n ok * 2 ^ 29 +
    src * 2 ^ 30

/-- The axis words of a cluster go to both channels (R412). -/
def State.sendAxisWords (s : State) (c : Fin 8) : State :=
  if !s.ib then s else
  let w := (clusterAxes c).map s.axisWord
  (s.emit (.axisWords 0 (c.val :: w))).emit (.axisWords 1 (c.val :: w))

/-! ENGINE_RUN. -/

/-- A record belongs to the frame: stamped by tick − 0.5 µs, and in the SRAM by tick + 1.5 µs (R25, R35). -/
def State.recDue (s : State) (r : Stamped) : Bool :=
  decide (r.stamp + 500 ≤ s.frame.tick) && decide (r.arr ≤ s.frame.tick + 1500)

/-- The records of an axis that the frame uses (R35, R86). -/
def State.dueRecs (s : State) (a : Fin 128) : List Stamped := s.axes[a].inbox.filter s.recDue

/-- Requests, records, feedback and the state of an axis. -/
def State.axisFront (s : State) (a : Fin 128) (recs : List Stamped) : State :=
  let t := s.motType a.val
  let s := s.modAxis a fun x =>
    { x with inbox := x.inbox.filter fun r => !s.recDue r, eng := { x.eng with sat := 0 } }
  let s := s.readRequests a
  let s := if t = 2 then s.stepAdvance a else s.sixTrack a recs
  let s := s.feedback a recs
  let s := (s.axisStep a).injWatch a
  if t = 2 && s.pN (Pid.axStpLoop a.val) = 0 then s.trajAxis a else s

/-- Loops, commutation and commands of an axis. -/
def State.axisBack (s : State) (a : Fin 128) (recs : List Stamped) : State :=
  let s := s.injFrame a
  let (s, d) := if s.motType a.val = 2 then s.stepFrame a recs else (s.kePairs a recs).sixFrame a recs
  let s := s.modAxis a fun x => { x with eng := { x.eng with rptPos := x.fbk.pos / 4294967296 } }
  ((s.drive a d).watches a).friction a

/-- The engine of a cluster computes in this frame: it starts at tick + 1.5 µs, once, and has not been stopped at
tick + 9.5 µs (R25, R36). -/
def State.engineRuns (s : State) (c : Fin 8) : Bool :=
  s.trajRuns c && !s.frame.overran.getLsbD c.val && !s.frame.finished.getLsbD c.val &&
  decide (s.nt ≤ s.frame.tick + 9500)

/-- ENGINE_RUN (R25, R201): one frame of the 16 axes of a cluster, from tick + 1.5 µs on, done within 8 µs (R36). -/
def execEngineRun (c : Fin 8) (ns : Nat) (s : State) : Host.Outcome State Fault Refusal :=
  if !s.engineRuns c || decide (8000 < ns) then .next s else
  let s := s.adv (s.frame.tick + 1500)
  let l := ((clusterAxes c).filter fun a => s.motType a.val ≠ 0).map fun a => (a, s.dueRecs a)
  let s := s.each l fun t x => t.axisFront x.1 x.2
  let s := s.each l fun t x => t.axisBack x.1 x.2
  let s := s.each l fun t x => t.unitsRun x.1
  let s := s.each (clusterAxes c) State.bridgeTime
  let s := s.modFrame fun f =>
    { f with finished := f.finished ||| (1#8 <<< c.val), engMax := f.engMax.set c (max f.engMax[c] ns)
             consec := f.consec.set c 0, doneAt := f.doneAt.set c (f.tick + 1500 + ns) }
  let s := s.sendAxisWords c
  .next (if s.frame.traj.getLsbD c.val then s.trajCluster c else s)

/-! Calls and checks. -/

/-- AX.MOT.SAT_CLR (R200): the sticky bits go at the next tick. -/
def execAxMotSatClr (m : Fin 16) (tm : Nat) (s : State) : Host.Outcome State Fault Refusal :=
  .next (s.serveAxis m tm 0x10 0xF001 0 fun a t _ =>
    .done (t.modAxis a fun x => { x with eng := { x.eng with satClr := true } }))

/-- AX.RPT.CLEAR (R215): the table goes at the next tick. -/
def execAxRptClear (m : Fin 16) (tm : Nat) (s : State) : Host.Outcome State Fault Refusal :=
  .next (s.serveAxis m tm 0x16 0xF001 0 fun a t _ =>
    .done (t.modAxis a fun x => { x with eng := { x.eng with rptClr := true } }))

/-- |e_p| has exceeded `AX.POS.FE_MAX` for `AX.POS.FE_TIME` (R202). -/
def execFollowingError (a : Fin 128) (tm : Nat) (s : State) : Host.Outcome State Fault Refusal :=
  let s := s.adv tm
  .next (match s.axes[a].eng.feFrom with
    | some t => if t + ms (s.pN (Pid.axPosFeTime a.val)) ≤ s.nt then s.raiseAx 0x1060 a else s
    | none => s)

/-- A stage has saturated in 64 consecutive frames (R199). -/
def execNumericSat (a : Fin 128) (tm : Nat) (s : State) : Host.Outcome State Fault Refusal :=
  let s := s.adv tm
  .next (if s.axes[a].eng.satRun.toList.any (fun n => decide (64 ≤ n)) then s.raiseAx 0x1061 a else s)

/-- The measured bus has been below half its nominal value in 10 frames of RUN (R206). -/
def execVbusLow (a : Fin 128) (tm : Nat) (s : State) : Host.Outcome State Fault Refusal :=
  let s := s.adv tm
  .next (if 10 ≤ s.axes[a].eng.vbusLow then s.raiseAx 0x1062 a else s)

end Sys2Proof.Machine
end

