-- ==== Sys2Proof/Machine/Schedule.lean ====
section
/-! DEFINITION. Downstream SCHEDULE and REPEAT frames (R26, R78, R82, R91, R93, R122, R396) and overruns of an
engine (R36 to R38). -/

namespace Sys2Proof.Machine

/-- A link carries this device's schedules now (R388, R396, R399). -/
def State.maySend (s : State) (l : Fin 32) : Bool :=
  s.drives && !(s.twin.state == .active && s.twin.resignSent) && s.linkIsUp l && s.linkTx l && !s.linkYielded l &&
  s.linkAllowed l

/-- The OUTPUT field (R78). -/
def outField : Option OutChange → Nat
  | none => 0
  | some c => 2 ^ 23 + b2n c.level * 2 ^ 22 + c.slot % 4 * 2 ^ 20 + c.inst4 % 2 ^ 15

/-- A downstream frame between its FM and EM symbols (R78): type 1 SCHEDULE, 2 REPEAT. -/
def State.downFrame (s : State) (l : Fin 32) (typ : Nat) (kinds : List Nat) (out : Nat) (kclr : BitVec 4)
    (blocks : List Byte) : List Byte :=
  let map := (kinds.zipIdx.map fun x => x.1 % 4 * 4 ^ x.2).foldl (· + ·) 0
  let k := kclr.toNat
  let body := leBytes 1 (typ * 16 + s.mCode (4 * l.val) % 4 * 4 + s.frame.tf % 4) ++ leBytes 2 s.frame.fc ++
    leBytes 3 s.twin.epoch ++ leBytes 1 (s.frame.fc + 2) ++ leBytes 1 map ++ leBytes 3 out ++
    leBytes 1 (k * 16 + (15 - k)) ++ blocks
  body ++ leBytes 2 (linkCrc body)

/-- The command that a slot's block carries: none until the stage has answered SLOT_CFG and DEADTIME (R99), OFF
right after an override's commit (R122), else what the engine left, in the order of the wiring (R121). -/
def State.slotCmd (s : State) (l : Fin 32) (k : Fin 4) : SlotCmd :=
  let a := axisAt l k.val
  let x := s.links[l]
  let c := s.axes[a].pwm.cmd
  if !x.slotCfg[k].ok || !x.dtAcked then { c with kind := 0 }
  else if x.overrideNew.getLsbD k.val then SlotCmd.off c.kind
  else c.permute (s.pN (Pid.axPwmSwap a.val)) (s.pN (Pid.axPwmInvert a.val))

/-- The commands in force from the actuation of this frame on (R25, R125). -/
def State.setLive (s : State) (l : Fin 32) (c : Fin 4 → SlotCmd) : State :=
  (s.modLink l fun x => { x with sentAct := s.act }).each (linkAxes l) fun t a => t.modAxis a fun x =>
    { x with pwm := { x.pwm with livePrev2 := x.pwm.livePrev, livePrev := x.pwm.live, live := c (slotOf a), liveAt := t.act } }

/-- The SCHEDULE frame of a link leaves (R78); a device that does not drive only goes on with its own commands
(R388). -/
def State.sendSchedule (s : State) (l : Fin 32) : State :=
  let c (k : Fin 4) : SlotCmd := s.slotCmd l k
  let slots : List (Fin 4) := [0, 1, 2, 3]
  if !s.maySend l then (if s.drives then s else s.setLive l c)
  else
    let (o, s) := s.takeOut l
    let x := s.links[l]
    let b := s.downFrame l 1 (slots.map fun k => (c k).kind) (outField o) x.kclr (slots.flatMap fun k => (c k).block)
    let s := s.linkSend l (framed b)
    let s := s.modLink l fun x =>
      { x with kclr := 0, overrideNew := 0, firstTick := some (x.firstTick.getD s.frame.tick) }
    s.setLive l c

/-- A REPEAT frame leaves on a link (R36, R37, R510): with `off` its SLOTMAP is 0 and the gates go off. -/
def State.sendRepeat (s : State) (l : Fin 32) (off : Bool) : State :=
  if !s.maySend l then s
  else
    let kind (k : Fin 4) : Nat := if off then 0 else (s.axes[axisAt l k.val]).pwm.live.kind
    let s := s.linkSend l (framed (s.downFrame l 2 ([0, 1, 2, 3].map kind) 0 0 []))
    let s := s.modLink l fun x => { x with firstTick := some (x.firstTick.getD s.frame.tick), sentAct := s.act }
    if off then s.setLive l fun _ => SlotCmd.off 0 else s

/-- The cluster sends only repeat frames that keep its gates off: an overrun in reduced mode until its fault is
cleared (R37), or a cluster test (R510). -/
def State.gatesHeld (s : State) (c : Fin 8) : Bool := s.frame.gatesOff.getLsbD c.val || (s.age.clt[c]).isSome

/-- A SOLO device that has no epoch yet chooses one before its first schedules (R396). -/
def State.needEpoch (s : State) : State :=
  if s.twin.state == .solo && s.twin.epoch == 0 then s.chooseEpoch else s

/-- The transmit window of the frame has not ended (R25). -/
def State.inTransmit (s : State) : Bool := decide (s.nt ≤ s.frame.tick + us 13)

/-- The instant at which a cluster's frames leave (R26): the later of its engine's last schedule and tick + 6.0 µs. -/
def State.sendInstant (s : State) (c : Fin 8) : Nat :=
  let t := s.frame.tick + us 6
  if s.frame.finished.getLsbD c.val then max t s.frame.doneAt[c] else t

/-- SCHEDULE_FRAME_SEND (R26): the frames of a cluster leave at the later of its engine's last schedule and tick +
6.0 µs, once in a frame. -/
def execScheduleFrameSend (c : Fin 8) (s : State) : Host.Outcome State Fault Refusal :=
  let held := s.gatesHeld c
  let done := s.frame.finished.getLsbD c.val || held
  if !s.axOn c || !s.frame.ticking || !done || s.frame.sent.getLsbD c.val || !s.inTransmit then .next s else
  let s := (s.adv (s.sendInstant c)).needEpoch
  let s := s.each (clusterLinks c) fun t l => if held then t.sendRepeat l true else t.sendSchedule l
  .next (s.modFrame fun f => { f with sent := f.sent ||| (1#8 <<< c.val) })

/-- FRAME_OVERRUN (R36 to R38): the engine of a cluster has not finished by tick + 9.5 µs. -/
def execFrameOverrun (c : Fin 8) (s : State) : Host.Outcome State Fault Refusal :=
  let m : BitVec 8 := 1#8 <<< c.val
  let f := s.frame
  if !s.axOn c || !f.ticking || f.finished.getLsbD c.val || f.overran.getLsbD c.val || (s.age.clt[c]).isSome then
    .next s
  else
    let s := (s.adv (f.tick + 9500)).needEpoch
    let again := f.reduced.getLsbD c.val
    let s := s.modFrame fun f =>
      { f with overran := f.overran ||| m, ovr := f.ovr.set c (count32 f.ovr[c]), consec := f.consec.set c (f.consec[c] + 1)
               gatesOff := if again then f.gatesOff ||| m else f.gatesOff, sent := f.sent ||| m }
    let off := s.frame.gatesOff.getLsbD c.val
    let s : State := if f.sent.getLsbD c.val then s else s.each (clusterLinks c) fun t l => t.sendRepeat l off
    let s := s.each [0, 1] fun t ch => t.each (clusterAxes c) fun t a => t.modChan ch fun k =>
      { k with axes := k.axes.set a { k.axes[a] with missRun := (k.axes[a]).missRun + 1 } }
    let s := s.raise 0x0201 c.val (clusterAxes c)
    .next (if again then s.raise 0x0204 c.val (clusterAxes c) else s)

/-- CLUSTER_OVERRUN (R37): the third consecutive overrun puts the engine in reduced mode. -/
def execClusterOverrun (c : Fin 8) (s : State) : Host.Outcome State Fault Refusal :=
  let m : BitVec 8 := 1#8 <<< c.val
  if s.frame.overran.getLsbD c.val && decide (3 ≤ s.frame.consec[c]) && !s.frame.reduced.getLsbD c.val then
    .next ((s.modFrame fun f => { f with reduced := f.reduced ||| m }).raise 0x0202 c.val (clusterAxes c))
  else .next s

/-- Reduced mode and the held gates of a cluster end when their fault has been cleared (R37, R38). -/
def State.overrunCleared (s : State) : State :=
  let keep (m : BitVec 8) (code : Nat) : BitVec 8 :=
    BitVec.ofNat 8 (allClusters.foldl (fun n c => n + b2n (m.getLsbD c.val && s.faultOn code c.val) * 2 ^ c.val) 0)
  s.modFrame fun f => { f with reduced := keep f.reduced 0x0202, gatesOff := keep f.gatesOff 0x0204 }

end Sys2Proof.Machine
end

