-- ==== Sys2Proof/Machine/Frame.lean ====
section
/-! DEFINITION. FRAME_TICK (R21, R24, R25): the instant of the tick, the commit, and everything that the spec lets
take effect at a tick. -/

namespace Sys2Proof.Machine

/-- The instant of the next tick (R21): the first whole multiple of Tf after the latest tick that has not passed. -/
def State.nextTick (s : State) : Nat :=
  max (s.frame.tick / s.tf + 1) ((s.nt + s.tf - 1) / s.tf) * s.tf

/-- The tick begins: device time, the frame counter, and a committed frame period at a whole multiple of 100 µs
(R21, R24). -/
def State.beginTick (s : State) : State :=
  let t := s.nextTick
  let s := s.adv t
  s.modFrame fun f =>
    let (tf, next) : Nat × Option Nat := match f.tfNext with
      | some c => if t % 100000 = 0 then (c, none) else (f.tf, some c)
      | none => (f.tf, none)
    { f with tick := t, tf := tf, tfNext := next, fc := t / tfOf tf % 2 ^ 32, finished := 0, overran := 0, sent := 0, traj := 0 }

/-- SAVE has written its set (R61). -/
def State.saveDone (s : State) : State :=
  match s.par.saving with
  | none => s
  | some (set, _) =>
    (s.modPar fun p => { p with saving := none, flash := some set, flashGood := true }).callDone 0x0100F001 stOk []

/-- The last group of a bundle has been committed (R494). -/
def State.bundleDone (s : State) : State :=
  if s.sec.bundling && s.par.ready.isEmpty then
    let save := s.sec.bundleSave && s.par.saving.isNone
    let s := s.modSec fun k => { k with bundling := false, bundleSave := false }
    if save then s.modPar fun p => { p with saving := some (s.savedSet, none) } else s
  else s

/-- Counters and maxima that STAT_CLR clears (R24). -/
def State.statClear (s : State) : State :=
  if s.par.statClr then
    (s.modPar fun p => { p with statClr := false, commitDefer := 0 }).modFrame fun f =>
      { f with ovr := Vector.replicate 8 0, engMax := Vector.replicate 8 0 }
  else s

/-- What calls left for an axis's engine at this tick (R200, R215), and the set-points of the frame (R225). -/
def Axis.tick (x : Axis) : Axis :=
  let e := x.eng
  let e := if e.satClr then { e with satClr := false, sticky := 0 } else e
  let e := if e.rptClr then { e with rptClr := false, overspeed := false, clamped := false, st := { e.st with bins := List.replicate 256 0, mean := 0 } } else e
  { x with eng := e, prf := { x.prf with now := x.prf.next } }

/-- The re-planned limits and thresholds come into force at a commit (R503 to R505). -/
def State.replanDue (s : State) : State :=
  s.modAge fun k => { k with axes := k.axes.map fun g => { g with fNow := g.f, kNow := g.k } }

/-- ENABLE on a cluster whose AX domain is off is a wake request (R463). -/
def State.enableWakes (s : State) : State :=
  let hit (c : Fin 8) : Bool := s.drives && !s.pwr.domains.getLsbD c.val && (clusterAxes c).any fun a => s.axes[a].enable
  let m := allClusters.foldl (fun n c => n + b2n (hit c) * 2 ^ c.val) 0
  s.modPwr fun p => { p with wakeReq := p.wakeReq ||| BitVec.ofNat 8 m }

/-- The groups that may be committed at this tick (R394): on an active with a partner those that its image carried. -/
def State.mayCommit (s : State) (g : Group) : Bool :=
  !s.paired || (s.twin.carried.contains g.num && !(s.twin.split && decide (s.frame.fc % 2 = 1)))

/-- What takes effect at a tick once its groups are committed. -/
def State.tickEffects (s : State) (changed : List Nat) : State :=
  let s := s.saveDone.bundleDone.statClear
  let s := s.clearApply.overrunCleared
  let s := s.replanDue.safActivate.keysDue.endAllDue.restartDue
  let s := s.statWatch.sleepTick.offTrack.dtTick.trpClearDue.setPosTick
  let s := s.each allAxes State.homApply
  let s : State := { s with axes := s.axes.map Axis.tick }
  let (swapped, s) := s.piTick
  let s := ((s.piRead swapped).trkTick.capTick.fioWrites.returnsTick).modFio (·.cutTick s.frame.tick)
  let s := ((s.cmpTicks changed).subTick.enableWakes).alignWatch
  let s := if s.host.tsArmed then (s.modHost fun h => { h with tsArmed := false }).snapshot true else s
  s.twinTick

/-- FRAME_TICK (R21, R25, R28). -/
def execFrameTick (s : State) : Host.Outcome State Fault Refusal :=
  if !s.frame.ticking || !s.domainOn 8 then .next s else
  let s := s.beginTick.drainPorts
  let (s, es) := s.commitTick s.mayCommit
  .next (s.tickEffects (es.map (·.1)))

end Sys2Proof.Machine
end

