-- ==== Sys2Proof/Machine/Pcie.lean ====
section
/-! DEFINITION. The PCIe endpoint's configuration space (R40, R534) and its window onto the carafe (R344).  The values are
the spec's; the places of the fields in the space are PRESUMED (log 157: a type 0 header of PCI with one MSI
capability). -/

namespace Sys2Proof.Machine

/-- Where the configuration space lies for a word write of the PCIe path: beyond BAR0 and BAR1 (log 157). -/
def cfgBase : Nat := 2 ^ 32

/-- A word of the configuration space: vendor and device ID, class code and revision, BAR0 (256 KiB, 32-bit,
non-prefetchable), BAR1 (4 MiB, 32-bit, prefetchable), subsystem, and MSI with up to 4 vectors and 64-bit addresses. -/
def State.cfgWord (s : State) (off : Nat) : Word :=
  let c := s.host.cfg
  match off with
  | 0x00 => 0x91281F3E
  | 0x08 => 0x11800003
  | 0x10 => c.bar0
  | 0x14 => c.bar1 ||| 8
  | 0x2C => if s.ib then 0x00011F3E else 0x00021F3E
  | 0x34 => 0x50
  | 0x50 =>
    let mme := if s.host.msiGranted = 4 then 2 else if s.host.msiGranted = 2 then 1 else 0
    BitVec.ofNat 32 (0x00840005 + b2n s.host.msiOn * 2 ^ 16 + mme * 2 ^ 20)
  | 0x54 => c.msiLo
  | 0x58 => c.msiHi
  | 0x5C => c.msiData
  | _ => 0

/-- A write of the configuration space by the host: the BARs' bases, and MSI with the vectors granted. -/
def State.cfgWrite (s : State) (off : Nat) (v : Word) : State :=
  s.modHost fun h =>
    match off with
    | 0x10 => { h with cfg := { h.cfg with bar0 := v &&& 0xFFFC0000 } }
    | 0x14 => { h with cfg := { h.cfg with bar1 := v &&& 0xFFC00000 } }
    | 0x50 => { h with msiOn := bit v.toNat 16, msiGranted := 2 ^ min 2 (bits v.toNat 22 20) }
    | 0x54 => { h with cfg := { h.cfg with msiLo := v &&& 0xFFFFFFFC } }
    | 0x58 => { h with cfg := { h.cfg with msiHi := v } }
    | 0x5C => { h with cfg := { h.cfg with msiData := v &&& 0xFFFF } }
    | _ => h

/-- A word of BAR1 (R40, R344): the carafe's ring, index i at 4W × i; the words beyond 4W × C are not used. -/
def State.bar1Word (s : State) (off : Nat) : Word := wordGet s.cap.carafe (off / 4)

/-- A stored sample of the capture, word by word, as BAR1 shows it (R344): `k` from 0 to `CAP.COUNT` − 1. -/
def State.carafeSample (s : State) (k : Nat) : List Word :=
  let g := s.cap.cfg
  let i := (s.cap.start + k) % g.cap
  (List.range g.w).map fun j => s.bar1Word (4 * (g.w * i + j))

end Sys2Proof.Machine
end

