-- ==== Sys2Proof/Machine/Host.lean ====
section
/-! DEFINITION. The meanings of the host access commands (R39 to R65). -/

namespace Sys2Proof.Machine

/-- A QSPI read of words (R41): they are returned to the host. -/
def State.qspiRead (s : State) (off words tm : Nat) : State :=
  let s := s.adv tm
  if s.pathUp .qspi then
    let (ws, s) := s.readWords .qspi off words
    s.modHost fun h => { h with rdata := ws }
  else s

/-- A QSPI write of bytes (R41). -/
def State.qspiWrite (s : State) (off : Nat) (bytes : List Byte) (tm : Nat) : State :=
  let s := s.adv tm
  if s.pathUp .qspi then s.writeWords .qspi off bytes else s

/-- The command that a QSPI transaction spells (R41): its code, 3 address bytes, most significant byte first, and the words
clocked out of the device or the bytes clocked into it; none for another code. -/
def qspiCommand (code a2 a1 a0 : Byte) (words : Nat) (data : List Byte) (tm : Nat) : Option Instr :=
  let off := a2.toNat * 65536 + a1.toNat * 256 + a0.toNat
  match code.toNat with
  | 0x0B => some (.qspiRead off words tm)
  | 0xEB => some (.qspiQread off words tm)
  | 0x02 => some (.qspiWrite off data tm)
  | 0x32 => some (.qspiQwrite off data tm)
  | _ => none

/-- QSPI READ (R41). -/
def execQspiRead (off words tm : Nat) (s : State) : Host.Outcome State Fault Refusal :=
  .next (s.qspiRead off words tm)

/-- QSPI QREAD (R41). -/
def execQspiQread (off words tm : Nat) (s : State) : Host.Outcome State Fault Refusal :=
  .next (s.qspiRead off words tm)

/-- QSPI WRITE (R41). -/
def execQspiWrite (off : Nat) (bytes : List Byte) (tm : Nat) (s : State) : Host.Outcome State Fault Refusal :=
  .next (s.qspiWrite off bytes tm)

/-- QSPI QWRITE (R41). -/
def execQspiQwrite (off : Nat) (bytes : List Byte) (tm : Nat) (s : State) : Host.Outcome State Fault Refusal :=
  .next (s.qspiWrite off bytes tm)

/-- A host write of one word (R39, R43), or of one of the PCIe configuration space (R40, log 157). -/
def execRegisterWrite (p : Path) (off : Nat) (v : Word) (tm : Nat) (s : State) :
    Host.Outcome State Fault Refusal :=
  let s := s.adv tm
  .next (if !s.pathUp p then s
    else if p == .pcie && decide (cfgBase ≤ off) then s.cfgWrite (off - cfgBase) v
    else s.writeWord p off v)

/-- A read of a register's low word (R42): the word is returned and the high word latched. -/
def execWideRegisterLowRead (p : Path) (off tm : Nat) (s : State) : Host.Outcome State Fault Refusal :=
  let s := s.adv tm
  if s.pathUp p && isLowWord off then
    let (v, s) := s.readWord p off
    .next (s.modHost fun h => { h with rdata := [v] })
  else .next s

/-- The PCIe link goes down or takes a hot reset (R40, R53): its mailboxes are released, its writer role,
subscriptions and latched words go. -/
def State.pcieDown (s : State) : State :=
  let s := s.each (allMbx.filter fun m => s.mbx[m].owner == .pcie) fun t m => t.mbxRelease .pcie m
  let s := s.modPi fun k => if k.writer = 1 then { k with writer := 0 } else k
  s.modHost fun h => { h with subsPcie := [] }

/-- PCIe link down or hot reset (R40). -/
def execPcieLinkDown (tm : Nat) (s : State) : Host.Outcome State Fault Refusal :=
  .next ((s.adv tm).pcieDown.modHost fun h => { h with pcieUp := false, msiOn := false, cfg := {} })

/-- nPCIE_PERST (R534): the endpoint is reset and trains its link again; the link was down meanwhile (R40). -/
def execPciePerst (tm : Nat) (s : State) : Host.Outcome State Fault Refusal :=
  .next ((s.adv tm).pcieDown.modHost fun h => { h with pcieUp := true, msiOn := false, msiGranted := 1, cfg := {} })

/-- MBXn_CLAIM 1 (R47, R48). -/
def execMbxClaim (p : Path) (m : Fin 16) (s : State) : Host.Outcome State Fault Refusal :=
  .next (if s.pathUp p then s.mbxClaim p m else s)

/-- MBXn_CLAIM 2 (R48). -/
def execMbxRelease (p : Path) (m : Fin 16) (s : State) : Host.Outcome State Fault Refusal :=
  .next (if s.pathUp p then s.mbxRelease p m else s)

/-- MBXn_DOORBELL (R47, R49). -/
def execMbxDoorbell (p : Path) (m : Fin 16) (tm : Nat) (s : State) : Host.Outcome State Fault Refusal :=
  let s := s.adv tm
  .next (if s.pathUp p then s.doorbell p m else s)

/-- The mailboxes between the last one taken and `m` in the firmware's turn (R50). -/
def State.turnOf (s : State) (m : Fin 16) : Bool :=
  ((List.range ((m.val + 15 - s.host.lastTaken) % 16)).map
    fun i => fin 16 (by decide) (s.host.lastTaken + 1 + i)).all fun k => s.mbx[k].state != .pending

/-- The firmware takes a pending command in its round-robin turn (R49, R50): copied, buffer unlocked. -/
def execMbxTake (m : Fin 16) (tm : Nat) (s : State) : Host.Outcome State Fault Refusal :=
  let s := s.adv tm
  if s.fwRuns && s.mbx[m].state == .pending && s.turnOf m then
    let s := s.modMbx m fun b =>
      { b with state := .executing, copy := Mem.gets b.cmd 0 512, hidden := none, wait := .none }
    let s := s.modHost fun h => { h with lastTaken := m.val }
    let s := s.modSession s.mbx[m].session fun x => { x with lastCmd := s.nt }
    .next (s.modPwr fun p => { p with lastCmd := s.nt })
  else .next s

/-- The firmware does not run: hardware answers a pending command BUSY (R49). -/
def execMbxAutoBusy (m : Fin 16) (tm : Nat) (s : State) : Host.Outcome State Fault Refusal :=
  let s := s.adv tm
  .next (if s.hostUp && !s.fwRuns && s.mbx[m].state == .pending then s.abortMbx m stBusy 0 true else s)

/-- Sessions that end with this response: END, and a PROVE that failed (R489, R491). -/
def State.endBound (s : State) (m : Fin 16) : State :=
  s.each ((s.sec.sessions.filter fun x => x.ending && x.mbx == m.val).map (·.id)) fun t i => t.endSession i

/-- A completed response is flipped into the visible buffer (R49); a command that the device does not
know gets its status first (R55). -/
def execMbxResponse (m : Fin 16) (tm : Nat) (s : State) : Host.Outcome State Fault Refusal :=
  let s := (s.adv tm).serveUnknown m
  match s.mbx[m].hidden with
  | some frame => .next (if s.mbx[m].state == .executing then (s.completeMbx m frame false).endBound m else s)
  | none => .next s

/-- The deadline of the command in hand passes (R49): TIMEOUT; a started call continues, and a group
marked ready commits without an answer.  DEDUCED (log 150): a command whose response is complete has had its effect, so
that it ends with its response and not with TIMEOUT. -/
def execMbxDeadline (m : Fin 16) (tm : Nat) (s : State) : Host.Outcome State Fault Refusal :=
  let s := s.adv tm
  let b := s.mbx[m]
  if s.nt < b.bellAt + ms b.deadlineNow then .next s
  else match b.state with
    | .idle | .done => .next s
    | .pending => .next (s.abortMbx m stTimeout 0 false)
    | .executing => match b.wait, b.hidden with
      | .call id, none =>
        .next ((s.modHost fun h => { h with started := h.started ++ [id] }).abortMbx m stTimeout 8 false)
      | _, some frame => .next ((s.completeMbx m frame false).endBound m)
      | .none, none | .group _, none => .next (s.abortMbx m stTimeout 0 false)

/-- A W1C write of IRQ_STATUS (R44). -/
def execIrqStatusWrite (v : Word) (s : State) : Host.Outcome State Fault Refusal :=
  .next (if s.hostUp then s.irqClear v else s)

/-- A write of IRQ_ENABLE (R44). -/
def execIrqEnableWrite (v : Word) (s : State) : Host.Outcome State Fault Refusal :=
  .next (if s.hostUp then s.irqSet s.host.irqStatus (v &&& irqBits) s.host.irqVector else s)

/-- A write of IRQ_VECTOR (R43, R44): bits [31:8] are read-only. -/
def execIrqVectorWrite (v : Word) (s : State) : Host.Outcome State Fault Refusal :=
  .next (if s.hostUp then s.irqSet s.host.irqStatus s.host.irqEnable (v &&& 0xFF) else s)

/-- A write of IRQ_TEST (R43, R44). -/
def execIrqTest (v : Word) (s : State) : Host.Outcome State Fault Refusal :=
  .next (if s.hostUp then s.irq (v &&& irqBits) else s)

/-- HOST_WDOG_KICK (R65). -/
def execHostWdogKick (tm : Nat) (s : State) : Host.Outcome State Fault Refusal :=
  let s := s.adv tm
  .next (if s.hostUp then s.kick else s)

/-- The axes of the process image mask. -/
def State.maskAxes (s : State) : List (Fin 128) := allAxes.filter fun a => s.inMask a.val

/-- The host watchdog time passes without a kick (R65). -/
def execHostWdogExpiry (tm : Nat) (s : State) : Host.Outcome State Fault Refusal :=
  let s := s.adv tm
  let t := s.pN Pid.hostWdogTime
  if s.hostUp && t ≠ 0 && !s.host.wdogExpired && s.host.wdogFrom + ms t ≤ s.nt then
    .next (((s.modHost fun h => { h with wdogExpired := true }).irq (irqBit 23)).raise 0x0110 0 s.maskAxes)
  else .next s

/-- EVT_POP (R46). -/
def execEvtPop (s : State) : Host.Outcome State Fault Refusal := .next (if s.hostUp then s.evtPop else s)

/-- A read of EVT_LOST (R46): the count is returned and cleared. -/
def execEvtLostRead (s : State) : Host.Outcome State Fault Refusal :=
  .next (if s.hostUp then
    (s.modHost fun h => { h with rdata := [BitVec.ofNat 32 h.evtLost] }).clearLost else s)

/-- TS_CTRL TAKE (R45). -/
def execTsTake (tm : Nat) (s : State) : Host.Outcome State Fault Refusal :=
  let s := s.adv tm
  .next (if s.hostUp then s.snapshot false else s)

/-- TS_CTRL ON_TICK (R45). -/
def execTsOnTick (s : State) : Host.Outcome State Fault Refusal :=
  .next (if s.hostUp then s.modHost fun h => { h with tsArmed := true } else s)

/-- A write of PI_CTRL (R45, R63). -/
def execPiCtrlWrite (p : Path) (v : Word) (s : State) : Host.Outcome State Fault Refusal :=
  .next (if s.pathUp p then s.piCtrl v else s)

/-- PI_HANDOVER (R63). -/
def execPiHandover (p : Path) (tm : Nat) (s : State) : Host.Outcome State Fault Refusal :=
  let s := s.adv tm
  .next (if s.pathUp p then s.piHand p else s)

/-- A host write to a process image bank (R63). -/
def execPiBankWrite (p : Path) (off : Nat) (v : Word) (tm : Nat) (s : State) :
    Host.Outcome State Fault Refusal :=
  let s := s.adv tm
  .next (if s.pathUp p && decide (0x20000 ≤ off ∧ off < 0x30000) then s.bankWrite p off v else s)

/-- HOST.PI.TIMEOUT ticks have passed without a swap in handshake mode (R64). -/
def execPiTimeout (s : State) : Host.Outcome State Fault Refusal :=
  let t := s.pN Pid.hostPiTimeout
  .next (if s.pi.running && s.pi.handshake && t ≠ 0 && t ≤ s.pi.dry && !s.pi.dryRaised then
    (s.modPi fun p => { p with dryRaised := true }).raise 0x0111 0 s.maskAxes else s)

end Sys2Proof.Machine
end

