-- ==== Sys2Proof/Machine/SafetyCmds.lean ====
section
/-! DEFINITION. The commands of the two safety channels: inputs, cross-check, telegrams, axis words, outputs,
temperature, degraded mode and timers (R402 to R428). -/

namespace Sys2Proof.Machine

/-- The other channel. -/
def otherChan (ch : Fin 2) : Fin 2 := if ch = 0 then 1 else 0

/-! Antivalent inputs. -/

/-- A pair after a sample (R416): `f` and `d` are FILTER and DISC in ns. -/
def PairSt.sample (x : PairSt) (p n : Bool) (f now : Nat) : PairSt :=
  let healthy := p && !n
  let bad := if healthy then none else some (x.badFrom.getD now)
  let good := if healthy then some (x.goodFrom.getD now) else none
  let long (t : Option Nat) : Bool := t.any fun u => decide (u + f ≤ now)
  let dem := if long bad then true else if long good then false else x.demand
  let passed := x.discDemand || (x.disc && !p && n)
  let ended := x.demand && !dem
  { x with p := p, n := n, badFrom := bad, goodFrom := good,
           sameFrom := if p == n then some (x.sameFrom.getD now) else none,
           demand := dem, demandFrom := if dem && !x.demand then now else x.demandFrom,
           disc := x.disc && !(passed && ended), discDemand := passed && !ended }

/-- A pair of function 4 has just returned to healthy after 100 ms to 5 s in demand (R408). -/
def resetPulse (old new : PairSt) (now : Nat) : Bool :=
  old.demand && !new.demand && decide (old.demandFrom + ms 100 ≤ now ∧ now ≤ old.demandFrom + secs 5)

/-- A section samples the antivalent pairs (R416, R417). -/
def execSafetyInputSample (ch : Fin 2) (sp sn : BitVec 8) (tm : Nat) (s : State) :
    Host.Outcome State Fault Refusal :=
  let s := s.adv tm
  if !s.chanOn ch || !s.pwr.supply.getLsbD 5 then .next s else
  let old := s.saf.chan[ch].pairs
  let new : Vector PairSt 8 := Vector.ofFn fun n =>
    (old[n]).sample (sp.getLsbD n.val) (sn.getLsbD n.val) (us (s.safV ch (Pid.safSiFilter n.val))) s.nt
  let s := s.modChan ch fun c => { c with pairs := new }
  let pulses := (List.range 8).filter fun n =>
    let i : Fin 8 := fin 8 (by decide) n
    s.safV ch (Pid.safSiFunc n) = 4 && resetPulse old[i] (s.saf.chan[ch].pairs[i]) s.nt
  let s := s.safEval ch
  .next (if ch == 0 && bit (s.safV 0 Pid.safResetSrc) 1 then
    (s.each pulses fun t n => (t.safReset (grpsOf (t.safV 0 (Pid.safSiGroups n))) 1 0 0).2).safDone
  else s)

/-- A pair stays with both signals equal for longer than DISC (R416). -/
def execDiscrepancy (pair : Fin 8) (tm : Nat) (s : State) : Host.Outcome State Fault Refusal :=
  let s := s.adv tm
  let beyond (ch : Fin 2) : Bool :=
    let x := s.saf.chan[ch].pairs[pair]
    !x.disc && x.sameFrom.any fun t => decide (t + ms (s.safV ch (Pid.safSiDisc pair.val)) < s.nt)
  if s.safOn && (beyond 0 || beyond 1) then
    let f (c : ChanSt) : ChanSt :=
      let x := c.pairs[pair]
      { c with pairs := c.pairs.set pair { x with disc := true, discDemand := false } }
    let s := (s.modChan 0 f).modChan 1 f
    .next (s.safFault 0x7001 pair.val 0 (grpsOf (s.safV 0 (Pid.safSiGroups pair.val)))).safDone
  else .next s

/-! Cross-check. -/

/-- The filtered state of the pairs, as a mask of demands. -/
def ChanSt.pairMask (c : ChanSt) : BitVec 8 :=
  BitVec.ofNat 8 ((List.range 8).foldl
    (fun n i => n + b2n (c.pairs[fin 8 (by decide) i]).demand * 2 ^ i) 0)

/-- A value as a doppio word. -/
def d32 (v : Nat) : List Byte := PTyp.d32.encode v

/-- A channel sends its cross-check words (R402). -/
def execCrossCheckSend (ch : Fin 2) (tm : Nat) (s : State) : Host.Outcome State Fault Refusal :=
  let s := s.adv tm
  if !s.chanOn ch then .next s else
  let c := s.saf.chan[ch]
  .next (s.emit (.xchk ch.val (d32 c.pairMask.toNat ++ d32 c.tel.seq ++ d32 c.tel.sto.toNat ++
    d32 c.tel.ss1.toNat ++ d32 c.tel.sls.toNat ++ d32 c.tel.sdi.toNat ++
    d32 (c.grpMask .sto + c.grpMask .ss1 * 65536) ++ d32 (b2n c.degraded) ++ d32 c.crc)))

/-- What the channels compare differs (R404): inputs, the content for one SEQ, the configurations. -/
def State.xchkDiffers (s : State) (ch : Fin 2) : Bool :=
  let a := s.saf.chan[ch]
  let b := s.saf.chan[otherChan ch]
  a.pairMask != b.pairMask || (a.telOpen && b.telOpen && a.tel.seq == b.tel.seq && a.tel != b.tel) ||
  a.configured != b.configured || (a.configured && blockBytes a.block != blockBytes b.block)

/-- A channel adopts the other's stricter states (R403). -/
def State.adopt (s : State) (ch : Fin 2) : State :=
  let o := otherChan ch
  let s := s.each allGroups fun t g =>
    let x := t.saf.chan[o].groups[g]
    match x.state with
    | .sto => t.stoAt ch g x.demandOnly
    | .ss1 =>
      let t := t.ss1At ch g x.demandOnly
      t.modGrp ch g fun y => if y.state == .ss1 then { y with ends := min y.ends x.ends } else y
    | .normal => t
  let od := s.saf.chan[o]
  if od.degraded && !s.saf.chan[ch].degraded then
    s.modChan ch fun c => { c with degraded := true, degUsed := od.degUsed, degFrom := od.degFrom }
  else s

/-- A channel receives the other's cross-check words (R402 to R404, R458). -/
def execCrossCheckReceive (ch : Fin 2) (valid : Bool) (tm : Nat) (s : State) :
    Host.Outcome State Fault Refusal :=
  let s := s.adv tm
  if !s.safOn || !valid || !s.pwr.supply.getLsbD 4 then .next s else
  let o := s.saf.chan[otherChan ch]
  let s := s.modSaf fun k => { k with armed := k.armed || ch == 0 }
  let diff := s.xchkDiffers ch
  let s := s.modChan ch fun c =>
    { c with rxAt := s.nt, rxPairs := o.pairMask, rxTel := o.tel, rxCrc := o.crc,
             diffFrom := if diff then some (c.diffFrom.getD s.nt) else none }
  .next (s.adopt ch).safDone

/-- No valid cross-check word for 1 ms (R404), once the cross-check is armed (R458). -/
def execXchkLost (ch : Fin 2) (tm : Nat) (s : State) : Host.Outcome State Fault Refusal :=
  let s := s.adv tm
  .next (if s.safOn && s.saf.armed && s.pwr.state != .safe && s.saf.chan[ch].rxAt + ms 1 ≤ s.nt then
    ((s.safFault 0x700A 0 0 allGroups).enterSafe).safDone else s)

/-- What the channels evaluated differs for longer than XCHK_T (R404). -/
def execChannelDisagree (tm : Nat) (s : State) : Host.Outcome State Fault Refusal :=
  let s := s.adv tm
  let beyond (ch : Fin 2) : Bool :=
    s.saf.chan[ch].diffFrom.any fun t => decide (t + ms (s.safV ch Pid.safXchkT) < s.nt)
  .next (if s.safOn && s.pwr.state != .safe && (beyond 0 || beyond 1) then
    ((s.safFault 0x7009 0 0 allGroups).enterSafe).safDone else s)

/-- A self-test of a channel fails (R404). -/
def execSelftest (ch : Fin 2) (tm : Nat) (s : State) : Host.Outcome State Fault Refusal :=
  let s := s.adv tm
  .next (if s.safOn && s.pwr.state != .safe then
    ((s.safFault 0x7010 0 0 allGroups ch.val).enterSafe).safDone else s)

/-! Times of groups. -/

/-- The SS1-t time of a group ends at a channel (R411). -/
def execSs1Expiry (ch : Fin 2) (g : Fin 16) (tm : Nat) (s : State) : Host.Outcome State Fault Refusal :=
  let s := s.adv tm
  let x := s.saf.chan[ch].groups[g]
  .next (if s.chanOn ch && x.state == .ss1 && x.ends ≤ s.nt then (s.stoAt ch g x.demandOnly).safDone else s)

/-- SLS_RAMP after a request: the channel checks the group (R413). -/
def execSlsRampEnd (ch : Fin 2) (g : Fin 16) (tm : Nat) (s : State) : Host.Outcome State Fault Refusal :=
  let s := s.adv tm
  match (s.saf.chan[ch].groups[g]).slsFrom with
  | some t => .next (if s.chanOn ch && t + ms (s.safV ch (Pid.safGSlsRamp g.val)) ≤ s.nt then
      s.modGrp ch g fun y => { y with slsOn := true } else s)
  | none => .next s

/-! Axis words. -/

/-- An axis word arrives at a channel (R412 to R414). -/
def State.axisWordAt (s : State) (ch : Fin 2) (a : Fin 128) (w : Nat) : State :=
  let v := w % 2 ^ 32
  let x := s.saf.chan[ch].axes[a]
  let fc := bits v 27 24
  let good := w / 2 ^ 32 == 2 ^ 32 - 1 - v && (!x.got || fc == (x.fc + 1) % 16)
  if !good then
    let y := { x with missRun := x.missRun + 1, fc := if w / 2 ^ 32 = 2 ^ 32 - 1 - v then fc else x.fc }
    s.modChan ch fun c => { c with axes := c.axes.set a y }
  else
    let speed := toSigned 24 v
    let blind := !bit v 29 && bit v 28
    let sls : Bool := match s.slsLimit ch a with
      | some lim => decide ((lim : Int) < speed.natAbs) || blind
      | none => false
    let d := s.sdiDir ch a
    let sp := if s.safV ch (Pid.safASdiSign a.val) = 1 then -speed else speed
    let sdi := d != 0 && (decide (d * sp < -((s.safV ch (Pid.safASdiVtol a.val) : Nat) : Int)) || blind)
    let y := { x with fc := fc, got := true, wordAt := s.nt, missRun := 0, slsRun := if sls then x.slsRun + 1 else 0,
                      sdiRun := if sdi then x.sdiRun + 1 else 0 }
    s.modChan ch fun c => { c with axes := c.axes.set a y }

/-- A channel receives an axis word (R412). -/
def execAxisWordReceive (ch : Fin 2) (a : Fin 128) (word : Dword) (tm : Nat) (s : State) :
    Host.Outcome State Fault Refusal :=
  let s := s.adv tm
  .next (if s.chanOn ch then s.axisWordAt ch a word.toNat else s)

/-- The group of an axis as a list. -/
def State.axisGrp (s : State) (a : Fin 128) : List (Fin 16) :=
  match s.grpOf 0 (linkOf a) with
  | some g => [g]
  | none => []

/-- A fault of an axis's group at both channels, once while the group holds it. -/
def State.axisFault (s : State) (a : Fin 128) (code act : Nat) : State :=
  let gs := s.axisGrp a
  match gs with
  | [] => s
  | g :: _ => (s.safFault code g.val act gs a.val).safDone

/-- An axis misses its word in 2 consecutive frames (R412). -/
def execAxisWord (a : Fin 128) (tm : Nat) (s : State) : Host.Outcome State Fault Refusal :=
  let s := s.adv tm
  let hit (ch : Fin 2) : Bool := s.wordsMissing ch a && s.monitored ch a
  .next (if s.safOn && (hit 0 || hit 1) then s.axisFault a 0x700E 0 else s)

/-- The reaction of SAF.Gg.VIOL_ACT on an axis's group (R414). -/
def State.violAct (s : State) (a : Fin 128) : Nat :=
  match s.grpOf 0 (linkOf a) with
  | some g => s.safV 0 (Pid.safGViolAct g.val)
  | none => 0

/-- Three consecutive violating frames under SLS (R413). -/
def execSlsViolation (a : Fin 128) (tm : Nat) (s : State) : Host.Outcome State Fault Refusal :=
  let s := s.adv tm
  let hit (ch : Fin 2) : Bool := decide (3 ≤ (s.saf.chan[ch].axes[a]).slsRun)
  .next (if s.safOn && (hit 0 || hit 1) then s.axisFault a 0x700C (s.violAct a) else s)

/-- Three consecutive violating frames under SDI (R414). -/
def execSdiViolation (a : Fin 128) (tm : Nat) (s : State) : Host.Outcome State Fault Refusal :=
  let s := s.adv tm
  let hit (ch : Fin 2) : Bool := decide (3 ≤ (s.saf.chan[ch].axes[a]).sdiRun)
  .next (if s.safOn && (hit 0 || hit 1) then s.axisFault a 0x700D (s.violAct a) else s)

/-! Safe telegrams. -/

/-- The doppio field at an offset of a telegram, where its halves are complements. -/
def telD32 (b : List Byte) (o : Nat) : Option Nat :=
  if doppioOk .d32 ((b.drop o).take 8) then some (fld b o 4) else none

/-- The content of a command telegram that passes the checks of R419 but for SEQ. -/
def State.telContent (s : State) (ch : Fin 2) (b : List Byte) (tagged : Bool) : Option TelSt :=
  match telD32 b 12, telD32 b 20, telD32 b 28, telD32 b 36, telD32 b 44 with
  | some sto, some ss1, some sls, some sdi, some ctrl =>
    let crcOk := if ch = 0 then fld b 54 4 == crc32c (b.take 52) else fld b 52 2 == crc16 (b.take 52)
    if b.length = 58 ∧ fld b 0 1 = 1 ∧ fld b 1 1 = 1 ∧ fld b 2 2 = s.safV ch Pid.safTelSrc ∧
        fld b 4 2 = s.safV ch Pid.safAddr ∧ fld b 6 2 = s.safV ch Pid.safTelConn ∧ crcOk ∧
        (ch = 1 ∨ tagged) ∧ sto < 65536 ∧ ss1 < 65536 ∧ sls < 65536 ∧ ctrl < 2 then
      some { seq := fld b 8 4, sto := BitVec.ofNat 16 sto, ss1 := BitVec.ofNat 16 ss1,
             sls := BitVec.ofNat 16 sls, sdi := BitVec.ofNat 32 sdi, reset := ctrl = 1 }
    else none
  | _, _, _, _, _ => none

/-- What a channel makes of a copy (R419): discarded, the other network's copy, or a new telegram. -/
inductive TelWhat
  | discard | copy | new
deriving DecidableEq, Repr

/-- A copy's SEQ against the last accepted one. -/
def State.telWhat (s : State) (ch : Fin 2) (seq : Nat) : TelWhat :=
  let c := s.saf.chan[ch]
  if !c.telOpen then .new else
  let d := (seq + 2 ^ 32 - c.tel.seq % 2 ^ 32) % 2 ^ 32
  if d = 0 then .copy else if d ≤ s.safV ch Pid.safTelSeqWin then .new else .discard

/-- A channel takes a copy of a command telegram: the state, and whether it was new. -/
def State.telTake (s : State) (ch : Fin 2) (b : List Byte) (tagged : Bool) : State × Bool :=
  match s.telContent ch b tagged with
  | none => (s.modChan ch fun c => { c with discards := c.discards + 1 }, false)
  | some t => match s.telWhat ch t.seq with
    | .discard => (s.modChan ch fun c => { c with discards := c.discards + 1 }, false)
    | .copy => (s, false)
    | .new =>
      let n := if s.saf.chan[ch].telOpen then s.saf.chan[ch].telN + 1 else 1
      let s := s.modChan ch fun c =>
        { c with tel := t, telOpen := true, telOk := true, telAt := s.nt, telN := n, telReset := t.reset }
      (s.safEval ch, true)

/-- The rising edge of CTRL RESET in a telegram that the P-channel has just taken (R408, R419): `old` is the
channel before it. -/
def State.telEdge (s : State) (old : ChanSt) : State :=
  let c := s.saf.chan[0]
  if c.tel.reset && !old.telReset && decide (2 ≤ c.telN) && bit (s.safV 0 Pid.safResetSrc) 0 then
    (s.safReset allGroups 0 3 0).2.safDone
  else s

/-- A channel accepts a copy as a new telegram or as the copy from the other network (R419). -/
def State.telKnown (s : State) (ch : Fin 2) (b : List Byte) (tagged : Bool) : Bool :=
  (s.telContent ch b tagged).any fun t => s.telWhat ch t.seq != .discard

/-- Every channel that runs accepts a copy: it does not count as missing (R420). -/
def State.telFull (s : State) (b : List Byte) (tagged : Bool) : Bool :=
  (!s.chanOn 0 || s.telKnown 0 b tagged) && (!s.chanOn 1 || s.telKnown 1 b tagged)

/-- The copies of telegrams that wait for the other network's (R420): the state, and a difference. `full` where
every channel accepts the copy; a copy after SKEW is compared, but stays missing. -/
def State.telCopies (s : State) (net : Nat) (full : Bool) (b : List Byte) : State × Bool :=
  let seq := fld b 8 4
  let seen (k : SafSt) (n : Nat) : SafSt :=
    { k with missFrom := k.missFrom.set (fin 2 (by decide) n) none,
             lost := k.lost.set (fin 2 (by decide) n) false }
  match s.saf.copies.find? (·.seq == seq) with
  | none => (s.modSaf fun k =>
      { k with copies := k.copies.filter (fun x => !x.judged) ++
                 [{ seq := seq, tm := s.nt, bytes := b, netA := full && net == 0, netB := full && net == 1 }] },
      false)
  | some x =>
    if x.bytes != b then (s, true)
    else if x.judged then (s, false)
    else
      let y : TelCopies := { x with netA := x.netA || (full && net == 0), netB := x.netB || (full && net == 1) }
      let both := y.netA && y.netB
      let s := s.modSaf fun k => { k with copies := k.copies.map fun z => if z.seq = seq then y else z }
      (if both then s.modSaf fun k => seen (seen k 0) 1 else s, false)

/-- The report that answers a new command telegram (R418, R421). -/
def State.telReport (s : State) (node : Nat) : State :=
  if !s.drives then s else
  let seq := (s.saf.reportSeq + 1) % 2 ^ 32
  let s := s.modSaf fun k => { k with reportSeq := seq }
  let c := s.saf.chan[0]
  let viol := allGroups.foldl (fun n g => n + b2n (c.groups[g]).latched * 2 ^ g.val) 0
  let ctrl := b2n c.degraded + b2n (s.pwr.state == .safe) * 2 + b2n s.saf.resetNeeded * 4 + viol * 65536
  let b := leBytes 1 1 ++ leBytes 1 2 ++ leBytes 2 (s.safV 0 Pid.safAddr) ++ leBytes 2 (s.safV 0 Pid.safTelSrc) ++
    leBytes 2 (s.safV 0 Pid.safTelConn) ++ leBytes 4 seq ++ d32 (c.grpMask .sto) ++ d32 (c.grpMask .ss1) ++
    d32 c.slsMask ++ d32 s.sdiMask ++ d32 ctrl
  s.crepraSend 4 node (b ++ leBytes 2 (crc16 b) ++ leBytes 4 (crc32c b)) [0, 1, 2, 3]

/-- A copy of a command telegram reaches the channels (R373, R419 to R421). -/
def execSafeTelegramCopy (tm : Nat) (s : State) : Host.Outcome State Fault Refusal :=
  let s := s.adv tm
  match s.takeRx (s.isCrepra 4) with
  | none => .next s
  | some (f, s) =>
    let c := crepraOf (ethHead f.bytes).body
    let ok := s.tagOk c
    let s := if ok then s.copySeen c.src (netOf f.port) else s.authErr f.port c
    if !s.chanOn 0 && !s.chanOn 1 then .next s else
    let b := c.payload
    let old := s.saf.chan[0]
    let (s, diff) := if s.safOn && (s.telKnown 0 b ok || s.telKnown 1 b ok) then
        s.telCopies (netOf f.port) (s.telFull b ok) b
      else (s, false)
    if diff then .next (s.safFault 0x7003 0 0 allGroups).safDone
    else
      let (s, new) := if s.chanOn 0 then s.telTake 0 b ok else (s, false)
      let s := if s.chanOn 1 then (s.telTake 1 b ok).1 else s
      .next (if new then (s.telEdge old).telReport c.src else s)

/-- The second copy of a telegram has not come within SKEW (R420): its network misses a copy. -/
def execTelSkew (tm : Nat) (s : State) : Host.Outcome State Fault Refusal :=
  let s := s.adv tm
  let due (x : TelCopies) : Bool := !x.judged && decide (x.tm + ms (s.safV 0 Pid.safTelSkew) ≤ s.nt)
  let late := s.saf.copies.filter due
  let miss (k : SafSt) (n : Fin 2) (on : Bool) (x : TelCopies) : SafSt :=
    if on then k else { k with missFrom := k.missFrom.set n (some (k.missFrom[n].getD x.tm)) }
  .next (s.modSaf fun k =>
    let k := late.foldl (fun k x => miss (miss k 0 x.netA x) 1 x.netB x) k
    { k with copies := k.copies.map fun x => { x with judged := x.judged || due x } })

/-- A network's copies have been missing for ONE_NET_T while the other's arrive (R420). -/
def execTelOneNet (net : Fin 2) (tm : Nat) (s : State) : Host.Outcome State Fault Refusal :=
  let s := s.adv tm
  match s.saf.missFrom[net] with
  | some t => .next (if s.safOn && !s.saf.lost[net] && t + ms (s.safV 0 Pid.safTelOneNetT) ≤ s.nt then
      let s := s.modSaf fun k => { k with lost := k.lost.set net true }
      ((s.safFault 0x7004 0 2 []).enterDegraded).safDone else s)
  | none => .next s

/-- No new telegram within TIMEOUT (R421): the connection closes. -/
def execTelTimeout (tm : Nat) (s : State) : Host.Outcome State Fault Refusal :=
  let s := s.adv tm
  let hit (ch : Fin 2) : Bool :=
    let c := s.saf.chan[ch]
    s.safV ch Pid.safTelUse = 1 && c.telOk && decide (c.telAt + ms (s.safV ch Pid.safTelTimeout) ≤ s.nt)
  if s.safOn && (hit 0 || hit 1) then
    let close (c : ChanSt) : ChanSt := { c with telOk := false, telOpen := false, telN := 0 }
    let s := s.modChan 0 (fun c => if hit 0 then close c else c)
    let s := s.modChan 1 (fun c => if hit 1 then close c else c)
    let s := s.modSaf fun k => { k with copies := [] }
    .next (s.safFault 0x7002 0 (s.safV 0 Pid.safTelLossAct) allGroups).safDone
  else .next s

/-! Outputs, temperature, degraded mode. -/

/-- A channel's test of its switch of an output, every TEST_T, or every 100 ms after a failure (R422): the switch passed, or the output conducts while both
switches are commanded open. -/
def execSoTest (n ch : Fin 2) (ok conducting : Bool) (tm : Nat) (s : State) : Host.Outcome State Fault Refusal :=
  let s := s.adv tm
  if !s.chanOn ch then .next s else
  let x := s.saf.so[n]
  if decide (s.nt < (if ch = 0 then x.nextP else x.nextL)) && !conducting then .next s else
  let next := s.nt + (if ok then ms (s.safV ch (Pid.safSoTestT n.val)) else ms 100)
  let y : SoSt := if ch = 0 then { x with failP := !ok, nextP := next } else { x with failL := !ok, nextL := next }
  let bad := (y.failP && y.failL) || conducting
  let s := s.modSaf fun k => { k with so := k.so.set n { y with fail := bad } }
  .next (if bad then (s.safFault 0x7006 n.val 0 (grpsOf (s.safV 0 (Pid.safSoMask n.val)))).safDone
    else if !ok then ((s.safFault 0x7005 n.val 2 []).enterDegraded).safDone
    else s.safDone)

/-- A reading of the Benrik die's temperature monitor (R423): `monitor` while the monitor works. -/
def execLTemp (temp : Int) (monitor : Bool) (tm : Nat) (s : State) : Host.Outcome State Fault Refusal :=
  let s := s.adv tm
  if !s.chanOn 1 then .next s else
  let warn := if 1250 < temp ∨ temp < -400 then true
    else if -350 ≤ temp ∧ temp ≤ 1200 then false else s.saf.lWarn
  let s := s.modSaf fun k => { k with lTemp := temp, lWarn := warn }
  .next (if s.pwr.state == .safe then s
    else if !monitor || decide (1400 < temp ∨ temp < -500) then
      ((s.safFault 0x7008 0 0 allGroups).enterSafe).safDone
    else if 1250 < temp ∨ temp < -400 then ((s.safFault 0x7007 0 2 []).enterDegraded).safDone
    else s.safDone)

/-- Both channels leave degraded mode. -/
def State.leaveDegraded (s : State) : State :=
  let f (c : ChanSt) : ChanSt :=
    { c with degraded := false, degUsed := c.degUsed + (s.nt - c.degFrom) }
  let s := (s.modChan 0 f).modChan 1 f
  s.modSaf fun k => { k with exitAt := some s.nt }

/-- Every degraded cause has been clear for 5 s (R424). -/
def execDegradedExit (tm : Nat) (s : State) : Host.Outcome State Fault Refusal :=
  let s := s.adv tm
  match s.saf.clearFrom with
  | some t =>
    if s.safOn && s.saf.chan[0].degraded && !s.degCause && t + secs 5 ≤ s.nt then
      let left := s.safV 0 Pid.safDegradedTmax - s.degUsedNow 0 / 1000000000
      let s := s.leaveDegraded
      .next ((s.event 0x7082 0 (left * 65536)).safLog 0x08 stOk 0 0 0 0).safDone
    else .next s
  | none => .next s

/-- The degraded timer reaches TMAX (R424): every group goes to SS1-t and then to STO. -/
def execDegradedExpired (tm : Nat) (s : State) : Host.Outcome State Fault Refusal :=
  let s := s.adv tm
  if s.safOn && s.saf.chan[0].degraded && secs (s.safV 0 Pid.safDegradedTmax) ≤ s.degUsedNow 0 then
    let s := s.leaveDegraded
    let s := s.modSaf fun k => { k with expired := true }
    .next ((s.safFault 0x700F 0 1 allGroups).safLog 0x09 stOk 0 0 0 0).safDone
  else .next s

/-- 1 h without degraded mode: the timer returns to 0 (R424). -/
def execDegradedTimerReset (tm : Nat) (s : State) : Host.Outcome State Fault Refusal :=
  let s := s.adv tm
  match s.saf.exitAt with
  | some t =>
    if !s.saf.chan[0].degraded && t + secs 3600 ≤ s.nt then
      let f (c : ChanSt) : ChanSt := { c with degUsed := 0 }
      .next (((s.modChan 0 f).modChan 1 f).modSaf fun k => { k with exitAt := none })
    else .next s
  | none => .next s

/-- 10 min without a SAFETY command end the login (R426). -/
def execLoginIdleEnd (tm : Nat) (s : State) : Host.Outcome State Fault Refusal :=
  let s := s.adv tm
  .next (s.modSaf fun k => { k with login := k.login.filter fun l => decide (s.nt < l.2.1 + secs 600) })

/-- A lockout ends (R428). -/
def execLoginLockoutEnd (tm : Nat) (s : State) : Host.Outcome State Fault Refusal :=
  let s := s.adv tm
  .next (s.modSaf fun k => { k with lockedUntil := k.lockedUntil.filter fun u => decide (s.nt < u) })

end Sys2Proof.Machine
end

