-- ==== Sys2Proof/Machine/Twin.lean ====
section
/-! DEFINITION. The commands of a twin pair (chapter 15). -/

namespace Sys2Proof.Machine

/-! Calls. -/

/-- TWIN.SWITCH (R399): the active resigns, when the partner is STANDBY and has committed the last 32 images. -/
def execTwinSwitch (m : Fin 16) (tm : Nat) (s : State) : Host.Outcome State Fault Refusal :=
  .next (s.serveCall m tm 0xB000F001 0 fun t _ =>
    if t.twin.state == .active && t.twin.partner == TwinState.standby.code && decide (32 ≤ t.twin.retRun) then
      .done (t.modTwin fun k => { k with resign := true })
    else .fail stState)

/-- TWIN.REJOIN (R387): ISOLATED to SYNCING. -/
def execTwinRejoin (m : Fin 16) (tm : Nat) (s : State) : Host.Outcome State Fault Refusal :=
  .next (s.serveCall m tm 0xB000F002 0 fun t _ =>
    if t.twin.state == .isolated then .done t.startSyncing else .fail stState)

/-- TWIN.TAKE (R387, R400): SYNCING to ACTIVE with a new epoch. -/
def execTwinTake (m : Fin 16) (tm : Nat) (s : State) : Host.Outcome State Fault Refusal :=
  .next (s.serveCall m tm 0xB000F003 0 fun t _ =>
    if t.twin.state == .syncing then .done t.becomeActive else .fail stState)

/-! Blocks on the twin links. -/

/-- The 32-byte return block (R392). -/
def State.returnBlock (s : State) : List Byte :=
  let mask (hit : Fin 32 → Bool) : Nat := allLinks.foldl (fun n l => n + b2n (hit l) * 2 ^ l.val) 0
  let up := s.upLinks
  leBytes 1 s.twin.state.code ++ leBytes 3 0 ++ leBytes 4 (s.twin.lastFc.getD 0) ++ leBytes 4 (mask up.contains) ++
  leBytes 4 s.twin.imgBad ++ leBytes 4 (mask s.leaseFresh) ++ leBytes 1 s.twin.wakePass.toNat ++ leBytes 11 0

/-- Once in a frame, from tick + 9.5 µs on. -/
def State.snapDue (s : State) : Bool :=
  s.domainOn 15 && s.frame.ticking && s.twin.state != .solo && decide (s.frame.tick + 9500 ≤ s.nt) &&
  s.twin.snapTick != some s.frame.tick

/-- TWIN_SNAPSHOT (R390, R392, R395): the active with a partner sends the image of the frame, word w on link w mod 2,
in split mode at even FC and all on the link that remains; a device that is not ACTIVE sends its return block on each
link. -/
def execTwinSnapshot (tm : Nat) (s : State) : Host.Outcome State Fault Refusal :=
  let s := s.adv tm
  if !s.snapDue then .next s else
  let s := s.modTwin fun k => { k with snapTick := some s.frame.tick }
  let burst (words : List Byte) : List Sym := framed (leBytes 2 s.frame.fc ++ words)
  if s.twin.state != .active then
    let b := s.returnBlock.map Sym.d
    .next ((s.emit (.twin 2 b)).emit (.twin 3 b))
  else if s.paired && !(s.twin.split && decide (s.frame.fc % 2 = 1)) then
    let (b, s) := s.buildImage
    .next (if s.twin.split then s.emit (.twin (if s.twin.dry[0] < 4 then 0 else 1) (burst b))
      else (s.emit (.twin 0 (burst (linkWords 0 b)))).emit (.twin 1 (burst (linkWords 1 b))))
  else .next s

/-- TWIN_BURST_RECEIVE (R392, R393): a burst goes into the buffer not in force. -/
def execTwinBurstReceive (k : Fin 2) (fc : Nat) (bytes : List Byte) (tm : Nat) (s : State) :
    Host.Outcome State Fault Refusal :=
  let s := s.adv tm
  .next (if !s.domainOn 15 || s.twin.state == .solo then s
    else s.modTwin fun t => { t with half := t.half.set k (some (fc % 65536, bytes)), halfAt := t.halfAt.set k s.nt, dry := t.dry.set k 0 })

/-- The image that the present frame may commit, when every part of it has arrived by tick + 1.5 µs (R29); and whether
any part has. -/
def State.arrived (s : State) : Option (List Byte) × Bool :=
  let want := (s.frame.fc + 65536 * 65536 - (if s.twin.split then 2 else 1)) % 65536
  let part (k : Fin 2) : Option (List Byte) := match s.twin.half[k] with
    | some (f, b) => if f = want ∧ s.twin.halfAt[k] ≤ s.frame.tick + 1500 then some b else none
    | none => none
  match part 0, part 1 with
  | some a, some b => (if s.twin.split then some a else some (joinWords a b), true)
  | some a, none => (if s.twin.split then some a else none, true)
  | none, some b => (if s.twin.split then some b else none, true)
  | none, none => (none, false)

/-- The receiver of images (R388, R393, R399): SYNCING, STANDBY, or an active that has sent RESIGN. -/
def State.receives (s : State) : Bool :=
  s.twin.state == .syncing || s.twin.state == .standby || (s.twin.state == .active && s.twin.resignSent)

/-- A frame without a commit (R393). -/
def State.imageMissed (s : State) (bad due : Bool) : State :=
  s.modTwin fun k =>
    { k with imgBad := if bad then count32 k.imgBad else k.imgBad, imgMiss := if due then count32 k.imgMiss else k.imgMiss
             noCommit := k.noCommit + 1, commitRun := if due then 0 else k.commitRun }

/-- TWIN_IMAGE_COMMIT (R393, R394, R399): at tick + 1.5 µs the image of the frame before is committed, or the frame is
counted as missed.  The first image of the new active makes a device that resigned STANDBY. -/
def execTwinImageCommit (tm : Nat) (s : State) : Host.Outcome State Fault Refusal :=
  let s := s.adv tm
  if !s.domainOn 15 || !s.frame.ticking || !s.receives || decide (s.nt < s.frame.tick + 1500) ||
      s.twin.comTick == some s.frame.tick then .next s else
  let s := s.modTwin fun k => { k with comTick := some s.frame.tick }
  let due := !(s.twin.split && decide (s.frame.fc % 2 = 1))
  let (img, any) := s.arrived
  let done (t : State) : State := t.modTwin fun k => { k with half := Vector.replicate 2 none }
  match img with
  | some b =>
    if due && s.imageOk b then
      let s : State := if s.twin.state == .active then
          (s.twinTo .standby).modTwin fun k => { k with partner := 5, resign := false, resignSent := false, commitRun := 0 }
        else s
      .next (done (s.adoptImage b))
    else .next (done (s.imageMissed true due))
  | none => .next (if due then done (s.imageMissed any true) else s.imageMissed false false)

/-- TWIN_RETURN_BLOCK (R384, R392, R393): what the partner reports; `pair` says whether the conditions of R384 hold
as its blocks show them. -/
def execTwinReturnBlock (k : Fin 2) (pair : Bool) (bytes : List Byte) (tm : Nat) (s : State) :
    Host.Outcome State Fault Refusal :=
  let s := s.adv tm
  if !s.domainOn 15 || s.twin.state == .solo || bytes.length ≠ 32 then .next s else
  let st := fld bytes 0 1
  let fc := fld bytes 4 4
  let was := s.twin.partner
  let s := s.modTwin fun t =>
    { t with dry := t.dry.set k 0, retGot := true, retMiss := 0, partner := if st ≤ 4 then st else 5, retFc := fc
             retUp := BitVec.ofNat 32 (fld bytes 8 4), retFresh := BitVec.ofNat 32 (fld bytes 16 4)
             bulkSent := if st = 1 ∧ was ≠ 1 then 0 else t.bulkSent
             items := t.items.filter fun x => match x.fc with
               | some f => f != fc && !fcLater f fc
               | none => true }
  .next (if s.twin.state == .syncing then
      let s := s.modTwin fun t => { t with pairOk := pair }
      if !pair && !s.faultOn 0xB006 0 then s.raise 0xB006 0 [] else s
    else if s.twin.state == .active then s.percWake (s.notAwake (fld bytes 20 1)) false
    else s)

/-! Conditions that last. -/

/-- PARTNER_LOST (R392): no return block for 8 frames. -/
def execPartnerLost (tm : Nat) (s : State) : Host.Outcome State Fault Refusal :=
  let s := s.adv tm
  .next (if s.twin.state == .active && decide (8 ≤ s.twin.retMiss) && !s.faultOn 0xB002 0 then
      (s.modTwin fun k => { k with partner := 5 }).raise 0xB002 0 [] else s)

/-- TWIN_LINK (R395): a twin link has carried no valid burst for 4 frames while the other does: split mode. -/
def execTwinLink (k : Fin 2) (tm : Nat) (s : State) : Host.Outcome State Fault Refusal :=
  let s := s.adv tm
  let dry := s.twin.dry
  .next (if s.twin.state != .solo && !s.twin.split && decide (4 ≤ dry[k]) && decide (dry[(1 : Fin 2) - k] < 4) then
      (s.modTwin fun t => { t with split := true, splitGood := 0 }).raise 0xB005 0 [] else s)

/-- SPLIT_END (R395): both links have carried valid bursts for 16 frames. -/
def execSplitEnd (tm : Nat) (s : State) : Host.Outcome State Fault Refusal :=
  let s := s.adv tm
  .next (if s.twin.split && decide (16 ≤ s.twin.splitGood) then
      s.modTwin fun t => { t with split := false, splitGood := 0 } else s)

/-- The STAT of the period before shows the token free at a link (R397). -/
def State.leaseGone (s : State) (l : Fin 32) : Bool :=
  match s.links[l].stat with
  | some r => decide (s.links[l].statTick + s.tf = s.frame.tick) && (!r.valid || r.leaseLeft == 0)
  | none => false

/-- TAKEOVER (R397, R401): a STANDBY becomes ACTIVE at tick + 1.5 µs, after RESIGN or when every UP link's lease has
expired; it resends no hand-off. -/
def execTakeover (tm : Nat) (s : State) : Host.Outcome State Fault Refusal :=
  let s := s.adv tm
  let up := s.upLinks
  if s.twin.state == .standby && s.frame.ticking && decide (s.frame.tick + 1500 ≤ s.nt) && !up.isEmpty &&
      (s.twin.resigned || up.all s.leaseGone) then
    let resign := s.twin.resigned
    let s := s.becomeActive
    let s := s.modTwin fun k => { k with failovers := count32 k.failovers, partner := 5 }
    let s := s.modTrk fun k => { k with out := [] }
    let s := if resign then s else s.raise 0xB001 0 []
    .next (s.event 0xB082 0 (s.fc + s.twin.epoch * 2 ^ 32 + b2n resign * 2 ^ 56))
  else .next s

/-- TWIN_START_WAIT (R387): position 0 becomes ACTIVE when its partner reports SYNCING, or when no stage shows a fresh
lease and no partner has answered for `TWIN.START_WAIT`; position 1 raises 0xB009 after that time. -/
def execTwinStartWait (tm : Nat) (s : State) : Host.Outcome State Fault Refusal :=
  let s := s.adv tm
  let late := match s.twin.startFrom with
    | some t => decide (t + ms (s.pN Pid.twinStartWait) ≤ s.nt)
    | none => false
  let both := decide (s.twin.partner = 1) && s.partnerAnswers && s.twin.pairOk
  .next (if s.twin.state != .syncing then s
    else if s.pwr.strapPos = 0 then (if both || late then s.becomeActive else s)
    else if late && !s.faultOn 0xB009 0 then s.raise 0xB009 0 [] else s)

/-- PAIR_SYNCED (R384, R387): the bulk copy is complete and 32 consecutive images are committed. -/
def execPairSynced (tm : Nat) (s : State) : Host.Outcome State Fault Refusal :=
  let s := s.adv tm
  .next (if s.twin.state == .syncing && s.twin.bulkDone && decide (32 ≤ s.twin.commitRun) && s.twin.pairOk then
      s.twinTo .standby else s)

/-- IMAGE_STALE (R387): no image committed for `TWIN.STALE_MAX` consecutive frames. -/
def execImageStale (tm : Nat) (s : State) : Host.Outcome State Fault Refusal :=
  let s := s.adv tm
  .next (if s.twin.state == .standby && decide (s.pN Pid.twinStaleMax ≤ s.twin.noCommit) then
      (s.twinTo .isolated).raise 0xB007 0 [] else s)

/-- LEASE_SPLIT (R398): some UP links have shown a fresh lease and others an expired one for 4 frames. -/
def execLeaseSplit (tm : Nat) (s : State) : Host.Outcome State Fault Refusal :=
  let s := s.adv tm
  .next (if s.twin.state == .standby && decide (4 ≤ s.twin.splitLease) && !s.faultOn 0xB004 0 then s.raise 0xB004 0 []
    else s)

/-- TRK_DIVERGED (R394): the context records have differed for 4 consecutive frames. -/
def execTrkDiverged (tm : Nat) (s : State) : Host.Outcome State Fault Refusal :=
  let s := s.adv tm
  .next (if s.twin.state == .standby && decide (4 ≤ s.twin.trkDiff) && !s.faultOn 0xB008 0 then s.raise 0xB008 0 []
    else s)

end Sys2Proof.Machine
end

