-- ==== Sys2Proof/Machine/Dispatch.lean ====
section
/-! DEFINITION. The dispatcher: one arm per command, each one direct call of its meaning. -/

namespace Sys2Proof.Machine

def exec (i : Instr) (s : State) : Host.Outcome State Fault Refusal :=
  match i with
  | .qspiRead off words tm => Sys2Proof.Machine.execQspiRead off words tm s
  | .qspiQread off words tm => Sys2Proof.Machine.execQspiQread off words tm s
  | .qspiWrite off bytes tm => Sys2Proof.Machine.execQspiWrite off bytes tm s
  | .qspiQwrite off bytes tm => Sys2Proof.Machine.execQspiQwrite off bytes tm s
  | .registerWrite p off v tm => Sys2Proof.Machine.execRegisterWrite p off v tm s
  | .wideRegisterLowRead p off tm => Sys2Proof.Machine.execWideRegisterLowRead p off tm s
  | .pcieLinkDown tm => Sys2Proof.Machine.execPcieLinkDown tm s
  | .pciePerst tm => Sys2Proof.Machine.execPciePerst tm s
  | .mbxClaim p m => Sys2Proof.Machine.execMbxClaim p m s
  | .mbxRelease p m => Sys2Proof.Machine.execMbxRelease p m s
  | .mbxDoorbell p m tm => Sys2Proof.Machine.execMbxDoorbell p m tm s
  | .mbxTake m tm => Sys2Proof.Machine.execMbxTake m tm s
  | .mbxAutoBusy m tm => Sys2Proof.Machine.execMbxAutoBusy m tm s
  | .mbxResponse m tm => Sys2Proof.Machine.execMbxResponse m tm s
  | .mbxDeadline m tm => Sys2Proof.Machine.execMbxDeadline m tm s
  | .irqStatusWrite v => Sys2Proof.Machine.execIrqStatusWrite v s
  | .irqEnableWrite v => Sys2Proof.Machine.execIrqEnableWrite v s
  | .irqVectorWrite v => Sys2Proof.Machine.execIrqVectorWrite v s
  | .irqTest v => Sys2Proof.Machine.execIrqTest v s
  | .hostWdogKick tm => Sys2Proof.Machine.execHostWdogKick tm s
  | .hostWdogExpiry tm => Sys2Proof.Machine.execHostWdogExpiry tm s
  | .evtPop => Sys2Proof.Machine.execEvtPop s
  | .evtLostRead => Sys2Proof.Machine.execEvtLostRead s
  | .tsTake tm => Sys2Proof.Machine.execTsTake tm s
  | .tsOnTick => Sys2Proof.Machine.execTsOnTick s
  | .piCtrlWrite p v => Sys2Proof.Machine.execPiCtrlWrite p v s
  | .piHandover p tm => Sys2Proof.Machine.execPiHandover p tm s
  | .piBankWrite p off v tm => Sys2Proof.Machine.execPiBankWrite p off v tm s
  | .piStatusUpdate tm => Sys2Proof.Machine.execPiStatusUpdate tm s
  | .piTimeout => Sys2Proof.Machine.execPiTimeout s
  | .get m tm => Sys2Proof.Machine.execGet m tm s
  | .set m tm => Sys2Proof.Machine.execSet m tm s
  | .getMulti m tm => Sys2Proof.Machine.execGetMulti m tm s
  | .setMulti m tm => Sys2Proof.Machine.execSetMulti m tm s
  | .subscribe m tm => Sys2Proof.Machine.execSubscribe m tm s
  | .fileOpen m tm => Sys2Proof.Machine.execFileOpen m tm s
  | .fileWrite m tm => Sys2Proof.Machine.execFileWrite m tm s
  | .fileRead m tm => Sys2Proof.Machine.execFileRead m tm s
  | .fileClose m tm => Sys2Proof.Machine.execFileClose m tm s
  | .echo m tm => Sys2Proof.Machine.execEcho m tm s
  | .hello m tm => Sys2Proof.Machine.execHello m tm s
  | .prove m tm => Sys2Proof.Machine.execProve m tm s
  | .endSession m tm => Sys2Proof.Machine.execEndSession m tm s
  | .enrol m tm => Sys2Proof.Machine.execEnrol m tm s
  | .login m tm => Sys2Proof.Machine.execLogin m tm s
  | .logout m tm => Sys2Proof.Machine.execLogout m tm s
  | .stage m tm => Sys2Proof.Machine.execStage m tm s
  | .validate m tm => Sys2Proof.Machine.execValidate m tm s
  | .activate m tm => Sys2Proof.Machine.execActivate m tm s
  | .discard m tm => Sys2Proof.Machine.execDiscard m tm s
  | .setPassword m tm => Sys2Proof.Machine.execSetPassword m tm s
  | .safetyReset m tm => Sys2Proof.Machine.execSafetyReset m tm s
  | .sysSave m tm => Sys2Proof.Machine.execSysSave m tm s
  | .trpClear m tm => Sys2Proof.Machine.execTrpClear m tm s
  | .axComHallLearn m tm => Sys2Proof.Machine.execAxComHallLearn m tm s
  | .axFbkSetPos m tm => Sys2Proof.Machine.execAxFbkSetPos m tm s
  | .axMotSatClr m tm => Sys2Proof.Machine.execAxMotSatClr m tm s
  | .axRptClear m tm => Sys2Proof.Machine.execAxRptClear m tm s
  | .axInjStart m tm => Sys2Proof.Machine.execAxInjStart m tm s
  | .axInjStop m tm => Sys2Proof.Machine.execAxInjStop m tm s
  | .axPrfAppend m tm => Sys2Proof.Machine.execAxPrfAppend m tm s
  | .axPrfFlush m tm => Sys2Proof.Machine.execAxPrfFlush m tm s
  | .axPrfResume m tm => Sys2Proof.Machine.execAxPrfResume m tm s
  | .axPrfPause m tm => Sys2Proof.Machine.execAxPrfPause m tm s
  | .axHomStart m tm => Sys2Proof.Machine.execAxHomStart m tm s
  | .axHomAbort m tm => Sys2Proof.Machine.execAxHomAbort m tm s
  | .axGeaEngage m tm => Sys2Proof.Machine.execAxGeaEngage m tm s
  | .axGeaDisengage m tm => Sys2Proof.Machine.execAxGeaDisengage m tm s
  | .trkCreate m tm => Sys2Proof.Machine.execTrkCreate m tm s
  | .trkDelete m tm => Sys2Proof.Machine.execTrkDelete m tm s
  | .trkModify m tm => Sys2Proof.Machine.execTrkModify m tm s
  | .trkSetEv m tm => Sys2Proof.Machine.execTrkSetEv m tm s
  | .trkRead m tm => Sys2Proof.Machine.execTrkRead m tm s
  | .trkFlush m tm => Sys2Proof.Machine.execTrkFlush m tm s
  | .axCmpArm m tm => Sys2Proof.Machine.execAxCmpArm m tm s
  | .axCmpDisarm m tm => Sys2Proof.Machine.execAxCmpDisarm m tm s
  | .fioOutWrite m tm => Sys2Proof.Machine.execFioOutWrite m tm s
  | .fioOutRearm m tm => Sys2Proof.Machine.execFioOutRearm m tm s
  | .fioDiag m tm => Sys2Proof.Machine.execFioDiag m tm s
  | .capArm m tm => Sys2Proof.Machine.execCapArm m tm s
  | .capForce m tm => Sys2Proof.Machine.execCapForce m tm s
  | .capStop m tm => Sys2Proof.Machine.execCapStop m tm s
  | .ptpSetTime m tm => Sys2Proof.Machine.execPtpSetTime m tm s
  | .twinSwitch m tm => Sys2Proof.Machine.execTwinSwitch m tm s
  | .twinRejoin m tm => Sys2Proof.Machine.execTwinRejoin m tm s
  | .twinTake m tm => Sys2Proof.Machine.execTwinTake m tm s
  | .flogClear m tm => Sys2Proof.Machine.execFlogClear m tm s
  | .pwrOperate m tm => Sys2Proof.Machine.execPwrOperate m tm s
  | .pwrConfig m tm => Sys2Proof.Machine.execPwrConfig m tm s
  | .pwrReset m tm => Sys2Proof.Machine.execPwrReset m tm s
  | .pwrSleep m tm => Sys2Proof.Machine.execPwrSleep m tm s
  | .pwrWake m tm => Sys2Proof.Machine.execPwrWake m tm s
  | .secFwActivate m tm => Sys2Proof.Machine.execSecFwActivate m tm s
  | .secFwCommit m tm => Sys2Proof.Machine.execSecFwCommit m tm s
  | .secTransfer m tm => Sys2Proof.Machine.execSecTransfer m tm s
  | .secRelease m tm => Sys2Proof.Machine.execSecRelease m tm s
  | .secOperSet m tm => Sys2Proof.Machine.execSecOperSet m tm s
  | .secLinekeySet m tm => Sys2Proof.Machine.execSecLinekeySet m tm s
  | .secLinekeyClear m tm => Sys2Proof.Machine.execSecLinekeyClear m tm s
  | .secDebugUnlock m tm => Sys2Proof.Machine.execSecDebugUnlock m tm s
  | .ageClusterTest m tm => Sys2Proof.Machine.execAgeClusterTest m tm s
  | .agePortLoop m tm => Sys2Proof.Machine.execAgePortLoop m tm s
  | .ageAxisReset m tm => Sys2Proof.Machine.execAgeAxisReset m tm s
  | .ageFwRestart m tm => Sys2Proof.Machine.execAgeFwRestart m tm s
  | .frameTick => Sys2Proof.Machine.execFrameTick s
  | .engineRun c ns => Sys2Proof.Machine.execEngineRun c ns s
  | .scheduleFrameSend c => Sys2Proof.Machine.execScheduleFrameSend c s
  | .frameOverrun c => Sys2Proof.Machine.execFrameOverrun c s
  | .clusterOverrun c => Sys2Proof.Machine.execClusterOverrun c s
  | .trajectoryRun c => Sys2Proof.Machine.execTrajectoryRun c s
  | .dwellEnd a tm => Sys2Proof.Machine.execDwellEnd a tm s
  | .targetReached a tm => Sys2Proof.Machine.execTargetReached a tm s
  | .homingStall a tm => Sys2Proof.Machine.execHomingStall a tm s
  | .setpointLost a tm => Sys2Proof.Machine.execSetpointLost a tm s
  | .stopTimeout a tm => Sys2Proof.Machine.execStopTimeout a tm s
  | .l3StopEnd a tm => Sys2Proof.Machine.execL3StopEnd a tm s
  | .catchListenEnd a tm => Sys2Proof.Machine.execCatchListenEnd a tm s
  | .brakeOnElapsed a tm => Sys2Proof.Machine.execBrakeOnElapsed a tm s
  | .brakeTimeout a tm => Sys2Proof.Machine.execBrakeTimeout a tm s
  | .ipdDone a tm => Sys2Proof.Machine.execIpdDone a tm s
  | .alignElapsed a tm => Sys2Proof.Machine.execAlignElapsed a tm s
  | .startZcReached a tm => Sys2Proof.Machine.execStartZcReached a tm s
  | .startTryFail a tm => Sys2Proof.Machine.execStartTryFail a tm s
  | .startPauseEnd a tm => Sys2Proof.Machine.execStartPauseEnd a tm s
  | .rotorLost a tm => Sys2Proof.Machine.execRotorLost a tm s
  | .coastStopQuiet a tm => Sys2Proof.Machine.execCoastStopQuiet a tm s
  | .hallLearnStep a tm => Sys2Proof.Machine.execHallLearnStep a tm s
  | .keRatioUpdate a tm => Sys2Proof.Machine.execKeRatioUpdate a tm s
  | .currentBlind a tm => Sys2Proof.Machine.execCurrentBlind a tm s
  | .zeroTimeout a tm => Sys2Proof.Machine.execZeroTimeout a tm s
  | .fbkLost a tm => Sys2Proof.Machine.execFbkLost a tm s
  | .fbkFrozen a tm => Sys2Proof.Machine.execFbkFrozen a tm s
  | .followingError a tm => Sys2Proof.Machine.execFollowingError a tm s
  | .numericSat a tm => Sys2Proof.Machine.execNumericSat a tm s
  | .vbusLow a tm => Sys2Proof.Machine.execVbusLow a tm s
  | .injDone a tm => Sys2Proof.Machine.execInjDone a tm s
  | .stpHold a tm => Sys2Proof.Machine.execStpHold a tm s
  | .stpForced a tm => Sys2Proof.Machine.execStpForced a tm s
  | .stpForcedEnd a tm => Sys2Proof.Machine.execStpForcedEnd a tm s
  | .stpBlendEnd a tm => Sys2Proof.Machine.execStpBlendEnd a tm s
  | .stpAlignEnd a tm => Sys2Proof.Machine.execStpAlignEnd a tm s
  | .stpRate a tm => Sys2Proof.Machine.execStpRate a tm s
  | .stall a tm => Sys2Proof.Machine.execStall a tm s
  | .phaseOpen a tm => Sys2Proof.Machine.execPhaseOpen a tm s
  | .trackingRun => Sys2Proof.Machine.execTrackingRun s
  | .handoffFrame tm => Sys2Proof.Machine.execHandoffFrame tm s
  | .handoffRetry tm => Sys2Proof.Machine.execHandoffRetry tm s
  | .latchEdge a n rising stamp => Sys2Proof.Machine.execLatchEdge a n rising stamp s
  | .syncSend l tm => Sys2Proof.Machine.execSyncSend l tm s
  | .dreqSend l tm => Sys2Proof.Machine.execDreqSend l tm s
  | .drspReceive l turn tm => Sys2Proof.Machine.execDrspReceive l turn tm s
  | .timeUnstable l tm => Sys2Proof.Machine.execTimeUnstable l tm s
  | .upstreamPacket l viol syms bytes tm => Sys2Proof.Machine.execUpstreamPacket l viol syms bytes tm s
  | .tripSequence l mask tm => Sys2Proof.Machine.execTripSequence l mask tm s
  | .linkErrors l tm => Sys2Proof.Machine.execLinkErrors l tm s
  | .lateRecords l tm => Sys2Proof.Machine.execLateRecords l tm s
  | .upOverbudget l tm => Sys2Proof.Machine.execUpOverbudget l tm s
  | .linkUp l tm => Sys2Proof.Machine.execLinkUp l tm s
  | .linkLost l tm => Sys2Proof.Machine.execLinkLost l tm s
  | .serviceFrameSend l tm => Sys2Proof.Machine.execServiceFrameSend l tm s
  | .slotCfgUnanswered l slot tm => Sys2Proof.Machine.execSlotCfgUnanswered l slot tm s
  | .deadtimeUnacked l tm => Sys2Proof.Machine.execDeadtimeUnacked l tm s
  | .dtAdapt a tm => Sys2Proof.Machine.execDtAdapt a tm s
  | .dtLimit a tm => Sys2Proof.Machine.execDtLimit a tm s
  | .tripPinActivation p instant tm => Sys2Proof.Machine.execTripPinActivation p instant tm s
  | .blankWindowEnd p tm => Sys2Proof.Machine.execBlankWindowEnd p tm s
  | .killRepeat l tm => Sys2Proof.Machine.execKillRepeat l tm s
  | .tripNoise p tm => Sys2Proof.Machine.execTripNoise p tm s
  | .lineEncoderLatch => Sys2Proof.Machine.execLineEncoderLatch s
  | .leEdge port a b tm => Sys2Proof.Machine.execLeEdge port a b tm s
  | .leZEdge port tm => Sys2Proof.Machine.execLeZEdge port tm s
  | .leSignal port wire tm => Sys2Proof.Machine.execLeSignal port wire tm s
  | .channelFFrame valid ins pins thermal fv24 tm => Sys2Proof.Machine.execChannelFFrame valid ins pins thermal fv24 tm s
  | .channelFLost tm => Sys2Proof.Machine.execChannelFLost tm s
  | .dieOutputsOff tm => Sys2Proof.Machine.execDieOutputsOff tm s
  | .fieldInputEdge k tm => Sys2Proof.Machine.execFieldInputEdge k tm s
  | .fieldOutputChange tm => Sys2Proof.Machine.execFieldOutputChange tm s
  | .fv24Low tm => Sys2Proof.Machine.execFv24Low tm s
  | .fv24Off tm => Sys2Proof.Machine.execFv24Off tm s
  | .fv24Recover tm => Sys2Proof.Machine.execFv24Recover tm s
  | .cfRearmReady tm => Sys2Proof.Machine.execCfRearmReady tm s
  | .outputsOn tm => Sys2Proof.Machine.execOutputsOn tm s
  | .outputFault tm => Sys2Proof.Machine.execOutputFault tm s
  | .fioDiagTest tm => Sys2Proof.Machine.execFioDiagTest tm s
  | .captureSample tm => Sys2Proof.Machine.execCaptureSample tm s
  | .ethFrameReceive port fcsOk bytes tm => Sys2Proof.Machine.execEthFrameReceive port fcsOk bytes tm s
  | .portUp port speed full tm => Sys2Proof.Machine.execPortUp port speed full tm s
  | .portDown port tm => Sys2Proof.Machine.execPortDown port tm s
  | .portConfig port tm => Sys2Proof.Machine.execPortConfig port tm s
  | .netDrop port tm => Sys2Proof.Machine.execNetDrop port tm s
  | .gclCycleStart port tm => Sys2Proof.Machine.execGclCycleStart port tm s
  | .ptpSync tm => Sys2Proof.Machine.execPtpSync tm s
  | .followUp tm => Sys2Proof.Machine.execFollowUp tm s
  | .pdelayMeasure port t1 t2 t3 t4 tm => Sys2Proof.Machine.execPdelayMeasure port t1 t2 t3 t4 tm s
  | .announce tm => Sys2Proof.Machine.execAnnounce tm s
  | .syncLoss net tm => Sys2Proof.Machine.execSyncLoss net tm s
  | .holdoverExpiry tm => Sys2Proof.Machine.execHoldoverExpiry tm s
  | .timeDriver tm => Sys2Proof.Machine.execTimeDriver tm s
  | .timeDivergence tm => Sys2Proof.Machine.execTimeDivergence tm s
  | .tickUnaligned tm => Sys2Proof.Machine.execTickUnaligned tm s
  | .tsqEntryExpire port tm => Sys2Proof.Machine.execTsqEntryExpire port tm s
  | .tsqOverflow tm => Sys2Proof.Machine.execTsqOverflow tm s
  | .authFail port tm => Sys2Proof.Machine.execAuthFail port tm s
  | .setpoint tm => Sys2Proof.Machine.execSetpoint tm s
  | .channelReceive tm => Sys2Proof.Machine.execChannelReceive tm s
  | .statusSend tm => Sys2Proof.Machine.execStatusSend tm s
  | .channelSend tm => Sys2Proof.Machine.execChannelSend tm s
  | .cycOneNetwork tm => Sys2Proof.Machine.execCycOneNetwork tm s
  | .wakeFrame tm => Sys2Proof.Machine.execWakeFrame tm s
  | .arpRequest tm => Sys2Proof.Machine.execArpRequest tm s
  | .icmpEcho tm => Sys2Proof.Machine.execIcmpEcho tm s
  | .clearDatagram tm => Sys2Proof.Machine.execClearDatagram tm s
  | .protectedDatagram tm => Sys2Proof.Machine.execProtectedDatagram tm s
  | .eventDatagramSend sid tm => Sys2Proof.Machine.execEventDatagramSend sid tm s
  | .twinSnapshot tm => Sys2Proof.Machine.execTwinSnapshot tm s
  | .twinBurstReceive k fc bytes tm => Sys2Proof.Machine.execTwinBurstReceive k fc bytes tm s
  | .twinImageCommit tm => Sys2Proof.Machine.execTwinImageCommit tm s
  | .twinReturnBlock k pair bytes tm => Sys2Proof.Machine.execTwinReturnBlock k pair bytes tm s
  | .partnerLost tm => Sys2Proof.Machine.execPartnerLost tm s
  | .twinLink k tm => Sys2Proof.Machine.execTwinLink k tm s
  | .splitEnd tm => Sys2Proof.Machine.execSplitEnd tm s
  | .takeover tm => Sys2Proof.Machine.execTakeover tm s
  | .twinStartWait tm => Sys2Proof.Machine.execTwinStartWait tm s
  | .pairSynced tm => Sys2Proof.Machine.execPairSynced tm s
  | .imageStale tm => Sys2Proof.Machine.execImageStale tm s
  | .leaseSplit tm => Sys2Proof.Machine.execLeaseSplit tm s
  | .trkDiverged tm => Sys2Proof.Machine.execTrkDiverged tm s
  | .safetyInputSample ch sp sn tm => Sys2Proof.Machine.execSafetyInputSample ch sp sn tm s
  | .discrepancy pair tm => Sys2Proof.Machine.execDiscrepancy pair tm s
  | .crossCheckSend ch tm => Sys2Proof.Machine.execCrossCheckSend ch tm s
  | .crossCheckReceive ch valid tm => Sys2Proof.Machine.execCrossCheckReceive ch valid tm s
  | .xchkLost ch tm => Sys2Proof.Machine.execXchkLost ch tm s
  | .channelDisagree tm => Sys2Proof.Machine.execChannelDisagree tm s
  | .selftest ch tm => Sys2Proof.Machine.execSelftest ch tm s
  | .ss1Expiry ch g tm => Sys2Proof.Machine.execSs1Expiry ch g tm s
  | .slsRampEnd ch g tm => Sys2Proof.Machine.execSlsRampEnd ch g tm s
  | .axisWordReceive ch a word tm => Sys2Proof.Machine.execAxisWordReceive ch a word tm s
  | .axisWord a tm => Sys2Proof.Machine.execAxisWord a tm s
  | .slsViolation a tm => Sys2Proof.Machine.execSlsViolation a tm s
  | .sdiViolation a tm => Sys2Proof.Machine.execSdiViolation a tm s
  | .safeTelegramCopy tm => Sys2Proof.Machine.execSafeTelegramCopy tm s
  | .telSkew tm => Sys2Proof.Machine.execTelSkew tm s
  | .telOneNet net tm => Sys2Proof.Machine.execTelOneNet net tm s
  | .telTimeout tm => Sys2Proof.Machine.execTelTimeout tm s
  | .soTest n ch ok conducting tm => Sys2Proof.Machine.execSoTest n ch ok conducting tm s
  | .lTemp temp monitor tm => Sys2Proof.Machine.execLTemp temp monitor tm s
  | .degradedExit tm => Sys2Proof.Machine.execDegradedExit tm s
  | .degradedExpired tm => Sys2Proof.Machine.execDegradedExpired tm s
  | .degradedTimerReset tm => Sys2Proof.Machine.execDegradedTimerReset tm s
  | .loginIdleEnd tm => Sys2Proof.Machine.execLoginIdleEnd tm s
  | .loginLockoutEnd tm => Sys2Proof.Machine.execLoginLockoutEnd tm s
  | .supplyValid k tm => Sys2Proof.Machine.execSupplyValid k tm s
  | .supplyInvalid k tm => Sys2Proof.Machine.execSupplyInvalid k tm s
  | .nresetAssert tm => Sys2Proof.Machine.execNresetAssert tm s
  | .nresetRelease tm => Sys2Proof.Machine.execNresetRelease tm s
  | .clockMissing tm => Sys2Proof.Machine.execClockMissing tm s
  | .resetOutRelease pos claim tm => Sys2Proof.Machine.execResetOutRelease pos claim tm s
  | .forwardingStart tm => Sys2Proof.Machine.execForwardingStart tm s
  | .bootVerify tm => Sys2Proof.Machine.execBootVerify tm s
  | .pageCheckFail tm => Sys2Proof.Machine.execPageCheckFail tm s
  | .ristretto tm => Sys2Proof.Machine.execRistretto tm s
  | .paramRestore tm => Sys2Proof.Machine.execParamRestore tm s
  | .fullService tm => Sys2Proof.Machine.execFullService tm s
  | .domainReady k tm => Sys2Proof.Machine.execDomainReady k tm s
  | .autoSleep c tm => Sys2Proof.Machine.execAutoSleep c tm s
  | .dozeTrafficStop c tm => Sys2Proof.Machine.execDozeTrafficStop c tm s
  | .axDomainOff c tm => Sys2Proof.Machine.execAxDomainOff c tm s
  | .beacon l valid zl tm => Sys2Proof.Machine.execBeacon l valid zl tm s
  | .beaconLost l tm => Sys2Proof.Machine.execBeaconLost l tm s
  | .percolatorSample tm => Sys2Proof.Machine.execPercolatorSample tm s
  | .percTimer r tm => Sys2Proof.Machine.execPercTimer r tm s
  | .deepSleepEntry tm => Sys2Proof.Machine.execDeepSleepEntry tm s
  | .deepSleepExit tm => Sys2Proof.Machine.execDeepSleepExit tm s
  | .bypassLeadEnd net tm => Sys2Proof.Machine.execBypassLeadEnd net tm s
  | .avsUpdate slack tm => Sys2Proof.Machine.execAvsUpdate slack tm s
  | .supplyDroop mv tm => Sys2Proof.Machine.execSupplyDroop mv tm s
  | .eyeTune l eye viol tm => Sys2Proof.Machine.execEyeTune l eye viol tm s
  | .junctionSample tj tm => Sys2Proof.Machine.execJunctionSample tj tm s
  | .lifeFlush tm => Sys2Proof.Machine.execLifeFlush tm s
  | .derateUpdate a tm => Sys2Proof.Machine.execDerateUpdate a tm s
  | .keScaleUpdate a tm => Sys2Proof.Machine.execKeScaleUpdate a tm s
  | .dailyUpdate tm => Sys2Proof.Machine.execDailyUpdate tm s
  | .engineTestSlice ok tm => Sys2Proof.Machine.execEngineTestSlice ok tm s
  | .microcodeCrc c ok tm => Sys2Proof.Machine.execMicrocodeCrc c ok tm s
  | .engineTest c tm => Sys2Proof.Machine.execEngineTest c tm s
  | .fwWatchdog lockstep tm => Sys2Proof.Machine.execFwWatchdog lockstep tm s
  | .serviceLeave tm => Sys2Proof.Machine.execServiceLeave tm s
  | .sessionIdle sid tm => Sys2Proof.Machine.execSessionIdle sid tm s
  | .helloLockoutEnd tm => Sys2Proof.Machine.execHelloLockoutEnd tm s
  | .callReset tm => Sys2Proof.Machine.execCallReset tm s
  | .clusterTestDone c fail item tm => Sys2Proof.Machine.execClusterTestDone c fail item tm s
  | .portLoopDone errors sum tm => Sys2Proof.Machine.execPortLoopDone errors sum tm s
  | .masterSync net tm => Sys2Proof.Machine.execMasterSync net tm s
  | .uvWarnEnd tm => Sys2Proof.Machine.execUvWarnEnd tm s
  | .tripPinRelease p tm => Sys2Proof.Machine.execTripPinRelease p tm s
  | .fwAlive tm => Sys2Proof.Machine.execFwAlive tm s

end Sys2Proof.Machine
end

