-- ==== Sys2Proof/Safety.lean ====
section
/-! DEFINITION. The terms that claims use: what counts as a sound state, and when a mailbox holds a command whose own
effect comes next. -/

namespace Sys2Proof.Machine

/-- The buffers of a mailbox are in canonical form (R39, R47). -/
def Mbx.buffersOk (b : Mbx) : Bool := b.cmd.wf && b.resp.wf

/-- The two process image banks, and the bank that the device last took, are in canonical form (R63). -/
def PiSt.banksOk (p : PiSt) : Bool := p.bankA.wf && p.bankB.wf && p.prev.wf

/-- Every addressed memory of the device is in canonical form: the mailbox buffers, the process image banks and the
capture memory. -/
def State.memOk (s : State) : Prop :=
  (∀ m : Fin 16, s.mbx[m].buffersOk = true) ∧ s.pi.banksOk = true ∧ wordsOk 0 s.cap.carafe = true

/-- A mailbox holds a command with this opcode, taken and not yet answered, and nothing that R55 puts before the
command's own conditions is against it. -/
def State.ready (s : State) (m : Fin 16) (op : Nat) (hit : List Byte → Bool) (right : Nat) : Bool :=
  s.holds m op hit && s.preStatus m false right == stOk

/-- A mailbox holds this call with its number of argument bytes, and nothing that stands before the call's own conditions
is against it (R52, R55, R389). -/
def State.callReady (s : State) (m : Fin 16) (id n : Nat) : Bool :=
  s.ready m 0x10 (fun p => fld p 0 4 = id) (callRight id) && s.mbx[m].payload.length == 4 + n && !s.standbyRefuses id

/-- The same for a call of an axis class on axis `a`. -/
def State.axisReady (s : State) (m : Fin 16) (a : Fin 128) (cls idx n : Nat) : Bool :=
  s.ready m 0x10 (fun p => fld p 0 4 = cls * 2 ^ 24 + a.val * 2 ^ 16 + idx) 1 && s.mbx[m].payload.length == 4 + n &&
  !s.standbyRefuses (cls * 2 ^ 24)

/-- A mailbox holds this SAFETY sub-command with its payload, on a device with the Benrik die, from a login where one is
needed (R2, R426). -/
def State.safetyReady (s : State) (m : Fin 16) (sub n : Nat) : Bool :=
  s.ready m 0x50 (isSub sub) 8 && s.ib && (decide (sub < 3) || s.loginOk m sub) && fld s.mbx[m].payload 1 3 == 0 &&
  s.mbx[m].payload.length == 4 + n

/-- The state in which a SAFETY sub-command acts: the login's idle time starts again (R428). -/
def State.safetyBegun (s : State) (m : Fin 16) (tm : Nat) : State :=
  (s.adv tm).modSaf fun k => { k with login := k.login.map fun l =>
    if l.1 = s.mbx[m].sid then (l.1, max s.nt tm, l.2.2) else l }

/-- A field of the arguments of the call that a mailbox holds. -/
def State.arg (s : State) (m : Fin 16) (i n : Nat) : Nat := fld (callArgs s.mbx[m].payload) i n

/-- The response that the firmware has built for a mailbox is this status and payload (R49, R51). -/
def State.gotAnswer (t : State) (m : Fin 16) (status : Nat) (pay : List Byte) : Prop :=
  t.mbx[m].hidden = some (response t.mbx[m].copy status 0 0 pay) ∧ t.mbx[m].wait = .none

end Sys2Proof.Machine
end

