-- ==== Sys2Proof/WellFormed.lean ====
section
/-! DEFINITION. Which commands a sender can form: the operands that the host address space, a packet and a
frame admit.  The meanings are total on every operand; this check says which of them the outside world can send. -/

namespace Sys2Proof

/-- A word's offset in a region: aligned (R39) and below its end. -/
def wordIn (lo hi off : Nat) : Bool := decide (off % 4 = 0) && decide (lo ≤ off) && decide (off < hi)

/-- The operands are ones that the outside world can form. -/
def Instr.wf : Instr → Bool
  | .qspiRead off _ _ | .qspiQread off _ _ => wordIn 0 (2 ^ 24) off              -- 3 address bytes (R41)
  | .qspiWrite off _ _ | .qspiQwrite off _ _ => wordIn 0 (2 ^ 24) off
  | .registerWrite .pcie off _ _ => wordIn 0 0x40000 off ||                        -- the host address space (R39)
      wordIn (2 ^ 32) (2 ^ 32 + 0x100) off                                        -- or the configuration space (R40)
  | .registerWrite .qspi off _ _ => wordIn 0 0x40000 off
  | .wideRegisterLowRead _ off _ => wordIn 0 0x1000 off                           -- the register file (R39)
  | .piBankWrite _ off _ _ => wordIn 0x20000 0x30000 off                          -- the two banks (R39)
  | .latchEdge _ _ _ stamp => decide (stamp < 2 ^ 64)                             -- NT has 64 bits (R16)
  | .drspReceive _ turn _ => decide (turn < 2 ^ 16)                               -- the 2-byte field TURN (R87)
  | .upstreamPacket _ _ syms bytes _ => decide (bytes.length ≤ syms)              -- a symbol a byte at least (R85)
  | .tripPinActivation _ instant tm => decide (instant ≤ tm)                      -- the pin acts before it is seen
  | .channelFFrame _ _ _ _ fv24 _ => decide (fv24 < 2 ^ 16)                       -- a 16-bit reading (R310)
  | .ethFrameReceive _ _ bytes _ => decide (14 ≤ bytes.length)                    -- a MAC header (R351)
  | .pdelayMeasure _ t1 _ _ t4 _ => decide (t1 ≤ t4)                              -- sent before answered (R360)
  | .twinBurstReceive _ fc _ _ => decide (fc < 2 ^ 32)                            -- FC has 32 bits (R21)
  | .eventDatagramSend sid _ | .sessionIdle sid _ => decide (sid < 2 ^ 32)        -- a session number (R487)
  | .clusterTestDone _ fail item _ => fail || decide (item = 0)                   -- an item only with a failure (R510)
  | _ => true

end Sys2Proof
end

