-- ==== Sys2Proof/Certificates/Slice0/Obligations.lean ====
section
/-! DEFINITION. The statements for the provers. -/

open Sys2Proof Sys2Proof.Machine

/-! Host access (R39 to R65). -/

/-- R41, R42: a QSPI read returns one word for each word asked for, the first of them the word at its offset, and the two
read opcodes return the same; a read of a 64-bit register's low word returns it and latches the high word for its path. -/
def Obligations.HostReadsReturnTheirWords : Prop :=
  (∀ (off n tm : Nat) (s : State), s.pathUp .qspi = true → isHighWord off = false →
    ∃ t, exec (.qspiRead off (n + 1) tm) s = .next t ∧ t.host.rdata.length = n + 1 ∧
      t.host.rdata.head? = some ((s.adv tm).peek .qspi off) ∧ t.mbx = s.mbx ∧ t.pi = s.pi ∧ t.axes = s.axes) ∧
  (∀ (off n tm : Nat) (s : State), s.pathUp .qspi = true →
    ∃ t, exec (.qspiQread off n tm) s = .next t ∧ exec (.qspiRead off n tm) s = .next t ∧ t.host.rdata.length = n) ∧
  (∀ (off n tm : Nat) (s : State), s.pathUp .qspi = true →
    exec (.qspiQread off n tm) s = .next (((s.adv tm).readWords .qspi off n).2.modHost fun h =>
      { h with rdata := ((s.adv tm).readWords .qspi off n).1 })) ∧
  (∀ (a2 a1 a0 : Byte) (n tm : Nat) (data : List Byte),
    qspiCommand 0x0B a2 a1 a0 n data tm = some (.qspiRead (a2.toNat * 65536 + a1.toNat * 256 + a0.toNat) n tm) ∧
    qspiCommand 0xEB a2 a1 a0 n data tm = some (.qspiQread (a2.toNat * 65536 + a1.toNat * 256 + a0.toNat) n tm) ∧
    qspiCommand 0x02 a2 a1 a0 n data tm = some (.qspiWrite (a2.toNat * 65536 + a1.toNat * 256 + a0.toNat) data tm) ∧
    qspiCommand 0x32 a2 a1 a0 n data tm = some (.qspiQwrite (a2.toNat * 65536 + a1.toNat * 256 + a0.toNat) data tm)) ∧
  (∀ (p : Path) (off tm : Nat) (s : State), s.pathUp p = true → isLowWord off = true →
    ∃ t, exec (.wideRegisterLowRead p off tm) s = .next t ∧ t.host.rdata = [(s.adv tm).peek p off] ∧
      t.latched p (off + 4) = some ((s.adv tm).peek p (off + 4)) ∧ t.mbx = s.mbx ∧ t.pi = s.pi ∧ t.axes = s.axes)

/-- R39, R41, R63: a QSPI write of one word does what a register write of that word through the QSPI path does; a partial
word at the end of a write is discarded; a write of SYS_SCRATCH changes that register alone; a write to a bank while the
process image is not enabled is stored and is not counted. -/
def Obligations.HostWritesActOnWords : Prop :=
  (∀ (off tm : Nat) (v : Word) (s : State), s.pathUp .qspi = true →
    ∃ t, exec (.qspiWrite off (leBytes 4 v.toNat) tm) s = .next t ∧ exec (.qspiQwrite off (leBytes 4 v.toNat) tm) s = .next t ∧
      exec (.registerWrite .qspi off v tm) s = .next t) ∧
  (∀ (off tm : Nat) (bs part : List Byte) (s : State), bs.length % 4 = 0 → part.length < 4 →
    exec (.qspiWrite off (bs ++ part) tm) s = exec (.qspiWrite off bs tm) s) ∧
  (∀ (p : Path) (v : Word) (tm : Nat) (s : State), s.pathUp p = true →
    exec (.registerWrite p 0x070 v tm) s =
      .next { s with nt := max s.nt tm, host := { s.host with scratch := v } }) ∧
  (∀ (off tm : Nat) (v : Word) (s : State), s.pathUp .pcie = true →
    exec (.registerWrite .pcie (cfgBase + off) v tm) s = .next ((s.adv tm).cfgWrite off v)) ∧
  (∀ (p : Path) (off tm : Nat) (v : Word) (s : State), s.pathUp p = true → s.pi.enable = false →
    s.pi.banksOk = true → 0x20000 ≤ off → off < 0x30000 → ∃ t, exec (.piBankWrite p off v tm) s = .next t ∧ t.pi.reject = s.pi.reject ∧ t.host = s.host ∧
      t.mbx = s.mbx ∧ (off < 0x28000 → t.pi.bankB = s.pi.bankB ∧ t.pi.bankA.word (off - 0x20000) = v) ∧
      (0x28000 ≤ off → t.pi.bankA = s.pi.bankA ∧ t.pi.bankB.word (off - 0x28000) = v))

/-- R40, R48: a claim of a free mailbox by a path that is up makes the path its owner and changes nothing else; claims of a
NET_ONLY or an owned mailbox are ignored; a release while IDLE or DONE clears the mailbox for its next owner, a release
in any other state waits; PCIe link down and a reset of the endpoint release every mailbox that PCIe owns, clear its
writer role and end its subscriptions. -/
def Obligations.MailboxOwnership : Prop :=
  (∀ (p : Path) (m : Fin 16) (s : State), s.pathUp p = true → s.netOnly m = false → s.mbx[m].owner = .free →
    exec (.mbxClaim p m) s = .next (s.modMbx m fun b => { b with owner := Owner.ofPath p })) ∧
  (∀ (p : Path) (m : Fin 16) (s : State), s.netOnly m = true ∨ s.mbx[m].owner ≠ .free →
    exec (.mbxClaim p m) s = .next s) ∧
  (∀ (p : Path) (m : Fin 16) (s : State), s.pathUp p = true → s.mbx[m].owner = Owner.ofPath p →
    s.mbx[m].state = .idle ∨ s.mbx[m].state = .done →
    ∃ t, exec (.mbxRelease p m) s = .next t ∧ t.mbx[m].owner = .free ∧ t.mbx[m].state = .idle ∧ t.mbx[m].cmd = [] ∧
      t.mbx[m].resp = [] ∧ t.mbx[m].lastSeq = 0 ∧ t.mbx[m].session = 0 ∧ t.session s.mbx[m].session = none ∧
      t.axes = s.axes ∧ t.pi = s.pi ∧ t.host = s.host) ∧
  (∀ (p : Path) (m : Fin 16) (s : State), s.pathUp p = true → s.mbx[m].owner = Owner.ofPath p →
    s.mbx[m].state = .pending ∨ s.mbx[m].state = .executing →
    exec (.mbxRelease p m) s = .next (s.modMbx m fun b => { b with releasing := true })) ∧
  (∀ (tm : Nat) (s : State), ∃ t, exec (.pcieLinkDown tm) s = .next t ∧ t.host.pcieUp = false ∧ t.host.subsPcie = [] ∧
    t.pi.writer ≠ 1 ∧ t.axes = s.axes ∧ ∀ m : Fin 16, t.mbx[m].owner = .pcie → t.mbx[m].releasing = true) ∧
  (∀ (tm : Nat) (s : State), ∃ t, exec (.pciePerst tm) s = .next t ∧ t.host.pcieUp = true ∧ t.host.msiOn = false ∧
    t.host.subsPcie = [] ∧ t.pi.writer ≠ 1 ∧ t.axes = s.axes ∧
    ∀ m : Fin 16, t.mbx[m].owner = .pcie → t.mbx[m].releasing = true)

/-- R49, R50: a mailbox goes from IDLE or DONE to PENDING at its owner's doorbell, to EXECUTING when the firmware takes it in
its turn, and to DONE with its response, with a BUSY of the hardware, or with TIMEOUT; a doorbell in PENDING or
EXECUTING is ignored and noted; a call that has started answers TIMEOUT with STARTED and goes on. -/
def Obligations.MailboxCommandCycle : Prop :=
  (∀ (p : Path) (m : Fin 16) (tm : Nat) (s : State), s.pathUp p = true → s.mbx[m].owner = Owner.ofPath p →
    s.mbx[m].state = .idle ∨ s.mbx[m].state = .done →
    exec (.mbxDoorbell p m tm) s = .next ((s.adv tm).modMbx m fun b =>
      { b with state := .pending, cmdCount := count32 b.cmdCount, lockWrite := false, bellIgnored := false,
               bellAt := max s.nt tm, deadlineNow := b.deadline })) ∧
  (∀ (p : Path) (m : Fin 16) (tm : Nat) (s : State), s.pathUp p = true → s.mbx[m].owner = Owner.ofPath p →
    s.mbx[m].state = .pending ∨ s.mbx[m].state = .executing →
    exec (.mbxDoorbell p m tm) s = .next ((s.adv tm).modMbx m fun b => { b with bellIgnored := true })) ∧
  (∀ (m : Fin 16) (tm : Nat) (s : State), s.fwRuns = true → s.mbx[m].state = .pending → s.turnOf m = true →
    ∃ t, exec (.mbxTake m tm) s = .next t ∧ t.mbx = (s.modMbx m fun b =>
      { b with state := .executing, copy := Mem.gets b.cmd 0 512, hidden := none, wait := .none }).mbx ∧ t.axes = s.axes ∧ t.pi = s.pi ∧ t.par = s.par) ∧
  (∀ (m : Fin 16) (tm : Nat) (s : State), s.hostUp = true → s.fwRuns = false → s.mbx[m].state = .pending →
    s.mbx[m].owner ≠ .net → s.mbx[m].releasing = false → s.mbx[m].discard = false →
    ∃ t, exec (.mbxAutoBusy m tm) s = .next t ∧ t.mbx[m].state = .done ∧ t.mbx[m].autoBusy = true ∧
      t.mbx[m].resp = Mem.ofList (response (Mem.gets s.mbx[m].cmd 0 16) stBusy 0 0 []) ∧
      t.host.irqStatus = s.host.irqStatus ||| irqBit m.val ∧ t.axes = s.axes ∧ t.pi = s.pi ∧ t.par = s.par) ∧
  (∀ (m : Fin 16) (tm : Nat) (fr : List Byte) (s : State), s.mbx[m].state = .executing → s.mbx[m].hidden = some fr →
    s.mbx[m].owner ≠ .net → s.mbx[m].releasing = false → s.mbx[m].discard = false →
    (∀ x ∈ s.sec.sessions, x.ending = false) →
    ∃ t, exec (.mbxResponse m tm) s = .next t ∧ t.mbx[m].state = .done ∧ t.mbx[m].autoBusy = false ∧
      t.mbx[m].resp = Mem.ofList fr ∧ t.mbx[m].lastSeq = fld fr 0 2 ∧
      t.host.irqStatus = s.host.irqStatus ||| irqBit m.val ∧ t.axes = s.axes ∧ t.pi = s.pi ∧ t.par = s.par) ∧
  (∀ (m : Fin 16) (tm : Nat) (s : State), s.mbx[m].state = .pending →
    s.mbx[m].bellAt + ms s.mbx[m].deadlineNow ≤ max s.nt tm →
    s.mbx[m].owner ≠ .net → s.mbx[m].releasing = false → s.mbx[m].discard = false →
    ∃ t, exec (.mbxDeadline m tm) s = .next t ∧ t.mbx[m].state = .done ∧
      t.mbx[m].resp = Mem.ofList (response (Mem.gets s.mbx[m].cmd 0 16) stTimeout 0 0 []) ∧ t.axes = s.axes ∧
      t.pi = s.pi ∧ t.par = s.par) ∧
  (∀ (m : Fin 16) (tm id : Nat) (s : State), s.mbx[m].state = .executing → s.mbx[m].wait = .call id →
    s.mbx[m].hidden = none → s.mbx[m].bellAt + ms s.mbx[m].deadlineNow ≤ max s.nt tm →
    s.mbx[m].owner ≠ .net → s.mbx[m].releasing = false → s.mbx[m].discard = false →
    ∃ t, exec (.mbxDeadline m tm) s = .next t ∧ t.mbx[m].state = .done ∧ t.host.started = s.host.started ++ [id] ∧
      t.mbx[m].resp = Mem.ofList (response s.mbx[m].copy stTimeout 0 8 []))

/-- R43, R44: writing 1 to a bit of IRQ_STATUS clears it; IRQ_ENABLE and the low byte of IRQ_VECTOR take what is written;
IRQ_TEST sets bits; with one vector granted, an MSI leaves when the set of enabled pending bits becomes non-empty; the
other state stays. -/
def Obligations.InterruptRegisters : Prop :=
  (∀ (v : Word) (s : State), s.hostUp = true →
    ∃ t, exec (.irqStatusWrite v) s = .next t ∧ t = { s with
      out := t.out, host := { s.host with irqStatus := s.host.irqStatus &&& ~~~v } }) ∧
  (∀ (v : Word) (s : State), s.hostUp = true →
    ∃ t, exec (.irqEnableWrite v) s = .next t ∧ t = { s with
      out := t.out, host := { s.host with irqEnable := v &&& irqBits } }) ∧
  (∀ (v : Word) (s : State), s.hostUp = true →
    ∃ t, exec (.irqVectorWrite v) s = .next t ∧ t = { s with
      out := t.out, host := { s.host with irqVector := v &&& 0xFF } }) ∧
  (∀ (v : Word) (s : State), s.hostUp = true →
    ∃ t, exec (.irqTest v) s = .next t ∧ t = { s with
      out := t.out, host := { s.host with irqStatus := s.host.irqStatus ||| (v &&& irqBits) } }) ∧
  (∀ (v : Word) (s : State), s.hostUp = true → s.host.msiOn = true → s.host.pcieUp = true → s.host.msiGranted = 1 →
    s.host.irqStatus &&& irqBits &&& s.host.irqEnable = 0 → v &&& irqBits &&& s.host.irqEnable ≠ 0 →
    ∃ t, exec (.irqTest v) s = .next t ∧ t.out = s.out ++ [.msi 0])

/-- R43, R45, R46, R65: EVT_POP moves the oldest record out, and leaves code 0 when there is none; reading EVT_LOST clears it;
TAKE makes a snapshot now and ON_TICK arms one; a kick restarts the host watchdog, which once its time has passed
sets WDOG and raises 0x0110 on the axes of the mask; SYS_FW_ALIVE counts each ms while the firmware runs. -/
def Obligations.EventQueueSnapshotWatchdog : Prop :=
  (∀ (r : EvtRec) (l : List EvtRec) (s : State), s.hostUp = true → s.host.evt = r :: l →
    exec .evtPop s = .next { s with host := { s.host with evtRec := r, evt := l } }) ∧
  (∀ s : State, s.hostUp = true → s.host.evt = [] →
    exec .evtPop s = .next { s with host := { s.host with evtRec := { s.host.evtRec with code := 0 } } }) ∧
  (∀ s : State, s.hostUp = true →
    exec .evtLostRead s = .next { s with host :=
      { s.host with rdata := [BitVec.ofNat 32 s.host.evtLost], evtLost := 0 } }) ∧
  (∀ (tm : Nat) (s : State), s.hostUp = true →
    ∃ t, exec (.tsTake tm) s = .next t ∧ t.host.tsValid = true ∧ t.host.tsTick = false ∧ t.host.tsNt = max s.nt tm % 2 ^ 64 ∧
      t.host.tsFc = s.fc ∧ t.host.tsPhase = max s.nt tm - s.frame.tick ∧
      t.host.irqStatus = s.host.irqStatus ||| irqBit 22 ∧ t.host.tsArmed = s.host.tsArmed ∧ t.axes = s.axes) ∧
  (∀ s : State, s.hostUp = true →
    exec .tsOnTick s = .next { s with host := { s.host with tsArmed := true } }) ∧
  (∀ (tm : Nat) (s : State), s.hostUp = true →
    exec (.hostWdogKick tm) s = .next { s with
      nt := max s.nt tm, host := { s.host with wdogFrom := max s.nt tm, wdogExpired := false } }) ∧
  (∀ (tm : Nat) (s : State), s.hostUp = true → s.pN Pid.hostWdogTime ≠ 0 → s.host.wdogExpired = false →
    s.host.wdogFrom + ms (s.pN Pid.hostWdogTime) ≤ max s.nt tm →
    ∃ u : State, exec (.hostWdogExpiry tm) s = .next (u.raise 0x0110 0 s.maskAxes) ∧ u.host.wdogExpired = true ∧
      u.host.irqStatus = s.host.irqStatus ||| irqBit 23 ∧ u.axes = s.axes ∧ u.flt = s.flt ∧ u.pi = s.pi) ∧
  (∀ (tm : Nat) (s : State), s.fwRuns = true → s.host.fwAliveAt + ms 1 ≤ max s.nt tm →
    exec (.fwAlive tm) s = .next { s with
      nt := max s.nt tm, host := { s.host with fwAlive := count32 s.host.fwAlive, fwAliveAt := max s.nt tm } })

/-- R45, R63, R64, R456: WRITER follows a write of PI_CTRL only while ENABLE is 0, and setting ENABLE swaps nothing; a handover
by the writer waits for the next swap; with the process image running in handshake mode, HOST.PI.TIMEOUT ticks
without a swap raise 0x0111; the status of the frame goes into the device-facing bank and leaves the other alone. -/
def Obligations.ProcessImageControl : Prop :=
  (∀ (p : Path) (v : Word) (s : State), s.pathUp p = true → s.fullService = true → s.pi.enable = false →
    bit v.toNat 0 = true →
    ∃ t, exec (.piCtrlWrite p v) s = .next t ∧ t = { s with pi := t.pi } ∧ t.pi.enable = true ∧ t.pi.enabling = true ∧
      t.pi.swaps = 0 ∧ t.pi.running = s.pi.running) ∧
  (∀ (p : Path) (v : Word) (s : State), s.pathUp p = true →
    ∃ t, exec (.piCtrlWrite p v) s = .next t ∧ t = { s with pi := t.pi } ∧ t.pi.handshake = bit v.toNat 1 ∧
      t.pi.hostB = s.pi.hostB ∧ t.pi.bankA = s.pi.bankA ∧ t.pi.bankB = s.pi.bankB ∧
      t.pi.writer = if s.pi.enable then s.pi.writer else bits v.toNat 3 2) ∧
  (∀ (p : Path) (tm : Nat) (s : State), s.pathUp p = true → s.pi.live = true → s.pi.handed = false →
    s.pi.writer = (Owner.ofPath p).code →
    exec (.piHandover p tm) s = .next { s with
      nt := max s.nt tm, pi := { s.pi with handed := true, handedAt := max s.nt tm } }) ∧
  (∀ s : State, s.pi.running = true → s.pi.handshake = true → s.pN Pid.hostPiTimeout ≠ 0 →
    s.pN Pid.hostPiTimeout ≤ s.pi.dry → s.pi.dryRaised = false →
    exec .piTimeout s = .next (({ s with pi := { s.pi with dryRaised := true } } : State).raise 0x0111 0 s.maskAxes)) ∧
  (∀ (tm : Nat) (s : State), s.fullService = true → s.frame.ticking = true → s.frame.tick + 10500 ≤ max s.nt tm →
    max s.nt tm < s.frame.tick + s.tf → s.pi.banksOk = true →
    ∃ t, exec (.piStatusUpdate tm) s = .next t ∧ t = { s with nt := max s.nt tm, pi := t.pi } ∧ t.pi.hostB = s.pi.hostB ∧
      (s.pi.hostB = true → t.pi.bankB = s.pi.bankB ∧ t.pi.fcA = s.fc ∧ t.pi.bankA.word 0x6000 = BitVec.ofNat 32 s.fc) ∧
      (s.pi.hostB = false → t.pi.bankA = s.pi.bankA ∧ t.pi.fcB = s.fc ∧ t.pi.bankB.word 0x6000 = BitVec.ofNat 32 s.fc))

/-! Mailbox commands (R49 to R61, R426 to R428, R484 to R491). -/

/-- R49: a mailbox command has its effect only once the firmware has taken it: while the mailbox is not EXECUTING, it changes
nothing but device time. -/
def Obligations.CommandNotTakenHasNoEffect : Prop :=
  ∀ (m : Fin 16) (tm : Nat) (s : State), s.mbx[m].state ≠ .executing →
    ∀ c ∈ ([.get m tm, .set m tm, .getMulti m tm, .setMulti m tm, .subscribe m tm, .fileOpen m tm, .fileWrite m tm,
      .fileRead m tm, .fileClose m tm, .echo m tm, .hello m tm, .prove m tm, .endSession m tm, .enrol m tm, .login m tm,
      .logout m tm, .stage m tm, .validate m tm, .activate m tm, .discard m tm, .setPassword m tm, .safetyReset m tm,
      .sysSave m tm, .trpClear m tm, .axComHallLearn m tm, .axFbkSetPos m tm, .axMotSatClr m tm, .axRptClear m tm,
      .axInjStart m tm, .axInjStop m tm, .axPrfAppend m tm, .axPrfFlush m tm, .axPrfResume m tm, .axPrfPause m tm,
      .axHomStart m tm, .axHomAbort m tm, .axGeaEngage m tm, .axGeaDisengage m tm, .trkCreate m tm, .trkDelete m tm,
      .trkModify m tm, .trkSetEv m tm, .trkRead m tm, .trkFlush m tm, .axCmpArm m tm, .axCmpDisarm m tm,
      .fioOutWrite m tm, .fioOutRearm m tm, .fioDiag m tm, .capArm m tm, .capForce m tm, .capStop m tm,
      .ptpSetTime m tm, .twinSwitch m tm, .twinRejoin m tm, .twinTake m tm, .flogClear m tm, .pwrOperate m tm,
      .pwrConfig m tm, .pwrReset m tm, .pwrSleep m tm, .pwrWake m tm, .secFwActivate m tm, .secFwCommit m tm,
      .secTransfer m tm, .secRelease m tm, .secOperSet m tm, .secLinekeySet m tm, .secLinekeyClear m tm,
      .secDebugUnlock m tm, .ageClusterTest m tm, .agePortLoop m tm, .ageAxisReset m tm, .ageFwRestart m tm] : List Instr),
      exec c s = .next (s.adv tm)

/-- R52, R55, R456: a call that is refused before its own conditions (in ristretto service, without its session or right, or
with a bad header) is answered with that status, where the header is bad perhaps with UNKNOWN or LOCKED, which stand before
RANGE, and changes nothing but its mailbox's hidden response. -/
def Obligations.CallRefusedBeforeItsOwnConditions : Prop :=
  ∀ (m : Fin 16) (tm st : Nat) (s : State) (c : Instr) (id : Nat),
    (c, id) ∈ ([(.trpClear m tm, 0x2100F001), (.trkCreate m tm, 0x4000F001), (.trkDelete m tm, 0x4000F002),
      (.trkModify m tm, 0x4000F003), (.trkSetEv m tm, 0x4000F004), (.trkRead m tm, 0x4000F005),
      (.trkFlush m tm, 0x4000F006), (.fioOutWrite m tm, 0x6000F001), (.fioOutRearm m tm, 0x6000F002),
      (.capArm m tm, 0x5000F001), (.capForce m tm, 0x5000F002), (.capStop m tm, 0x5000F003),
      (.ptpSetTime m tm, 0x3100F001), (.twinSwitch m tm, 0xB000F001), (.twinRejoin m tm, 0xB000F002),
      (.twinTake m tm, 0xB000F003), (.flogClear m tm, 0xF000F001), (.pwrOperate m tm, 0x0800F001),
      (.pwrConfig m tm, 0x0800F002), (.pwrReset m tm, 0x0800F003), (.pwrSleep m tm, 0x0800F004),
      (.pwrWake m tm, 0x0800F005), (.secFwActivate m tm, 0x8000F001), (.secFwCommit m tm, 0x8000F002),
      (.secLinekeySet m tm, 0x8000F003), (.secLinekeyClear m tm, 0x8000F004), (.secOperSet m tm, 0x8000F005),
      (.secDebugUnlock m tm, 0x8000F006), (.secRelease m tm, 0x8000F007), (.secTransfer m tm, 0x8000F008),
      (.ageAxisReset m tm, 0x0A00F003), (.ageFwRestart m tm, 0x0A00F004)] : List (Instr × Nat)) →
    s.holds m 0x10 (fun p => fld p 0 4 = id) = true → s.preStatus m false (callRight id) = st → st ≠ stOk →
    ∃ r, exec c s = .next ((s.adv tm).answer m r 0 []) ∧
      (r = st ∨ (st = stRange ∧ (r = stUnknown ∨ r = stLocked)))

/-- R53, R54, R58, R61: what GET, GET_MULTI, SET, SET_MULTI, SUBSCRIBE, ECHO and SYS.SAVE do when nothing stands against
them: a value is answered with its type and length; a group that passes is marked ready whole and answered only at its
commit; a group that fails changes nothing; a subscription is held once; the same bytes come back; a save holds the values
as committed now. -/
def Obligations.ParameterCommandsAct : Prop :=
  (∀ (m : Fin 16) (tm ty : Nat) (bs : List Byte) (s : State), s.ready m 0x01 anyPay 0 = true →
    s.mbx[m].payload.length = 4 →
    (s.adv tm).getOne (bit s.mbx[m].flags 1) (fld s.mbx[m].payload 0 4) = (ty, stOk, bs) →
    exec (.get m tm) s = .next ((s.adv tm).answer m stOk 0 (leBytes 1 ty ++ leBytes 1 0 ++ leBytes 2 bs.length ++ bs))) ∧
  (∀ (m : Fin 16) (tm ty : Nat) (bs : List Byte) (s : State), s.ready m 0x03 anyPay 0 = true →
    s.mbx[m].payload.length = 8 → fld s.mbx[m].payload 0 2 = 1 → fld s.mbx[m].payload 2 2 = 0 → bs.length ≤ 400 →
    (s.adv tm).getOne (bit s.mbx[m].flags 1) (fld s.mbx[m].payload 4 4) = (ty, stOk, bs) →
    exec (.getMulti m tm) s = .next ((s.adv tm).answer m stOk 0 (padded
      (leBytes 4 (fld s.mbx[m].payload 4 4) ++ leBytes 1 ty ++ leBytes 1 stOk ++ leBytes 2 bs.length ++ bs)))) ∧
  (∀ (m : Fin 16) (tm i : Nat) (e : SetEntry) (vals : List (Nat × PVal)) (s : State),
    s.ready m 0x02 anyPay (if keysClass (fld s.mbx[m].payload 0 4) then 16 else 1) = true → s.drives = true →
    parseEntries 1 s.mbx[m].payload = some [e] →
    (s.adv tm).judge (s.rightsOf m) (bit s.mbx[m].flags 0) [e] = (stOk, i, vals) →
    ∃ t, exec (.set m tm) s = .next t ∧ t.par.store = s.par.store ∧ t.mbx[m].hidden = none ∧
      t.par.ready = s.par.ready ++ [⟨s.par.nextGroup, some m.val, vals, (s.adv tm).markAt⟩] ∧
      t.mbx[m].wait = .group s.par.nextGroup ∧ t.axes = s.axes) ∧
  (∀ (m : Fin 16) (tm n i : Nat) (es : List SetEntry) (vals : List (Nat × PVal)) (s : State),
    s.ready m 0x04 anyPay 17 = true → s.drives = true → fld s.mbx[m].payload 0 2 = n → 1 ≤ n → n ≤ 32 →
    fld s.mbx[m].payload 2 2 = 0 → parseEntries n (s.mbx[m].payload.drop 4) = some es →
    (s.adv tm).judge (s.rightsOf m) (bit s.mbx[m].flags 0) es = (stOk, i, vals) →
    ∃ t, exec (.setMulti m tm) s = .next t ∧ t.par.store = s.par.store ∧ t.mbx[m].hidden = none ∧
      t.par.ready = s.par.ready ++ [⟨s.par.nextGroup, some m.val, vals, (s.adv tm).markAt⟩] ∧
      t.mbx[m].wait = .group s.par.nextGroup ∧ t.axes = s.axes) ∧
  (∀ (m : Fin 16) (tm n i st : Nat) (es : List SetEntry) (vals : List (Nat × PVal)) (s : State),
    s.ready m 0x04 anyPay 17 = true → s.drives = true → fld s.mbx[m].payload 0 2 = n → 1 ≤ n → n ≤ 32 →
    fld s.mbx[m].payload 2 2 = 0 → parseEntries n (s.mbx[m].payload.drop 4) = some es →
    (s.adv tm).judge (s.rightsOf m) (bit s.mbx[m].flags 0) es = (st, i, vals) → st ≠ stOk →
    exec (.setMulti m tm) s = .next ((s.adv tm).answer m st i [])) ∧
  (∀ (m : Fin 16) (tm : Nat) (s : State), s.ready m 0x20 anyPay 0 = true → s.mbx[m].payload.length = 8 →
    fld s.mbx[m].payload 0 2 = 1 → fld s.mbx[m].payload 2 2 = 0 → fld s.mbx[m].payload 7 1 = 1 →
    s.mbx[m].owner = .pcie → s.host.subsPcie.length < 64 →
    ∃ t, exec (.subscribe m tm) s = .next t ∧ t.gotAnswer m stOk [] ∧ t.host.subsQspi = s.host.subsQspi ∧
      (⟨fld s.mbx[m].payload 4 2, fld s.mbx[m].payload 6 1⟩ : Sub) ∈ t.host.subsPcie ∧
      (∀ x ∈ s.host.subsPcie, x ∈ t.host.subsPcie) ∧ t.axes = s.axes ∧ t.par = s.par) ∧
  (∀ (m : Fin 16) (tm : Nat) (s : State), s.ready m 0xF0 anyPay 0 = true →
    exec (.echo m tm) s = .next ((s.adv tm).answer m stOk 0 s.mbx[m].payload)) ∧
  (∀ (m : Fin 16) (tm : Nat) (s : State), s.callReady m 0x0100F001 0 = true → s.par.saving = none →
    ∃ t, exec (.sysSave m tm) s = .next t ∧ t.par.store = s.par.store ∧ t.par.flash = s.par.flash ∧
      t.mbx[m].wait = .call 0x0100F001 ∧ t.axes = s.axes ∧ ∃ set, t.par.saving = some (set, some m.val) ∧
        ∀ e, e ∈ set ↔ e ∈ s.par.store ∧ ∃ r k, findRow e.id = some (r, k) ∧ r.flash = true) ∧
  (∀ (m : Fin 16) (tm n : Nat) (bs : List Byte) (s : State), s.ready m 0x03 anyPay 0 = true →
    fld s.mbx[m].payload 0 2 = n → 1 ≤ n → n ≤ 64 → fld s.mbx[m].payload 2 2 = 0 → s.mbx[m].payload.length = 4 + 4 * n →
    fitEntries 496 ((List.range n).map ((s.adv tm).multiEntry m)) = (bs, n) →
    exec (.getMulti m tm) s = .next ((s.adv tm).answer m stOk 0 bs)) ∧
  (∀ (m : Fin 16) (tm n k : Nat) (bs : List Byte) (s : State), s.ready m 0x03 anyPay 0 = true →
    fld s.mbx[m].payload 0 2 = n → 1 ≤ n → n ≤ 64 → fld s.mbx[m].payload 2 2 = 0 → s.mbx[m].payload.length = 4 + 4 * n →
    fitEntries 496 ((List.range n).map ((s.adv tm).multiEntry m)) = (bs, k) → k < n →
    exec (.getMulti m tm) s = .next ((s.adv tm).answer m stFull k bs)) ∧
  (∀ (m : Fin 16) (tm n : Nat) (l : List Sub) (s : State), s.ready m 0x20 anyPay 0 = true →
    fld s.mbx[m].payload 0 2 = n → fld s.mbx[m].payload 2 2 = 0 → s.mbx[m].payload.length = 4 + 4 * n →
    ((subEntries s.mbx[m].payload n).all fun x => decide (x.2.2 ≤ 1)) = true → s.mbx[m].owner = .pcie →
    (subEntries s.mbx[m].payload n).foldl subStep (some s.host.subsPcie) = some l →
    exec (.subscribe m tm) s = .next (((s.adv tm).modHost fun h => { h with subsPcie := l }).answer m stOk 0 [])) ∧
  (∀ (m : Fin 16) (tm n : Nat) (l : List Sub) (s : State), s.ready m 0x20 anyPay 0 = true →
    fld s.mbx[m].payload 0 2 = n → fld s.mbx[m].payload 2 2 = 0 → s.mbx[m].payload.length = 4 + 4 * n →
    ((subEntries s.mbx[m].payload n).all fun x => decide (x.2.2 ≤ 1)) = true → s.mbx[m].owner = .qspi →
    (subEntries s.mbx[m].payload n).foldl subStep (some s.host.subsQspi) = some l →
    exec (.subscribe m tm) s = .next (((s.adv tm).modHost fun h => { h with subsQspi := l }).answer m stOk 0 [])) ∧
  (∀ (m : Fin 16) (tm n : Nat) (l : List Sub) (x : Session) (s : State), s.ready m 0x20 anyPay 0 = true →
    fld s.mbx[m].payload 0 2 = n → fld s.mbx[m].payload 2 2 = 0 → s.mbx[m].payload.length = 4 + 4 * n →
    ((subEntries s.mbx[m].payload n).all fun e => decide (e.2.2 ≤ 1)) = true → s.mbx[m].owner = .net → s.session s.mbx[m].sid = some x →
    (subEntries s.mbx[m].payload n).foldl subStep (some x.subs) = some l →
    exec (.subscribe m tm) s = .next (((s.adv tm).modSession x.id fun y => { y with subs := l }).answer m stOk 0 []))

/-- R53: opening a readable file answers a handle and its size; writes go to the end of a file opened for writing; a read gives
the bytes at its offset; closing a file that was read ends its handle. -/
def Obligations.FileCommandsAct : Prop :=
  (∀ (m : Fin 16) (tm : Nat) (f : FileName) (bs : List Byte) (s : State), s.ready m 0x30 anyPay 0 = true →
    fld s.mbx[m].payload 0 1 = 0 → fld s.mbx[m].payload 1 1 ≤ 64 →
    s.mbx[m].payload.length = 2 + fld s.mbx[m].payload 1 1 → fileOf (s.mbx[m].payload.drop 2) = some f →
    (s.adv tm).fileBytes f = some bs →
    ∃ t, exec (.fileOpen m tm) s = .next t ∧
      t.gotAnswer m stOk (leBytes 2 (s.par.nextHandle % 65536) ++ leBytes 2 0 ++ leBytes 4 bs.length) ∧
      t.par.files = s.par.files ++ [⟨s.par.nextHandle % 65536, s.mbx[m].owner, s.mbx[m].sid, f, false, bs⟩] ∧
      t.axes = s.axes ∧ t.par.store = s.par.store) ∧
  (∀ (m : Fin 16) (tm : Nat) (h : FileHandle) (s : State), s.handleOf m (fld s.mbx[m].payload 0 2) = some h →
    s.ready m 0x31 anyPay h.file.right = true → h.writing = true → 8 ≤ s.mbx[m].payload.length →
    fld s.mbx[m].payload 2 2 = 0 → fld s.mbx[m].payload 4 4 = h.data.length →
    ∃ t, exec (.fileWrite m tm) s = .next t ∧ t.gotAnswer m stOk [] ∧ t.axes = s.axes ∧
      t.par.files = s.par.files.map fun x =>
        if x.handle = h.handle then { x with data := x.data ++ s.mbx[m].payload.drop 8 } else x) ∧
  (∀ (m : Fin 16) (tm : Nat) (h : FileHandle) (s : State), s.handleOf m (fld s.mbx[m].payload 0 2) = some h →
    s.ready m 0x32 anyPay 0 = true → h.writing = false → s.mbx[m].payload.length = 8 → fld s.mbx[m].payload 2 2 ≤ 488 →
    exec (.fileRead m tm) s = .next ((s.adv tm).answer m stOk 0
      ((h.data.drop (fld s.mbx[m].payload 4 4)).take (fld s.mbx[m].payload 2 2)))) ∧
  (∀ (m : Fin 16) (tm : Nat) (h : FileHandle) (s : State), s.handleOf m (fld s.mbx[m].payload 0 2) = some h →
    s.ready m 0x33 anyPay 0 = true → h.writing = false → s.mbx[m].payload.length = 4 → fld s.mbx[m].payload 2 2 = 0 →
    ∃ t, exec (.fileClose m tm) s = .next t ∧ t.gotAnswer m stOk [] ∧ (∀ x ∈ t.par.files, x.handle ≠ h.handle) ∧
      t.axes = s.axes ∧ t.sec = s.sec) ∧
  (∀ (m : Fin 16) (tm : Nat) (f : FileName) (s : State), fld s.mbx[m].payload 0 1 = 1 →
    s.fileIn m = some f → s.ready m 0x30 anyPay f.right = true → fld s.mbx[m].payload 1 1 ≤ 64 →
    s.mbx[m].payload.length = 2 + fld s.mbx[m].payload 1 1 → (s.adv tm).writable f = true →
    ∃ t, exec (.fileOpen m tm) s = .next t ∧
      t.gotAnswer m stOk (leBytes 2 (s.par.nextHandle % 65536) ++ leBytes 2 0 ++ leBytes 4 0) ∧
      t.par.files = s.par.files ++ [⟨s.par.nextHandle % 65536, s.mbx[m].owner, s.mbx[m].sid, f, true, []⟩] ∧
      (f = .secFwSlot → t.sec.closedOk = false) ∧ t.axes = s.axes ∧ t.par.store = s.par.store) ∧
  (∀ (m : Fin 16) (tm st : Nat) (h : FileHandle) (u s : State), s.handleOf m (fld s.mbx[m].payload 0 2) = some h →
    s.ready m 0x33 anyPay 0 = true → h.writing = true → s.mbx[m].payload.length = 4 → fld s.mbx[m].payload 2 2 = 0 →
    ((s.adv tm).modPar fun k => { k with files := k.files.filter fun x => x.handle != h.handle }).closeWrite h.file h.data =
      (st, u) →
    exec (.fileClose m tm) s = .next (u.answer m st 0 []))

/-- R484, R487, R489, R491: HELLO on a mailbox without a session opens one, bound to it and without rights; PROVE with a
signature of the credential gives the requested rights that the credential has, and any other signature ends the
session and is counted; END marks the session for its end; ENROL in the delivery state with OWN_CLAIM high makes an owner. -/
def Obligations.SessionCommandsAct : Prop :=
  (∀ (m : Fin 16) (tm : Nat) (s : State), s.ready m 0x40 (isSub 1) 0 = true → s.sec.lockedUntil = none →
    s.mbx[m].payload.length = 88 → fld s.mbx[m].payload 1 3 = 0 → fld s.mbx[m].payload 6 2 = 0 →
    s.mbx[m].session = 0 → s.mbx[m].sid = 0 →
    ∃ t x, exec (.hello m tm) s = .next t ∧ t.sec.sessions = s.sec.sessions ++ [x] ∧ x.id = s.sec.nextSession ∧
      x.mbx = m.val ∧ x.rights = 0 ∧ x.proved = false ∧ t.mbx[m].session = s.sec.nextSession ∧
      t.mbx[m].hidden.isSome = true ∧ t.axes = s.axes ∧ t.par = s.par) ∧
  (∀ (m : Fin 16) (tm c rights : Nat) (key : List Byte) (x : Session) (s : State), s.ready m 0x40 (isSub 2) 0 = true →
    s.session s.mbx[m].sid = some x → s.mbx[m].payload.length = 72 → fld s.mbx[m].payload 1 3 = 0 →
    fld s.mbx[m].payload 5 3 = 0 → fld s.mbx[m].payload 4 1 = c → c ≤ 7 ∨ c = 0xFF → s.sec.cred c = some (key, rights) →
    ∃ t, exec (.prove m tm) s = .next t ∧
      (Config.ecdsaVerify key (Config.sha256 (x.hash ++ x.devSig)) (s.mbx[m].payload.drop 8) = true →
        ∃ y, t.session s.mbx[m].sid = some y ∧ y.proved = true ∧ y.rights = x.wanted &&& rights ∧
          t.gotAnswer m stOk (leBytes 2 (x.wanted &&& rights) ++ leBytes 2 0)) ∧
      (Config.ecdsaVerify key (Config.sha256 (x.hash ++ x.devSig)) (s.mbx[m].payload.drop 8) = false →
        t = ((s.adv tm).proveFailed x.id).answer m stIntegrity 0 [])) ∧
  (∀ (m : Fin 16) (tm : Nat) (x : Session) (s : State), s.ready m 0x40 (isSub 3) 0 = true →
    s.session s.mbx[m].sid = some x → s.mbx[m].payload.length = 4 → fld s.mbx[m].payload 1 3 = 0 →
    ∃ t y, exec (.endSession m tm) s = .next t ∧ t.session s.mbx[m].sid = some y ∧ y.ending = true ∧
      t.gotAnswer m stOk [] ∧ t.axes = s.axes) ∧
  (∀ (m : Fin 16) (tm : Nat) (s : State), s.ready m 0x40 (isSub 0x10) 0 = true → s.mbx[m].payload.length = 68 →
    fld s.mbx[m].payload 1 3 = 0 → s.sec.owned = false → s.pwr.strapClaim = true →
    ∃ t, exec (.enrol m tm) s = .next t ∧ t.sec.owned = true ∧ t.sec.ownerKey = s.mbx[m].payload.drop 4 ∧
      t.sec.ownerEpoch = 1 ∧ t.sec.jtagOpen = false ∧ t.mbx[m].hidden.isSome = true ∧ t.axes = s.axes) ∧
  (∀ (m : Fin 16) (tm c : Nat) (x : Session) (s : State), s.ready m 0x40 (isSub 2) 0 = true →
    s.session s.mbx[m].sid = some x → s.mbx[m].payload.length = 72 → fld s.mbx[m].payload 1 3 = 0 →
    fld s.mbx[m].payload 5 3 = 0 → fld s.mbx[m].payload 4 1 = c → c ≤ 7 ∨ c = 0xFF → s.sec.cred c = none →
    exec (.prove m tm) s = .next (((s.adv tm).proveFailed x.id).answer m stIntegrity 0 []))

/-- R408, R426, R427, R428: LOGIN with no password set, or with a matching one, opens the login and is logged; LOGOUT ends it;
STAGE starts from the active block; VALIDATE answers both CRCs and the number of changes; ACTIVATE with matching CRCs waits
for the next tick; DISCARD drops the staged block; SET_PASSWORD keeps a salted hash; RESET without its source is refused. -/
def Obligations.SafetyCommandsAct : Prop :=
  (∀ (m : Fin 16) (tm : Nat) (s : State), s.safetyReady m 1 20 = true → s.saf.lockedUntil = none →
    s.saf.password = none → ((s.mbx[m].payload.drop 4).all fun b => b == 0) = true →
    ∃ t, exec (.login m tm) s = .next t ∧ t.gotAnswer m stOk [] ∧ t.saf.login = some (s.mbx[m].sid, max s.nt tm, true) ∧
      t.saf.fails = 0 ∧ t.saf.lockouts = 0 ∧ (t.saf.log.getLast?.map fun e => e.kind) = some 3 ∧ t.saf.chan = s.saf.chan ∧
      t.axes = s.axes) ∧
  (∀ (m : Fin 16) (tm n : Nat) (salt h : List Byte) (s : State), s.safetyReady m 1 20 = true → s.saf.lockedUntil = none →
    s.saf.password = some (salt, h) → fld s.mbx[m].payload 4 4 = n → n ≤ 16 →
    ((s.mbx[m].payload.drop (8 + n)).all fun b => b == 0) = true →
    Config.sha256 (salt ++ (s.mbx[m].payload.drop 8).take n) = h →
    ∃ t, exec (.login m tm) s = .next t ∧ t.gotAnswer m stOk [] ∧ t.saf.login = some (s.mbx[m].sid, max s.nt tm, false) ∧
      t.saf.fails = 0 ∧ t.saf.lockouts = 0 ∧ (t.saf.log.getLast?.map fun e => e.kind) = some 3 ∧ t.saf.chan = s.saf.chan ∧
      t.axes = s.axes) ∧
  (∀ (m : Fin 16) (tm : Nat) (s : State), s.safetyReady m 2 0 = true →
    ∃ t, exec (.logout m tm) s = .next t ∧ t.gotAnswer m stOk [] ∧
      (∀ l, t.saf.login = some l → s.saf.login = some l ∧ l.1 ≠ s.mbx[m].sid) ∧ t.saf.chan = s.saf.chan ∧
      t.saf.staged = s.saf.staged ∧ t.axes = s.axes) ∧
  (∀ (m : Fin 16) (tm n : Nat) (s : State), s.safetyReady m 3 (4 + 12 * n) = true → fld s.mbx[m].payload 4 4 = n → 1 ≤ n →
    n ≤ 40 → (∀ i < n, stageStatus ((s.mbx[m].payload.drop (8 + 12 * i)).take 12) = 0) →
    ∃ t, exec (.stage m tm) s = .next t ∧ t.gotAnswer m stOk [] ∧ t.saf.chan = s.saf.chan ∧ t.axes = s.axes ∧
      t.saf.staged = some (((List.range n).map fun i => (s.mbx[m].payload.drop (8 + 12 * i)).take 12).foldl
        (fun b e => blockPut b (fld e 0 4, fld e 4 4)) (s.saf.staged.getD s.saf.chan[0].block))) ∧
  (∀ (m : Fin 16) (tm : Nat) (b : List (Nat × Nat)) (s : State), s.safetyReady m 4 0 = true → s.saf.staged = some b →
    ∃ t, exec (.validate m tm) s = .next t ∧ t.saf.staged = some b ∧ t.saf.chan = s.saf.chan ∧ t.axes = s.axes ∧
      t.gotAnswer m stOk (leBytes 4 (blockCrc 0 b) ++ leBytes 2 (blockCrc 1 b) ++ leBytes 2 0 ++
        leBytes 2 (blockChanges b s.saf.chan[0].block) ++ leBytes 2 0)) ∧
  (∀ (m : Fin 16) (tm : Nat) (b : List (Nat × Nat)) (s : State), s.safetyReady m 5 8 = true → s.saf.staged = some b →
    fld s.mbx[m].payload 4 4 = blockCrc 0 b → fld s.mbx[m].payload 8 2 = blockCrc 1 b → fld s.mbx[m].payload 10 2 = 0 →
    s.pwr.supply.getLsbD 4 = true → (∀ a : Fin 128, s.axes[a].state = .off ∨ s.axes[a].state = .sto) →
    ∃ t, exec (.activate m tm) s = .next t ∧ t.gotAnswer m stOk (leBytes 4 ((s.frame.fc + 1) % 2 ^ 32)) ∧
      t.saf.activate = true ∧ t.saf.staged = some b ∧ t.saf.chan = s.saf.chan ∧ t.axes = s.axes ∧
      (t.saf.log.getLast?.map fun e => (e.kind, e.oldCrc, e.newCrc)) = some (1, s.saf.chan[0].crc, blockCrc 0 b)) ∧
  (∀ (m : Fin 16) (tm : Nat) (b : List (Nat × Nat)) (s : State), s.safetyReady m 5 8 = true → s.saf.staged = some b →
    fld s.mbx[m].payload 10 2 = 0 →
    fld s.mbx[m].payload 4 4 ≠ blockCrc 0 b ∨ fld s.mbx[m].payload 8 2 ≠ blockCrc 1 b ∨ s.pwr.supply.getLsbD 4 = false →
    ∃ t, exec (.activate m tm) s = .next t ∧ t.gotAnswer m stIntegrity [] ∧ t.saf.activate = s.saf.activate ∧
      t.saf.staged = some b ∧ t.saf.chan = s.saf.chan ∧ t.axes = s.axes) ∧
  (∀ (m : Fin 16) (tm : Nat) (s : State), s.safetyReady m 6 0 = true →
    ∃ t, exec (.discard m tm) s = .next t ∧ t.gotAnswer m stOk [] ∧ t.saf.staged = none ∧ t.saf.activate = false ∧
      t.saf.chan = s.saf.chan ∧ t.axes = s.axes) ∧
  (∀ (m : Fin 16) (tm n : Nat) (s : State), s.safetyReady m 7 20 = true → fld s.mbx[m].payload 4 4 = n → 8 ≤ n → n ≤ 16 →
    ((s.mbx[m].payload.drop (8 + n)).all fun b => b == 0) = true →
    (((s.mbx[m].payload.drop 8).take n).all fun c => decide (0x21 ≤ c.toNat ∧ c.toNat ≤ 0x7E)) = true →
    ∃ t salt, exec (.setPassword m tm) s = .next t ∧ t.gotAnswer m stOk [] ∧
      t.saf.password = some (salt, Config.sha256 (salt ++ (s.mbx[m].payload.drop 8).take n)) ∧ t.saf.chan = s.saf.chan ∧
      (t.saf.log.getLast?.map fun e => e.kind) = some 2 ∧ t.axes = s.axes) ∧
  (∀ (m : Fin 16) (tm : Nat) (s : State), s.safetyReady m 8 4 = true → fld s.mbx[m].payload 6 2 = 0 →
    bit (s.safV 0 Pid.safResetSrc) 2 = false →
    ∃ t, exec (.safetyReset m tm) s = .next t ∧ t.gotAnswer m stState [] ∧ t.saf.chan = s.saf.chan ∧ t.axes = s.axes) ∧
  (∀ (m : Fin 16) (tm : Nat) (s : State), s.safetyReady m 8 4 = true → fld s.mbx[m].payload 6 2 = 0 →
    bit (s.safV 0 Pid.safResetSrc) 2 = true → s.pwr.state = .safe →
    exec (.safetyReset m tm) s = .next ((s.safetyBegun m tm).safDone.answer m stCause 0 [])) ∧
  (∀ (m : Fin 16) (tm : Nat) (s u : State), s.safetyReady m 8 4 = true → fld s.mbx[m].payload 6 2 = 0 →
    bit (s.safV 0 Pid.safResetSrc) 2 = true →
    (s.safetyBegun m tm).safReset (grpsOf (fld s.mbx[m].payload 4 2)) 2 s.mbx[m].owner.logPath s.mbx[m].sid = (true, u) →
    exec (.safetyReset m tm) s = .next (u.safDone.answer m stOk 0 []))

/-- R190, R200, R215, R218, R237, R238, R240: the axis calls whose effect waits for a tick put their request and answer OK. -/
def Obligations.AxisRequestsWaitForTheTick : Prop :=
  (∀ (m : Fin 16) (tm : Nat) (a : Fin 128) (s : State), s.axisReady m a 0x10 0xF001 0 = true →
    exec (.axMotSatClr m tm) s = .next (((s.adv tm).modAxis a fun x =>
      { x with eng := { x.eng with satClr := true } }).answer m stOk 0 [])) ∧
  (∀ (m : Fin 16) (tm : Nat) (a : Fin 128) (s : State), s.axisReady m a 0x16 0xF001 0 = true →
    exec (.axRptClear m tm) s = .next (((s.adv tm).modAxis a fun x =>
      { x with eng := { x.eng with rptClr := true } }).answer m stOk 0 [])) ∧
  (∀ (m : Fin 16) (tm : Nat) (a : Fin 128) (s : State), s.axisReady m a 0x1C 0xF001 8 = true →
    s.fbkLost a = false → s.axes[a].fbk.estimated = false →
    exec (.axFbkSetPos m tm) s = .next (((s.adv tm).modAxis a fun x =>
      { x with fbk := { x.fbk with setPos := some (toSigned 64 (s.arg m 0 8)) } }).answer m stOk 0 [])) ∧
  (∀ (m : Fin 16) (tm : Nat) (a : Fin 128) (s : State), s.axisReady m a 0x18 0xF002 0 = true →
    exec (.axPrfFlush m tm) s = .next (((s.adv tm).modAxis a fun x =>
      { x with prf := { x.prf with flushReq := true } }).answer m stOk 0 [])) ∧
  (∀ (m : Fin 16) (tm : Nat) (a : Fin 128) (s : State), s.axisReady m a 0x18 0xF003 0 = true →
    exec (.axPrfResume m tm) s = .next (((s.adv tm).modAxis a fun x =>
      { x with prf := { x.prf with resumeReq := true, reached := false, inWinFrom := none } }).answer m stOk 0 [])) ∧
  (∀ (m : Fin 16) (tm : Nat) (a : Fin 128) (s : State), s.axisReady m a 0x18 0xF004 0 = true →
    s.motType a.val ≠ 1 ∨ s.pN (Pid.axComSource a.val) ≠ 1 →
    exec (.axPrfPause m tm) s = .next (((s.adv tm).modAxis a fun x =>
      { x with prf := { x.prf with pauseReq := true, reached := false, inWinFrom := none } }).answer m stOk 0 [])) ∧
  (∀ (m : Fin 16) (tm : Nat) (a : Fin 128) (s : State), s.axisReady m a 0x18 0xF004 0 = true →
    s.motType a.val = 1 → s.pN (Pid.axComSource a.val) = 1 →
    exec (.axPrfPause m tm) s = .next ((s.adv tm).answer m stState 0 [])) ∧
  (∀ (m : Fin 16) (tm : Nat) (a : Fin 128) (s : State), s.axisReady m a 0x19 0xF002 0 = true →
    s.axes[a].hom.phase ≠ 0 ∨ s.axes[a].hom.startReq = true →
    exec (.axHomAbort m tm) s = .next (((s.adv tm).modAxis a fun x =>
      { x with hom := { x.hom with abortReq := true } }).answer m stOk 0 [])) ∧
  (∀ (m : Fin 16) (tm : Nat) (a : Fin 128) (s : State), s.axisReady m a 0x1A 0xF002 0 = true →
    s.axes[a].gea.stat ≠ 0 ∨ s.axes[a].gea.engReq = true →
    exec (.axGeaDisengage m tm) s = .next (((s.adv tm).modAxis a fun x =>
      { x with gea := { x.gea with disReq := true } }).answer m stOk 0 [])) ∧
  (∀ (m : Fin 16) (tm : Nat) (a : Fin 128) (s : State), s.axisReady m a 0x17 0xF002 0 = true →
    exec (.axInjStop m tm) s = .next (((s.adv tm).injAbort a 1).answer m stOk 0 [])) ∧
  (∀ (m : Fin 16) (tm : Nat) (a : Fin 128) (s : State), s.axisReady m a 0x1E 0xF001 1 = true → s.arg m 0 1 < 16 →
    ∃ t, exec (.axCmpArm m tm) s = .next t ∧ t.gotAnswer m stOk [] ∧
      (∀ u : Fin 2, t.axes[a].cmp[u].armReq = if bit (s.arg m 0 1) u.val then some true else s.axes[a].cmp[u].armReq) ∧
      (∀ n : Fin 2, t.axes[a].lat[n].armReq =
        if bit (s.arg m 0 1) (2 + n.val) then some true else s.axes[a].lat[n].armReq) ∧
      (∀ b : Fin 128, b ≠ a → t.axes[b] = s.axes[b]) ∧ t.axes[a].prf = s.axes[a].prf) ∧
  (∀ (m : Fin 16) (tm : Nat) (a : Fin 128) (s : State), s.axisReady m a 0x1E 0xF002 1 = true → s.arg m 0 1 < 16 →
    ∃ t, exec (.axCmpDisarm m tm) s = .next t ∧ t.gotAnswer m stOk [] ∧
      (∀ u : Fin 2, t.axes[a].cmp[u].armReq = if bit (s.arg m 0 1) u.val then some false else s.axes[a].cmp[u].armReq) ∧
      (∀ n : Fin 2, t.axes[a].lat[n].armReq =
        if bit (s.arg m 0 1) (2 + n.val) then some false else s.axes[a].lat[n].armReq) ∧
      (∀ b : Fin 128, b ≠ a → t.axes[b] = s.axes[b]) ∧ t.axes[a].prf = s.axes[a].prf)

/-- R158, R218, R227, R230, R241, R246: the axis calls that check the axis first: a hall learn on a READY BLDC axis waits for
its six steps; a fitting injection starts with the parameters of its point; moves are appended all together with IDs in
order; a homing or gearing that its axis permits is requested; where the state does not permit it, the answer is STATE. -/
def Obligations.AxisCallsThatCheckTheAxis : Prop :=
  (∀ (m : Fin 16) (tm : Nat) (a : Fin 128) (s : State), s.axisReady m a 0x11 0xF001 0 = true →
    s.axes[a].state = .ready → s.motType a.val = 1 → s.axes[a].com.learn = none →
    exec (.axComHallLearn m tm) s = .next (((s.adv tm).modAxis a fun x =>
      { x with com := { x.com with learn := some { n := 0, stepFrom := max s.nt tm } } }).modMbx m fun b =>
        { b with wait := .call (0x1100F001 + a.val * 0x10000) })) ∧
  (∀ (m : Fin 16) (tm : Nat) (a : Fin 128) (s : State), s.axisReady m a 0x11 0xF001 0 = true →
    s.axes[a].state ≠ .ready → exec (.axComHallLearn m tm) s = .next ((s.adv tm).answer m stState 0 [])) ∧
  (∀ (m : Fin 16) (tm : Nat) (a : Fin 128) (s : State), s.axisReady m a 0x17 0xF001 0 = true →
    s.axes[a].eng.inj ≠ .running → s.axes[a].state = .run ∨ s.axes[a].state = .hold →
    s.injBypassed a (s.pN (Pid.axInjPoint a.val)) = false → s.reducedAt a = false →
    ∃ t, exec (.axInjStart m tm) s = .next t ∧ t.gotAnswer m stOk [] ∧ t.axes[a].eng.inj = .running ∧
      t.axes[a].eng.injPoint = s.pN (Pid.axInjPoint a.val) ∧ t.axes[a].eng.injShape = s.pN (Pid.axInjShape a.val) ∧
      t.axes[a].eng.injFrames = 0 ∧ t.axes[a].eng.injTime = s.pN (Pid.axInjTime a.val) ∧
      t.axes[a].eng.prbs = 2 ^ s.pN (Pid.axInjPrbsN a.val) - 1 ∧ t.axes[a].state = s.axes[a].state ∧
      ∀ b : Fin 128, b ≠ a → t.axes[b] = s.axes[b]) ∧
  (∀ (m : Fin 16) (tm : Nat) (a : Fin 128) (s : State), s.axisReady m a 0x17 0xF001 0 = true →
    s.axes[a].eng.inj = .running → exec (.axInjStart m tm) s = .next ((s.adv tm).answer m stState 0 [])) ∧
  (∀ (m : Fin 16) (tm n : Nat) (a : Fin 128) (es : List QEntry) (s : State), s.axisReady m a 0x18 0xF001 (4 + 28 * n) = true →
    s.arg m 0 1 = n → s.arg m 1 3 = 0 → 1 ≤ n → s.axes[a].prf.queue.length + n ≤ 8 →
    (s.adv tm).parseQueue a n s.axes[a].prf.nextId ((callArgs s.mbx[m].payload).drop 4) = some es →
    (s.adv tm).appendCheck a es = stOk →
    exec (.axPrfAppend m tm) s = .next (((s.adv tm).modAxis a fun x => { x with prf := { x.prf with
      queue := x.prf.queue ++ es, nextId := (x.prf.nextId + n) % 65536, reached := false, inWinFrom := none } }).answer m
      stOk 0 (leBytes 2 s.axes[a].prf.nextId ++ leBytes 1 (8 - (s.axes[a].prf.queue.length + n))))) ∧
  (∀ (m : Fin 16) (tm n : Nat) (a : Fin 128) (es : List QEntry) (s : State), s.axisReady m a 0x18 0xF001 (4 + 28 * n) = true →
    s.arg m 0 1 = n → s.arg m 1 3 = 0 → 1 ≤ n → n ≤ 8 → 8 < s.axes[a].prf.queue.length + n →
    (s.adv tm).parseQueue a n s.axes[a].prf.nextId ((callArgs s.mbx[m].payload).drop 4) = some es →
    (s.adv tm).appendCheck a es = stOk →
    exec (.axPrfAppend m tm) s = .next ((s.adv tm).answer m stFull 0 [])) ∧
  (∀ (m : Fin 16) (tm : Nat) (a : Fin 128) (s : State), s.axisReady m a 0x19 0xF001 0 = true → s.axes[a].prf.mode = 4 →
    s.axes[a].prf.queue = [] → s.axes[a].state = .hold →
    s.pN (Pid.axHomSwSrc a.val) = 0 ∨ s.pN (Pid.fioBMode ((s.pN (Pid.axHomSwSrc a.val) - 1) / 8)) = 0 →
    s.axes[a].hom.phase = 0 → s.axes[a].gea.stat = 0 →
    s.pN (Pid.axFbkSource a.val) ≠ 0 ∨ s.pN (Pid.axHomMethod a.val) = 0 →
    exec (.axHomStart m tm) s = .next (((s.adv tm).modAxis a fun x =>
      { x with hom := { x.hom with startReq := true } }).answer m stOk 0 [])) ∧
  (∀ (m : Fin 16) (tm : Nat) (a : Fin 128) (s : State), s.axisReady m a 0x19 0xF001 0 = true →
    s.axes[a].prf.mode ≠ 4 ∨ s.axes[a].state ≠ .hold ∨ s.axes[a].prf.queue ≠ [] →
    exec (.axHomStart m tm) s = .next ((s.adv tm).answer m stState 0 [])) ∧
  (∀ (m : Fin 16) (tm : Nat) (a : Fin 128) (s : State), s.axisReady m a 0x1A 0xF001 0 = true →
    (s.gearChain a 6 a).2 = false → (s.gearChain a 6 a).1 + s.gearBelow 5 a ≤ 4 → s.axes[a].prf.mode = 4 → s.axes[a].prf.queue = [] →
    s.axes[a].state = .hold → s.axes[a].hom.phase = 0 → s.axes[a].hom.startReq = false → s.axes[a].gea.stat = 0 →
    s.pN (Pid.axFbkSource a.val) ≠ 0 →
    exec (.axGeaEngage m tm) s = .next (((s.adv tm).modAxis a fun x =>
      { x with gea := { x.gea with engReq := true } }).answer m stOk 0 [])) ∧
  (∀ (m : Fin 16) (tm : Nat) (a : Fin 128) (s : State), s.axisReady m a 0x1A 0xF001 0 = true →
    (s.gearChain a 6 a).2 = true ∨ 4 < (s.gearChain a 6 a).1 + s.gearBelow 5 a →
    exec (.axGeaEngage m tm) s = .next ((s.adv tm).answer m stRange 0 []))

/-- R282, R292, R337, R339: a tracking call or a capture call that its unit takes waits for its commit, unanswered, and
stands last in its queue; TRK.READ answers the record of the context at once. -/
def Obligations.CallsThatWaitForTheirCommit : Prop :=
  (∀ (m : Fin 16) (tm : Nat) (s : State), s.callReady m 0x4000F001 20 = true → s.trkOn = true → s.arg m 1 3 = 0 →
    s.zoneUsed (s.arg m 0 1) = true →
    exec (.trkCreate m tm) s = .next (((s.adv tm).modTrk fun k => { k with calls := k.calls ++
      [(m.val, .create (s.arg m 0 1) (s.arg m 4 4) (toSigned 32 (s.arg m 8 4)) (s.arg m 12 4) (s.arg m 16 4))] }).modMbx m
      fun b => { b with wait := .call 0x4000F001 })) ∧
  (∀ (m : Fin 16) (tm : Nat) (s : State), s.callReady m 0x4000F002 2 = true → s.trkOn = true →
    exec (.trkDelete m tm) s = .next (((s.adv tm).modTrk fun k => { k with calls := k.calls ++
      [(m.val, .delete (s.arg m 0 1) (s.arg m 1 1))] }).modMbx m fun b => { b with wait := .call 0x4000F002 })) ∧
  (∀ (m : Fin 16) (tm : Nat) (s : State), s.callReady m 0x4000F003 16 = true → s.trkOn = true → s.arg m 2 1 < 8 →
    s.arg m 3 1 = 0 →
    exec (.trkModify m tm) s = .next (((s.adv tm).modTrk fun k => { k with calls := k.calls ++
      [(m.val, .modify (s.arg m 0 1) (s.arg m 1 1) (s.arg m 2 1) (s.arg m 4 4) (s.arg m 8 4) (s.arg m 12 4))] }).modMbx m
      fun b => { b with wait := .call 0x4000F003 })) ∧
  (∀ (m : Fin 16) (tm : Nat) (e : CmpEv) (s : State), s.callReady m 0x4000F004 12 = true → s.trkOn = true →
    s.arg m 2 1 < 4 → s.arg m 3 1 = 0 → s.parseEv ((callArgs s.mbx[m].payload).drop 4) = some e →
    exec (.trkSetEv m tm) s = .next (((s.adv tm).modTrk fun k => { k with calls := k.calls ++
      [(m.val, .setEv (s.arg m 0 1) (s.arg m 1 1) (s.arg m 2 1) e)] }).modMbx m
      fun b => { b with wait := .call 0x4000F004 })) ∧
  (∀ (m : Fin 16) (tm : Nat) (s : State), s.callReady m 0x4000F006 0 = true → s.trkOn = true →
    exec (.trkFlush m tm) s = .next (((s.adv tm).modTrk fun k => { k with calls := k.calls ++ [(m.val, .flush)] }).modMbx m
      fun b => { b with wait := .call 0x4000F006 })) ∧
  (∀ (m : Fin 16) (tm : Nat) (s : State), s.callReady m 0x4000F006 0 = true → s.trkOn = false →
    exec (.trkFlush m tm) s = .next ((s.adv tm).answer m stState 0 [])) ∧
  (∀ (m : Fin 16) (tm : Nat) (s : State), s.callReady m 0x4000F005 4 = true → s.arg m 1 3 = 0 →
    exec (.trkRead m tm) s = .next ((s.adv tm).answer m stOk 0 (s.trk.ctx[ctxNo (s.arg m 0 1)]).record)) ∧
  (∀ (m : Fin 16) (tm : Nat) (s : State), s.callReady m 0x5000F001 0 = true → s.domainOn 13 = true →
    exec (.capArm m tm) s = .next (((s.adv tm).modCap fun c => { c with calls := c.calls ++ [(1, m.val)] }).modMbx m
      fun b => { b with wait := .call 0x5000F001 })) ∧
  (∀ (m : Fin 16) (tm : Nat) (s : State), s.callReady m 0x5000F002 0 = true → s.domainOn 13 = true →
    exec (.capForce m tm) s = .next (((s.adv tm).modCap fun c => { c with calls := c.calls ++ [(2, m.val)] }).modMbx m
      fun b => { b with wait := .call 0x5000F002 })) ∧
  (∀ (m : Fin 16) (tm : Nat) (s : State), s.callReady m 0x5000F003 0 = true → s.domainOn 13 = true →
    exec (.capStop m tm) s = .next (((s.adv tm).modCap fun c => { c with calls := c.calls ++ [(3, m.val)] }).modMbx m
      fun b => { b with wait := .call 0x5000F003 }))

/-- R129, R315, R320, R322, R366, R387, R399, R445: trips are cleared at the next tick, all named or none; a field output
write waits for its frame, a rearm for the next instant, and a diagnosis for its tests; PTP.SET_TIME steps the time base as
MASTER only (an axis's running intervals move with it: the model's choice, log 170); TWIN.SWITCH resigns, TWIN.REJOIN goes to SYNCING and TWIN.TAKE to ACTIVE; FLOG.CLEAR ends what it names. -/
def Obligations.DeviceCallsAct : Prop :=
  (∀ (m : Fin 16) (tm : Nat) (s : State), s.callReady m 0x2100F001 20 = true → s.arg m 1 3 = 0 →
    ((s.adv tm).clearNamed (callArgs s.mbx[m].payload)).1.any (s.adv tm).pinHeld = false →
    ((s.adv tm).clearNamed (callArgs s.mbx[m].payload)).2.any (s.adv tm).stageHeld = false →
    ∃ t, exec (.trpClear m tm) s = .next t ∧ t.gotAnswer m stOk [] ∧ t.pwr = s.pwr ∧
      (∀ p : Fin 8, p ∈ ((s.adv tm).clearNamed (callArgs s.mbx[m].payload)).1 → t.pins[p].clearReq = true) ∧
      (∀ a : Fin 128, a ∈ ((s.adv tm).clearNamed (callArgs s.mbx[m].payload)).2 → t.axes[a].pwm.clearReq = true) ∧
      (∀ p : Fin 8, t.pins[p].latched = s.pins[p].latched) ∧ ∀ a : Fin 128, t.axes[a].pwm.trip = s.axes[a].pwm.trip) ∧
  (∀ (m : Fin 16) (tm : Nat) (p : Fin 8) (s : State), s.callReady m 0x2100F001 20 = true → s.arg m 1 3 = 0 →
    p ∈ ((s.adv tm).clearNamed (callArgs s.mbx[m].payload)).1 → (s.adv tm).pinHeld p = true →
    ∃ t, exec (.trpClear m tm) s = .next t ∧ t.gotAnswer m stCause [] ∧ t.pins[p].refused = true ∧
      (∀ q : Fin 8, t.pins[q].clearReq = s.pins[q].clearReq) ∧
      ∀ a : Fin 128, t.axes[a].pwm.clearReq = s.axes[a].pwm.clearReq) ∧
  (∀ (m : Fin 16) (tm : Nat) (s : State), s.callReady m 0x6000F001 4 = true →
    BitVec.ofNat 16 (s.arg m 2 2) &&& s.fio.mask = 0 →
    exec (.fioOutWrite m tm) s = .next (((s.adv tm).modFio fun f =>
      { f with writes := f.writes ++ [(s.arg m 2 2, s.arg m 0 2)] }).answer m stOk 0 [])) ∧
  (∀ (m : Fin 16) (tm : Nat) (s : State), s.callReady m 0x6000F001 4 = true →
    BitVec.ofNat 16 (s.arg m 2 2) &&& s.fio.mask ≠ 0 →
    exec (.fioOutWrite m tm) s = .next ((s.adv tm).answer m stState 0 [])) ∧
  (∀ (m : Fin 16) (tm : Nat) (s : State), s.callReady m 0x6000F002 0 = true → s.fio.rearmReady = true →
    s.fio.cfLost = false →
    exec (.fioOutRearm m tm) s = .next (((s.adv tm).modFio fun f =>
      { f with restoreAt := some ((s.adv tm).nextAct, false) }).answer m stOk 0 [])) ∧
  (∀ (m : Fin 16) (tm : Nat) (s : State), s.callReady m 0x6000F003 4 = true → s.fio.diag = none →
    BitVec.ofNat 16 (s.arg m 0 2) ≠ 0 → s.arg m 2 2 = 0 → s.fio.uvWarn = false → s.fio.uvOff = false →
    s.fio.common = true → s.fio.cfLost = false →
    ∃ t d, exec (.fioDiag m tm) s = .next t ∧ t.fio.diag = some d ∧ d.allow = BitVec.ofNat 16 (s.arg m 0 2) ∧
      d.cand = d.allow ∧ d.held = s.fio.cmd ∧ t.mbx[m].hidden = none ∧ t.mbx[m].wait = .call 0x6000F003 ∧ t.axes = s.axes) ∧
  (∀ (m : Fin 16) (tm : Nat) (s : State), s.callReady m 0x3100F001 8 = true → s.stepAllowed = true →
    (s.net.units[fin 2 (by decide) s.net.driver]).state = .master →
    ∃ t, exec (.ptpSetTime m tm) s = .next t ∧ t.gotAnswer m stOk [] ∧ t.nt = s.arg m 0 8 ∧
      t.axes = s.axes.map (Axis.shift ((s.arg m 0 8 : Int) - (max s.nt tm : Nat)))) ∧
  (∀ (m : Fin 16) (tm : Nat) (s : State), s.callReady m 0x3100F001 8 = true →
    (s.net.units[fin 2 (by decide) s.net.driver]).state ≠ .master ∨ s.stepAllowed = false →
    exec (.ptpSetTime m tm) s = .next ((s.adv tm).answer m stState 0 [])) ∧
  (∀ (m : Fin 16) (tm : Nat) (s : State), s.callReady m 0xB000F001 0 = true → s.twin.state = .active →
    s.twin.partner = TwinState.standby.code → 32 ≤ s.twin.retRun →
    exec (.twinSwitch m tm) s = .next (((s.adv tm).modTwin fun k => { k with resign := true }).answer m stOk 0 [])) ∧
  (∀ (m : Fin 16) (tm : Nat) (s : State), s.callReady m 0xB000F002 0 = true → s.twin.state = .isolated →
    ∃ t, exec (.twinRejoin m tm) s = .next t ∧ t.twin.state = .syncing ∧ t.gotAnswer m stOk []) ∧
  (∀ (m : Fin 16) (tm : Nat) (s : State), s.callReady m 0xB000F003 0 = true → s.twin.state = .syncing →
    ∃ t, exec (.twinTake m tm) s = .next t ∧ t.twin.state = .active ∧ t.gotAnswer m stOk []) ∧
  (∀ (m : Fin 16) (tm : Nat) (s : State), s.callReady m 0xF000F001 4 = true → s.arg m 3 1 = 0 → s.arg m 0 2 = 0xFFFF →
    s.arg m 2 1 = 0xFF → (∀ x ∈ s.flt.inForce, x.code / 256 ≠ 0x70 ∧ x.clearing = false ∧ (s.adv tm).causeOn x.code x.inst = false) →
    exec (.flogClear m tm) s = .next ((((((s.adv tm).modFlt fun f =>
      { f with inForce := f.inForce.map fun x => { x with clearing := true, copied := false } }).clearLatches
        0xFFFF 0xFF).varItem 10 [0xFFFF, 0xFF])).answer m stOk 0
        (leBytes 2 s.flt.inForce.length ++ leBytes 2 0))) ∧
  (∀ (m : Fin 16) (tm : Nat) (x : InForce) (s : State), s.callReady m 0xF000F001 4 = true → s.arg m 3 1 = 0 →
    s.arg m 0 2 = x.code → s.arg m 2 1 = x.inst → x.code ≠ 0xFFFF → x.inst ≠ 0xFF → x ∈ s.flt.inForce →
    x.clearing = false → x.code / 256 = 0x70 →
    exec (.flogClear m tm) s = .next ((s.adv tm).answer m stState 0 [])) ∧
  (∀ (m : Fin 16) (tm code inst : Nat) (s : State), s.callReady m 0xF000F001 4 = true → s.arg m 3 1 = 0 →
    s.arg m 0 2 = code → s.arg m 2 1 = inst → code ≠ 0xFFFF → inst ≠ 0xFF → code / 256 ≠ 0x70 →
    (s.adv tm).clearOn code inst = [] →
    exec (.flogClear m tm) s = .next ((((s.adv tm).clearFaults code inst false).varItem 10 [code, inst]).answer m stOk 0
      (leBytes 2 ((s.flt.inForce.filter fun x => clearHit code inst x.code x.inst && !x.clearing).length) ++ leBytes 2 0)))

/-- R459, R461, R463, R471: PWR.OPERATE goes from CONFIG to OPERATE and PWR.CONFIG back when every axis is OFF; PWR.RESET
asks for the reset; PWR.SLEEP and PWR.WAKE put their clusters for the next tick. -/
def Obligations.PowerCallsAct : Prop :=
  (∀ (m : Fin 16) (tm : Nat) (s : State), s.callReady m 0x0800F001 0 = true → s.pwr.state = .config →
    ∃ t, exec (.pwrOperate m tm) s = .next t ∧ t.pwr = { s.pwr with state := .operate } ∧ t.gotAnswer m stOk [] ∧
      t.host.irqStatus.getLsbD 20 = true ∧ t.axes = s.axes) ∧
  (∀ (m : Fin 16) (tm : Nat) (s : State), s.callReady m 0x0800F001 0 = true →
    s.pwr.state = .safe →
    exec (.pwrOperate m tm) s = .next ((s.adv tm).answer m stState 0 [])) ∧
  (∀ (m : Fin 16) (tm : Nat) (s : State), s.callReady m 0x0800F002 0 = true → s.pwr.state = .operate → s.allOff = true →
    ∃ t, exec (.pwrConfig m tm) s = .next t ∧ t.pwr = { s.pwr with state := .config } ∧ t.gotAnswer m stOk [] ∧
      t.host.irqStatus.getLsbD 20 = true ∧ t.axes = s.axes) ∧
  (∀ (m : Fin 16) (tm : Nat) (s : State), s.callReady m 0x0800F002 0 = true → s.allOff = false →
    exec (.pwrConfig m tm) s = .next ((s.adv tm).answer m stState 0 [])) ∧
  (∀ (m : Fin 16) (tm : Nat) (s : State), s.callReady m 0x0800F003 0 = true →
    exec (.pwrReset m tm) s = .next (((s.adv tm).modPwr fun p =>
      { p with callReset := some (max s.nt tm) }).answer m stOk 0 [])) ∧
  (∀ (m : Fin 16) (tm : Nat) (s : State), s.callReady m 0x0800F004 2 = true → s.arg m 1 1 = 0 → s.pwr.wakeAt = none →
    s.pwr.wakeReq = 0 → (∀ c : Fin 8, bit (s.arg m 0 1) c.val = true → s.asleep c = true ∨ s.canSleep c = true) →
    ∃ t, exec (.pwrSleep m tm) s = .next t ∧ t.gotAnswer m stOk [] ∧ t.axes = s.axes ∧
      t.pwr = { s.pwr with sleepAt := some (s.arg m 0 1, false, false) }) ∧
  (∀ (m : Fin 16) (tm : Nat) (c : Fin 8) (s : State), s.callReady m 0x0800F004 2 = true → s.arg m 1 1 = 0 →
    bit (s.arg m 0 1) c.val = true → s.asleep c = false → s.canSleep c = false →
    exec (.pwrSleep m tm) s = .next ((s.adv tm).answer m stState 0 [])) ∧
  (∀ (m : Fin 16) (tm : Nat) (s : State), s.callReady m 0x0800F005 1 = true →
    ∃ t, exec (.pwrWake m tm) s = .next t ∧ t.gotAnswer m stOk [] ∧ t.axes = s.axes ∧
      t.pwr = { s.pwr with wakeAt := some (s.pwr.wakeAt.getD 0 ||| s.arg m 0 1) })

/-- R480, R481, R485, R486, R492, R495, R510 to R513: the calls of the security classes and of the ageing unit. -/
def Obligations.SecurityAndAgeingCallsAct : Prop :=
  (∀ (m : Fin 16) (tm : Nat) (s : State), s.callReady m 0x8000F001 4 = true → s.arg m 0 4 = 0 → s.sec.closedOk = true →
    exec (.secFwActivate m tm) s = .next (((s.adv tm).modSec fun k => { k with
      next := some k.other.val, tried := false, dirSeq := k.dirSeq + 1, liveNext := false }).answer m stOk 0 [])) ∧
  (∀ (m : Fin 16) (tm : Nat) (s : State), s.callReady m 0x8000F002 4 = true → s.arg m 0 4 = 1 → s.trial = true →
    exec (.secFwCommit m tm) s = .next (((s.adv tm).modSec fun k => { k with
      cur := k.running, next := none, tried := false, dirSeq := k.dirSeq + 1, closedOk := false,
      svnMin := max k.svnMin (k.slots[fin 2 (by decide) k.running]).svn }).answer m stOk 0 [])) ∧
  (∀ (m : Fin 16) (tm : Nat) (s : State), s.callReady m 0x8000F002 4 = true → s.arg m 0 4 = 0 → s.trial = false →
    exec (.secFwCommit m tm) s = .next ((s.adv tm).answer m stState 0 [])) ∧
  (∀ (m : Fin 16) (tm : Nat) (s : State), s.callReady m 0x8000F003 36 = true → s.arg m 0 1 ≤ 3 → s.arg m 1 3 = 0 →
    ∃ t, exec (.secLinekeySet m tm) s = .next t ∧ t.gotAnswer m stOk [] ∧ t.axes = s.axes ∧ t.sec = { s.sec with
      keyChange := s.sec.keyChange ++ [(s.arg m 0 1, some ((callArgs s.mbx[m].payload).drop 4))] }) ∧
  (∀ (m : Fin 16) (tm : Nat) (s : State), s.callReady m 0x8000F004 4 = true → s.arg m 0 1 ≤ 3 → s.arg m 1 3 = 0 →
    ∃ t, exec (.secLinekeyClear m tm) s = .next t ∧ t.gotAnswer m stOk [] ∧ t.axes = s.axes ∧ t.sec = { s.sec with
      keyChange := s.sec.keyChange ++ [(s.arg m 0 1, none)] }) ∧
  (∀ (m : Fin 16) (tm : Nat) (i : Fin 8) (s : State), s.callReady m 0x8000F005 68 = true → s.arg m 0 1 = i.val →
    s.arg m 1 1 = 0 → s.arg m 2 2 ≤ 31 → (((callArgs s.mbx[m].payload).drop 4).all fun b => b == 0) = false →
    ∃ t, exec (.secOperSet m tm) s = .next t ∧ t.gotAnswer m stOk [] ∧ t.axes = s.axes ∧
      t.sec.operators = s.sec.operators.set i ⟨s.arg m 2 2, (callArgs s.mbx[m].payload).drop 4⟩ ∧
      t.sec.sessions = s.sec.sessions) ∧
  (∀ (m : Fin 16) (tm : Nat) (s : State), s.callReady m 0x8000F006 0 = true → s.allOff = true →
    exec (.secDebugUnlock m tm) s = .next (((s.adv tm).modSec fun k => { k with jtagOpen := true }).raise 0x8006 0 []
      |>.answer m stOk 0 [])) ∧
  (∀ (m : Fin 16) (tm : Nat) (s : State), s.callReady m 0x8000F007 0 = true → s.allOff = true →
    ∃ t, exec (.secRelease m tm) s = .next t ∧ t.gotAnswer m stOk [] ∧ t.sec.owned = false ∧ t.sec.ownerKey = [] ∧
      t.sec.bundleLast = 0 ∧ t.sec.jtagOpen = true ∧ t.sec.endAll = true ∧ t.saf.password = none ∧ t.saf.flash = none ∧
      t.par.flash = none ∧ t.par.store = s.par.store ∧
      (∀ ch : Fin 2, t.saf.chan[ch].block = [] ∧ ∀ g : Fin 16, (t.saf.chan[ch].groups[g]).state = .sto) ∧
      (∀ i : Fin 4, t.sec.lineKeys[i] = none) ∧ (s.ib = false → t.axes = s.axes) ∧
      (s.ib = true → ∀ a : Fin 128, t.axes[a].state = .sto)) ∧
  (∀ (m : Fin 16) (tm : Nat) (s : State), s.callReady m 0x8000F008 64 = true → s.allOff = true →
    exec (.secTransfer m tm) s = .next (((s.adv tm).modSec fun k => { k with
      ownerKey := callArgs s.mbx[m].payload, ownerEpoch := k.ownerEpoch + 1, operators := Vector.replicate 8 {},
      endAll := true }).answer m stOk 0 [])) ∧
  (∀ (m : Fin 16) (tm : Nat) (c : Fin 8) (s : State), s.callReady m 0x0A00F001 4 = true → s.arg m 0 4 = c.val →
    (∀ k : Fin 8, s.age.clt[k] = none) → (clusterAxes c).all s.axOff = true →
    exec (.ageClusterTest m tm) s = .next (((s.adv tm).modAge fun k =>
      { k with clt := k.clt.set c (some ⟨max s.nt tm, m.val⟩) }).modMbx m fun b => { b with wait := .call 0x0A00F001 })) ∧
  (∀ (m : Fin 16) (tm : Nat) (c : Fin 8) (s : State), s.callReady m 0x0A00F001 4 = true → s.arg m 0 4 = c.val →
    (∀ k : Fin 8, s.age.clt[k] = none) → (clusterAxes c).all s.axOff = false →
    exec (.ageClusterTest m tm) s = .next ((s.adv tm).answer m stState 0 [])) ∧
  (∀ (m : Fin 16) (tm mode : Nat) (port : Fin 4) (s : State), s.callReady m 0x0A00F002 4 = true →
    s.arg m 0 4 = port.val + 256 * mode → 1 ≤ mode → mode ≤ 2 →
    s.age.loop = none → (s.net.ports[fin 4 (by decide) (2 * (1 - netOf port.val))]).link = true →
    (s.net.ports[fin 4 (by decide) (2 * (1 - netOf port.val) + 1)]).link = true →
    (s.net.units[fin 2 (by decide) (1 - netOf port.val)]).state = .locked ∨
      (s.net.units[fin 2 (by decide) (1 - netOf port.val)]).state = .locking ∨
      (s.net.units[fin 2 (by decide) (1 - netOf port.val)]).state = .master →
    s.net.driver ≠ netOf port.val ∨ s.pN Pid.ptpSource = 2 →
    ∃ t, exec (.agePortLoop m tm) s = .next t ∧ (t.net.ports[port]).looped = true ∧ t.mbx[m].wait = .call 0x0A00F002 ∧
      t.mbx[m].hidden = none ∧ t.age.loop = some ⟨port.val, mode, max s.nt tm, m.val⟩ ∧ t.axes = s.axes) ∧
  (∀ (m : Fin 16) (tm : Nat) (a : Fin 128) (s : State), s.callReady m 0x0A00F003 4 = true → s.arg m 0 4 = a.val →
    ∃ t, exec (.ageAxisReset m tm) s = .next t ∧ t.gotAnswer m stOk [] ∧ t.axes = s.axes ∧ t.age.axes[a].k = 1 ∧
      t.age.axes[a].keN = 0 ∧ t.age.axes[a].fricN = 0 ∧ ∀ b : Fin 128, b ≠ a → t.age.axes[b] = s.age.axes[b]) ∧
  (∀ (m : Fin 16) (tm : Nat) (s : State), s.callReady m 0x0A00F004 0 = true →
    exec (.ageFwRestart m tm) s = .next (((s.adv tm).modAge fun k =>
      { k with restartReq := some (max s.nt tm) }).answer m stOk 0 [])) ∧
  (∀ (m : Fin 16) (tm : Nat) (s : State), s.callReady m 0x8000F001 4 = true → s.arg m 0 4 = 1 → s.sec.closedOk = true →
    ∃ t, exec (.secFwActivate m tm) s = .next t ∧
      (Config.liveOk (s.sec.slots[fin 2 (by decide) s.sec.running]).image (s.sec.slots[s.sec.other]).image = true →
        t = (((s.adv tm).modSec fun k => { k with
          next := some k.other.val, tried := false, dirSeq := k.dirSeq + 1, liveNext := true }).modAge fun k =>
            { k with restartReq := some (max s.nt tm) }).answer m stOk 0 []) ∧
      (Config.liveOk (s.sec.slots[fin 2 (by decide) s.sec.running]).image (s.sec.slots[s.sec.other]).image = false →
        t = (s.adv tm).answer m stState 0 [])) ∧
  (∀ (m : Fin 16) (tm : Nat) (s : State), s.callReady m 0x8000F002 4 = true → s.arg m 0 4 = 0 → s.trial = true →
    exec (.secFwCommit m tm) s = .next (((s.adv tm).modSec fun k => { k with
      cur := k.running, next := none, tried := false, dirSeq := k.dirSeq + 1, closedOk := false }).answer m stOk 0 [])) ∧
  (∀ (m : Fin 16) (tm : Nat) (i : Fin 8) (s : State), s.callReady m 0x8000F005 68 = true → s.arg m 0 1 = i.val →
    s.arg m 1 1 = 0 → s.arg m 2 2 ≤ 31 → (((callArgs s.mbx[m].payload).drop 4).all fun b => b == 0) = true →
    ∃ t, exec (.secOperSet m tm) s = .next t ∧ t.gotAnswer m stOk [] ∧ t.axes = s.axes ∧
      t.sec.operators = s.sec.operators.set i {})

/-! Frames, engines, the trajectory unit and the axes (R21 to R38, R201, R225). -/

/-- R21, R24, R25, R28: a tick comes at the first whole multiple of Tf that has not passed, sets FC to the quotient, and takes a
committed frame period only at a whole multiple of 100 us; then the groups that were ready 3.0 us before it are committed
whole and in order within 4,096 bytes, and the tick has its effects. -/
def Obligations.FrameTickBeginsAndCommits : Prop :=
  (∀ s : State, s.frame.ticking = true → s.domainOn 8 = true →
    ∃ (b u : State) (es : List (Nat × PVal)), exec .frameTick s = .next (u.tickEffects (es.map fun e => e.1)) ∧
      b = s.beginTick.drainPorts ∧ b.commitTick b.mayCommit = (u, es)) ∧
  (∀ s : State, s.frame.ticking = false ∨ s.domainOn 8 = false → exec .frameTick s = .next s) ∧
  (∀ (c v s : State) (bad : List Group) (ok : Group → Bool), c = s.capInputs → bad = c.par.ready.filter c.reserves →
    v = c.each bad State.groupRefused →
    (s.commitTick ok).2 = (pickGroups v.frame.tick ok 4096 (v.par.ready.filter fun g => !bad.contains g)).1.flatMap
      fun g => g.entries) ∧
  (∀ s : State, s.beginTick.frame.tick % s.tf = 0 ∧ s.frame.tick < s.beginTick.frame.tick ∧
    s.nt ≤ s.beginTick.frame.tick ∧ s.beginTick.nt = s.beginTick.frame.tick ∧
    s.beginTick.fc = s.beginTick.frame.tick / s.beginTick.tf % 2 ^ 32 ∧ s.beginTick.frame.finished = 0 ∧
    s.beginTick = { s with nt := s.beginTick.nt, frame := s.beginTick.frame }) ∧
  (∀ (c : Nat) (s : State), s.frame.tfNext = some c → s.beginTick.frame.tick % 100000 = 0 →
    s.beginTick.frame.tf = c ∧ s.beginTick.frame.tfNext = none) ∧
  (∀ (c : Nat) (s : State), s.frame.tfNext = some c → s.beginTick.frame.tick % 100000 ≠ 0 →
    s.beginTick.frame.tf = s.frame.tf ∧ s.beginTick.frame.tfNext = some c) ∧
  (∀ (tick room : Nat) (ok : Group → Bool) (gs : List Group),
    (pickGroups tick ok room gs).1 ++ (pickGroups tick ok room gs).2.1 = gs ∧
    (∀ g ∈ (pickGroups tick ok room gs).1, g.readyAt + 3000 < tick ∧ ok g = true) ∧
    ((pickGroups tick ok room gs).1.map fun g => groupSize g.entries).sum ≤ room)

/-- R26, R36, R37, R38, R201, R225, R510: an engine that finishes within 8 us marks its frame and its maximum; the trajectory
unit makes each axis's set-points once in a frame; a finished cluster's schedules leave from tick + 6.0 us, once, and a
cluster whose gates are held sends repeats that keep them off; an engine not finished by tick + 9.5 us is counted and
raises 0x0201, and in reduced mode 0x0204 with its gates off; the third in a row puts it in reduced mode with 0x0202. -/
def Obligations.EnginesSchedulesAndOverruns : Prop :=
  (∀ (c : Fin 8) (ns : Nat) (s : State), s.axOn c = true → s.frame.ticking = true → ns ≤ 8000 →
    s.frame.overran.getLsbD c.val = false → s.frame.finished.getLsbD c.val = false → s.nt ≤ s.frame.tick + 9500 →
    ∃ u w : State, exec (.engineRun c ns) s = .next (if w.frame.traj.getLsbD c.val then w.trajCluster c else w) ∧
      u = s.adv (s.frame.tick + 1500) ∧ w = (State.sendAxisWords
      (State.modFrame (State.each (State.each (State.each (State.each u
        (((clusterAxes c).filter fun a => decide (u.motType a.val ≠ 0)).map fun a => (a, u.dueRecs a))
          fun t x => t.axisFront x.1 x.2)
        (((clusterAxes c).filter fun a => decide (u.motType a.val ≠ 0)).map fun a => (a, u.dueRecs a))
          fun t x => t.axisBack x.1 x.2)
        (((clusterAxes c).filter fun a => decide (u.motType a.val ≠ 0)).map fun a => (a, u.dueRecs a))
          fun t x => t.unitsRun x.1) (clusterAxes c) State.bridgeTime)
        fun f => { f with finished := f.finished ||| (1#8 <<< c.val),
                          engMax := f.engMax.set c (max f.engMax[c] ns), consec := f.consec.set c 0,
                          doneAt := f.doneAt.set c (f.tick + 1500 + ns) }) c)) ∧
  (∀ (c : Fin 8) (s : State), s.axOn c = true → s.frame.ticking = true → s.frame.overran.getLsbD c.val = false →
    s.frame.finished.getLsbD c.val = true →
    exec (.trajectoryRun c) s = .next (State.each s ((clusterAxes c).filter fun a => decide (s.motType a.val ≠ 0))
      fun t a => t.trajAxis a)) ∧
  (∀ (c : Fin 8) (s : State), s.axOn c = true → s.frame.ticking = true → s.frame.overran.getLsbD c.val = false →
    s.frame.finished.getLsbD c.val = false →
    exec (.trajectoryRun c) s = .next (s.modFrame fun f => { f with traj := f.traj ||| (1#8 <<< c.val) })) ∧
  (∀ (a : Fin 128) (s : State), s.axes[a].prf.spTick = some s.frame.tick → s.trajAxis a = s) ∧
  (∀ (c : Fin 8) (s : State), s.axOn c = true → s.frame.ticking = true → s.frame.finished.getLsbD c.val = true →
    s.gatesHeld c = false → s.frame.sent.getLsbD c.val = false → s.nt ≤ s.frame.tick + 13000 →
    exec (.scheduleFrameSend c) s = .next (State.modFrame (State.each
      (s.adv (max (s.frame.tick + 6000) s.frame.doneAt[c])).needEpoch (clusterLinks c)
      fun t l => t.sendSchedule l) fun f => { f with sent := f.sent ||| (1#8 <<< c.val) })) ∧
  (∀ (c : Fin 8) (s : State), s.axOn c = true → s.frame.ticking = true → s.gatesHeld c = true →
    s.frame.sent.getLsbD c.val = false → s.nt ≤ s.frame.tick + 13000 →
    exec (.scheduleFrameSend c) s = .next (State.modFrame (State.each (s.adv (s.sendInstant c)).needEpoch (clusterLinks c)
      fun t l => t.sendRepeat l true) fun f => { f with sent := f.sent ||| (1#8 <<< c.val) })) ∧
  (∀ (c : Fin 8) (s : State), s.axOn c = true → s.frame.ticking = true → s.frame.finished.getLsbD c.val = false →
    s.frame.overran.getLsbD c.val = false → s.age.clt[c] = none → s.frame.reduced.getLsbD c.val = false →
    ∃ u : State, exec (.frameOverrun c) s = .next (u.raise 0x0201 c.val (clusterAxes c)) ∧
      u.frame.overran.getLsbD c.val = true ∧ u.frame.ovr[c] = count32 s.frame.ovr[c] ∧
      u.frame.consec[c] = s.frame.consec[c] + 1 ∧ u.frame.gatesOff = s.frame.gatesOff ∧ u.flt = s.flt ∧ u.par = s.par) ∧
  (∀ (c : Fin 8) (s : State), s.axOn c = true → s.frame.ticking = true → s.frame.finished.getLsbD c.val = false →
    s.frame.overran.getLsbD c.val = false → s.age.clt[c] = none → s.frame.reduced.getLsbD c.val = true →
    ∃ u : State, exec (.frameOverrun c) s =
        .next ((u.raise 0x0201 c.val (clusterAxes c)).raise 0x0204 c.val (clusterAxes c)) ∧
      u.frame.overran.getLsbD c.val = true ∧ u.frame.ovr[c] = count32 s.frame.ovr[c] ∧
      u.frame.gatesOff.getLsbD c.val = true ∧ u.flt = s.flt ∧ u.par = s.par) ∧
  (∀ (c : Fin 8) (s : State), s.frame.overran.getLsbD c.val = true → 3 ≤ s.frame.consec[c] →
    s.frame.reduced.getLsbD c.val = false →
    exec (.clusterOverrun c) s = .next ((s.modFrame fun f =>
      { f with reduced := f.reduced ||| (1#8 <<< c.val) }).raise 0x0202 c.val (clusterAxes c)))

/-- R146, R147, R150, R151: the parts of a sensorless start: listening with no crossings starts from rest, braking counts its
time and listens again, too much braking raises 0x1032, an IPD with a clear maximum starts the ramp and without one aligns,
alignment ends in the ramp, enough crossings end it in closed loop with event 0x1102, a failed try pauses 50 ms, and
after the third the fault is 0x1031. -/
def Obligations.SensorlessStartPhases : Prop :=
  (∀ (a : Fin 128) (tm : Nat) (s : State), s.inPhase a .listen = true → s.axes[a].com.heard = [] →
    s.axes[a].com.listenFrom + ms (s.pN (Pid.axComCatchQuiet a.val)) ≤ max s.nt tm →
    exec (.catchListenEnd a tm) s = .next (((s.adv tm).modAxis a fun x =>
      { x with com := { x.com with catchSpeed := 0 } }).enterIpd a 1)) ∧
  (∀ (a : Fin 128) (tm : Nat) (s : State), s.inPhase a .brake = true →
    s.axes[a].com.brakeFrom + ms (s.pN (Pid.axComBrakeOn a.val)) ≤ max s.nt tm →
    exec (.brakeOnElapsed a tm) s = .next (((s.adv tm).modAxis a fun x => { x with com := { x.com with
      brakeTotal := x.com.brakeTotal + (max s.nt tm - x.com.brakeFrom) } }).enterListen a)) ∧
  (∀ (a : Fin 128) (tm : Nat) (s : State), s.inPhase a .brake = true →
    ms (s.pN (Pid.axComBrakeTmax a.val)) < s.axes[a].com.brakeTotal + (max s.nt tm - s.axes[a].com.brakeFrom) →
    exec (.brakeTimeout a tm) s = .next ((s.adv tm).raise 0x1032 a.val [a])) ∧
  (∀ (a : Fin 128) (tm b : Nat) (s : State), s.inPhase a .ipd = true → 18 ≤ s.axes[a].com.ipdFrame →
    s.axes[a].com.ipdMax = b →
    (s.pN (Pid.axComIpdMargin a.val) : Rat) / 100 * s.axes[a].com.ipdI[fin 6 (by decide) b] ≤
      s.axes[a].com.ipdI[fin 6 (by decide) b] - s.axes[a].com.ipdI[fin 6 (by decide) (b + 3)] →
    exec (.ipdDone a tm) s = .next (((s.adv tm).modAxis a fun x =>
      { x with com := { x.com with ipdResult := b + 8 } }).enterRamp a (s.axes[a].com.startFrom b))) ∧
  (∀ (a : Fin 128) (tm b : Nat) (s : State), s.inPhase a .ipd = true → 18 ≤ s.axes[a].com.ipdFrame →
    s.axes[a].com.ipdMax = b →
    s.axes[a].com.ipdI[fin 6 (by decide) b] - s.axes[a].com.ipdI[fin 6 (by decide) (b + 3)] <
      (s.pN (Pid.axComIpdMargin a.val) : Rat) / 100 * s.axes[a].com.ipdI[fin 6 (by decide) b] →
    exec (.ipdDone a tm) s = .next (((s.adv tm).modAxis a fun x =>
      { x with com := { x.com with ipdResult := b } }).enterAlign a)) ∧
  (∀ (a : Fin 128) (tm : Nat) (s : State), s.inPhase a .align = true →
    s.axes[a].com.alignFrom + ms (s.pN (Pid.axComAlignT a.val)) ≤ max s.nt tm →
    exec (.alignElapsed a tm) s = .next ((s.adv tm).enterRamp a
      (s.axes[a].com.startFrom (s.pN (Pid.axComStartSector a.val))))) ∧
  (∀ (a : Fin 128) (tm : Nat) (s : State), s.inPhase a .ramp = true →
    s.pN (Pid.axComStartZc a.val) ≤ s.axes[a].com.rampZc →
    exec (.startZcReached a tm) s = .next (((s.adv tm).enterSensorless a).event 0x1102 a.val
      (s.axes[a].com.startTry + s.axes[a].com.ipdResult * 256))) ∧
  (∀ (a : Fin 128) (tm : Nat) (s : State), s.inPhase a .ramp = true →
    s.axes[a].com.tryFailed (s.pN (Pid.axComStartWin a.val)) (max s.nt tm) = true →
    ∃ t, exec (.startTryFail a tm) s = .next t ∧ t.axes[a].com.phase = .pause ∧ t.axes[a].com.pauseFrom = max s.nt tm ∧
      t.axes[a].state = s.axes[a].state ∧ ∀ b : Fin 128, b ≠ a → t.axes[b] = s.axes[b]) ∧
  (∀ (a : Fin 128) (tm : Nat) (s : State), s.inPhase a .pause = true → s.axes[a].com.pauseFrom + ms 50 ≤ max s.nt tm →
    s.axes[a].com.startTry < 3 →
    exec (.startPauseEnd a tm) s = .next ((s.adv tm).enterIpd a (s.axes[a].com.startTry + 1))) ∧
  (∀ (a : Fin 128) (tm : Nat) (s : State), s.inPhase a .pause = true → s.axes[a].com.pauseFrom + ms 50 ≤ max s.nt tm →
    3 ≤ s.axes[a].com.startTry →
    exec (.startPauseEnd a tm) s = .next ((s.adv tm).raise 0x1031 a.val [a])) ∧
  (∀ (a : Fin 128) (tm : Nat) (f pct sg : Rat) (s : State), s.inPhase a .listen = true → 3 ≤ s.axes[a].com.heard.length →
    s.axes[a].com.listenFrom + ms (s.pN (Pid.axComCatchListen a.val)) ≤ max s.nt tm →
    hz60 (meanNat (heard60 s.axes[a].com.heard)) = f →
    (if s.fRated a.val = 0 then 0 else 100 * f / s.fRated a.val) = pct →
    (if heardForward s.axes[a].com.heard then pct else -pct) = sg →
    ∃ u : State, u = ((s.adv tm).modAxis a fun x => { x with com := { x.com with catchSpeed := sg } }) ∧
      (heardForward s.axes[a].com.heard ≠ s.axes[a].com.neg → 100 * s.slPct a (s.pN (Pid.axComCatchMin a.val)) ≤ pct →
        exec (.catchListenEnd a tm) s =
          .next ((u.catchForward a f).event 0x1101 a.val (ofSigned 32 (roundAway (sg * 100))))) ∧
      (heardForward s.axes[a].com.heard = s.axes[a].com.neg → 100 * s.slPct a (s.pN (Pid.axComBrakeMin a.val)) ≤ pct →
        exec (.catchListenEnd a tm) s = .next (u.modAxis a fun x =>
          { x with com := { x.com.coast .brake with brakeFrom := max s.nt tm } })) ∧
      (heardForward s.axes[a].com.heard ≠ s.axes[a].com.neg → pct < 100 * s.slPct a (s.pN (Pid.axComCatchMin a.val)) →
        exec (.catchListenEnd a tm) s = .next (u.enterIpd a 1)) ∧
      (heardForward s.axes[a].com.heard = s.axes[a].com.neg → pct < 100 * s.slPct a (s.pN (Pid.axComBrakeMin a.val)) →
        exec (.catchListenEnd a tm) s = .next (u.enterIpd a 1)))

/-- R136, R138, R146, R153, R156, R157: a rotor lost by a missing crossing is caught again with event 0x1103, or falls back to
Hall with 0x1036, or the fourth time in 1 s raises 0x1034; COAST_STOP ends in READY or OFF; HALL_LEARN takes its six
steps; 400 frames without a current sample raise 0x1037; the induced-voltage ratio is judged every 200 ms. -/
def Obligations.CommutationEvents : Prop :=
  (∀ (a : Fin 128) (tm : Nat) (s : State), s.inPhase a .sensorless = true → s.axes[a].state = .run →
    2 ≤ s.axes[a].com.missRun → s.pN (Pid.axComSource a.val) ≠ 2 →
    (within (secs 1) (max s.nt tm) s.axes[a].com.recatchAt).length < 3 →
    exec (.rotorLost a tm) s = .next ((((s.adv tm).modAxis a fun x => { x with com := { x.com with
      recatchAt := max s.nt tm :: within (secs 1) (max s.nt tm) s.axes[a].com.recatchAt,
      recatch := count32 x.com.recatch, brakeTotal := 0 } }).enterListen a).event 0x1103 a.val
      ((within (secs 1) (max s.nt tm) s.axes[a].com.recatchAt).length + 1))) ∧
  (∀ (a : Fin 128) (tm : Nat) (s : State), s.inPhase a .sensorless = true → s.axes[a].state = .run →
    2 ≤ s.axes[a].com.missRun ∨ 3 ≤ s.axes[a].com.offRun → s.pN (Pid.axComSource a.val) = 2 →
    exec (.rotorLost a tm) s = .next ((((s.adv tm).raise 0x1036 a.val [a]).enterHall a).modAxis a fun x =>
      { x with eng := { x.eng with coastNext := true } })) ∧
  (∀ (a : Fin 128) (tm : Nat) (s : State), s.inPhase a .sensorless = true → s.axes[a].state = .run →
    2 ≤ s.axes[a].com.missRun ∨ 3 ≤ s.axes[a].com.offRun → s.pN (Pid.axComSource a.val) ≠ 2 →
    3 ≤ (within (secs 1) (max s.nt tm) s.axes[a].com.recatchAt).length →
    exec (.rotorLost a tm) s = .next ((s.adv tm).raise 0x1034 a.val [a])) ∧
  (∀ (a : Fin 128) (tm : Nat) (s : State), s.inPhase a .coastStop = true → s.axes[a].state = .stop →
    max s.axes[a].com.coastFrom (s.axes[a].com.zcAt.getD 0) + ms (s.pN (Pid.axComCatchQuiet a.val)) ≤ max s.nt tm →
    ∃ t, exec (.coastStopQuiet a tm) s = .next t ∧
      t.axes[a].state = (if s.axes[a].enable then .ready else .off) ∧ t.axes[a].com.phase = .none ∧
      ∀ b : Fin 128, b ≠ a → t.axes[b] = s.axes[b]) ∧
  (∀ (a : Fin 128) (tm : Nat) (s : State), s.inPhase a .coastStop = true → s.axes[a].state = .fault →
    max s.axes[a].com.coastFrom (s.axes[a].com.zcAt.getD 0) + ms (s.pN (Pid.axComCatchQuiet a.val)) ≤ max s.nt tm →
    ∃ t, exec (.coastStopQuiet a tm) s = .next t ∧ t.axes[a].state = .fault ∧ t.axes[a].rea.stopDone = true ∧
      t.axes[a].com.phase = .none) ∧
  (∀ (a : Fin 128) (tm : Nat) (k : LearnSt) (s : State), s.axes[a].com.learn = some k → s.axes[a].state = .ready → k.n < 5 →
    k.stepFrom + ms (s.pN (Pid.axComAlignT a.val)) ≤ max s.nt tm →
    exec (.hallLearnStep a tm) s = .next ((s.adv tm).modAxis a fun x => { x with com := { x.com with
      learn := some { n := k.n + 1, stepFrom := max s.nt tm, seen := k.seen ++ [s.axes[a].com.hallState] } } })) ∧
  (∀ (a : Fin 128) (tm map res : Nat) (k : LearnSt) (s : State), s.axes[a].com.learn = some k → s.axes[a].state = .ready → 5 ≤ k.n →
    k.stepFrom + ms (s.pN (Pid.axComAlignT a.val)) ≤ max s.nt tm →
    learnResult (s.pN (Pid.axComHallMap a.val)) (k.seen ++ [s.axes[a].com.hallState]) = (map, res) → res ≠ 0 →
    ∃ u : State, exec (.hallLearnStep a tm) s =
        .next (u.callDone (0x1100F001 + a.val * 0x10000) stOk (leBytes 4 map ++ leBytes 1 res)) ∧
      u.axes[a].com.learn = none ∧ u.par = s.par ∧ u.mbx = s.mbx) ∧
  (∀ (a : Fin 128) (tm : Nat) (s : State), 400 ≤ s.axes[a].com.blindRun →
    exec (.currentBlind a tm) s = .next ((s.adv tm).raise 0x1037 a.val [a])) ∧
  (∀ (a : Fin 128) (tm : Nat) (s : State), s.axes[a].com.keFrom + ms 200 ≤ max s.nt tm → s.axes[a].com.keN < 100 →
    exec (.keRatioUpdate a tm) s = .next ((s.adv tm).modAxis a fun x => { x with com := { x.com with
      keSum := 0, keN := 0, keFrom := max s.nt tm } })) ∧
  (∀ (a : Fin 128) (tm : Nat) (r : Rat) (s : State), s.axes[a].com.keFrom + ms 200 ≤ max s.nt tm → 100 ≤ s.axes[a].com.keN →
    s.axes[a].com.keSum / (s.axes[a].com.keN : Rat) = r → 85 / 100 ≤ r → r ≤ 115 / 100 →
    ∃ t, exec (.keRatioUpdate a tm) s = .next t ∧ t.axes[a].com.keRatio = r ∧ t.axes[a].com.keN = 0 ∧ t.flt = s.flt ∧
      t.age.axes[a].keSum = s.age.axes[a].keSum + r ∧ t.age.axes[a].keN = s.age.axes[a].keN + 1) ∧
  (∀ (a : Fin 128) (tm : Nat) (r : Rat) (s : State), s.axes[a].com.keFrom + ms 200 ≤ max s.nt tm → 100 ≤ s.axes[a].com.keN →
    s.axes[a].com.keSum / (s.axes[a].com.keN : Rat) = r → r < 70 / 100 ∨ 130 / 100 < r →
    ∃ u : State, exec (.keRatioUpdate a tm) s = .next ((u.raise 0x1040 a.val [a]).raise 0x1041 a.val [a]) ∧
      u.axes[a].com.keRatio = r ∧ u.flt = s.flt) ∧
  (∀ (a : Fin 128) (tm : Nat) (s : State), s.inPhase a .sensorless = true → s.axes[a].state = .run →
    s.axes[a].com.missRun < 2 → 3 ≤ s.axes[a].com.offRun → s.pN (Pid.axComSource a.val) ≠ 2 →
    (within (secs 1) (max s.nt tm) s.axes[a].com.recatchAt).length < 3 →
    exec (.rotorLost a tm) s = .next ((((s.adv tm).modAxis a fun x => { x with com := { x.com with
      recatchAt := max s.nt tm :: within (secs 1) (max s.nt tm) s.axes[a].com.recatchAt,
      recatch := count32 x.com.recatch, brakeTotal := 0 } }).enterListen a).event 0x1103 a.val
      ((within (secs 1) (max s.nt tm) s.axes[a].com.recatchAt).length + 1 + 256))) ∧
  (∀ (a : Fin 128) (tm map : Nat) (k : LearnSt) (s : State), s.axes[a].com.learn = some k → s.axes[a].state = .ready → 5 ≤ k.n →
    k.stepFrom + ms (s.pN (Pid.axComAlignT a.val)) ≤ max s.nt tm →
    learnResult (s.pN (Pid.axComHallMap a.val)) (k.seen ++ [s.axes[a].com.hallState]) = (map, 0) →
    exec (.hallLearnStep a tm) s = .next ((((s.adv tm).modAxis a fun x =>
      { x with com := { x.com.coast .none with learn := none } }).markReady none
        [(Pid.axComHallMap a.val, .num map)]).callDone (0x1100F001 + a.val * 0x10000) stOk (leBytes 4 map ++ leBytes 1 0))) ∧
  (∀ (a : Fin 128) (tm : Nat) (k : LearnSt) (s : State), s.axes[a].com.learn = some k → s.axes[a].state ≠ .ready →
    exec (.hallLearnStep a tm) s = .next (((s.adv tm).modAxis a fun x =>
      { x with com := { x.com with learn := none } }).callDone (0x1100F001 + a.val * 0x10000) stState [])) ∧
  (∀ (a : Fin 128) (tm : Nat) (r : Rat) (s : State), s.axes[a].com.keFrom + ms 200 ≤ max s.nt tm → 100 ≤ s.axes[a].com.keN →
    s.axes[a].com.keSum / (s.axes[a].com.keN : Rat) = r → 70 / 100 ≤ r → r ≤ 130 / 100 → r < 85 / 100 ∨ 115 / 100 < r →
    ∃ u : State, exec (.keRatioUpdate a tm) s = .next (u.raise 0x1040 a.val [a]) ∧
      u.axes[a].com.keRatio = r ∧ u.flt = s.flt)

/-- R180, R183, R184, R199, R202, R206, R218, R252, R260, R272, R273, R435, R438: an axis event raises its fault when its
condition holds: the condition is on the state alone, and the fault targets the axis itself. -/
def Obligations.AxisSupervision : Prop :=
  (∀ (a : Fin 128) (tm : Nat) (s : State), s.axes[a].fbk.cause ≠ 0 → s.axes[a].fbk.cause ≤ 6 →
    (s.adv tm).lossCause a s.axes[a].fbk = s.axes[a].fbk.cause →
    exec (.fbkLost a tm) s = .next ((s.adv tm).loseFeedback 0x1050 a)) ∧
  (∀ (a : Fin 128) (tm : Nat) (s : State), s.axes[a].fbk.frozen = true →
    exec (.fbkFrozen a tm) s = .next ((s.adv tm).loseFeedback 0x1051 a)) ∧
  (∀ (a : Fin 128) (tm : Nat) (s : State),
    s.pN (Pid.axFbkSource a.val) = 1 ∨ s.pN (Pid.axFbkSource a.val) = 2 ∨ s.pN (Pid.axFbkSource a.val) = 6 →
    exec (.zeroTimeout a tm) s = .next ((s.adv tm).modAxis a fun x =>
      { x with fbk := x.fbk.withV (x.fbk.edgeV.timeout (max s.nt tm) (ms (s.pN (Pid.axFbkZeroTimeout a.val)))) })) ∧
  (∀ (a : Fin 128) (tm t0 : Nat) (s : State), s.axes[a].eng.feFrom = some t0 →
    t0 + ms (s.pN (Pid.axPosFeTime a.val)) ≤ max s.nt tm →
    exec (.followingError a tm) s = .next ((s.adv tm).raise 0x1060 a.val [a])) ∧
  (∀ (a : Fin 128) (tm : Nat) (s : State), (s.axes[a].eng.satRun.toList.any fun n => decide (64 ≤ n)) = true →
    exec (.numericSat a tm) s = .next ((s.adv tm).raise 0x1061 a.val [a])) ∧
  (∀ (a : Fin 128) (tm : Nat) (s : State), 10 ≤ s.axes[a].eng.vbusLow →
    exec (.vbusLow a tm) s = .next ((s.adv tm).raise 0x1062 a.val [a])) ∧
  (∀ (a : Fin 128) (tm : Nat) (s : State), s.axes[a].eng.inj = .running →
    ms s.axes[a].eng.injTime ≤ s.axes[a].eng.injFrames * s.tf →
    exec (.injDone a tm) s = .next (((s.adv tm).modAxis a fun x =>
      { x with eng := { x.eng with inj := .done, injS := 0 } }).event 0x1701 a.val s.axes[a].eng.injFrames)) ∧
  (∀ (a : Fin 128) (tm : Nat) (s : State), 1 ≤ s.axes[a].prf.mode → s.axes[a].prf.mode ≤ 3 → s.inMask a.val = false →
    s.axes[a].active = true → s.pN (Pid.axPrfIpoTmax a.val) ≤ s.axes[a].prf.ipo.run →
    exec (.setpointLost a tm) s = .next ((s.adv tm).raise 0x1073 a.val [a])) ∧
  (∀ (a : Fin 128) (tm : Nat) (s : State), 100 ≤ s.axes[a].stp.clampRun →
    exec (.stpRate a tm) s = .next ((s.adv tm).raise 0x1080 a.val [a])) ∧
  (∀ (a : Fin 128) (tm : Nat) (s : State), s.axes[a].active = true → 3 ≤ s.axes[a].stp.stallRun →
    exec (.stall a tm) s = .next (((s.adv tm).raise 0x1081 a.val [a]).modAxis a fun x =>
      { x with fbk := { x.fbk with unref := true } })) ∧
  (∀ (a : Fin 128) (tm : Nat) (s : State), s.axes[a].stp.candA = true ∨ s.axes[a].stp.candB = true →
    exec (.phaseOpen a tm) s = .next (((s.adv tm).raise 0x1082 a.val [a]).modAxis a fun x => { x with stp := { x.stp with
      openA := x.stp.openA || x.stp.candA, openB := x.stp.openB || x.stp.candB } })) ∧
  (∀ (a : Fin 128) (tm : Nat) (s : State), s.axes[a].stopRuns = true →
    s.axes[a].rea.stopFrom + ms (s.pN (Pid.axReaStopTmax a.val)) ≤ max s.nt tm →
    exec (.stopTimeout a tm) s = .next ((s.adv tm).raise 0x1090 a.val [a])) ∧
  (∀ (a : Fin 128) (tm t0 : Nat) (s : State), s.axes[a].rea.quietFrom = some t0 → t0 + ms 10 ≤ max s.nt tm →
    exec (.l3StopEnd a tm) s = .next ((s.adv tm).modAxis a fun x => { x with rea := { x.rea with stopDone := true } })) ∧
  (∀ (a : Fin 128) (tm t0 : Nat) (s : State), s.axes[a].active = true → s.axes[a].stp.stallFrom = some t0 →
    t0 + ms 20 ≤ max s.nt tm →
    exec (.stall a tm) s = .next (((s.adv tm).raise 0x1081 a.val [a]).modAxis a fun x =>
      { x with fbk := { x.fbk with unref := true } }))

/-- R232, R235, R242, R264, R267, R268, R269: the timed events of moves, homing and steppers: a dwell ends its entry, the window
time sets TARGET_REACHED, a stall in PUSH gives the reference, and a stepper goes to hold current, is forced into current
mode for 1 s, ends a blend in voltage mode, and ends its alignment ALIGNED. -/
def Obligations.MoveHomingAndStepperEvents : Prop :=
  (∀ (a : Fin 128) (tm t0 : Nat) (s : State), s.axes[a].prf.dwellUntil = some t0 → t0 ≤ max s.nt tm →
    s.axes[a].prf.running = true → s.axes[a].prf.stopRow = 0 →
    ∃ p ev, s.axes[a].prf.endEntry s.axes[a].prf.next.pos = (p, ev) ∧
      exec (.dwellEnd a tm) s = .next (((s.adv tm).modAxis a fun x => { x with prf := p }).events a ev)) ∧
  (∀ (a : Fin 128) (tm t0 : Nat) (s : State), s.axes[a].prf.inWinFrom = some t0 → s.axes[a].prf.allDone = true →
    t0 + ms (s.pN (Pid.axPrfWindowT a.val)) ≤ max s.nt tm →
    exec (.targetReached a tm) s = .next ((s.adv tm).modAxis a fun x => { x with prf := { x.prf with reached := true } })) ∧
  (∀ (a : Fin 128) (tm t0 : Nat) (s : State), s.axes[a].hom.stallFrom = some t0 → s.axes[a].hom.phase = 4 →
    t0 + ms (s.pN (Pid.axHomStopT a.val)) ≤ max s.nt tm →
    exec (.homingStall a tm) s = .next ((s.adv tm).modAxis a fun x => { x with hom := { x.hom with
      phase := 5, snap := true, stallFrom := none, refWait := some (t0 + ms (s.pN (Pid.axHomStopT a.val))) } })) ∧
  (∀ (a : Fin 128) (tm t0 : Nat) (s : State), s.axes[a].stp.zeroFrom = some t0 → s.axes[a].stp.holdFrom = none →
    t0 + ms (s.pN (Pid.axStpHoldT a.val)) ≤ max s.nt tm →
    exec (.stpHold a tm) s = .next ((s.adv tm).modAxis a fun x =>
      { x with stp := { x.stp with holdFrom := some (max s.nt tm) } })) ∧
  (∀ (a : Fin 128) (tm : Nat) (s : State), s.axes[a].stp.volt = true → 4 ≤ s.axes[a].stp.overRun →
    exec (.stpForced a tm) s = .next (((s.adv tm).modAxis a fun x => { x with stp := { x.stp with
      volt := false, blend := none, turn := none, forced := some (max s.nt tm), changeAt := some (max s.nt tm) } }).event 0x1B01 a.val 256)) ∧
  (∀ (a : Fin 128) (tm t0 : Nat) (s : State), s.axes[a].stp.forced = some t0 → t0 + secs 1 ≤ max s.nt tm →
    exec (.stpForcedEnd a tm) s = .next ((s.adv tm).modAxis a fun x => { x with stp := { x.stp with forced := none } })) ∧
  (∀ (a : Fin 128) (tm j : Nat) (s : State), s.axes[a].stp.blend = some j → s.pN (Pid.axStpBlendN a.val) ≤ j →
    exec (.stpBlendEnd a tm) s = .next (((s.adv tm).modAxis a fun x => { x with
      stp := { x.stp with blend := none, volt := true },
      eng := { x.eng with st := { x.eng.st with xi := Vector.replicate 2 0 } } }).event 0x1B01 a.val 1)) ∧
  (∀ (a : Fin 128) (tm t0 : Nat) (s : State), s.axes[a].stp.alignFrom = some t0 → t0 + ms 200 ≤ max s.nt tm →
    exec (.stpAlignEnd a tm) s = .next (((s.adv tm).modAxis a fun x =>
      { x with stp := { x.stp with alignFrom := none, aligned := true, fbkOfs := (1024 - (s.adv tm).fbkAngle a 0) % 1024 } }).event
      0x1B02 a.val ((1024 - (s.adv tm).fbkAngle a 0) % 1024)))

/-! Tracking, links, trips, line encoders, field I/O and capture. -/

/-- R282, R284: the run is at tick + 1.5 us and applies the committed calls; a call applied then deletes or changes the named
context only when its generation fits and it is not FREE, a creation takes the lowest FREE context and is FULL when none
is, and the call's mailbox is answered. -/
def Obligations.TrackingCallsAreApplied : Prop :=
  (∀ s : State, s.trkOn = true → s.frame.ticking = true →
    ∃ u v w x : State, exec .trackingRun s = .next (State.each (State.each (State.each (State.each x allCtx
        State.ctxZones).edgesRun allCtx State.missedRun) allCtx fun t i => [0, 1, 2, 3].foldl (fun t j => t.evRun i j) t)
        allCtx State.handOff) ∧
      u = s.adv (s.frame.tick + 1500) ∧
      v = State.zonesRun (if u.sensorInvalid && !u.faultOn 0x4005 0 then u.raise 0x4005 0 [] else u) ∧
      w = State.each (State.each (v.modTrk fun k => { k with
          due := [], runFc := v.fc, recent := k.recent.filter fun y => decide (v.nt < y.2.2 + secs 1) })
        v.trk.due fun t y => t.trkApply y.1 y.2) allCtx State.ctxAdvance ∧
      x = State.each (w.modTrk fun k => { k with inbox := k.inbox.filter fun y => decide (w.frame.tick + 1000 < y.2.1) })
        (w.trk.inbox.filter fun y => decide (y.2.1 ≤ w.frame.tick + 1000)) State.takeHandoff) ∧
  (∀ (m i gen : Nat) (s : State), s.ctxNamed i gen = false →
    s.trkApply m (.delete i gen) = s.lateAnswer m 0x4000F002 stState []) ∧
  (∀ (m i gen : Nat) (s : State), s.ctxNamed i gen = true →
    ∃ u : State, s.trkApply m (.delete i gen) = u.lateAnswer m 0x4000F002 stOk [] ∧
      u.trk.ctx[ctxNo i].state = .free ∧ u.trk.ctx[ctxNo i].gen = s.trk.ctx[ctxNo i].gen ∧
      ∀ j : Fin 256, j ≠ ctxNo i → u.trk.ctx[j] = s.trk.ctx[j]) ∧
  (∀ (m i gen mask objId route len : Nat) (s : State), s.ctxNamed i gen = true → bit mask 0 = false → bit mask 1 = false →
    bit mask 2 = true →
    ∃ u : State, s.trkApply m (.modify i gen mask objId route len) = u.lateAnswer m 0x4000F003 stOk [] ∧
      u.trk.ctx[ctxNo i] = { s.trk.ctx[ctxNo i] with len := len } ∧
      ∀ j : Fin 256, j ≠ ctxNo i → u.trk.ctx[j] = s.trk.ctx[j]) ∧
  (∀ (m zone objId len route : Nat) (pos : Int) (s : State), (∀ i : Fin 256, s.trk.ctx[i].state ≠ .free) →
    s.trkApply m (.create zone objId pos len route) = s.lateAnswer m 0x4000F001 stFull []) ∧
  (∀ (m zone objId len route : Nat) (pos : Int) (i : Fin 256) (s : State), s.trk.ctx[i].state = .free →
    (∀ j : Fin 256, j < i → s.trk.ctx[j].state ≠ .free) →
    ∃ u : State, s.trkApply m (.create zone objId pos len route) =
        u.lateAnswer m 0x4000F001 stOk (leBytes 1 i.val ++ leBytes 1 ((s.trk.ctx[i].gen + 1) % 256)) ∧
      u.trk.ctx[i].state = .active ∧ u.trk.ctx[i].zone = zone ∧ u.trk.ctx[i].objId = objId ∧ u.trk.ctx[i].pos = um pos ∧
      u.trk.ctx[i].len = len ∧ u.trk.ctx[i].gen = (s.trk.ctx[i].gen + 1) % 256 ∧
      ∀ j : Fin 256, j ≠ i → u.trk.ctx[j] = s.trk.ctx[j])

/-- R301, R305, R374: an edge at a latch unit's source is counted and waits for its positions; a hand-off frame waits for the
next run; an ACK that does not come in time makes the record go again, up to HO_RETRY times, then raises 0x4004. -/
def Obligations.LatchesAndHandoffs : Prop :=
  (∀ (a : Fin 128) (n : Fin 2) (rising : Bool) (stamp : Nat) (s : State), s.pN (Pid.axCmpLSrc a.val n.val) ≠ 0 →
    (s.pN (Pid.axCmpLEdge a.val n.val) = 0 → rising = true) → (s.pN (Pid.axCmpLEdge a.val n.val) = 1 → rising = false) →
    s.axOn (clusterOf a) = true →
    exec (.latchEdge a n rising stamp) s = .next ((s.modLat a n fun q =>
      { q with count := count32 q.count, waits := q.waits ++ [stamp] }).latchWaits a n)) ∧
  (∀ (a : Fin 128) (n : Fin 2) (rising : Bool) (stamp : Nat) (s : State), s.pN (Pid.axCmpLSrc a.val n.val) ≠ 0 →
    (s.pN (Pid.axCmpLEdge a.val n.val) = 0 → rising = true) → (s.pN (Pid.axCmpLEdge a.val n.val) = 1 → rising = false) →
    s.axOn (clusterOf a) = true →
    (∀ t ∈ s.axes[a].lat[n].waits, s.axes[a].fbk.posAt ≤ t) → s.axes[a].fbk.posAt ≤ stamp →
    ∃ t, exec (.latchEdge a n rising stamp) s = .next t ∧ t.axes[a].lat[n].count = count32 s.axes[a].lat[n].count ∧
      t.axes[a].lat[n].waits = s.axes[a].lat[n].waits ++ [stamp] ∧ t.axes[a].lat[n].pos = s.axes[a].lat[n].pos ∧
      ∀ b : Fin 128, b ≠ a → t.axes[b] = s.axes[b]) ∧
  (∀ (tm : Nat) (f : RxFrame) (c : Crepra) (u v : State) (s : State), (s.adv tm).takeRx ((s.adv tm).isCrepra 5) = some (f, u) →
    u.crepraCheck f = (some c, v) → v.drives = true → v.trkOn = true →
    exec (.handoffFrame tm) s = .next (v.modTrk fun k => { k with inbox := k.inbox ++ [(f.port, f.tm, c.payload)] })) ∧
  (∀ (tm : Nat) (h : HandOff) (s : State),
    (s.trk.out.find? fun h => decide (h.sentAt + ms (s.pN Pid.trkHoTimeout) ≤ max s.nt tm)) = some h →
    h.tries < s.pN Pid.trkHoRetry →
    ∃ u : State, exec (.handoffRetry tm) s = .next (u.crepraSend 5 0xFFFE h.rcd (u.sendPorts
        (decide (s.pN (Pid.topoZPeer h.zone) = 1)) (!decide (s.pN (Pid.topoZPeer h.zone) = 1)))) ∧
      u.trk.out = s.trk.out.map (fun x => if x == h then { x with tries := x.tries + 1, sentAt := max s.nt tm } else x) ∧
      u.trk.ctx = s.trk.ctx ∧ u.par = s.par) ∧
  (∀ (tm : Nat) (h : HandOff) (s : State),
    (s.trk.out.find? fun h => decide (h.sentAt + ms (s.pN Pid.trkHoTimeout) ≤ max s.nt tm)) = some h →
    s.pN Pid.trkHoRetry ≤ h.tries →
    exec (.handoffRetry tm) s = .next (((s.adv tm).modTrk fun k =>
      { k with out := k.out.filter fun x => x != h }).raise 0x4004 0 [])) ∧
  (∀ (a : Fin 128) (n : Fin 2) (rising : Bool) (stamp : Nat) (s : State), s.pN (Pid.axCmpLSrc a.val n.val) = 0 ∨
    (s.pN (Pid.axCmpLEdge a.val n.val) = 0 ∧ rising = false) ∨ (s.pN (Pid.axCmpLEdge a.val n.val) = 1 ∧ rising = true) →
    exec (.latchEdge a n rising stamp) s = .next s)

/-- R71, R73, R75, R105: a SYNC carries device time at its arrival; a DREQ is stamped, and its DRSP gives the round trip, kept
within 16 quarters of the mean; a packet with a bad CRC is discarded and counted, and a good one is taken apart. -/
def Obligations.LinkTimeAndPackets : Prop :=
  (∀ (l : Fin 32) (tm : Nat) (s : State), s.linkTx l = true → s.frame.tick + 1000 ≤ max s.nt tm →
    max s.nt tm < s.frame.tick + 1025 → s.links[l].syncTick ≠ some s.frame.tick → s.links[l].txEnd ≤ max s.nt tm →
    ∃ b : List Byte, exec (.syncSend l tm) s = .next (((s.adv tm).modLink l fun x =>
        { x with syncTick := some s.frame.tick }).linkSend l (.k symSync :: b.map .d)) ∧ b.length = 14 ∧
      (∀ n : Nat, (((max s.nt tm : Nat) : Rat) + s.linkDelay l / 1000) = n → n < 2 ^ 64 →
        b.take 9 = leBytes 8 n ++ leBytes 1 0)) ∧
  (∀ (l : Fin 32) (tm : Nat) (s : State), s.linkTx l = true → s.frame.tick + 2000 ≤ max s.nt tm →
    max s.nt tm < s.frame.tick + 2025 → s.links[l].dreqTick ≠ some s.frame.tick → s.links[l].txEnd ≤ max s.nt tm →
    exec (.dreqSend l tm) s = .next (((s.adv tm).modLink l fun x =>
      { x with t1 := some (max s.nt tm), dreqTick := some s.frame.tick }).linkSend l [.k symDreq])) ∧
  (∀ (l : Fin 32) (syms : List Sym) (s : State), s.links[l].txEnd ≤ s.nt →
    (s.linkSend l syms).links[l].tx = syms ∧ (s.linkSend l syms).links[l].txFrom = s.nt ∧
    (s.linkSend l syms).out = s.out ++ [.link l.val ((s.nt - s.links[l].txEnd + 12) / 25) syms]) ∧
  (∀ (l : Fin 32) (turn t1 tm : Nat) (s : State), s.links[l].t1 = some t1 → s.linkOn l = true → turn ≠ 0 →
    s.links[l].rts = [] →
    exec (.drspReceive l turn tm) s = .next ((s.adv tm).modLink l fun x => { x with
      rts := [4 * (((max s.nt tm : Nat) : Int) - (t1 : Int)) - (turn : Int)], discards := 0, t1 := none })) ∧
  (∀ (l : Fin 32) (turn t1 tm : Nat) (s : State), s.links[l].t1 = some t1 → s.linkOn l = true → turn ≠ 0 →
    s.links[l].rts ≠ [] →
    16 < rabs (((4 * (((max s.nt tm : Nat) : Int) - (t1 : Int)) - (turn : Int) : Int) : Rat) - meanInt s.links[l].rts) →
    exec (.drspReceive l turn tm) s = .next ((s.adv tm).modLink l fun x =>
      { x with discards := x.discards + 1, t1 := none })) ∧
  (∀ (l : Fin 32) (viol : Bool) (syms tm : Nat) (bytes : List Byte) (s : State), s.linkOn l = true →
    viol = true ∨ linkCrc (bytes.take (bytes.length - 2)) ≠ fld bytes (bytes.length - 2) 2 →
    exec (.upstreamPacket l viol syms bytes tm) s = .next ((s.adv tm).modLink l fun x => { x with
      crcErr := count32 x.crcErr, crcAt := within (secs 1) (max s.nt tm) (max s.nt tm :: x.crcAt) })) ∧
  (∀ (l : Fin 32) (syms tm : Nat) (bytes : List Byte) (s : State), s.linkOn l = true → 3 ≤ bytes.length →
    linkCrc (bytes.take (bytes.length - 2)) = fld bytes (bytes.length - 2) 2 →
    exec (.upstreamPacket l false syms bytes tm) s = .next (State.each ((s.adv tm).modLink l fun x =>
        x.countSyms ((s.adv tm).periodTick (fld bytes 0 1 / 64)) syms)
      (parsePieces bytes.length ((bytes.take (bytes.length - 2)).drop 1))
      fun t p => t.takePiece l ((s.adv tm).periodTick (fld bytes 0 1 / 64)) p)) ∧
  (∀ (l : Fin 32) (turn t1 tm : Nat) (s : State), s.links[l].t1 = some t1 → s.linkOn l = true → turn ≠ 0 →
    rabs (((4 * (((max s.nt tm : Nat) : Int) - (t1 : Int)) - (turn : Int) : Int) : Rat) - meanInt s.links[l].rts) ≤ 16 →
    exec (.drspReceive l turn tm) s = .next ((s.adv tm).modLink l fun x => { x with
      rts := pushN 16 (4 * (((max s.nt tm : Nat) : Int) - (t1 : Int)) - (turn : Int)) x.rts, discards := 0, t1 := none }))

/-- R75, R99, R100, R106, R118, R119, R544: a training link with its stage's capabilities, 16 round trips and TIME_LOCK goes
UP; a lost link retrains with 0x2001, at level 1 where the device resigns for it; and the counts of a link raise their
faults on its four axes. -/
def Obligations.LinkStateAndFaults : Prop :=
  (∀ (l : Fin 32) (tm : Nat) (s : State), s.linkReady l = true →
    exec (.linkUp l tm) s = .next ((s.adv tm).linkGoUp l)) ∧
  (∀ (l : Fin 32) (tm : Nat) (s : State), s.linkReady l = false → exec (.linkUp l tm) s = .next (s.adv tm)) ∧
  (∀ (l : Fin 32) (tm : Nat) (s : State), s.linkIsUp l = true → s.resignsFor l = false →
    ∃ u : State, exec (.linkLost l tm) s = .next (u.raise 0x2001 l.val (linkAxes l)) ∧ u.links[l].state = .retrain ∧
      u.links[l].capNew = false ∧ u.links[l].rts = [] ∧ u.links[l].dtAcked = false ∧ u.flt = s.flt ∧ u.axes = s.axes ∧
      ∀ k : Fin 32, k ≠ l → u.links[k] = s.links[k]) ∧
  (∀ (l : Fin 32) (tm : Nat) (s : State), s.linkIsUp l = true → s.resignsFor l = true →
    ∃ u : State, exec (.linkLost l tm) s = .next (u.raiseAt 0x2001 l.val (linkAxes l) 0 1 true) ∧ u.twin.resign = true ∧
      u.links[l].state = .retrain ∧ u.flt = s.flt ∧ u.axes = s.axes) ∧
  (∀ (l : Fin 32) (tm : Nat) (s : State), s.linkOn l = true → 8 ≤ s.links[l].discards →
    exec (.timeUnstable l tm) s = .next ((s.adv tm).raise 0x2004 l.val (linkAxes l))) ∧
  (∀ (l : Fin 32) (tm : Nat) (r : StatRec) (s : State), s.linkOn l = true → s.links[l].state = .up →
    s.links[l].stat = some r → r.timeLock = false →
    exec (.timeUnstable l tm) s = .next ((s.adv tm).raise 0x2004 l.val (linkAxes l))) ∧
  (∀ (l : Fin 32) (tm : Nat) (s : State), 16 < (within (secs 1) (max s.nt tm) s.links[l].crcAt).length →
    exec (.linkErrors l tm) s = .next ((s.adv tm).raise 0x2002 l.val (linkAxes l))) ∧
  (∀ (l : Fin 32) (tm : Nat) (s : State), 10 < (within (secs 1) (max s.nt tm) s.links[l].lateAt).length →
    exec (.lateRecords l tm) s = .next ((s.adv tm).raise 0x2006 l.val (linkAxes l))) ∧
  (∀ (l : Fin 32) (tm : Nat) (s : State), 100 ≤ s.links[l].dropRun →
    exec (.upOverbudget l tm) s = .next ((s.adv tm).raise 0x2005 l.val (linkAxes l))) ∧
  (∀ (l : Fin 32) (k : Fin 4) (tm : Nat) (s : State), s.linkIsUp l = true → s.links[l].slotCfg[k].raised = false →
    s.links[l].slotCfg[k].refused = true →
    ∃ u : State, exec (.slotCfgUnanswered l k tm) s = .next (u.raise 0x2003 l.val (linkAxes l)) ∧
      u.links[l].slotCfg[k].raised = true ∧ u.flt = s.flt ∧ u.axes = s.axes) ∧
  (∀ (l : Fin 32) (tm : Nat) (msg : DtMsg) (s : State), s.links[l].dtMsg = some msg → s.linkIsUp l = true →
    s.frameAhead msg.fc = false → msg.fc ≠ s.frame.fc ∨ s.frame.tick + 1500 < max s.nt tm → msg.answered = false → msg.due = false → s.links[l].dtUnanswered = 0 →
    exec (.deadtimeUnacked l tm) s = .next ((s.adv tm).modLink l fun x => { x with
      dtMsg := some { msg with stale := true, due := true }, dtUnanswered := 1 })) ∧
  (∀ (l : Fin 32) (tm : Nat) (msg : DtMsg) (s : State), s.links[l].dtMsg = some msg → s.linkIsUp l = true →
    s.frameAhead msg.fc = false → msg.fc ≠ s.frame.fc ∨ s.frame.tick + 1500 < max s.nt tm → msg.answered = false → msg.due = false → s.links[l].dtUnanswered = 1 →
    exec (.deadtimeUnacked l tm) s = .next (((s.adv tm).modLink l fun x => { x with
      dtMsg := some { msg with stale := true, due := true }, dtUnanswered := 2 }).raise 0x1021 l.val (linkAxes l))) ∧
  (∀ (a : Fin 128) (tm : Nat) (s : State), s.linkIsUp (linkOf a) = true → s.pN (Pid.axPwmDtMode a.val) = 0 →
    s.axes[a].pwm.adaptTick + 16 * s.tf ≤ s.frame.tick →
    ∃ t, exec (.dtAdapt a tm) s = .next t ∧ t.axes[a].pwm.adaptTick = s.frame.tick ∧ t.flt = s.flt ∧
      (∀ b : Fin 128, b ≠ a → t.axes[b] = s.axes[b]) ∧ t.axes[a].pwm.hb = s.axes[a].pwm.hb.map fun h =>
        h.adapt (s.pN (Pid.axPwmDtMargin a.val)) (s.pN (Pid.axPwmDtMax a.val)) (s.dtBound a.val)) ∧
  (∀ (a : Fin 128) (tm : Nat) (s : State), (s.axes[a].pwm.hb.toList.any fun h => decide (16 ≤ h.overRun)) = true →
    exec (.dtLimit a tm) s = .next ((s.adv tm).raise 0x1020 a.val [a])) ∧
  (∀ (l : Fin 32) (k : Fin 4) (tm : Nat) (s : State), s.linkIsUp l = true → s.links[l].slotCfg[k].raised = false →
    s.links[l].slotCfg[k].ok = false → s.links[l].slotCfg[k].due = false → 3 ≤ s.links[l].slotCfg[k].sent →
    s.links[l].slotCfg[k].sentTick + 3 * s.tf ≤ s.frame.tick →
    ∃ u : State, exec (.slotCfgUnanswered l k tm) s = .next (u.raise 0x2003 l.val (linkAxes l)) ∧
      u.links[l].slotCfg[k].raised = true ∧ u.flt = s.flt ∧ u.axes = s.axes)

/-- R77, R83, R388, R544: in the service window a link that is not UP is asked for its capabilities, and one that is UP gets the
first SLOT_CFG that is due; outside the window nothing leaves. -/
def Obligations.ServiceFramesOfALink : Prop :=
  (∀ (l : Fin 32) (tm : Nat) (s : State), s.linkTx l = true → s.frame.tick + 13500 ≤ (s.adv tm).txAt l →
    (s.adv tm).txAt l ≤ s.frame.tick + s.tf - 3000 → s.links[l].state ≠ .up → s.links[l].capNew = false →
    exec (.serviceFrameSend l tm) s = .next ((s.adv tm).sendService l 0x01 [])) ∧
  (∀ (l : Fin 32) (tm : Nat) (s : State), s.linkTx l = true → s.frame.tick + 13500 ≤ (s.adv tm).txAt l →
    (s.adv tm).txAt l ≤ s.frame.tick + s.tf - 3000 → s.links[l].state = .up → s.drives = true →
    s.links[l].slotCfg[0].due = true →
    ∃ t, exec (.serviceFrameSend l tm) s = .next t ∧ t.links[l].slotCfg[0].due = false ∧
      t.links[l].slotCfg[0].sent = s.links[l].slotCfg[0].sent + 1 ∧
      t.links[l].slotCfg[0].content = (s.adv tm).slotCfgBytes l 0 ∧ t.axes = s.axes ∧ t.flt = s.flt) ∧
  (∀ (l : Fin 32) (tm : Nat) (s : State), (s.adv tm).txAt l < s.frame.tick + 13500 ∨ s.frame.tick + s.tf - 3000 < (s.adv tm).txAt l →
    exec (.serviceFrameSend l tm) s = .next (s.adv tm)) ∧
  (∀ (l : Fin 32) (k : Nat) (tm : Nat) (s : State), s.linkTx l = true → s.frame.tick + 13500 ≤ (s.adv tm).txAt l →
    (s.adv tm).txAt l ≤ s.frame.tick + s.tf - 3000 → s.links[l].state = .up → s.drives = true →
    ((List.range 4).find? fun k => (s.links[l].slotCfg[fin 4 (by decide) k]).wants s.frame.tick s.tf) = some k →
    exec (.serviceFrameSend l tm) s = .next ((s.adv tm).sendSlotCfg l (fin 4 (by decide) k))) ∧
  (∀ (l : Fin 32) (tm : Nat) (s : State), s.linkTx l = true → s.frame.tick + 13500 ≤ (s.adv tm).txAt l →
    (s.adv tm).txAt l ≤ s.frame.tick + s.tf - 3000 → s.links[l].state = .up → s.drives = true →
    ((List.range 4).find? fun k => (s.links[l].slotCfg[fin 4 (by decide) k]).wants s.frame.tick s.tf) = none →
    (s.adv tm).dtDue l = true →
    exec (.serviceFrameSend l tm) s = .next ((s.adv tm).sendDeadtime l)) ∧
  (∀ (l : Fin 32) (tm : Nat) (s : State), s.linkTx l = true → s.frame.tick + 13500 ≤ (s.adv tm).txAt l →
    (s.adv tm).txAt l ≤ s.frame.tick + s.tf - 3000 → s.links[l].state = .up → s.drives = true →
    ((List.range 4).find? fun k => (s.links[l].slotCfg[fin 4 (by decide) k]).wants s.frame.tick s.tf) = none →
    (s.adv tm).dtDue l = false → s.links[l].dozeSent = true → s.links[l].dozeAns = false →
    ((linkAxes l).all fun a => s.axes[a].state == .off) = true →
    exec (.serviceFrameSend l tm) s = .next ((s.adv tm).sendService l 0x04 (leBytes 1 s.links[l].beaconMs))) ∧
  (∀ (l : Fin 32) (tm : Nat) (s : State), s.linkTx l = true → s.links[l].state ≠ .up → s.links[l].capNew = true →
    exec (.serviceFrameSend l tm) s = .next (s.adv tm))

/-- R89, R92, R124 to R127: a used pin that its filter accepts latches at its instant outside every window and waits for
the window's end inside one; one that ends there before the filter accepts it counts as ignored; a latch raises 0x2101 once and counts later activations; a TRIP sequence latches the named slots; a kill
goes again while its cause remains; more than 100 ignored activations in 1 s raise 0x2103. -/
def Obligations.TripPinsAndSequences : Prop :=
  (∀ (p : Fin 8) (inst tm : Nat) (s : State), inst + s.pN (Pid.trpPFilter p.val) ≤ max s.nt tm →
    s.pinUsed p = true → s.blankEnd p inst = none → s.pins[p].latched = false →
    ∃ u : State, exec (.tripPinActivation p inst tm) s =
        .next (((u.raise 0x2101 p.val (u.pinAxes p)).capEventAt 4 p.val inst).killAxes p (u.pinAxes p)) ∧
      u.pins[p].latched = true ∧ u.pins[p].stamp = inst ∧ u.pins[p].active = true ∧ u.pins[p].late = false ∧
      u.flt = s.flt ∧ u.axes = s.axes) ∧
  (∀ (p : Fin 8) (inst tm : Nat) (s : State), inst + s.pN (Pid.trpPFilter p.val) ≤ max s.nt tm →
    s.pinUsed p = true → s.blankEnd p inst = none → s.pins[p].latched = true →
    ∃ t, exec (.tripPinActivation p inst tm) s = .next t ∧ t.pins[p].count = count32 s.pins[p].count ∧
      t.pins[p].latched = true ∧ t.pins[p].stamp = s.pins[p].stamp ∧ t.flt = s.flt ∧ t.axes = s.axes) ∧
  (∀ (p : Fin 8) (inst tm e : Nat) (s : State), max s.nt tm < inst + s.pN (Pid.trpPFilter p.val) →
    s.pinUsed p = true → s.blankEnd p inst = some e →
    ∃ t, exec (.tripPinActivation p inst tm) s = .next t ∧ t.pins[p].blanked = count32 s.pins[p].blanked ∧
      t.pins[p].latched = s.pins[p].latched ∧ t.pins[p].active = s.pins[p].active ∧ t.flt = s.flt ∧ t.axes = s.axes) ∧
  (∀ (p : Fin 8) (inst tm e : Nat) (s : State), inst + s.pN (Pid.trpPFilter p.val) ≤ max s.nt tm →
    s.pinUsed p = true → s.blankEnd p inst = some e → max s.nt tm < e →
    ∃ t, exec (.tripPinActivation p inst tm) s = .next t ∧ t.pins[p].waiting = some inst ∧ t.pins[p].active = true ∧
      t.pins[p].latched = s.pins[p].latched ∧ t.flt = s.flt ∧ t.axes = s.axes) ∧
  (∀ (p : Fin 8) (inst tm e : Nat) (s : State), s.pinUsed p = true → s.pins[p].waiting = some inst →
    s.pins[p].active = true → s.blankEnd p inst = some e → e ≤ max s.nt tm →
    exec (.blankWindowEnd p tm) s = .next ((s.adv tm).pinLatch p e true)) ∧
  (∀ (p : Fin 8) (tm : Nat) (s : State), 100 < (within (secs 1) (max s.nt tm) s.pins[p].ignoredAt).length →
    exec (.tripNoise p tm) s = .next ((s.adv tm).raise 0x2103 p.val (clusterAxes p))) ∧
  (∀ (l : Fin 32) (mask : BitVec 4) (tm : Nat) (s : State), s.linkOn l = true →
    exec (.tripSequence l mask tm) s = .next ((s.adv tm).each ((List.range 4).filter fun k => mask.getLsbD k)
      fun t k => t.stageTrip (axisAt l k))) ∧
  (∀ (l : Fin 32) (mask : BitVec 4) (tm : Nat) (s : State), s.linkOn l = false →
    exec (.tripSequence l mask tm) s = .next (s.adv tm)) ∧
  (∀ (a : Fin 128) (s : State), s.axes[a].pwm.trip = false →
    ∃ u : State, s.stageTrip a = (u.raise 0x2102 a.val (s.spread a)).killAxes (clusterOf a) (s.spread a) ∧
      u.axes[a].pwm.trip = true ∧ u.axes[a].pwm.tripStamp = s.nt ∧ u.flt = s.flt ∧
      ∀ b : Fin 128, b ≠ a → u.axes[b] = s.axes[b]) ∧
  (∀ (l : Fin 32) (tm : Nat) (s : State), s.linkOn l = true → (s.adv tm).killMask l ≠ 0 →
    s.links[l].killAt + 1000 ≤ max s.nt tm → s.links[l].txEnd ≤ max s.nt tm →
    ∃ t, exec (.killRepeat l tm) s = .next t ∧ t.links[l].killAt = max s.nt tm ∧ t.links[l].txFrom = max s.nt tm ∧
      t.links[l].tx = [.k symKill,
        .d (BitVec.ofNat 8 (((s.adv tm).killMask l).toNat * 16 + (15 - ((s.adv tm).killMask l).toNat)))] ∧
      t.out = s.out ++ [.link l.val ((max s.nt tm - s.links[l].txEnd + 12) / 25) t.links[l].tx]) ∧
  (∀ (l : Fin 32) (mask : BitVec 4) (s : State), s.linkOn l = true → s.links[l].txEnd ≤ s.nt →
    (s.sendKill l mask).links[l].tx = killSeq mask ++ killSeq mask ++ killSeq mask ++ killSeq mask) ∧
  (∀ (l : Fin 32) (tm : Nat) (s : State), (s.adv tm).killMask l = 0 → exec (.killRepeat l tm) s = .next (s.adv tm)) ∧
  (∀ (p : Fin 8) (tm : Nat) (s : State), s.pins[p].active = true →
    ∃ t, exec (.tripPinRelease p tm) s = .next t ∧ t.pins[p].active = false ∧ t.pins[p].latched = s.pins[p].latched ∧
      t.flt = s.flt) ∧
  (∀ (p : Fin 8) (inst tm e : Nat) (s : State), inst + s.pN (Pid.trpPFilter p.val) ≤ max s.nt tm →
    s.pinUsed p = true → s.blankEnd p inst = some e → e ≤ max s.nt tm → s.pins[p].latched = false →
    ∃ u : State, exec (.tripPinActivation p inst tm) s =
        .next (((u.raise 0x2101 p.val (u.pinAxes p)).capEventAt 4 p.val e).killAxes p (u.pinAxes p)) ∧
      u.pins[p].latched = true ∧ u.pins[p].stamp = e ∧ u.pins[p].active = true ∧ u.pins[p].late = true ∧
      u.flt = s.flt ∧ u.axes = s.axes) ∧
  (∀ (p : Fin 8) (inst tm : Nat) (s : State), inst + s.pN (Pid.trpPFilter p.val) ≤ max s.nt tm →
    s.pinUsed p = false →
    ∃ t, exec (.tripPinActivation p inst tm) s = .next t ∧ t.pins[p].active = true ∧
      t.pins[p].latched = s.pins[p].latched ∧ t.flt = s.flt ∧ t.axes = s.axes) ∧
  (∀ (p : Fin 8) (inst tm : Nat) (s : State), max s.nt tm < inst + s.pN (Pid.trpPFilter p.val) →
    s.pinUsed p = false ∨ s.blankEnd p inst = none →
    exec (.tripPinActivation p inst tm) s = .next (s.adv tm))

/-- R162, R172, R173, R174: the ports latch at the next tick - 0.5 us; an accepted edge moves the count of a port that counts;
a rising Z latches the count, with ZARM set only once; a port whose signals are bad raises 0x4060. -/
def Obligations.LineEncoderEvents : Prop :=
  (∀ s : State, exec .lineEncoderLatch s = .next { s with
    nt := max s.nt (s.frame.tick + s.tf - 500), ports := s.ports.map fun x => x.latch (s.frame.tick + s.tf - 500) }) ∧
  (∀ (p : Fin 4) (a b : Bool) (tm : Nat) (s : State), s.domainOn 12 = true →
    exec (.leEdge p a b tm) s = .next ((s.adv tm).modPort p fun _ => (s.adv tm).leEdge p a b)) ∧
  (∀ (p : Fin 4) (tm : Nat) (s : State), s.domainOn 12 = true → s.pN (Pid.lePMode p.val) = 1 →
    s.ports[p].zarmed = false →
    exec (.leZEdge p tm) s = .next ((s.adv tm).modPort p fun x => { x with
      zlatch := x.count, zstamp := max s.nt tm, znew := true, zarmed := x.zarm, zarm := false })) ∧
  (∀ (p : Fin 4) (tm : Nat) (s : State), s.ports[p].zarmed = true → exec (.leZEdge p tm) s = .next (s.adv tm)) ∧
  (∀ (p : Fin 4) (wire : Bool) (tm : Nat) (u s : State), u = ((s.adv tm).modPort p fun x => { x with wire := wire }) →
    u.leBad p = true → exec (.leSignal p wire tm) s = .next (u.raise 0x4060 p.val [])) ∧
  (∀ (p : Fin 4) (wire : Bool) (tm : Nat) (u s : State), u = ((s.adv tm).modPort p fun x => { x with wire := wire }) →
    u.leBad p = false → exec (.leSignal p wire tm) s = .next u)

/-- R310, R313, R315, R317, R318, R320, R321, R322: channel F, its loss and the die's own timeout, the 24 V supply, the input
filter, timed changes, the restart of the outputs and the diagnosis. -/
def Obligations.FieldIoEvents : Prop :=
  (∀ (ins : BitVec 40) (pins thermal : BitVec 16) (v tm : Nat) (s : State),
    exec (.channelFFrame false ins pins thermal v tm) s = .next (s.adv tm)) ∧
  (∀ (ins : BitVec 40) (pins thermal : BitVec 16) (v tm : Nat) (s : State),
    exec (.channelFFrame true ins pins thermal v tm) s = .next ((s.adv tm).modFio fun f =>
      ((f.diagApply (max s.nt tm)).sampled (s.adv tm).finPer ins pins thermal v (max s.nt tm)).setCommon (max s.nt tm))) ∧
  (∀ (tm : Nat) (s : State), s.fio.cfLost = false → s.fio.lastUp + 10000 ≤ max s.nt tm →
    ∃ u : State, exec (.channelFLost tm) s = .next (u.raise 0x6004 0 []).diagAbort ∧ u.fio.cfLost = true ∧
      u.fio.invalid = true ∧ u.fio.rearmReady = false ∧ u.flt = s.flt) ∧
  (∀ (tm : Nat) (s : State), s.fio.dieOff = false → s.fio.lastDown + 100000 ≤ max s.nt tm →
    exec (.dieOutputsOff tm) s = .next ((s.adv tm).modFio fun f => { f.offAll (max s.nt tm) with dieOff := true })) ∧
  (∀ (i : Fin 40) (stamp tm : Nat) (s : State), (s.adv tm).accepted i = some stamp → s.fio.invalid = false →
    exec (.fieldInputEdge i tm) s = .next (((s.adv tm).inEdge i stamp false).edgeUsers i stamp)) ∧
  (∀ (i : Fin 40) (stamp tm : Nat) (s : State), (s.adv tm).accepted i = some stamp → s.fio.invalid = true →
    exec (.fieldInputEdge i tm) s = .next (s.adv tm)) ∧
  (∀ (tm : Nat) (s : State),
    ∃ t, exec (.fieldOutputChange tm) s = .next t ∧ t = { s with nt := max s.nt tm, fio := t.fio } ∧
      ((∀ c ∈ s.fio.changes, max s.nt tm < c.tm) → t.fio = s.fio.diagApply (max s.nt tm))) ∧
  (∀ (tm t0 : Nat) (s : State), s.fio.lowFrom = some t0 → s.fio.uvWarn = false → t0 + 100000 ≤ max s.nt tm →
    ∃ u : State, exec (.fv24Low tm) s = .next (u.raise 0x6001 0 []).diagAbort ∧ u.flt = s.flt ∧
      u.fio = ({ s.fio with uvWarn := true } : FioSt).setCommon (max s.nt tm)) ∧
  (∀ (tm : Nat) (s : State), s.fio.uvOff = false → s.fio.cfLost = false → s.fio.goodFrom.isSome = true →
    s.fio.fv24 < 1600 →
    ∃ u : State, exec (.fv24Off tm) s = .next (u.raise 0x6002 0 []).diagAbort ∧ u.flt = s.flt ∧
      u.fio = { s.fio.offAll (max s.nt tm) with uvOff := true, invalid := true }) ∧
  (∀ (tm t0 : Nat) (s : State), s.fio.uvOff = true → s.fio.cfLost = false → s.fio.highFrom = some t0 →
    t0 + ms 10 ≤ max s.nt tm → exec (.fv24Recover tm) s = .next (s.adv tm).fieldReady) ∧
  (∀ (tm t0 t1 : Nat) (s : State), s.fio.invalid = true → s.fio.uvOff = false → s.fio.cfLost = false →
    s.fio.goodFrom = some t0 → s.fio.highFrom = some t1 → t0 + ms 10 ≤ max s.nt tm → t1 + ms 10 ≤ max s.nt tm →
    exec (.cfRearmReady tm) s = .next (s.adv tm).fieldReady) ∧
  (∀ (tm t0 : Nat) (auto : Bool) (s : State), s.fio.restoreAt = some (t0, auto) → t0 ≤ max s.nt tm →
    ∃ u : State, exec (.outputsOn tm) s = .next (u.event 0x6082 0 (b2n auto)) ∧ u = { s with nt := max s.nt tm, fio := u.fio } ∧
      u.fio.outOff = false ∧ u.fio.restoreAt = none ∧ u.fio.rearmReady = false) ∧
  (∀ (tm : Nat) (s : State), s.fio.uvWarn = true → 1850 < s.fio.fv24 →
    exec (.uvWarnEnd tm) s = .next ((s.adv tm).modFio fun f =>
      ({ f with uvWarn := false } : FioSt).setCommon (max s.nt tm))) ∧
  (∀ (tm : Nat) (s : State), s.fio.rise = true →
    exec (.outputFault tm) s = .next (((s.adv tm).modFio fun f => { f with rise := false }).raise 0x6003 0 [])) ∧
  (∀ (tm : Nat) (s : State), s.fio.diag = none →
    exec (.fioDiagTest tm) s = .next ((s.adv tm).modFio fun f => f.diagApply (max s.nt tm))) ∧
  (∀ (tm : Nat) (d : DiagSt) (s : State), (s.fio.diagApply (max s.nt tm)).diag = some d → d.applied = true →
    d.inverted = true → d.since + ms (s.aonN Pid.fioDiagTStep) ≤ max s.nt tm →
    ∃ t free, exec (.fioDiagTest tm) s = .next t ∧ t.freeCtr = s.freeCtr + 1 ∧ t.axes = s.axes ∧
      t.fio.diag = some (d.judge (!(s.fio.diagApply (max s.nt tm)).common) free (s.adv tm).nextAct)) ∧
  (∀ (tm : Nat) (due : List FoutChange) (s : State),
    (s.fio.changes.filter fun c => decide (c.tm ≤ max s.nt tm)).foldl (fun l c => insertChange c l) [] = due →
    exec (.fieldOutputChange tm) s = .next ((s.adv tm).modFio fun f =>
      (due.foldl FioSt.change { f with changes := f.changes.filter fun c => decide (max s.nt tm < c.tm) }).diagApply
        (max s.nt tm))) ∧
  (∀ (tm : Nat) (d : DiagSt) (s : State), (s.fio.diagApply (max s.nt tm)).diag = some d →
    d.applied = false ∨ max s.nt tm < d.since + ms (s.aonN Pid.fioDiagTStep) →
    exec (.fioDiagTest tm) s = .next ((s.adv tm).modFio fun f => f.diagApply (max s.nt tm))) ∧
  (∀ (tm : Nat) (d : DiagSt) (s : State), (s.fio.diagApply (max s.nt tm)).diag = some d → d.applied = true →
    d.inverted = false → d.since + ms (s.aonN Pid.fioDiagTStep) ≤ max s.nt tm → d.result = none →
    exec (.fioDiagTest tm) s = .next ((s.adv tm).modFio fun f =>
      { f.diagApply (max s.nt tm) with diag := some (d.next (s.adv tm).nextAct) })) ∧
  (∀ (tm r out : Nat) (d : DiagSt) (s : State), (s.fio.diagApply (max s.nt tm)).diag = some d → d.applied = true →
    d.inverted = false → d.since + ms (s.aonN Pid.fioDiagTStep) ≤ max s.nt tm → d.result = some (r, out) →
    exec (.fioDiagTest tm) s = .next ((State.diagDone ((s.adv tm).modFio fun f =>
      { f.diagApply (max s.nt tm) with diagBack := some (max s.nt tm, d.allow) }) r out d.steps).modFio fun f =>
        f.diagApply (max s.nt tm)))

/-- R329: in mode 0 a sample is taken once in a frame, at tick + 9.5 us or later; in mode 1 at the instants of its period; with
the domain off or without an armed run nothing is. -/
def Obligations.CaptureSamples : Prop :=
  (∀ (tm : Nat) (s : State), s.domainOn 13 = true → s.cap.armed = true → s.cap.cfg.mode = 0 →
    s.frame.tick + 9500 ≤ max s.nt tm → s.cap.n = 0 ∨ s.cap.lastAt < s.frame.tick →
    exec (.captureSample tm) s = .next ((s.adv tm).capTake s.frame.tick (.nan, 0))) ∧
  (∀ (tm : Nat) (s : State), s.domainOn 13 = true → s.cap.armed = true → s.cap.cfg.mode = 0 → s.cap.n ≠ 0 →
    s.frame.tick ≤ s.cap.lastAt → exec (.captureSample tm) s = .next (s.adv tm)) ∧
  (∀ (tm : Nat) (s : State), s.domainOn 13 = true → s.cap.armed = true → s.cap.cfg.mode = 1 →
    s.cap.armTick + 14000 + s.cap.n * s.cap.cfg.period ≤ max s.nt tm →
    exec (.captureSample tm) s = .next ((s.adv tm).capTake
      (s.cap.armTick + 14000 + s.cap.n * s.cap.cfg.period) (.nan, 0))) ∧
  (∀ (tm : Nat) (s : State), s.domainOn 13 = false → exec (.captureSample tm) s = .next (s.adv tm)) ∧
  (∀ (tm : Nat) (s : State), s.domainOn 13 = true → s.cap.armed = true → 2 ≤ s.cap.cfg.mode →
    exec (.captureSample tm) s = .next (State.each ((s.adv tm).modCap fun c => { c with recs := [] }) s.cap.recs
      fun t x => t.capTake x.1 (x.2.1, x.2.2)))

/-! Networks, time, cyclic traffic, datagrams and the twin. -/

/-- R23, R349, R351 to R354, R357, R358, R368, R369, R383: ports gain and lose their link, a mode that the MAC does not take is
held disabled, frames with a bad FCS or a port that is not usable change nothing, gate lists come into force at a cycle,
old stamps go, and the counts of ports and networks raise their faults. -/
def Obligations.PortsAndSwitch : Prop :=
  (∀ (port : Fin 4) (fcs : Bool) (bytes : List Byte) (tm : Nat) (s : State),
    fcs = false ∨ (s.adv tm).drainPorts.portOk port.val = false ∨ 2000 < bytes.length + 4 →
    exec (.ethFrameReceive port fcs bytes tm) s = .next (s.adv tm).drainPorts) ∧
  (∀ (port : Fin 4) (bytes : List Byte) (tm : Nat) (rx : Rat) (u s : State), u = (s.adv tm).drainPorts →
    u.portOk port.val = true → bytes.length + 4 ≤ 2000 → u.route port (ethHead bytes) = (false, true) →
    rx = (tm : Rat) - (u.aonN (Pid.netPPhyRx port.val) : Rat) / 1000 →
    exec (.ethFrameReceive port true bytes tm) s = .next (u.toHost port bytes rx)) ∧
  (∀ (port : Fin 4) (full : Bool) (tm : Nat) (s : State), s.domainOn (10 + netOf port.val) = true →
    (s.net.ports[port]).link = false →
    ∃ u : State, exec (.portUp port 3 full tm) s = .next (u.event 0x3081 0 (port.val + 4)) ∧
      (u.net.ports[port]).link = true ∧ (u.net.ports[port]).linkAt = max s.nt tm ∧ (u.net.ports[port]).gig = true ∧
      (u.net.ports[port]).full = full ∧ u.axes = s.axes ∧ ∀ q : Fin 4, q ≠ port → u.net.ports[q] = s.net.ports[q]) ∧
  (∀ (port : Fin 4) (tm : Nat) (s : State), (s.net.ports[port]).link = true → s.aonN (Pid.netPEnable port.val) = 1 →
    ∃ u : State, exec (.portDown port tm) s = .next (u.raise 0x3001 0 []) ∧ (u.net.ports[port]).link = false ∧
      (u.net.ports[port]).queue = [] ∧ u.flt = s.flt ∧ u.axes = s.axes) ∧
  (∀ (port : Fin 4) (tm : Nat) (s : State), (s.net.ports[port]).link = false →
    exec (.portDown port tm) s = .next (s.adv tm)) ∧
  (∀ (port : Fin 4) (tm : Nat) (s : State), (s.net.ports[port]).link = true → (s.net.ports[port]).configErr = false →
    (s.net.ports[port]).inband = 1 ∨ ((s.net.ports[port]).inband ≠ 0 ∧ (s.net.ports[port]).full = false) →
    exec (.portConfig port tm) s = .next (((s.adv tm).modNetPort port fun x => { x with configErr := true }).raise 0x3008 0 [])) ∧
  (∀ (port : Fin 4) (tm : Nat) (s : State), 100 < (within (secs 1) (max s.nt tm) (s.net.ports[port]).dropAt).length →
    exec (.netDrop port tm) s = .next ((s.adv tm).raise 0x3009 0 [])) ∧
  (∀ (port : Fin 4) (tm c : Nat) (u s : State), u = (s.adv tm).drainPorts → u.aonN (Pid.netPGclCycle port.val) = c →
    c ≠ 0 → u.nt % c = 0 →
    exec (.gclCycleStart port tm) s = .next (u.modNetPort port fun x => { x with
      gclCycle := c, gcl := (List.range 16).map fun i => u.aonN (Pid.netPGcl port.val i) }).drainPorts) ∧
  (∀ (port : Fin 4) (tm : Nat) (s : State),
    exec (.tsqEntryExpire port tm) s = .next ((s.adv tm).modNetPort port fun p =>
      { p with tsq := p.tsq.filter fun e => decide (max s.nt tm < e.tm + 10000000) })) ∧
  (∀ (tm : Nat) (s : State), 10 < (within (secs 1) (max s.nt tm) s.net.tsqAt).length →
    exec (.tsqOverflow tm) s = .next ((s.adv tm).raise 0x3005 0 [])) ∧
  (∀ (port : Fin 4) (tm : Nat) (s : State), 10 < (within (secs 1) (max s.nt tm) (s.net.ports[port]).authAt).length →
    exec (.authFail port tm) s = .next ((s.adv tm).raise 0x3004 0 [])) ∧
  (∀ (tm t0 : Nat) (s : State), s.frame.unalignedFrom = some t0 → s.pwr.state = .operate → s.aligned = false →
    t0 + secs 1 ≤ max s.nt tm → exec (.tickUnaligned tm) s = .next ((s.adv tm).raise 0x0203 0 [])) ∧
  (∀ (tm : Nat) (s : State), s.pN Pid.cycDual = 1 →
    (s.net.copies.any fun c => c.oneNet s.frame.fc && !c.raised) = true →
    exec (.cycOneNetwork tm) s = .next (((s.adv tm).modNet fun n => { n with
      copies := n.copies.map fun c => { c with raised := c.oneNet s.frame.fc } }).raise 0x3006 0 [])) ∧
  (∀ (port : Fin 4) (bytes : List Byte) (tm : Nat) (on host : Bool) (rx : Rat) (u s : State), u = (s.adv tm).drainPorts →
    u.portOk port.val = true → bytes.length + 4 ≤ 2000 → u.route port (ethHead bytes) = (on, host) →
    rx = (tm : Rat) - (u.aonN (Pid.netPPhyRx port.val) : Rat) / 1000 →
    ∃ v : State, exec (.ethFrameReceive port true bytes tm) s = .next (if host then v.toHost port bytes rx else v) ∧
      v = if on then u.passOn port bytes rx else u) ∧
  (∀ (port : Fin 4) (speed : Fin 4) (full : Bool) (tm : Nat) (s : State), s.domainOn (10 + netOf port.val) = true →
    (s.net.ports[port]).link = false → 1 ≤ speed.val → speed.val ≤ 2 →
    ∃ u : State, exec (.portUp port speed full tm) s = .next (u.event 0x3081 0 port.val) ∧
      (u.net.ports[port]).link = true ∧ (u.net.ports[port]).linkAt = max s.nt tm ∧ (u.net.ports[port]).gig = false ∧
      (u.net.ports[port]).full = full ∧ u.axes = s.axes ∧ ∀ q : Fin 4, q ≠ port → u.net.ports[q] = s.net.ports[q]) ∧
  (∀ (port : Fin 4) (full : Bool) (tm : Nat) (s : State), s.domainOn (10 + netOf port.val) = true →
    (s.net.ports[port]).link = false →
    exec (.portUp port 0 full tm) s = .next ((s.adv tm).modNetPort port fun x =>
      { x with link := true, linkAt := max s.nt tm, inband := 0, full := full, gig := false }))

/-- R360 to R366: a two-step Sync waits for its Follow_Up and an accepted one-step Sync is taken at once; the link delay is half
the round trip; Announce sets the unit's role; a unit without Sync goes to HOLDOVER, the driving one with 0x3002; HOLDOVER
expires; units that disagree for 10 s raise 0x3003; a MASTER sends Sync on both ports. -/
def Obligations.TimeUnits : Prop :=
  (∀ (tm : Nat) (f : RxFrame) (b : List Byte) (u s : State), (s.adv tm).takeRx (isPtp 0) = some (f, u) →
    b = (ethHead f.bytes).body → ptpTwoStep b = true →
    exec (.ptpSync tm) s = .next (u.modUnit (fin 2 (by decide) (netOf f.port)) fun x => { x with
      wait := some { port := f.port, seq := ptpSeq b, tRx := f.stamp, corr := ptpCorr b, log := ptpLog b } })) ∧
  (∀ (tm : Nat) (f : RxFrame) (b : List Byte) (u s : State), (s.adv tm).takeRx (isPtp 0) = some (f, u) →
    b = (ethHead f.bytes).body → ptpTwoStep b = false → u.slaveOn (fin 4 (by decide) f.port) b = true →
    exec (.ptpSync tm) s = .next (u.syncAccepted (fin 2 (by decide) (netOf f.port)) (fin 4 (by decide) f.port) f.stamp
      ((ptpStamp b 34 : Rat) + ptpCorr b) (ptpLog b))) ∧
  (∀ (tm : Nat) (f : RxFrame) (w : SyncWait) (b : List Byte) (u v s : State),
    (s.adv tm).drainPorts.takeRx (isPtp 8) = some (f, u) → b = (ethHead f.bytes).body →
    (u.net.units[fin 2 (by decide) (netOf f.port)]).wait = some w → w.port = f.port → w.seq = ptpSeq b →
    v = (u.modUnit (fin 2 (by decide) (netOf f.port)) fun x => { x with wait := none }).passFollow
      (fin 4 (by decide) f.port) w f → v.slaveOn (fin 4 (by decide) f.port) b = true →
    exec (.followUp tm) s = .next (v.syncAccepted (fin 2 (by decide) (netOf f.port)) (fin 4 (by decide) f.port) w.tRx
      ((ptpStamp b 34 : Rat) + w.corr + ptpCorr b) w.log)) ∧
  (∀ (port : Fin 4) (t1 t2 t3 t4 tm : Nat) (s : State), s.portOk port.val = true →
    exec (.pdelayMeasure port t1 t2 t3 t4 tm) s = .next ((s.adv tm).modNetPort port fun p => { p with
      pdelay := (((t4 : Rat) - (s.aonN (Pid.netPPhyRx port.val) : Rat) / 1000 - (s.adv tm).txStamp port t1) -
        ((t3 : Rat) - (t2 : Rat))) / 2 })) ∧
  (∀ (tm r : Nat) (n : Fin 2) (f : RxFrame) (b : List Byte) (u s : State), (s.adv tm).takeRx (isPtp 0xB) = some (f, u) →
    b = (ethHead f.bytes).body → n = fin 2 (by decide) (netOf f.port) → u.fwRuns = true → fld b 4 1 = u.pN Pid.ptpDomain →
    r = Config.bmca (u.clockId n.val) (u.pN Pid.ptpPriority1) (decide (u.pN Pid.ptpRole = 1)) (f.port % 2) b
      ((u.net.units[n]).state == .master) →
    ∃ t, exec (.announce tm) s = .next t ∧ (r = 0 → u.pN Pid.ptpRole = 1 → t = u.setMaster n true) ∧
      (r = 1 → t = (u.setMaster n false).modUnit n fun x => { x with slave := some 0 }) ∧
      (r = 2 → t = (u.setMaster n false).modUnit n fun x => { x with slave := some 1 }) ∧ (3 ≤ r → t = u)) ∧
  (∀ (net : Fin 2) (tm : Nat) (s : State), (s.net.units[net]).state = .locked → s.net.driver ≠ net.val →
    (s.net.units[net]).lastSync + s.pN Pid.ptpSyncLoss * (s.net.units[net]).interval ≤ max s.nt tm →
    exec (.syncLoss net tm) s = .next ((s.adv tm).modUnit net fun u => { u with
      state := .holdover, lockedFrom := none, goodRun := 0, badRun := 0 }).watchDiverge.alignWatch) ∧
  (∀ (net : Fin 2) (tm : Nat) (s : State), (s.net.units[net]).state = .locked → s.net.driver = net.val →
    (s.net.units[net]).lastSync + s.pN Pid.ptpSyncLoss * (s.net.units[net]).interval ≤ max s.nt tm →
    ∃ u : State, exec (.syncLoss net tm) s = .next (u.raise 0x3002 0 []) ∧ u.net.holdFrom = some (max s.nt tm) ∧
      (u.net.units[net]).state = .holdover ∧ u.flt = s.flt ∧ u.axes = s.axes) ∧
  (∀ (tm t0 : Nat) (s : State), s.net.holdFrom = some t0 →
    (s.net.units[fin 2 (by decide) s.net.driver]).state = .holdover →
    t0 + secs (s.pN Pid.ptpHoldoverT) ≤ max s.nt tm →
    exec (.holdoverExpiry tm) s = .next ((s.adv tm).modNet fun n => { n with holdExpired := true }).alignWatch) ∧
  (∀ (tm : Nat) (s : State), exec (.timeDriver tm) s = .next (s.adv tm).pickDriver) ∧
  (∀ (tm t0 : Nat) (u s : State), u = (s.adv tm).watchDiverge → u.net.divergeFrom = some t0 → t0 + secs 10 ≤ u.nt →
    exec (.timeDivergence tm) s = .next (u.raise 0x3003 0 [])) ∧
  (∀ (net : Fin 2) (tm : Nat) (u s : State), u = (s.adv tm).drainPorts → (u.net.units[net]).state = .master →
    u.nt < (u.net.units[net]).masterAt → exec (.masterSync net tm) s = .next u) ∧
  (∀ (net : Fin 2) (tm : Nat) (u v s : State), u = (s.adv tm).drainPorts → (u.net.units[net]).state = .master →
    (u.net.units[net]).masterAt ≤ u.nt →
    v = (u.modUnit net fun x => { x with
      masterAt := u.nt + (roundEven (logSecs (u.pI 8 Pid.ptpLogSync) * 1000000000)).toNat,
      syncSeq := (x.syncSeq + 1) % 65536 }) →
    exec (.masterSync net tm) s = .next (v.each [2 * net.val, 2 * net.val + 1] fun t p =>
      t.ptpOut (fin 4 (by decide) p) (t.ptpHead (fin 4 (by decide) p) 0 44 (u.net.units[net]).syncSeq
        (decide (v.pN Pid.ptpStepMode = 0)) (u.pI 8 Pid.ptpLogSync) ++ List.replicate 10 0)
        (if decide (v.pN Pid.ptpStepMode = 0) then .follow else .origin)))

/-- R351, R368 to R375: a SETPOINT, CHANNEL, STATUS or WAKE frame. -/
def Obligations.CyclicFrames : Prop :=
  (∀ (tm n : Nat) (c : Crepra) (u s : State), (s.adv tm).takeCrepra 1 = (some c, u) → fld c.payload 4 1 = n → 1 ≤ n →
    n ≤ 64 → c.payload.length = 8 + 24 * n → u.isLate (fld c.payload 0 4) = false →
    exec (.setpoint tm) s = .next (u.each (List.range n) fun t i =>
      t.takeSetpoint (setpointEntry (fld c.payload 0 4) u.nt (c.payload.drop (8 + 24 * i))))) ∧
  (∀ (tm n : Nat) (c : Crepra) (u v s : State), (s.adv tm).takeCrepra 1 = (some c, u) → fld c.payload 4 1 = n → 1 ≤ n →
    n ≤ 64 → c.payload.length = 8 + 24 * n → u.isLate (fld c.payload 0 4) = true →
    v = (u.modNet fun k => { k with late := count32 k.late }) →
    exec (.setpoint tm) s = .next (v.each (List.range n) fun t i =>
      t.takeSetpoint (setpointEntry (fld c.payload 0 4) v.nt (c.payload.drop (8 + 24 * i))))) ∧
  (∀ (tm n : Nat) (c : Crepra) (u s : State), (s.adv tm).takeCrepra 3 = (some c, u) → fld c.payload 4 1 = n →
    c.payload.length = 8 + 20 * n →
    exec (.channelReceive tm) s = .next (u.each (List.range n) fun t i =>
      t.takeChannel c.src (fld c.payload 0 4) (c.payload.drop (8 + 20 * i)))) ∧
  (∀ (tm : Nat) (c : Crepra) (u s : State), (s.adv tm).takeCrepra 3 = (some c, u) →
    c.payload.length ≠ 8 + 20 * fld c.payload 4 1 → exec (.channelReceive tm) s = .next u) ∧
  (∀ (tm d : Nat) (u s : State), u = s.adv tm → s.pN Pid.cycStatDiv = d → d ≠ 0 → s.fc % d = 0 →
    u.sendDue s.net.statFc = true → s.statusAxes.length ≤ 64 →
    exec (.statusSend tm) s = .next (State.crepraSend (u.modNet fun n => { n with statFc := some s.fc }) 2
      (s.pN Pid.cycStatDst) (State.statusPayload (u.modNet fun n => { n with statFc := some s.fc }) s.statusAxes)
      (s.sendPorts true true))) ∧
  (∀ (tm : Nat) (s : State), s.pN Pid.cycStatDiv = 0 → exec (.statusSend tm) s = .next (s.adv tm)) ∧
  (∀ (tm : Nat) (l : List Nat) (u s : State), u = ((s.adv tm).modNet fun n => { n with chanFc := some s.fc }) →
    (s.adv tm).sendDue s.net.chanFc = true → l ≠ [] →
    ((List.range 16).filter fun c => s.pN (Pid.cycPubC c) / 2 ^ 24 != 0) = l →
    exec (.channelSend tm) s = .next (u.crepraSend 3 0xFFFF (leBytes 4 ((s.fc + s.pN Pid.cycPubLead) % 2 ^ 32) ++
      leBytes 1 l.length ++ leBytes 3 0 ++ l.flatMap u.channelEntry) (u.sendPorts true true))) ∧
  (∀ (tm : Nat) (f : RxFrame) (c : Crepra) (u s : State), (s.adv tm).takeRx ((s.adv tm).isCrepra 6) = some (f, u) →
    c = crepraOf (ethHead f.bytes).body → c.ver = 1 → c.key = 0xFF → c.payload.length = 2 →
    exec (.wakeFrame tm) s = .next (u.modPwr fun p =>
      { p with wakeFrames := p.wakeFrames ++ [(fld c.payload 0 1, fld c.payload 1 1)] })) ∧
  (∀ (tm : Nat) (f : RxFrame) (c : Crepra) (u s : State), (s.adv tm).takeRx ((s.adv tm).isCrepra 6) = some (f, u) →
    c = crepraOf (ethHead f.bytes).body → c.key ≠ 0xFF → exec (.wakeFrame tm) s = .next u) ∧
  (∀ (tm d dst : Nat) (u s : State), u = State.modNet (s.adv tm) (fun n => { n with statFc := some s.fc }) →
    s.pN Pid.cycStatDiv = d → d ≠ 0 → s.fc % d = 0 → (s.adv tm).sendDue s.net.statFc = true → 64 < s.statusAxes.length →
    s.pN Pid.cycStatDst = dst →
    exec (.statusSend tm) s = .next (State.crepraSend (State.crepraSend u 2 dst (State.statusPayload u (s.statusAxes.take 64))
      (s.sendPorts true true)) 2 dst (State.statusPayload (State.crepraSend u 2 dst (State.statusPayload u
        (s.statusAxes.take 64)) (s.sendPorts true true)) (s.statusAxes.drop 64)) (s.sendPorts true true)))

/-- R376, R378, R379: an ARP request is answered with the device's address, an ICMP echo with the same data, a clear datagram
goes to a free NET_ONLY mailbox or is answered BUSY, a protected one whose check fails is rejected and one that is new
becomes the command of its session's mailbox, and records leave 30 at a time. -/
def Obligations.Datagrams : Prop :=
  (∀ (tm n : Nat) (f : RxFrame) (h : EthHead) (u s : State), (s.adv tm).takeIp (s.adv tm).isArp = some (f, u) →
    h = ethHead f.bytes → n = netOf f.port →
    exec (.arpRequest tm) s = .next (u.ethOut (fin 4 (by decide) f.port) (u.ownPrio 12) (ethPad (u.ownHead n h.src 12 0x0806 ++
      (h.body.take 6 ++ beBytes 2 2 ++ beBytes 6 (u.mac n) ++ beBytes 4 (u.ipAddr n) ++ (h.body.drop 8).take 10))) .plain)) ∧
  (∀ (tm : Nat) (s : State), (s.adv tm).takeIp (s.adv tm).isArp = none →
    exec (.arpRequest tm) s = .next (s.adv tm).dropIp) ∧
  (∀ (tm n : Nat) (f : RxFrame) (h : EthHead) (u s : State) (icmp ip : List Byte),
    (s.adv tm).takeIp (s.adv tm).isEcho = some (f, u) → h = ethHead f.bytes → n = netOf f.port →
    icmp = leBytes 4 0 ++ (ip4Of h.body).data.drop 4 →
    ip = beBytes 2 0x4500 ++ beBytes 2 (20 + icmp.length) ++ beBytes 4 0 ++ beBytes 2 0x4001 ++ beBytes 2 0 ++
      beBytes 4 (u.ipAddr n) ++ beBytes 4 (ip4Of h.body).src →
    (patchAt icmp 2 (beBytes 2 (inetSum icmp))).length = icmp.length →
    exec (.icmpEcho tm) s = .next (u.ethOut (fin 4 (by decide) f.port) (u.ownPrio 12) (ethPad (u.ownHead n h.src 12 0x0800 ++
      patchAt ip 10 (beBytes 2 (inetSum ip)) ++ patchAt icmp 2 (beBytes 2 (inetSum icmp)))) .plain)) ∧
  (∀ (tm : Nat) (f : RxFrame) (d : Dgram) (m : Fin 16) (u s : State), (s.adv tm).takeIp ((s.adv tm).isDgram 0) = some (f, u) →
    d = dgramOf f → u.fwRuns = true → fld d.bytes 2 1 = 0xFF → fld d.bytes 4 4 = 0 →
    u.clearRuns d (fld (d.bytes.drop 16) 0 2) = false →
    (allMbx.find? fun m => u.netOnly m && (u.mbx[m]).owner == .free) = some m →
    exec (.clearDatagram tm) s = .next (State.netCommand (u.modNet fun n =>
      { n with clear := n.clear ++ [(m.val, d.net, d.mac, d.ip, d.port)] }) m (d.bytes.drop 16))) ∧
  (∀ (tm : Nat) (f : RxFrame) (u s : State), (s.adv tm).takeIp ((s.adv tm).isDgram 0) = some (f, u) → u.fwRuns = true →
    fld (dgramOf f).bytes 2 1 = 0xFF → fld (dgramOf f).bytes 4 4 = 0 →
    u.clearRuns (dgramOf f) (fld ((dgramOf f).bytes.drop 16) 0 2) = false →
    (∀ m : Fin 16, u.netOnly m = false ∨ (u.mbx[m]).owner ≠ .free) →
    exec (.clearDatagram tm) s = .next (u.udpBusy (dgramOf f))) ∧
  (∀ (tm : Nat) (f : RxFrame) (u s : State), (s.adv tm).takeIp ((s.adv tm).isDgram 1) = some (f, u) → u.fwRuns = true →
    u.openDgram (dgramOf f) = none → exec (.protectedDatagram tm) s = .next u.udpReject) ∧
  (∀ (tm : Nat) (f : RxFrame) (d : Dgram) (x : Session) (u v s : State), (s.adv tm).takeIp ((s.adv tm).isDgram 1) = some (f, u) →
    d = dgramOf f → u.fwRuns = true → u.session (fld d.bytes 4 4) = some x → x.owner = .net → x.mbx = fld d.bytes 2 1 →
    x.fresh (fld d.bytes 8 8) = true →
    v = (u.modSession x.id fun y => { y.accept (fld d.bytes 8 8) with
      net := d.net, peerMac := d.mac, peerIp := d.ip, peerPort := d.port }) →
    (v.mbx[fin 16 (by decide) x.mbx]).state = .idle →
    ∃ t, exec (.protectedDatagram tm) s = .next t ∧
      (Config.gcmOpen (x.keys.take 32) (leBytes 4 x.id ++ leBytes 8 (fld d.bytes 8 8)) (d.bytes.take 16)
        (d.bytes.drop 16) = none → t = u.udpReject) ∧
      (∀ frame, Config.gcmOpen (x.keys.take 32) (leBytes 4 x.id ++ leBytes 8 (fld d.bytes 8 8)) (d.bytes.take 16)
        (d.bytes.drop 16) = some frame → t = v.netCommand (fin 16 (by decide) x.mbx) frame)) ∧
  (∀ (sid tm : Nat) (x : Session) (s : State), s.session sid = some x → x.owner = .net → x.proved = true →
    30 ≤ x.evts.length →
    exec (.eventDatagramSend sid tm) s = .next (State.sendSession ((s.adv tm).modSession sid fun y => { y with
      evts := y.evts.drop 30, evtFrom := max s.nt tm, evtSeq := (y.evtSeq + 1) % 65536 }) x
      (response (leBytes 2 x.evtSeq ++ leBytes 2 0x20 ++ leBytes 4 0 ++ leBytes 4 x.id) 0 0 4
        ((x.evts.take 30).flatMap EvtRec.bytes)))) ∧
  (∀ (sid tm : Nat) (x : Session) (s : State), s.session sid = some x → x.evts = [] →
    exec (.eventDatagramSend sid tm) s = .next (s.adv tm)) ∧
  (∀ (sid tm : Nat) (x : Session) (s : State), s.session sid = some x → x.owner = .net → x.proved = true → x.evts ≠ [] →
    x.evtFrom + ms (s.pN Pid.netEvtPeriod) ≤ max s.nt tm →
    exec (.eventDatagramSend sid tm) s = .next (State.sendSession ((s.adv tm).modSession sid fun y =>
      { y with evts := y.evts.drop 30, evtFrom := max s.nt tm, evtSeq := (y.evtSeq + 1) % 65536 }) x
      (response (leBytes 2 x.evtSeq ++ leBytes 2 0x20 ++ leBytes 4 0 ++ leBytes 4 x.id) 0 0 4
        ((x.evts.take 30).flatMap EvtRec.bytes))))

/-- R384, R387, R390 to R393: what the twin links carry: a device that is not ACTIVE sends its return block on both, a burst goes
into the buffer not in force, an image that fits is adopted once in a frame, and a return block shows the partner. -/
def Obligations.TwinTransfer : Prop :=
  (∀ (tm : Nat) (s : State), (s.adv tm).snapDue = true → s.twin.state ≠ .active →
    ∃ t b, exec (.twinSnapshot tm) s = .next t ∧ t.out = s.out ++ [.twin 2 b, .twin 3 b] ∧
      t.twin.snapTick = some s.frame.tick ∧ t.axes = s.axes ∧ t.par = s.par) ∧
  (∀ (tm : Nat) (b : List Byte) (u s : State), (s.adv tm).snapDue = true → s.twin.state = .active → s.paired = true →
    s.twin.split = false →
    ((s.adv tm).modTwin fun k => { k with snapTick := some s.frame.tick }).buildImage = (b, u) → u.twin.split = false →
    exec (.twinSnapshot tm) s = .next ((u.emit (.twin 0 (framed (leBytes 2 s.frame.fc ++ linkWords 0 b)))).emit
      (.twin 1 (framed (leBytes 2 s.frame.fc ++ linkWords 1 b))))) ∧
  (∀ (k : Fin 2) (fc tm : Nat) (bytes : List Byte) (s : State), s.domainOn 15 = true → s.twin.state ≠ .solo →
    exec (.twinBurstReceive k fc bytes tm) s = .next ((s.adv tm).modTwin fun t => { t with
      half := t.half.set k (some (fc % 65536, bytes)), halfAt := t.halfAt.set k (max s.nt tm), dry := t.dry.set k 0 })) ∧
  (∀ (tm : Nat) (b : List Byte) (any : Bool) (u s : State), s.domainOn 15 = true → s.frame.ticking = true →
    s.receives = true → s.frame.tick + 1500 ≤ max s.nt tm → s.twin.comTick ≠ some s.frame.tick →
    u = ((s.adv tm).modTwin fun k => { k with comTick := some s.frame.tick }) → u.arrived = (some b, any) →
    s.twin.split = false → u.imageOk b = true → s.twin.state ≠ .active →
    exec (.twinImageCommit tm) s = .next ((u.adoptImage b).modTwin fun k => { k with half := Vector.replicate 2 none })) ∧
  (∀ (tm : Nat) (any : Bool) (u s : State), s.domainOn 15 = true → s.frame.ticking = true →
    s.receives = true → s.frame.tick + 1500 ≤ max s.nt tm → s.twin.comTick ≠ some s.frame.tick →
    u = ((s.adv tm).modTwin fun k => { k with comTick := some s.frame.tick }) → u.arrived = (none, any) →
    s.twin.split = false →
    exec (.twinImageCommit tm) s = .next ((u.imageMissed any true).modTwin fun k => { k with half := Vector.replicate 2 none })) ∧
  (∀ (k : Fin 2) (pair : Bool) (bytes : List Byte) (tm : Nat) (s : State), s.domainOn 15 = true → s.twin.state = .standby →
    bytes.length = 32 →
    ∃ t, exec (.twinReturnBlock k pair bytes tm) s = .next t ∧ t = { s with nt := max s.nt tm, twin := t.twin } ∧
      t.twin.partner = (if fld bytes 0 1 ≤ 4 then fld bytes 0 1 else 5) ∧ t.twin.retFc = fld bytes 4 4 ∧
      t.twin.retMiss = 0 ∧ t.twin.dry[k] = 0 ∧ t.twin.state = s.twin.state) ∧
  (∀ (k : Fin 2) (pair : Bool) (bytes : List Byte) (tm : Nat) (s : State), bytes.length ≠ 32 →
    exec (.twinReturnBlock k pair bytes tm) s = .next (s.adv tm)) ∧
  (∀ (tm : Nat) (b : List Byte) (any : Bool) (u s : State), s.domainOn 15 = true → s.frame.ticking = true →
    s.receives = true → s.frame.tick + 1500 ≤ max s.nt tm → s.twin.comTick ≠ some s.frame.tick →
    u = ((s.adv tm).modTwin fun k => { k with comTick := some s.frame.tick }) → u.arrived = (some b, any) →
    s.twin.split = false → u.imageOk b = false →
    exec (.twinImageCommit tm) s = .next ((u.imageMissed true true).modTwin fun k => { k with half := Vector.replicate 2 none })) ∧
  (∀ (tm : Nat) (s : State), s.domainOn 15 = false ∨ s.frame.ticking = false ∨ s.receives = false ∨
    max s.nt tm < s.frame.tick + 1500 ∨ s.twin.comTick = some s.frame.tick →
    exec (.twinImageCommit tm) s = .next (s.adv tm))

/-- R384, R387, R392, R394, R395, R397, R398: the changes of the twin's state and their faults. -/
def Obligations.TwinStateEvents : Prop :=
  (∀ (tm : Nat) (s : State), s.twin.state = .active → 8 ≤ s.twin.retMiss → s.faultOn 0xB002 0 = false →
    exec (.partnerLost tm) s = .next (((s.adv tm).modTwin fun k => { k with partner := 5 }).raise 0xB002 0 [])) ∧
  (∀ (tm : Nat) (s : State), s.twin.state ≠ .solo → s.twin.split = false → 4 ≤ s.twin.dry[0] → s.twin.dry[1] < 4 →
    exec (.twinLink 0 tm) s = .next (((s.adv tm).modTwin fun t => { t with split := true, splitGood := 0 }).raise 0xB005 0 [])) ∧
  (∀ (tm : Nat) (s : State), s.twin.state ≠ .solo → s.twin.split = false → 4 ≤ s.twin.dry[1] → s.twin.dry[0] < 4 →
    exec (.twinLink 1 tm) s = .next (((s.adv tm).modTwin fun t => { t with split := true, splitGood := 0 }).raise 0xB005 0 [])) ∧
  (∀ (tm : Nat) (s : State), s.twin.split = true → 16 ≤ s.twin.splitGood →
    exec (.splitEnd tm) s = .next ((s.adv tm).modTwin fun t => { t with split := false, splitGood := 0 })) ∧
  (∀ (tm : Nat) (s : State), s.twin.state = .standby → s.frame.ticking = true → s.frame.tick + 1500 ≤ max s.nt tm →
    s.upLinks ≠ [] → s.twin.resigned = true →
    ∃ t, exec (.takeover tm) s = .next t ∧ t.twin.state = .active ∧ t.twin.failovers = count32 s.twin.failovers ∧
      t.trk.out = [] ∧ t.flt = s.flt) ∧
  (∀ (tm : Nat) (s : State), s.twin.state = .standby → s.upLinks = [] → exec (.takeover tm) s = .next (s.adv tm)) ∧
  (∀ (tm t0 : Nat) (s : State), s.twin.state = .syncing → s.pwr.strapPos = 0 → s.twin.startFrom = some t0 →
    t0 + ms (s.pN Pid.twinStartWait) ≤ max s.nt tm →
    exec (.twinStartWait tm) s = .next (s.adv tm).becomeActive) ∧
  (∀ (tm t0 : Nat) (s : State), s.twin.state = .syncing → s.pwr.strapPos = 1 → s.twin.startFrom = some t0 →
    t0 + ms (s.pN Pid.twinStartWait) ≤ max s.nt tm → s.faultOn 0xB009 0 = false →
    exec (.twinStartWait tm) s = .next ((s.adv tm).raise 0xB009 0 [])) ∧
  (∀ (tm : Nat) (s : State), s.twin.state = .syncing → s.twin.bulkDone = true → 32 ≤ s.twin.commitRun →
    s.twin.pairOk = true → exec (.pairSynced tm) s = .next ((s.adv tm).twinTo .standby)) ∧
  (∀ (d : TwinState) (s : State), (s.twinTo d).twin = { s.twin with state := d } ∧ (s.twinTo d).axes = s.axes) ∧
  (∀ (tm : Nat) (s : State), s.twin.state = .standby → s.pN Pid.twinStaleMax ≤ s.twin.noCommit →
    exec (.imageStale tm) s = .next (((s.adv tm).twinTo .isolated).raise 0xB007 0 [])) ∧
  (∀ (tm : Nat) (s : State), s.twin.state = .standby → 4 ≤ s.twin.splitLease → s.faultOn 0xB004 0 = false →
    exec (.leaseSplit tm) s = .next ((s.adv tm).raise 0xB004 0 [])) ∧
  (∀ (tm : Nat) (s : State), s.twin.state = .standby → 4 ≤ s.twin.trkDiff → s.faultOn 0xB008 0 = false →
    exec (.trkDiverged tm) s = .next ((s.adv tm).raise 0xB008 0 [])) ∧
  (∀ (tm : Nat) (s : State), s.twin.state = .standby → s.frame.ticking = true → s.frame.tick + 1500 ≤ max s.nt tm →
    s.upLinks ≠ [] → s.twin.resigned = false → (s.upLinks.all (s.adv tm).leaseGone) = true →
    ∃ u : State, exec (.takeover tm) s = .next ((u.raise 0xB001 0 []).event 0xB082 0
        ((u.raise 0xB001 0 []).fc + (u.raise 0xB001 0 []).twin.epoch * 2 ^ 32)) ∧
      u.twin.state = .active ∧ u.twin.failovers = count32 s.twin.failovers ∧ u.trk.out = [] ∧ u.flt = s.flt)

/-! Safety channels, power, the Percolator, ageing and security events. -/

/-- R402 to R404, R416, R417: the channels sample their pairs, exchange their words, adopt the other's stricter states, and a
discrepancy, a lost or disagreeing cross-check and a failed self-test raise their faults; the last three enter SAFE. -/
def Obligations.SafetyInputsAndCrossCheck : Prop :=
  (∀ (ch : Fin 2) (sp sn : BitVec 8) (tm : Nat) (u s : State), s.chanOn ch = true → s.pwr.supply.getLsbD 5 = true →
    u = ((s.adv tm).modChan ch fun c => { c with
      pairs := Vector.ofFn fun n : Fin 8 => (c.pairs[n]).sample (sp.getLsbD n.val) (sn.getLsbD n.val)
        (us (s.safV ch (Pid.safSiFilter n.val))) (max s.nt tm) }) →
    ch = 1 ∨ bit ((u.safEval ch).safV 0 Pid.safResetSrc) 1 = false →
    exec (.safetyInputSample ch sp sn tm) s = .next (u.safEval ch)) ∧
  (∀ (ch : Fin 2) (sp sn : BitVec 8) (tm : Nat) (s : State), s.chanOn ch = false ∨ s.pwr.supply.getLsbD 5 = false →
    exec (.safetyInputSample ch sp sn tm) s = .next (s.adv tm)) ∧
  (∀ (n : Fin 8) (t0 tm : Nat) (s : State), s.safOn = true → s.saf.chan[0].pairs[n].disc = false →
    s.saf.chan[0].pairs[n].sameFrom = some t0 → t0 + ms (s.safV 0 (Pid.safSiDisc n.val)) < max s.nt tm →
    ∃ u : State, exec (.discrepancy n tm) s =
        .next (u.safFault 0x7001 n.val 0 (grpsOf (u.safV 0 (Pid.safSiGroups n.val)))).safDone ∧
      (∀ ch : Fin 2, u.saf.chan[ch].pairs[n].disc = true ∧ u.saf.chan[ch].groups = s.saf.chan[ch].groups) ∧
      u.flt = s.flt ∧ u.axes = s.axes) ∧
  (∀ (ch : Fin 2) (tm : Nat) (s : State), s.chanOn ch = true →
    exec (.crossCheckSend ch tm) s = .next ((s.adv tm).emit (.xchk ch.val
      (d32 s.saf.chan[ch].pairMask.toNat ++ d32 s.saf.chan[ch].tel.seq ++ d32 s.saf.chan[ch].tel.sto.toNat ++
       d32 s.saf.chan[ch].tel.ss1.toNat ++ d32 s.saf.chan[ch].tel.sls.toNat ++ d32 s.saf.chan[ch].tel.sdi.toNat ++
       d32 (s.saf.chan[ch].grpMask .sto + s.saf.chan[ch].grpMask .ss1 * 65536) ++ d32 (b2n s.saf.chan[ch].degraded) ++
       d32 s.saf.chan[ch].crc)))) ∧
  (∀ (ch : Fin 2) (tm : Nat) (s : State), s.chanOn ch = true →
    ∃ u : State, exec (.crossCheckReceive ch true tm) s = .next (u.adopt ch).safDone ∧ u.saf.chan[ch].rxAt = max s.nt tm ∧
      u.saf.chan[ch].groups = s.saf.chan[ch].groups ∧ (ch = 0 → u.saf.armed = true) ∧ u.axes = s.axes ∧ u.flt = s.flt) ∧
  (∀ (ch : Fin 2) (tm : Nat) (s : State), exec (.crossCheckReceive ch false tm) s = .next (s.adv tm)) ∧
  (∀ (ch : Fin 2) (tm : Nat) (s : State), s.safOn = true → s.saf.armed = true → s.pwr.state ≠ .safe →
    s.saf.chan[ch].rxAt + ms 1 ≤ max s.nt tm →
    exec (.xchkLost ch tm) s = .next (((s.adv tm).safFault 0x700A 0 0 allGroups).enterSafe).safDone) ∧
  (∀ (ch : Fin 2) (tm t0 : Nat) (s : State), s.safOn = true → s.pwr.state ≠ .safe →
    s.saf.chan[ch].diffFrom = some t0 → t0 + ms (s.safV ch Pid.safXchkT) < max s.nt tm →
    exec (.channelDisagree tm) s = .next (((s.adv tm).safFault 0x7009 0 0 allGroups).enterSafe).safDone) ∧
  (∀ (ch : Fin 2) (tm : Nat) (s : State), s.safOn = true → s.pwr.state ≠ .safe →
    exec (.selftest ch tm) s = .next (((s.adv tm).safFault 0x7010 0 0 allGroups ch.val).enterSafe).safDone) ∧
  (∀ s : State, s.pwr.state ≠ .safe → ∃ t, s.enterSafe = t ∧ t.pwr.state = .safe ∧
    (∀ ch : Fin 2, ∀ g : Fin 16, (t.saf.chan[ch].groups[g]).state = .sto) ∧ ∀ a : Fin 128, t.axes[a].state = .sto) ∧
  (∀ (sp sn : BitVec 8) (tm : Nat) (u s : State), s.chanOn 0 = true → s.pwr.supply.getLsbD 5 = true →
    u = ((s.adv tm).modChan 0 fun c => { c with
      pairs := Vector.ofFn fun n : Fin 8 => (c.pairs[n]).sample (sp.getLsbD n.val) (sn.getLsbD n.val)
        (us (s.safV 0 (Pid.safSiFilter n.val))) (max s.nt tm) }) →
    bit ((u.safEval 0).safV 0 Pid.safResetSrc) 1 = true →
    exec (.safetyInputSample 0 sp sn tm) s = .next ((u.safEval 0).each ((List.range 8).filter fun n =>
        decide (u.safV 0 (Pid.safSiFunc n) = 4) && resetPulse s.saf.chan[0].pairs[fin 8 (by decide) n]
          u.saf.chan[0].pairs[fin 8 (by decide) n] (max s.nt tm))
      fun t n => (t.safReset (grpsOf (t.safV 0 (Pid.safSiGroups n))) 1 0 0).2).safDone)

/-- R411 to R414: the SS1-t time ends in STO at its channel, the SLS check begins after SLS_RAMP, axis words are taken, and
three violating frames or two missed words raise their fault on the axis's group. -/
def Obligations.SafetyStopsAndLimits : Prop :=
  (∀ (ch : Fin 2) (g : Fin 16) (tm : Nat) (s : State), s.chanOn ch = true → (s.saf.chan[ch].groups[g]).state = .ss1 →
    (s.saf.chan[ch].groups[g]).ends ≤ max s.nt tm →
    exec (.ss1Expiry ch g tm) s =
      .next ((s.adv tm).stoAt ch g (s.saf.chan[ch].groups[g]).demandOnly).safDone) ∧
  (∀ (ch : Fin 2) (g : Fin 16) (tm : Nat) (s : State), max s.nt tm < (s.saf.chan[ch].groups[g]).ends →
    exec (.ss1Expiry ch g tm) s = .next (s.adv tm)) ∧
  (∀ (ch : Fin 2) (g : Fin 16) (d : Bool) (s : State), ((s.stoAt ch g d).saf.chan[ch].groups[g]).state = .sto ∧
    ∀ h : Fin 16, h ≠ g → (s.stoAt ch g d).saf.chan[ch].groups[h] = s.saf.chan[ch].groups[h]) ∧
  (∀ (ch : Fin 2) (g : Fin 16) (t0 tm : Nat) (s : State), s.chanOn ch = true →
    (s.saf.chan[ch].groups[g]).slsFrom = some t0 → t0 + ms (s.safV ch (Pid.safGSlsRamp g.val)) ≤ max s.nt tm →
    exec (.slsRampEnd ch g tm) s = .next ((s.adv tm).modGrp ch g fun y => { y with slsOn := true })) ∧
  (∀ (ch : Fin 2) (a : Fin 128) (w : Dword) (tm : Nat) (s : State), s.chanOn ch = true →
    exec (.axisWordReceive ch a w tm) s = .next ((s.adv tm).axisWordAt ch a w.toNat)) ∧
  (∀ (a : Fin 128) (ch : Fin 2) (tm : Nat) (s : State), s.safOn = true → 2 ≤ (s.saf.chan[ch].axes[a]).missRun →
    s.saf.chan[ch].degraded = true →
    exec (.axisWord a tm) s = .next ((s.adv tm).axisFault a 0x700E 0)) ∧
  (∀ (a : Fin 128) (ch : Fin 2) (tm : Nat) (s : State), s.safOn = true → 3 ≤ (s.saf.chan[ch].axes[a]).slsRun →
    exec (.slsViolation a tm) s = .next ((s.adv tm).axisFault a 0x700C (s.violAct a))) ∧
  (∀ (a : Fin 128) (ch : Fin 2) (tm : Nat) (s : State), s.safOn = true → 3 ≤ (s.saf.chan[ch].axes[a]).sdiRun →
    exec (.sdiViolation a tm) s = .next ((s.adv tm).axisFault a 0x700D (s.violAct a))) ∧
  (∀ (a : Fin 128) (ch : Fin 2) (tm : Nat) (s : State), s.safOn = true → 2 ≤ (s.saf.chan[ch].axes[a]).missRun →
    (s.slsLimit ch a).isSome = true ∨ s.sdiDir ch a ≠ 0 →
    exec (.axisWord a tm) s = .next ((s.adv tm).axisFault a 0x700E 0)) ∧
  (∀ (a : Fin 128) (ch : Fin 2) (tm : Nat) (s : State), s.safOn = true → (s.saf.chan[ch].axes[a]).got = true →
    s.frame.ticking = true → s.axOn (clusterOf a) = true → s.frame.tick + 10000 ≤ max s.nt tm →
    (s.saf.chan[ch].axes[a]).wordAt + s.tf < s.frame.tick → s.saf.chan[ch].degraded = true →
    exec (.axisWord a tm) s = .next ((s.adv tm).axisFault a 0x700E 0))

/-- R418 to R421: a telegram that neither channel knows is counted by both; a new one is taken by both channels and answered by
a report; a copy that does not come within SKEW is missed; one network alone for ONE_NET_T raises 0x7004 and enters
degraded mode; without a new telegram for TIMEOUT the connection closes with 0x7002. -/
def Obligations.SafetyTelegrams : Prop :=
  (∀ (tm : Nat) (f : RxFrame) (c : Crepra) (v u s : State), (s.adv tm).takeRx ((s.adv tm).isCrepra 4) = some (f, u) →
    c = crepraOf (ethHead f.bytes).body → u.tagOk c = false → v = u.authErr f.port c → v.safOn = true →
    v.telContent 0 c.payload false = none → v.telContent 1 c.payload false = none → v.pwr.supply.getLsbD 4 = true →
    ∃ t, exec (.safeTelegramCopy tm) s = .next t ∧
      (∀ ch : Fin 2, t.saf.chan[ch] = { v.saf.chan[ch] with discards := v.saf.chan[ch].discards + 1 }) ∧
      t.axes = v.axes ∧ t.flt = v.flt) ∧
  (∀ (tm : Nat) (tel : TelSt) (f : RxFrame) (c : Crepra) (v w x u s : State),
    (s.adv tm).takeRx ((s.adv tm).isCrepra 4) = some (f, u) → c = crepraOf (ethHead f.bytes).body → u.tagOk c = true →
    v = u.copySeen c.src (netOf f.port) → v.safOn = true → v.telContent 0 c.payload true = some tel →
    v.telWhat 0 tel.seq = .new →
    v.telCopies (netOf f.port) (v.telFull c.payload true) c.payload = (w, false) →
    w.telTake 0 c.payload true = (x, true) → x.pwr.supply.getLsbD 4 = true →
    exec (.safeTelegramCopy tm) s =
      .next (((x.telTake 1 c.payload true).1.telEdge v.saf.chan[0]).telReport c.src)) ∧
  (∀ (tm : Nat) (s : State), (∀ x ∈ s.saf.copies, max s.nt tm < x.tm + ms (s.safV 0 Pid.safTelSkew)) →
    exec (.telSkew tm) s = .next (s.adv tm)) ∧
  (∀ (tm : Nat) (x : TelCopies) (s : State), s.saf.copies = [x] → x.netA = true → x.netB = false → x.judged = false →
    x.tm + ms (s.safV 0 Pid.safTelSkew) ≤ max s.nt tm → s.saf.missFrom = Vector.replicate 2 none →
    ∃ t, exec (.telSkew tm) s = .next t ∧ t.saf.copies = [{ x with judged := true }] ∧ t.saf.missFrom[0] = none ∧
      t.saf.missFrom[1] = some x.tm ∧ t.saf.chan = s.saf.chan ∧ t.flt = s.flt) ∧
  (∀ (net : Fin 2) (t0 tm : Nat) (s : State), s.safOn = true → s.saf.missFrom[net] = some t0 → s.saf.lost[net] = false →
    t0 + ms (s.safV 0 Pid.safTelOneNetT) ≤ max s.nt tm →
    exec (.telOneNet net tm) s = .next (((s.adv tm).modSaf fun k =>
      { k with lost := k.lost.set net true }).safFault 0x7004 0 2 []).enterDegraded.safDone) ∧
  (∀ (tm : Nat) (s : State), s.safOn = true → s.safV 0 Pid.safTelUse = 1 → s.saf.chan[0].telOk = true →
    s.saf.chan[0].telAt + ms (s.safV 0 Pid.safTelTimeout) ≤ max s.nt tm →
    ∃ u : State, exec (.telTimeout tm) s = .next (u.safFault 0x7002 0 (u.safV 0 Pid.safTelLossAct) allGroups).safDone ∧
      u.saf.chan[0].telOk = false ∧ u.saf.chan[0].telOpen = false ∧ u.saf.copies = [] ∧ u.flt = s.flt ∧ u.axes = s.axes) ∧
  (∀ (tm : Nat) (s : State), ∃ t, exec (.telSkew tm) s = .next t ∧
    t.saf.copies = s.saf.copies.map (fun x => { x with judged := x.judged ||
      (!x.judged && decide (x.tm + ms (s.safV 0 Pid.safTelSkew) ≤ max s.nt tm)) }) ∧
    t = { s with nt := max s.nt tm, saf := { s.saf with copies := t.saf.copies, missFrom := t.saf.missFrom } })

/-- R422 to R424, R426, R428: the tests of a safety output, the temperature monitor of the Benrik die, the end and the expiry of
degraded mode, and the ends of a login and a lockout. -/
def Obligations.SafetyOutputsDegradedLogins : Prop :=
  (∀ (n : Fin 2) (tm : Nat) (s : State), s.chanOn 1 = true → s.saf.so[n].nextL ≤ max s.nt tm → s.saf.so[n].failP = true →
    ∃ u : State, exec (.soTest n 1 false false tm) s =
        .next (u.safFault 0x7006 n.val 0 (grpsOf (u.safV 0 (Pid.safSoMask n.val)))).safDone ∧ u.saf.so[n].fail = true ∧
      u.saf.so[n].failL = true ∧ u.saf.chan = s.saf.chan ∧ u.flt = s.flt) ∧
  (∀ (n : Fin 2) (tm : Nat) (s : State), s.safOn = true → s.saf.so[n].nextP ≤ max s.nt tm →
    s.saf.so[n].failL = false →
    ∃ u : State, exec (.soTest n 0 false false tm) s = .next ((u.safFault 0x7005 n.val 2 []).enterDegraded).safDone ∧
      u.saf.so[n].failP = true ∧ u.saf.so[n].fail = false ∧ u.saf.so[n].nextP = max s.nt tm + ms 100 ∧ u.flt = s.flt) ∧
  (∀ (n : Fin 2) (tm : Nat) (s : State), s.safOn = true → s.saf.so[n].nextP ≤ max s.nt tm →
    s.saf.so[n].failL = false →
    ∃ u : State, exec (.soTest n 0 true false tm) s = .next u.safDone ∧ u.saf.so[n].failP = false ∧
      u.saf.so[n].fail = false ∧ u.saf.so[n].nextP = max s.nt tm + ms (s.safV 0 (Pid.safSoTestT n.val)) ∧ u.flt = s.flt) ∧
  (∀ (x : Int) (tm : Nat) (s : State), s.chanOn 1 = true → s.pwr.state ≠ .safe →
    1400 < x ∨ x < -500 →
    exec (.lTemp x true tm) s = .next ((((s.adv tm).modSaf fun k =>
      { k with lTemp := x, lWarn := true }).safFault 0x7008 0 0 allGroups).enterSafe).safDone) ∧
  (∀ (x : Int) (tm : Nat) (s : State), s.chanOn 1 = true → s.pwr.state ≠ .safe →
    1250 < x → x ≤ 1400 →
    exec (.lTemp x true tm) s = .next ((((s.adv tm).modSaf fun k =>
      { k with lTemp := x, lWarn := true }).safFault 0x7007 0 2 []).enterDegraded).safDone) ∧
  (∀ (x : Int) (tm : Nat) (s : State), s.chanOn 1 = true → s.pwr.state ≠ .safe →
    -350 ≤ x → x ≤ 1200 →
    exec (.lTemp x true tm) s = .next ((s.adv tm).modSaf fun k => { k with lTemp := x, lWarn := false }).safDone) ∧
  (∀ (t0 tm : Nat) (s : State), s.saf.clearFrom = some t0 → s.safOn = true → s.saf.chan[0].degraded = true →
    s.degCause = false → t0 + secs 5 ≤ max s.nt tm →
    exec (.degradedExit tm) s = .next ((((s.adv tm).leaveDegraded.event 0x7082 0
      ((s.safV 0 Pid.safDegradedTmax - (s.adv tm).degUsedNow 0 / 1000000000) * 65536)).safLog 0x08 stOk 0 0 0 0)).safDone) ∧
  (∀ (tm : Nat) (s : State), s.safOn = true → s.saf.chan[0].degraded = true →
    secs (s.safV 0 Pid.safDegradedTmax) ≤ (s.adv tm).degUsedNow 0 →
    exec (.degradedExpired tm) s = .next (((((s.adv tm).leaveDegraded.modSaf fun k =>
      { k with expired := true }).safFault 0x700F 0 1 allGroups).safLog 0x09 stOk 0 0 0 0)).safDone) ∧
  (∀ (t0 tm : Nat) (s : State), s.saf.exitAt = some t0 → s.saf.chan[0].degraded = false → t0 + secs 3600 ≤ max s.nt tm →
    ∃ t, exec (.degradedTimerReset tm) s = .next t ∧ t = { s with nt := max s.nt tm, saf := t.saf } ∧
      t.saf.exitAt = none ∧ ∀ ch : Fin 2, t.saf.chan[ch] = { s.saf.chan[ch] with degUsed := 0 }) ∧
  (∀ (sid t0 tm : Nat) (w : Bool) (s : State), s.saf.login = some (sid, t0, w) → t0 + secs 600 ≤ max s.nt tm →
    exec (.loginIdleEnd tm) s = .next ((s.adv tm).modSaf fun k => { k with login := none })) ∧
  (∀ (u tm : Nat) (s : State), s.saf.lockedUntil = some u → u ≤ max s.nt tm →
    exec (.loginLockoutEnd tm) s = .next ((s.adv tm).modSaf fun k => { k with lockedUntil := none })) ∧
  (∀ (u tm : Nat) (s : State), s.saf.lockedUntil = some u → max s.nt tm < u →
    exec (.loginLockoutEnd tm) s = .next (s.adv tm)) ∧
  (∀ (x : Int) (mon : Bool) (tm : Nat) (s : State), s.chanOn 1 = true → s.pwr.state ≠ .safe →
    mon = false → exec (.lTemp x mon tm) s = .next ((((s.adv tm).modSaf fun k => { k with lTemp := x, lWarn :=
      if 1250 < x ∨ x < -400 then true else if -350 ≤ x ∧ x ≤ 1200 then false else s.saf.lWarn }).safFault
        0x7008 0 0 allGroups).enterSafe).safDone) ∧
  (∀ (x : Int) (tm : Nat) (s : State), s.chanOn 1 = true → s.pwr.state ≠ .safe → -500 ≤ x → x < -400 →
    exec (.lTemp x true tm) s = .next ((((s.adv tm).modSaf fun k =>
      { k with lTemp := x, lWarn := true }).safFault 0x7007 0 2 []).enterDegraded).safDone) ∧
  (∀ (x : Int) (tm : Nat) (s : State), s.chanOn 1 = true → s.pwr.state ≠ .safe →
    (-400 ≤ x ∧ x < -350) ∨ (1200 < x ∧ x ≤ 1250) →
    exec (.lTemp x true tm) s = .next ((s.adv tm).modSaf fun k => { k with lTemp := x }).safDone) ∧
  (∀ (n ch : Fin 2) (ok : Bool) (tm : Nat) (s : State), s.chanOn ch = true →
    max s.nt tm < (if ch = 0 then s.saf.so[n].nextP else s.saf.so[n].nextL) →
    exec (.soTest n ch ok false tm) s = .next (s.adv tm))

/-- R406, R449, R452, R454, R455, R471: supplies, nRESET and the clock reset the device; the release of nRESET_OUT samples the
straps and switches the first domains on; PWR.RESET resets 1 ms after its answer. -/
def Obligations.ResetsAndSupplies : Prop :=
  (∀ (i : Fin 16) (tm : Nat) (s : State), ∃ t, exec (.supplyValid i tm) s = .next t ∧
    t = { s with nt := max s.nt tm, pwr := t.pwr } ∧ t.pwr.supply = s.pwr.supply ||| (1#16 <<< i.val) ∧
    t.pwr.state = s.pwr.state ∧ t.pwr.domains = s.pwr.domains) ∧
  (∀ (tm : Nat) (s : State), s.pwr.supply.getLsbD 0 = true →
    exec (.supplyInvalid 0 tm) s = .next (State.powerOn ((s.adv tm).modPwr fun p => { p with supply := p.supply &&& ~~~1 }))) ∧
  (∀ (i : Fin 16) (tm : Nat) (s : State), 1 ≤ i.val → i.val ≤ 3 → s.pwr.supply.getLsbD i.val = true →
    exec (.supplyInvalid i tm) s = .next (State.deviceReset ((s.adv tm).modPwr fun p =>
      { p with supply := p.supply &&& ~~~(1#16 <<< i.val) }) 2 i.val)) ∧
  (∀ (tm : Nat) (s : State), s.pwr.supply.getLsbD 4 = true →
    exec (.supplyInvalid 4 tm) s = .next (State.vsafLost ((s.adv tm).modPwr fun p =>
      { p with supply := p.supply &&& ~~~(1#16 <<< 4) }))) ∧
  (∀ (i : Fin 16) (tm : Nat) (s : State), s.pwr.supply.getLsbD i.val = false →
    ∃ t, exec (.supplyInvalid i tm) s = .next t ∧ t.pwr.state = s.pwr.state ∧ t.axes = s.axes ∧ t.par = s.par) ∧
  (∀ (tm : Nat) (s : State), exec (.nresetAssert tm) s = .next (State.deviceReset ((s.adv tm).modPwr fun p =>
    { p with nReset := false }) 1 0)) ∧
  (∀ (tm : Nat) (s : State), s.pwr.nReset = false →
    exec (.nresetRelease tm) s = .next ((s.adv tm).modPwr fun p => { p with nReset := true, resetAt := max s.nt tm })) ∧
  (∀ (tm : Nat) (s : State), exec (.clockMissing tm) s = .next ((s.adv tm).deviceReset 4 0)) ∧
  (∀ (cause detail : Nat) (s : State), (s.deviceReset cause detail).pwr.state = .reset ∧
    (s.deviceReset cause detail).par.store = [] ∧ (s.deviceReset cause detail).par.flash = s.par.flash ∧
    (s.deviceReset cause detail).host.irqEnable = 0 ∧ (s.deviceReset cause detail).mbx = State.reset.mbx ∧
    (s.deviceReset cause detail).frame.ticking = false ∧ (s.deviceReset cause detail).pi = State.reset.pi ∧
    (s.deviceReset cause detail).nt = s.nt ∧ (s.deviceReset cause detail).pwr.flashReset = false ∧
    ∀ a : Fin 128, (s.deviceReset cause detail).axes[a].state = State.reset.axes[a].state) ∧
  (∀ (pos claim : Bool) (tm : Nat) (s : State), s.pwr.state = .reset → s.pwr.reqOk = true → s.pwr.nReset = true →
    s.pwr.resetOut = false → s.pwr.origin + us 500 ≤ max s.nt tm → s.pwr.domains = 0 →
    ∃ t, exec (.resetOutRelease pos claim tm) s = .next t ∧ t.pwr.resetOut = true ∧ t.pwr.strapPos = b2n pos ∧
      t.pwr.strapClaim = claim ∧ t.pwr.domains = 0x4D00 ∧ t.pwr.state = .reset ∧ t.axes = s.axes) ∧
  (∀ (t0 tm : Nat) (s : State), s.pwr.callReset = some t0 → t0 + ms 1 ≤ max s.nt tm →
    exec (.callReset tm) s = .next ((s.adv tm).deviceReset 3 0)) ∧
  (∀ (i : Fin 16) (tm : Nat) (s : State), 6 ≤ i.val → s.pwr.supply.getLsbD i.val = true →
    s.pwr.bankReq.getLsbD (i.val - 6) = true →
    exec (.supplyInvalid i tm) s = .next (State.deviceReset ((s.adv tm).modPwr fun p =>
      { p with supply := p.supply &&& ~~~(1#16 <<< i.val) }) 2 (4 + (i.val - 6)))) ∧
  (∀ (i : Fin 16) (tm : Nat) (s : State), 6 ≤ i.val → s.pwr.supply.getLsbD i.val = true →
    s.pwr.bankReq.getLsbD (i.val - 6) = false →
    exec (.supplyInvalid i tm) s = .next ((s.adv tm).modPwr fun p => { p with supply := p.supply &&& ~~~(1#16 <<< i.val) })) ∧
  (∀ (tm : Nat) (s : State), s.pwr.supply.getLsbD 5 = true →
    exec (.supplyInvalid 5 tm) s = .next (State.visoLost ((s.adv tm).modPwr fun p =>
      { p with supply := p.supply &&& ~~~(1#16 <<< 5) })))

/-- R355, R455 to R460, R478, R479: the switches forward, the ROM verifies a slot, a bad page resets the device, ristretto service
begins with the ticks, parameters come back, full service begins in OPERATE or CONFIG, and a domain becomes usable after its
switch-on time. -/
def Obligations.BringUpSteps : Prop :=
  (∀ (tm : Nat) (s : State), s.pwr.state = .reset → s.pwr.resetOut = true → s.domainOn 10 = true → s.domainOn 11 = true →
    s.pwr.origin + ms 2 ≤ max s.nt tm →
    exec (.forwardingStart tm) s = .next (State.setDev (s.adv tm).forwardOn .boot)) ∧
  (∀ (tm : Nat) (s : State), s.pwr.state ≠ .reset → s.pwr.forwarding = false → s.domainOn 10 = true →
    s.domainOn 11 = true → s.pwr.deep.forwardDue (max s.nt tm) = true →
    exec (.forwardingStart tm) s = .next (s.adv tm).forwardOn) ∧
  (∀ (tm : Nat) (s : State), s.pwr.state = .boot → s.pwr.verified = false → s.domainOn 8 = true → s.domainOn 14 = true →
    exec (.bootVerify tm) s = .next (((s.adv tm).modSec SecSt.select).modPwr fun p =>
      { p with verified := s.sec.select.bootable })) ∧
  (∀ (tm : Nat) (s : State), s.pwr.state = .boot → s.pwr.verified = true →
    exec (.pageCheckFail tm) s = .next (State.deviceReset ((s.adv tm).modSec fun k => { k with
      dirSeq := k.dirSeq + 1, slots := k.slots.set (fin 2 (by decide) k.running)
        { k.slots[fin 2 (by decide) k.running] with bad := true } }) 3 0)) ∧
  (∀ (tm : Nat) (s : State), s.pwr.state = .boot → s.pwr.verified = true → s.pwr.origin + ms 30 ≤ max s.nt tm →
    s.sec.fallback = false → s.sec.rollback = false →
    ∃ t, exec (.ristretto tm) s = .next t ∧ t.pwr.state = .ristretto ∧ t.frame.ticking = true ∧
      t.pwr.ristrettoT = (max s.nt tm - s.pwr.origin) / 1000 ∧ t.frame.tick = max s.nt tm / s.tf * s.tf ∧ t.flt = s.flt ∧
      (∀ i ∈ [9, 12, 13, 15, 0, 1, 2, 3, 4, 5, 6, 7], t.pwr.domains.getLsbD i = true)) ∧
  (∀ (tm : Nat) (s : State), s.pwr.state = .ristretto → s.par.restored = false →
    exec (.paramRestore tm) s = .next (s.adv tm).restoreFlash.safBoot) ∧
  (∀ (tm : Nat) (s : State), s.pwr.state = .ristretto → s.par.restored = true → s.ib = false ∨ s.saf.armed = true →
    (s.adv tm).linksTried = true →
    ∃ t, exec (.fullService tm) s = .next t ∧ t.axes = s.axes ∧ t.par = s.par ∧
      t.pwr = { s.pwr with
        fullT := (max s.nt tm - s.pwr.origin) / 1000,
        state := if s.pN Pid.pwrStartState = 1 ∧ s.par.restoreBad = false then .operate else .config } ∧
      t.host.irqStatus.getLsbD 20 = true) ∧
  (∀ (tm t0 : Nat) (i : Fin 16) (s : State), 8 ≤ i.val → (i.val, t0) ∈ s.pwr.switching →
    t0 + switchTime i.val ≤ max s.nt tm →
    exec (.domainReady i tm) s = .next ((s.adv tm).modPwr fun p =>
      { p with switching := p.switching.filter fun x => x.1 != i.val })) ∧
  (∀ (tm t0 : Nat) (c : Fin 8) (s : State), (c.val, t0) ∈ s.pwr.switching → t0 + switchTime c.val ≤ max s.nt tm →
    ∃ t1 : Nat, (c.val, t1) ∈ s.pwr.switching ∧ t1 + switchTime c.val ≤ max s.nt tm ∧
      exec (.domainReady ⟨c.val, by omega⟩ tm) s = .next (State.axReady ((s.adv tm).modPwr fun p =>
        { p with switching := p.switching.filter fun x => x.1 != c.val }) c t1)) ∧
  (∀ (tm : Nat) (s : State), s.pwr.state = .boot → s.pwr.verified = true → s.pwr.origin + ms 30 ≤ max s.nt tm →
    ∃ u v w : State, exec (.ristretto tm) s = .next (if w.sec.rollback then w.raise 0x8002 0 [] else w) ∧
      u = ((s.adv tm).restoreClasses (fun c => c == 0x30 || c == 0x31)).fwdOkSet ∧
      v = State.each ((u.modPwr fun p => { p with ristrettoT := (u.nt - p.origin) / 1000 }).startTicks.setDev .ristretto)
        ([9, 12, 13, 15] ++ List.range 8) State.domOn ∧
      w = if v.sec.fallback then v.raise 0x8001 0 [] else v) ∧
  (∀ (s : State), s.forwardOn.pwr.fwdOkA = s.netOpen 0 ∧ s.forwardOn.pwr.fwdOkB = s.netOpen 1 ∧
    s.forwardOn = { s with pwr := { s.pwr with
      forwarding := true, fwdOkA := s.netOpen 0, fwdOkB := s.netOpen 1 } })

/-- R103, R356, R462 to R465: a cluster goes to sleep in its three steps, deep sleep is entered when it is due and left 8 ms
after its wake, the networks' domains go off BYPASS_LEAD after FWD_OK, and beacons show the levels of dozing stages. -/
def Obligations.SleepSteps : Prop :=
  (∀ (c : Fin 8) (t0 tm : Nat) (s : State), s.pwr.offFrom[c] = some t0 → s.fwRuns = true →
    s.pN (Pid.pwrCAutoSleep c.val) = 1 → s.pwr.doze[c] = .awake → s.axOn c = true → (s.adv tm).canSleep c = true →
    s.drives = true → t0 + secs (s.pN (Pid.pwrCIdleT c.val)) ≤ max s.nt tm →
    exec (.autoSleep c tm) s = .next (((s.adv tm).setDoze c .requested).varItem 8 [2 ^ c.val, 0])) ∧
  (∀ (c : Fin 8) (t0 tm : Nat) (s : State), s.pwr.doze[c] = .dozeSent t0 → t0 + 2 * s.tf ≤ max s.nt tm →
    exec (.dozeTrafficStop c tm) s = .next (State.setDoze ((s.adv tm).each (clusterLinks c) fun u l =>
      u.modLink l fun x => { x with trafficOff := true }) c (.trafficOff (max s.nt tm)))) ∧
  (∀ (c : Fin 8) (t0 tm : Nat) (s : State), s.pwr.doze[c] = .trafficOff t0 → t0 + us 100 ≤ max s.nt tm →
    exec (.axDomainOff c tm) s = .next ((((s.adv tm).axDomOff c).setDoze c .asleep).sleepEvent false false)) ∧
  (∀ (net : Bool) (tm : Nat) (s : State), (s.adv tm).deepDue = some net →
    exec (.deepSleepEntry tm) s = .next ((s.adv tm).deepEntry net)) ∧
  (∀ (tm : Nat) (s : State), (s.adv tm).deepDue = none → (s.adv tm).deepIdle = false →
    exec (.deepSleepEntry tm) s = .next (s.adv tm)) ∧
  (∀ (t0 cl tm : Nat) (was : DevState) (u s : State), s.pwr.deep = .waking t0 cl was → t0 + ms 8 ≤ max s.nt tm →
    s.domainOn 8 = true → s.pwr.retention = none →
    u = (((s.adv tm).each [9, 12, 13, 15] State.domOn).modPwr fun p =>
      { p with deep := .awake, retention := none, state := was, lastCmd := max s.nt tm }) →
    exec (.deepSleepExit tm) s = .next (u.startTicks.restoreFlash.each
      (allClusters.filter fun c => bit cl c.val) State.wakeCluster)) ∧
  (∀ (net : Fin 2) (t0 tm : Nat) (s : State), s.pwr.bypassFrom = some t0 →
    t0 + ms (s.aonN Pid.netBypassLead) ≤ max s.nt tm →
    ∃ t, exec (.bypassLeadEnd net tm) s = .next t ∧ t.pwr.domains.getLsbD (10 + net.val) = false ∧
      t.pwr.forwarding = false ∧ t.axes = s.axes ∧ t.par = s.par) ∧
  (∀ (l : Fin 32) (z : BitVec 8) (tm : Nat) (s : State), s.links[l].state = .doze →
    ∃ t, exec (.beacon l true z tm) s = .next t ∧ t.links[l].beaconAt = max s.nt tm ∧ t.pwr.zl[l] = z.toNat % 16 ∧
      t.pwr.zchg[l] = s.pwr.zchg[l] ||| z.toNat / 16 ∧ t.axes = s.axes) ∧
  (∀ (l : Fin 32) (z : BitVec 8) (tm : Nat) (s : State), exec (.beacon l false z tm) s = .next (s.adv tm)) ∧
  (∀ (l : Fin 32) (tm : Nat) (s : State), s.links[l].state = .doze → s.links[l].beaconLost = false →
    s.links[l].beaconAt + 5 * ms s.links[l].beaconMs ≤ max s.nt tm →
    exec (.beaconLost l tm) s = .next (((s.adv tm).modLink l fun x =>
      { x with beaconLost := true }).raise 0x200A l.val (linkAxes l))) ∧
  (∀ (tm t0 cl : Nat) (was : DevState) (l : List PEntry) (u s : State), s.pwr.deep = .waking t0 cl was →
    t0 + ms 8 ≤ max s.nt tm → s.domainOn 8 = true → s.pwr.retention = some l →
    u = (((s.adv tm).each [9, 12, 13, 15] State.domOn).modPwr fun p =>
      { p with deep := .awake, retention := none, state := was, lastCmd := ((s.adv tm).each [9, 12, 13, 15] State.domOn).nt }) →
    exec (.deepSleepExit tm) s = .next ((u.startTicks.restoreSet l).safWake.each (allClusters.filter fun c => bit cl c.val)
      State.wakeCluster))

/-- R467 to R470, R375: a sample of the Percolator with no rule at work fires nothing and takes the WAKE frames, which then count
as ignored; a timer rule fires at the end of its period with its clusters. -/
def Obligations.PercolatorRules : Prop :=
  (∀ (tm : Nat) (s : State), s.pwr.lastSample + us 100 ≤ max s.nt tm →
    (∀ r : Fin 32, s.ruleLevel s.pwr.ruleWord[r] = none ∧ rKind s.pwr.ruleWord[r] ≠ 4) →
    ∃ t, exec (.percolatorSample tm) s = .next t ∧ t = { s with nt := max s.nt tm, pwr := t.pwr } ∧
      t.pwr.wakeFrames = [] ∧ t.pwr.aonTrip = 0 ∧ t.pwr.lastSample = max s.nt tm ∧ t.pwr.wakeCause = s.pwr.wakeCause ∧
      t.pwr.domains = s.pwr.domains ∧ (s.pwr.wakeFrames = [] → t.pwr.wakeIgn = s.pwr.wakeIgn)) ∧
  (∀ (r : Fin 32) (tm : Nat) (s : State), rKind s.pwr.ruleWord[r] = 5 →
    (s.pwr.rules[r]).timerFrom + secs s.pwr.timerS[fin 4 (by decide) (rIdx s.pwr.ruleWord[r])] ≤ max s.nt tm →
    exec (.percTimer r tm) s = .next (State.fireRules ((s.adv tm).modPwr fun p => { p with
      rules := p.rules.set r { p.rules[r] with
        timerFrom := (s.pwr.rules[r]).timerFrom + secs s.pwr.timerS[fin 4 (by decide) (rIdx s.pwr.ruleWord[r])] } })
      [(r, rClusters s.pwr.ruleWord[r], rFw s.pwr.ruleWord[r], 8)])) ∧
  (∀ (r : Fin 32) (tm : Nat) (s : State), rKind s.pwr.ruleWord[r] ≠ 5 → exec (.percTimer r tm) s = .next (s.adv tm)) ∧
  (∀ (r : Fin 32) (cl src : Nat) (fw : Bool) (s : State), rEvent s.pwr.ruleWord[r] = false →
    ∃ u : State, s.fireRules [(r, cl, fw, src)] = u.percWake cl fw ∧ u = { s with pwr := u.pwr } ∧
      u.pwr.wakeCause = r.val + 32 + src * 256 + cl * 65536 + b2n fw * 2 ^ 24) ∧
  (∀ (tm : Nat) (s : State), max s.nt tm < s.pwr.lastSample + us 100 → exec (.percolatorSample tm) s = .next (s.adv tm)) ∧
  (∀ (tm : Nat) (s : State), s.pwr.lastSample + us 100 ≤ max s.nt tm → ∃ (u : State) (l : List (Fin 32 × Nat × Bool × Nat)),
    exec (.percolatorSample tm) s = .next (u.fireRules l) ∧ u.pwr.wakeFrames = [] ∧ u.pwr.aonTrip = 0 ∧
      u.pwr.zchg = Vector.replicate 32 0 ∧ u.pwr.lastSample = max s.nt tm ∧ u = { s with nt := max s.nt tm, pwr := u.pwr })

/-- R498 to R502, R452: the AVS law, droops of the core supply, the eye of a link, the junction temperature and the daily save. -/
def Obligations.SupplyEyeAndTemperature : Prop :=
  (∀ (x : Int) (v tm : Nat) (s : State), s.fullService = true → s.pN Pid.ageAvsEnable ≠ 0 → s.pwr.state ≠ .service →
    s.age.vdd = v → x < (s.pN Pid.ageAvsSlackTgt : Int) → v < s.pN Pid.ageAvsVmax →
    ∃ t, exec (.avsUpdate x tm) s = .next t ∧ t.age.vdd = min (v + 5) (s.pN Pid.ageAvsVmax) ∧ t.age.slack = x ∧
      t.out = s.out ++ [.avs (min (v + 5) (s.pN Pid.ageAvsVmax))] ∧ t.flt = s.flt) ∧
  (∀ (x : Int) (v tm : Nat) (s : State), s.fullService = true → s.pN Pid.ageAvsEnable ≠ 0 → s.pwr.state ≠ .service →
    s.age.vdd = v → x < (s.pN Pid.ageAvsSlackTgt : Int) → v = s.pN Pid.ageAvsVmax →
    ∃ u : State, exec (.avsUpdate x tm) s = .next (u.raise 0x9002 0 []) ∧ u.age.vdd = v ∧ u.flt = s.flt) ∧
  (∀ (mv tm : Nat) (s : State), s.pN Pid.ageDroopMax < mv →
    3 ≤ (within (secs 1) (max s.nt tm) (max s.nt tm :: s.age.droopAt)).length →
    ∃ u : State, exec (.supplyDroop mv tm) s = .next (u.raise 0x0105 0 []) ∧ u.age.droopAt = [] ∧
      u.age.stagger = 2 * s.age.stagger ∧ u.flt = s.flt) ∧
  (∀ (mv tm : Nat) (s : State), mv ≤ s.pN Pid.ageDroopMax →
    exec (.supplyDroop mv tm) s = .next ((s.adv tm).margin 3 0 (mv : Rat))) ∧
  (∀ (l : Fin 32) (eye tm set : Nat) (viol : Bool) (s : State), s.links[l].state = .up → s.pN (Pid.lnkEq l.val) = set →
    set ≠ 255 → (viol = true ∨ s.links[l].eyeAt = none) →
    exec (.eyeTune l eye viol tm) s = .next ((((s.adv tm).modLink l fun y => { y with eyeAt := some (max s.nt tm) }).margin 4 l.val
      (eye : Rat)).modLink l fun y =>
      { y with eye := eye, eq := set, eyeLow := none, eqTrial := none })) ∧
  (∀ (l : Fin 32) (eye tm prev pe : Nat) (s : State), s.links[l].state = .up → s.pN (Pid.lnkEq l.val) = 255 →
    s.links[l].eqTrial = some (prev, pe) → eye < pe + 3 → (s.links[l].eyeAt.any fun t => decide (max s.nt tm < t + secs 1)) = false →
    exec (.eyeTune l eye false tm) s = .next ((((s.adv tm).modLink l fun y => { y with eyeAt := some (max s.nt tm) }).margin 4 l.val
      (eye : Rat)).modLink l fun y =>
      { y with eqTrial := none, eqTried := y.eq :: y.eqTried, eq := prev, eye := pe })) ∧
  (∀ (x : Int) (tm : Nat) (s : State), s.age.xtalN + 1 < 3600000 → s.pI 16 Pid.ageTjWarn * 10 < x → s.age.tjWarn = false →
    x ≤ 1250 →
    ∃ u : State, exec (.junctionSample x tm) s = .next (u.raise 0x0103 0 []) ∧ u.age.tj = x ∧ u.age.tjWarn = true ∧
      u.age.hist = histAdd s.age.hist x 1000000 ∧ u.flt = s.flt ∧ u.axes = s.axes) ∧
  (∀ (x : Int) (tm : Nat) (s : State), s.age.xtalN + 1 < 3600000 → x ≤ s.pI 16 Pid.ageTjWarn * 10 → x ≤ 1250 →
    ∃ t, exec (.junctionSample x tm) s = .next t ∧ t.age.tj = x ∧ t.age.tjWarn = false ∧ t.flt = s.flt ∧ t.axes = s.axes) ∧
  (∀ (tm : Nat) (s : State), s.age.flushAt + secs 86400 ≤ max s.nt tm →
    exec (.lifeFlush tm) s = .next ((s.adv tm).modAge fun k => { k with
      flushAt := max s.nt tm, flashHist := k.hist, flashAx := k.axes.map AgeAx.hist })) ∧
  (∀ (x : Int) (tm v : Nat) (s : State), s.fullService = true → s.pN Pid.ageAvsEnable ≠ 0 → s.pwr.state ≠ .service →
    s.age.vdd = v → (s.pN Pid.ageAvsSlackTgt : Int) + 20 < x → 750 < v → s.age.vddAt + ms 1000 ≤ max s.nt tm →
    ∃ t, exec (.avsUpdate x tm) s = .next t ∧ t.age.vdd = v - 5 ∧ t.age.slack = x ∧ t.out = s.out ++ [.avs (v - 5)] ∧
      t.flt = s.flt) ∧
  (∀ (x : Int) (tm v : Nat) (s : State), s.fullService = true → s.pN Pid.ageAvsEnable ≠ 0 → s.pwr.state ≠ .service →
    s.age.vdd = v → (s.pN Pid.ageAvsSlackTgt : Int) ≤ x →
    x ≤ (s.pN Pid.ageAvsSlackTgt : Int) + 20 ∨ v ≤ 750 ∨ max s.nt tm < s.age.vddAt + ms 1000 →
    ∃ t, exec (.avsUpdate x tm) s = .next t ∧ t.age.vdd = v ∧ t.age.slack = x ∧ t.out = s.out ++ [.avs v] ∧ t.flt = s.flt) ∧
  (∀ (mv tm : Nat) (s : State), s.pN Pid.ageDroopMax < mv →
    (within (secs 1) (max s.nt tm) (max s.nt tm :: s.age.droopAt)).length < 3 →
    ∃ t, exec (.supplyDroop mv tm) s = .next t ∧
      t.age.droopAt = within (secs 1) (max s.nt tm) (max s.nt tm :: s.age.droopAt) ∧ t.age.stagger = s.age.stagger ∧
      t.flt = s.flt) ∧
  (∀ (l : Fin 32) (eye : Nat) (viol : Bool) (tm prev pe : Nat) (s : State), s.links[l].state = .up →
    s.pN (Pid.lnkEq l.val) = 255 → s.links[l].eqTrial = some (prev, pe) → viol = false → pe + 3 ≤ eye →
    (s.links[l].eyeAt.any fun t => decide (max s.nt tm < t + secs 1)) = false →
    exec (.eyeTune l eye viol tm) s = .next (((((s.adv tm).modLink l fun y => { y with eyeAt := some (max s.nt tm) }).margin 4 l.val
      (eye : Rat)).modLink l fun y =>
      { y with eye := eye, eqTrial := none, eqTried := [prev],
               eyeLow := if eye < s.pN Pid.ageEyeMin then some (s.links[l].eyeLow.getD (max s.nt tm)) else none }).replanned 4 l.val)) ∧
  (∀ (l : Fin 32) (eye : Nat) (viol : Bool) (tm : Nat) (s : State), s.links[l].state = .up →
    s.pN (Pid.lnkEq l.val) = 255 → s.links[l].eqTrial = none → s.pN Pid.ageEyeMin ≤ eye →
    (s.links[l].eyeAt.any fun t => decide (max s.nt tm < t + secs 1)) = false →
    exec (.eyeTune l eye viol tm) s = .next ((((s.adv tm).modLink l fun y => { y with eyeAt := some (max s.nt tm) }).margin 4 l.val
      (eye : Rat)).modLink l fun y =>
      { y with eye := eye, eyeLow := none, eqTried := [] })) ∧
  (∀ (x : Int) (tm : Nat) (s : State), 1500 < x → s.age.xtalN + 1 < 3600000 → s.age.tjWarn = true →
    s.age.tjHot = none → s.age.tjVery = none →
    ∃ t, exec (.junctionSample x tm) s = .next t ∧ t.age.tj = x ∧ t.age.tjHot = some (max s.nt tm) ∧
      t.age.tjVery = some (max s.nt tm) ∧ t.flt = s.flt ∧ t.pwr = s.pwr)

/-- R503, R504, R506 to R510, R512: the derating of an axis, the hourly scaling, the daily update, the engine's test slices, the
isolation of a cluster that failed, and the ends of a cluster test and a port loop. -/
def Obligations.AgeingUpdatesAndTests : Prop :=
  (∀ (a : Fin 128) (tm : Nat) (s : State), s.fwRuns = true → s.drives = true →
    ∃ t goal, exec (.derateUpdate a tm) s = .next t ∧
      goal = rmin (match (s.adv tm).bridgeTemp a with
        | some x => (s.adv tm).derateT x
        | none => 1) (derateH (lifeOf s.age.axes[a].hist (s.pN Pid.ageBridgeLife))) ∧
      t.age.axes[a].f = (if goal < s.age.axes[a].f then goal
        else rmin goal (s.age.axes[a].f + (((max s.nt tm - s.age.axes[a].fAt : Nat) : Rat) / 1000000000) / 100)) ∧
      t.age.axes[a].fAt = max s.nt tm ∧ ∀ b : Fin 128, b ≠ a → t.age.axes[b] = s.age.axes[b]) ∧
  (∀ (a : Fin 128) (tm : Nat) (s : State), s.fwRuns = true → s.drives = true →
    s.age.axes[a].kAt + secs 3600 ≤ max s.nt tm → s.age.axes[a].keN ≠ 0 →
    ∃ t, exec (.keScaleUpdate a tm) s = .next t ∧ t.age.axes[a].k = clampRat (s.age.axes[a].k - 1 / 100)
        (s.age.axes[a].k + 1 / 100) (clampRat (7 / 10) 1 (s.age.axes[a].keSum / (s.age.axes[a].keN : Rat))) ∧
      t.age.axes[a].keN = 0 ∧ t.age.axes[a].kAt = max s.nt tm ∧ ∀ b : Fin 128, b ≠ a → t.age.axes[b] = s.age.axes[b]) ∧
  (∀ (tm : Nat) (s : State), max s.nt tm < s.age.lastDaily + secs 86400 →
    exec (.dailyUpdate tm) s = .next (s.adv tm)) ∧
  (∀ (tm : Nat) (u s : State) (up : List (Margin × Margin × Bool)), s.fwRuns = true →
    s.age.lastDaily + secs 86400 ≤ max s.nt tm → (∀ a : Fin 128, s.motType a.val = 0 ∧ (s.age.axes[a]).fricN = 0) →
    s.fio.cmd = 0 → u = (s.adv tm).margin 6 0 (lifeOf s.age.hist 175200) →
    up = u.age.items.map (fun x => (x, u.dailyItem x)) →
    exec (.dailyUpdate tm) s = .next (State.each (u.modAge fun k => { k with
      items := up.map fun x => x.2.1, lastDaily := max s.nt tm }) (up.filter fun x => x.2.2)
      fun t x => t.raise 0x9001 0 [] (x.1.kind + x.1.inst * 256))) ∧
  (∀ (tm : Nat) (s : State), s.frame.ticking = true → s.fullService = true → (∀ c : Fin 8, s.age.etest[c] = none) →
    (s.adv tm).sliceFits = true → s.age.slice + 1 ≠ 1024 →
    exec (.engineTestSlice true tm) s = .next ((s.adv tm).modAge fun k => { k with slice := s.age.slice + 1, sliceTick := some s.frame.tick })) ∧
  (∀ (tm : Nat) (s : State), s.frame.ticking = true → s.fullService = true → (∀ c : Fin 8, s.age.etest[c] = none) →
    (s.adv tm).sliceFits = true → s.age.slice + 1 = 1024 →
    exec (.engineTestSlice true tm) s = .next ((s.adv tm).modAge fun k =>
      { k with slice := 0, cycles := count32 k.cycles, sliceTick := some s.frame.tick })) ∧
  (∀ (c : Fin 8) (tm : Nat) (s : State),
    exec (.microcodeCrc c false tm) s = .next ((s.adv tm).modAge fun k => { k with mcFail := k.mcFail ||| (1#8 <<< c.val) })) ∧
  (∀ (c : Fin 8) (tm : Nat) (s : State), exec (.microcodeCrc c true tm) s = .next (s.adv tm)) ∧
  (∀ (c : Fin 8) (tm : Nat) (s : State), s.age.etest[c] = none → s.age.mcFail.getLsbD c.val = true →
    exec (.engineTest c tm) s = .next (((s.adv tm).modAge fun k => { k with
      isolated := k.isolated ||| (1#8 <<< c.val), mcFail := k.mcFail &&& ~~~(1#8 <<< c.val) }).raise 0x9005 c.val
      (clusterAxes c))) ∧
  (∀ (c : Fin 8) (item tm : Nat) (x : CltSt) (s : State), s.age.clt[c] = some x →
    ∃ u : State, exec (.clusterTestDone c false item tm) s = .next (u.callDone 0x0A00F001 stOk [0, 0]) ∧
      u = { s with nt := max s.nt tm, age := u.age } ∧ u.age.clt[c] = none ∧ u.age.isolated.getLsbD c.val = false) ∧
  (∀ (errors sum tm : Nat) (x : LoopSt) (s : State), s.age.loop = some x → x.since + ms (s.pN Pid.netBypassLead) ≤ max s.nt tm →
    ∃ u : State, exec (.portLoopDone errors sum tm) s =
        .next (u.callDone 0x0A00F002 stOk (leBytes 4 errors ++ leBytes 4 (if x.mode = 2 then sum else 0))) ∧
      (u.net.ports[fin 4 (by decide) x.port]).looped = false ∧ u.age.loop = none ∧ u.mbx = s.mbx ∧ u.axes = s.axes) ∧
  (∀ (a : Fin 128) (tm : Nat) (s : State), s.fwRuns = false ∨ s.drives = false ∨
    max s.nt tm < s.age.axes[a].kAt + secs 3600 ∨ s.age.axes[a].keN = 0 →
    exec (.keScaleUpdate a tm) s = .next (s.adv tm)) ∧
  (∀ (c : Fin 8) (e : EtestSt) (tm : Nat) (s : State), s.age.etest[c] = some e → 3 ≤ e.tries → 2 ≤ e.fails →
    exec (.engineTest c tm) s = .next (((s.adv tm).modAge fun k => { k with
      etest := k.etest.set c none, isolated := k.isolated ||| (1#8 <<< c.val),
      mcFail := k.mcFail &&& ~~~(1#8 <<< c.val) }).raise 0x9005 c.val (clusterAxes c))) ∧
  (∀ (c : Fin 8) (e : EtestSt) (tm : Nat) (s : State), s.age.etest[c] = some e → 3 ≤ e.tries → e.fails < 2 →
    s.age.mcFail.getLsbD c.val = false →
    exec (.engineTest c tm) s = .next ((s.adv tm).modAge fun k => { k with etest := k.etest.set c none })) ∧
  (∀ (c : Fin 8) (x : CltSt) (item tm : Nat) (s : State), s.age.clt[c] = some x →
    exec (.clusterTestDone c true item tm) s = .next (((s.adv tm).modAge fun k =>
      { k with clt := k.clt.set c none }).callDone 0x0A00F001 stOk ([1] ++ leBytes 1 item))) ∧
  (∀ (tm : Nat) (s : State), s.fwRuns = true → s.age.lastDaily + secs 86400 ≤ max s.nt tm →
    ∃ (u : State) (up : List (Margin × Margin × Bool)), exec (.dailyUpdate tm) s = .next (State.each (u.modAge fun k =>
        { k with items := up.map fun x => x.2.1, lastDaily := max s.nt tm }) (up.filter fun x => x.2.2)
        fun t x => t.raise 0x9001 0 [] (x.1.kind + x.1.inst * 256)) ∧
      up = u.age.items.map (fun x => (x, u.dailyItem x)) ∧ u.axes = s.axes ∧ u.flt = s.flt)

/-- R489, R491, R513 to R515: the firmware watchdog or a lockstep mismatch goes to SERVICE, the fourth time within 1 h for good;
SERVICE ends in the state that it left; an idle session ends, and so does the lock of HELLO. -/
def Obligations.FirmwareAndSessions : Prop :=
  (∀ (lock : Bool) (tm : Nat) (s : State), s.fwRuns = true →
    lock = true ∨ s.host.fwAliveAt + ms (s.pN Pid.ageFwWdogT) ≤ max s.nt tm →
    ∃ t, exec (.fwWatchdog lock tm) s = .next t ∧ t.pwr.state = .service ∧ t.pwr.serviceWas = s.pwr.state ∧
      t.age.serviceFrom = max s.nt tm ∧ t.age.fwRestarts = (if t.age.fwStuck then s.age.fwRestarts else count32 s.age.fwRestarts) ∧
      t.age.wdogAt = within (secs 3600) (max s.nt tm) (max s.nt tm :: s.age.wdogAt) ∧
      t.age.fwStuck = decide (4 ≤ (within (secs 3600) (max s.nt tm) (max s.nt tm :: s.age.wdogAt)).length)) ∧
  (∀ (tm : Nat) (s : State), s.pwr.state = .service → s.age.fwStuck = false → s.sec.bootable = true →
    s.age.serviceFrom + ms 60 ≤ max s.nt tm → s.sec.fallback = false → s.sec.rollback = false →
    ∃ t, exec (.serviceLeave tm) s = .next t ∧ t.pwr = { s.pwr with state := s.pwr.serviceWas } ∧
      t.host.fwAliveAt = max s.nt tm ∧ t.flt = s.flt ∧ t.axes = s.axes) ∧
  (∀ (tm : Nat) (s : State), s.age.fwStuck = true → exec (.serviceLeave tm) s = .next (s.adv tm)) ∧
  (∀ (sid tm : Nat) (x : Session) (s : State), s.session sid = some x → s.fwRuns = true →
    x.lastCmd + secs (s.pN Pid.secSessionIdle) ≤ max s.nt tm →
    exec (.sessionIdle sid tm) s = .next ((s.adv tm).endSession sid)) ∧
  (∀ (sid : Nat) (s : State), (s.endSession sid).session sid = none) ∧
  (∀ (u tm : Nat) (s : State), s.sec.lockedUntil = some u → u ≤ max s.nt tm →
    exec (.helloLockoutEnd tm) s = .next ((s.adv tm).modSec fun k => { k with lockedUntil := none })) ∧
  (∀ (tm : Nat) (s : State), s.pwr.state = .service → s.age.fwStuck = false → s.sec.bootable = true →
    s.age.serviceFrom + ms 60 ≤ max s.nt tm →
    ∃ u v : State, exec (.serviceLeave tm) s = .next (if s.sec.rollback then v.raise 0x8002 0 [] else v) ∧
      v = (if s.sec.fallback then u.raise 0x8001 0 [] else u) ∧ u.pwr = { s.pwr with state := s.pwr.serviceWas } ∧
      u.sec = { s.sec with fallback := false, rollback := false } ∧ u.host.fwAliveAt = max s.nt tm ∧
      u.host.irqStatus.getLsbD 21 = true ∧ u.flt = s.flt ∧ u.axes = s.axes)

/-! The queue, reset, the memories, and rules of the whole device. -/

/-- A step takes the command at the front of the queue and runs it with the queue's rest; on an empty queue the block idles
(the model's choice, log entry 3); a word spells no command, since no row of the command table has bits. -/
def Obligations.StepTakesTheFrontCommand : Prop :=
  (∀ (c : Instr) (rest : List Instr) (s : State), s.pending = c :: rest → step s = exec c { s with pending := rest }) ∧
  (∀ s : State, s.pending = [] → step s = .next s) ∧
  (∀ (nbits w : Nat) (s : State), s.withFetchWord nbits w = s)

/-- R43, R45, R47: what reset leaves: an empty queue, the device in RESET, every mailbox free and IDLE with a deadline of 500 ms,
no interrupt enabled or pending, IRQ_VECTOR 0xE4, no event, no snapshot, PI_CTRL 0; SYS_ID names the device. -/
def Obligations.ResetState : Prop :=
  State.reset.pending = [] ∧ State.reset.pwr.state = .reset ∧ State.reset.memOk ∧
  (∀ m : Fin 16, State.reset.mbx[m].owner = .free ∧ State.reset.mbxReg m 0x0C = 0 ∧ State.reset.mbxReg m 0x10 = 500 ∧
    State.reset.mbxReg m 0x14 = 0 ∧ State.reset.mbxReg m 0x18 = 0 ∧ State.reset.mbxReg m 0x1C = 0) ∧
  (∀ off ∈ [0x018, 0x020, 0x024, 0x044, 0x050, 0x054, 0x060, 0x064, 0x068, 0x06C, 0x070, 0x504, 0x508, 0x50C, 0x510, 0x514,
    0x518, 0x51C, 0x600, 0x608, 0x60C, 0x610, 0x614, 0x618, 0x61C], State.reset.reg off = 0) ∧
  State.reset.reg 0x02C = 0xE4 ∧ State.reset.reg 0x000 = 0x91280143

/-- R39, R47, R63, R338: every step keeps the addressed memories of the device, which are the mailbox buffers, the process image
banks and the carafe, in their canonical form. -/
def Obligations.StepKeepsMemoriesCanonical : Prop :=
  ∀ s s' : State, s.memOk → step s = .next s' → s'.memOk

/-- R12: axis a belongs to cluster a div 16 and is served by link a div 4 at slot a mod 4; link n belongs to cluster n div 4;
cluster c holds axes 16c to 16c+15 and links 4c to 4c+3. -/
def Obligations.AxesLinksAndClusters : Prop :=
  (∀ a : Fin 128, (clusterOf a).val = a.val / 16 ∧ (linkOf a).val = a.val / 4 ∧ (slotOf a).val = a.val % 4 ∧
    axisAt (linkOf a) (slotOf a).val = a) ∧
  (∀ l : Fin 32, (clusterOfLink l).val = l.val / 4) ∧
  (∀ (c : Fin 8) (a : Fin 128), a ∈ clusterAxes c ↔ 16 * c.val ≤ a.val ∧ a.val ≤ 16 * c.val + 15) ∧
  (∀ (c : Fin 8) (l : Fin 32), l ∈ clusterLinks c ↔ 4 * c.val ≤ l.val ∧ l.val ≤ 4 * c.val + 3)

/-- R42: a read of a 64-bit register's low word returns it and latches the high word for the reading path alone; a read of the
high word returns what is latched; nothing but the same path's next read of that low word changes what is latched: no
other read, and no write. -/
def Obligations.WideRegistersLatchTheirHighWord : Prop :=
  (∀ (p : Path) (off tm : Nat) (s : State), s.pathUp p = true → isLowWord off = true →
    ∃ t, exec (.wideRegisterLowRead p off tm) s = .next t ∧ t.host.rdata = [(s.adv tm).peek p off] ∧
      t.latched p (off + 4) = some ((s.adv tm).peek p (off + 4)) ∧
      ∀ (q : Path) (o : Nat), q ≠ p ∨ o ≠ off + 4 → t.latched q o = s.latched q o) ∧
  (∀ (off tm : Nat) (hi : Word) (s : State), s.pathUp .qspi = true → isHighWord off = true →
    s.latched .qspi off = some hi →
    ∃ t, exec (.qspiRead off 1 tm) s = .next t ∧ t.host.rdata = [hi] ∧ t.host.hiLatch = s.host.hiLatch) ∧
  (∀ (p : Path) (off : Nat) (s : State), isLowWord off = false → (s.readWord p off).2.host.hiLatch = s.host.hiLatch) ∧
  (∀ (p q : Path) (off o : Nat) (s : State), q ≠ p ∨ o ≠ off + 4 → (s.readWord p off).2.latched q o = s.latched q o) ∧
  (∀ (p : Path) (off tm : Nat) (v : Word) (s : State),
    ∃ t, exec (.registerWrite p off v tm) s = .next t ∧ t.host.hiLatch = s.host.hiLatch) ∧
  (∀ (off tm : Nat) (bs : List Byte) (s : State),
    ∃ t, exec (.qspiWrite off bs tm) s = .next t ∧ t.host.hiLatch = s.host.hiLatch)

/-- R441: a raise of a pair that is in force, and an L0 raise of a pair logged within the last 1 s, writes no new entry: the count
of the pair's latest entry rises by 1, up to 65,535, and nothing else changes. -/
def Obligations.RepeatedRaiseOnlyCounts : Prop :=
  ∀ (code inst data dflt : Nat) (fixed : Bool) (targets : List (Fin 128)) (l1 l2 : List LogEntry) (e : LogEntry) (s : State),
    s.flt.log = l1 ++ e :: l2 → e.kind = .raised → e.code = code → e.inst = inst →
    (∀ x ∈ l2, ¬(x.kind = .raised ∧ x.code = code ∧ x.inst = inst)) → (∀ x ∈ l1 ++ l2, x.seq ≠ e.seq) →
    (s.faultOn code inst = true ∨ (s.raiseLevels code dflt fixed targets).2.1 = 0 ∧ s.nt < e.nt + 1000000000) →
    s.raiseAt code inst targets data dflt fixed =
      { s with flt := { s.flt with log := l1 ++ { e with count := min 65535 (e.count + 1) } :: l2 } }

/-- R434, R440, R443, R444: a raise of a pair that is not in force, at level L1 or higher, puts it in force and writes an entry
with its level; each target axis takes a higher level and keeps an equal or lower one; the first fault of an empty axis latch
fills it from L2 on; FAULT is set in IRQ_STATUS from the level of HOST.EVT.FAULT_MIN on. -/
def Obligations.FirstRaiseTakesForce : Prop :=
  ∀ (code inst data dflt : Nat) (fixed ovr : Bool) (targets : List (Fin 128)) (a : Fin 128) (level : Nat) (s : State),
    s.faultOn code inst = false → 1 ≤ level → s.raiseLevels code dflt fixed targets = ([(a, level)], level, ovr) →
    s.flt.log.length < 256 →
    ∃ t e p, s.raiseAt code inst targets data dflt fixed = t ∧ t.flt.log = s.flt.log ++ [e] ∧
      t.flt.inForce = s.flt.inForce ++ [p] ∧
      e.seq = s.flt.nextSeq ∧ e.kind = .raised ∧ e.code = code ∧ e.inst = inst ∧ e.applied = level ∧ e.nt = s.nt ∧
      e.merged = (s.axes[a].rea.level != 7 && decide (level ≤ s.axes[a].rea.level)) ∧ e.data = data ∧
      p.code = code ∧ p.inst = inst ∧ p.level = level ∧ p.targets = [(a.val, level)] ∧ p.seq = some e.seq ∧
      (∀ b : Fin 128, b ≠ a → t.axes[b] = s.axes[b]) ∧ t.axes[a].state = s.axes[a].state ∧
      t.axes[a].rea.level = (if s.axes[a].rea.level = 7 ∨ s.axes[a].rea.level < level then level
        else s.axes[a].rea.level) ∧
      (2 ≤ level → s.axes[a].rea.first.code = 0 → t.axes[a].rea.first.code = code) ∧
      (s.pN Pid.hostEvtFaultMin ≤ level → t.host.irqStatus.getLsbD 19 = true) ∧
      t.mbx = s.mbx ∧ t.links = s.links ∧ t.par = s.par

/-- Every command of the table completes: on every state and with every operand `exec` answers a next state, and so does every
step, since the spec describes no behaviour of the device in which it stops. What a command then does the other statements
say. -/
def Obligations.EveryCommandCompletes : Prop :=
  (∀ (c : Instr) (s : State), ∃ t, exec c s = .next t) ∧ (∀ s : State, ∃ t, step s = .next t)
end

