-- ==== Sys2Proof/Laws/Memory.lean ====
section
/-! SUPPORT. The laws of addressed bytes and words: every operation keeps the canonical form, a read after a write
gives the written value at its address and the old value elsewhere. -/

namespace Sys2Proof.Machine

/-- The canonical form from an address on is one from any lower address on. -/
theorem Mem.ok_mono {lo hi : Nat} (h : lo ≤ hi) : ∀ {m : Mem}, Mem.ok hi m = true → Mem.ok lo m = true
  | [], _ => rfl
  | (j, b) :: rest, hm => by
    simp only [Mem.ok, Bool.and_eq_true, decide_eq_true_eq] at hm ⊢
    exact ⟨⟨by omega, hm.1.2⟩, hm.2⟩

/-- A write keeps the canonical form. -/
theorem Mem.put_ok (i : Nat) (v : Byte) : ∀ (m : Mem) (lo : Nat), lo ≤ i → Mem.ok lo m = true →
    Mem.ok lo (Mem.put m i v) = true
  | [], lo, h, _ => by
    simp only [Mem.put]
    split
    · rfl
    · simp_all [Mem.ok]
  | (j, b) :: rest, lo, h, hm => by
    simp only [Mem.ok, Bool.and_eq_true, decide_eq_true_eq] at hm
    simp only [Mem.put]
    split
    · split
      · simp only [Mem.ok, Bool.and_eq_true, decide_eq_true_eq]
        exact hm
      · rename_i h1 h2
        simp only [Mem.ok, Bool.and_eq_true, decide_eq_true_eq]
        exact ⟨⟨h, h2⟩, ⟨by omega, hm.1.2⟩, hm.2⟩
    · split
      · split
        · exact Mem.ok_mono (by omega) hm.2
        · rename_i h1 h2 h3
          subst h2
          simp only [Mem.ok, Bool.and_eq_true, decide_eq_true_eq]
          exact ⟨⟨h, h3⟩, hm.2⟩
      · rename_i h1 h2
        simp only [Mem.ok, Bool.and_eq_true, decide_eq_true_eq]
        exact ⟨hm.1, Mem.put_ok i v rest (j + 1) (by omega) hm.2⟩

/-- A write keeps the canonical form of a whole memory. -/
theorem Mem.put_wf {m : Mem} (h : m.wf = true) (i : Nat) (v : Byte) : (m.put i v).wf = true :=
  Mem.put_ok i v m 0 (Nat.zero_le i) h

/-- Writes in a row keep the canonical form. -/
theorem Mem.puts_wf : ∀ (bs : List Byte) {m : Mem} (_ : m.wf = true) (i : Nat), (m.puts i bs).wf = true
  | [], _, h, _ => h
  | b :: rest, _, h, i => Mem.puts_wf rest (Mem.put_wf h i b) (i + 1)

/-- A memory that holds a list of bytes is in canonical form. -/
theorem Mem.ofList_wf (bs : List Byte) : (Mem.ofList bs).wf = true := Mem.puts_wf bs rfl 0

/-- Nothing is read below the first address of the canonical form. -/
theorem Mem.get_below : ∀ (m : Mem) (lo i : Nat), Mem.ok lo m = true → i < lo → m.get i = 0
  | [], _, _, _, _ => rfl
  | (j, b) :: rest, lo, i, h, hi => by
    simp only [Mem.ok, Bool.and_eq_true, decide_eq_true_eq] at h
    have h1 : ¬ i = j := by omega
    have h2 : i < j := by omega
    simp [Mem.get, h1, h2]

/-- A read after a write: the written byte at its address, the old byte elsewhere. -/
theorem Mem.get_put_ok (i : Nat) (v : Byte) : ∀ (m : Mem) (lo k : Nat), Mem.ok lo m = true →
    (m.put i v).get k = if k = i then v else m.get k
  | [], lo, k, _ => by
    simp only [Mem.put]
    split <;> by_cases hk : k = i <;> simp_all [Mem.get]
  | (j, b) :: rest, lo, k, hm => by
    simp only [Mem.ok, Bool.and_eq_true, decide_eq_true_eq] at hm
    simp only [Mem.put]
    split
    · rename_i h1
      split
      · rename_i h2
        by_cases hk : k = i
        · subst hk
          have : ¬ k = j := by omega
          simp [Mem.get, h1, this, h2]
        · simp [hk]
      · by_cases hk : k = i
        · simp [Mem.get, hk]
        · by_cases h3 : k < i
          · have h4 : ¬ k = j := by omega
            have h5 : k < j := by omega
            simp [Mem.get, hk, h3, h4, h5]
          · simp [Mem.get, hk, h3]
    · split
      · rename_i h1 h2
        subst h2
        split
        · rename_i h3
          by_cases hk : k = i
          · subst hk
            simp [h3, Mem.get_below rest (k + 1) k hm.2 (by omega)]
          · by_cases h4 : k < i
            · simp [Mem.get, hk, h4, Mem.get_below rest (i + 1) k hm.2 (by omega)]
            · simp [Mem.get, hk, h4]
        · by_cases hk : k = i <;> simp [Mem.get, hk]
      · rename_i h1 h2
        by_cases hk : k = j
        · have : ¬ k = i := by omega
          simp [Mem.get, hk]
          intro h; omega
        · by_cases h3 : k < j
          · have : ¬ k = i := by omega
            simp [Mem.get, hk, h3, this]
          · simp only [Mem.get, hk, h3, if_false]
            exact Mem.get_put_ok i v rest (j + 1) k hm.2

/-- A read after a write in a memory of canonical form. -/
theorem Mem.get_put {m : Mem} (h : m.wf = true) (i k : Nat) (v : Byte) :
    (m.put i v).get k = if k = i then v else m.get k := Mem.get_put_ok i v m 0 k h

/-- A read after writes in a row: the byte written there, else the old byte. -/
theorem Mem.get_puts : ∀ (bs : List Byte) {m : Mem} (_ : m.wf = true) (i k : Nat),
    (m.puts i bs).get k = if h : i ≤ k ∧ k < i + bs.length then bs[k - i]'(by omega) else m.get k
  | [], m, _, i, k => by
    rw [dif_neg (by simp only [List.length_nil]; omega)]
    rfl
  | b :: rest, m, h, i, k => by
    simp only [Mem.puts]
    rw [Mem.get_puts rest (Mem.put_wf h i b) (i + 1) k, Mem.get_put h]
    by_cases h1 : k = i
    · subst h1
      have : ¬ (k + 1 ≤ k ∧ k < k + 1 + rest.length) := by omega
      simp
    · by_cases h2 : i + 1 ≤ k ∧ k < i + 1 + rest.length
      · have h3 : i ≤ k ∧ k < i + (b :: rest).length := by simp; omega
        have h4 : k - i = (k - (i + 1)) + 1 := by omega
        rw [dif_pos h2, dif_pos h3]
        simp [h4]
      · have h3 : ¬ (i ≤ k ∧ k < i + (b :: rest).length) := by simp at h2 ⊢; omega
        rw [dif_neg h2, dif_neg h3, if_neg h1]

/-- The four bytes of a word spell it. -/
theorem leNat_leBytes4 (v : Word) : BitVec.ofNat 32 (leNat (leBytes 4 v.toNat)) = v := by
  apply BitVec.eq_of_toNat_eq
  simp [leNat, leBytes]
  have := v.isLt
  omega

/-- A word reads back after it has been written (R39). -/
theorem Mem.word_puts {m : Mem} (h : m.wf = true) (i : Nat) (v : Word) :
    (m.puts i (leBytes 4 v.toNat)).word i = v := by
  have hg : Mem.gets (m.puts i (leBytes 4 v.toNat)) i 4 = leBytes 4 v.toNat := by
    simp only [Mem.gets, Mem.get_puts _ h]
    simp [leBytes, List.range_succ]
  rw [Mem.word, hg, leNat_leBytes4]

/-- The canonical form of words from an address on is one from any lower address on. -/
theorem wordsOk_mono {lo hi : Nat} (h : lo ≤ hi) : ∀ {m : List (Nat × Word)}, wordsOk hi m = true → wordsOk lo m = true
  | [], _ => rfl
  | (j, b) :: rest, hm => by
    simp only [wordsOk, Bool.and_eq_true, decide_eq_true_eq] at hm ⊢
    exact ⟨⟨by omega, hm.1.2⟩, hm.2⟩

/-- A write of a word keeps the canonical form. -/
theorem wordPut_ok (i : Nat) (v : Word) : ∀ (m : List (Nat × Word)) (lo : Nat), lo ≤ i → wordsOk lo m = true →
    wordsOk lo (wordPut m i v) = true
  | [], lo, h, _ => by
    simp only [wordPut]
    split
    · rfl
    · simp_all [wordsOk]
  | (j, b) :: rest, lo, h, hm => by
    simp only [wordsOk, Bool.and_eq_true, decide_eq_true_eq] at hm
    simp only [wordPut]
    split
    · split
      · simp only [wordsOk, Bool.and_eq_true, decide_eq_true_eq]
        exact hm
      · rename_i h1 h2
        simp only [wordsOk, Bool.and_eq_true, decide_eq_true_eq]
        exact ⟨⟨h, h2⟩, ⟨by omega, hm.1.2⟩, hm.2⟩
    · split
      · split
        · exact wordsOk_mono (by omega) hm.2
        · rename_i h1 h2 h3
          subst h2
          simp only [wordsOk, Bool.and_eq_true, decide_eq_true_eq]
          exact ⟨⟨h, h3⟩, hm.2⟩
      · rename_i h1 h2
        simp only [wordsOk, Bool.and_eq_true, decide_eq_true_eq]
        exact ⟨hm.1, wordPut_ok i v rest (j + 1) (by omega) hm.2⟩

/-- Words written in a row keep the canonical form. -/
theorem wordPuts_ok : ∀ (ws : List Word) {m : List (Nat × Word)} (_ : wordsOk 0 m = true) (i : Nat),
    wordsOk 0 (wordPuts m i ws) = true
  | [], _, h, _ => h
  | w :: rest, _, h, i => wordPuts_ok rest (wordPut_ok i w _ 0 (Nat.zero_le i) h) (i + 1)

end Sys2Proof.Machine
end

