-- ==== Sys2Proof/Laws/State.lean ====
section
/-! SUPPORT. One lemma per field per update of the state, so that no proof unfolds a record update. -/

namespace Sys2Proof.Machine

@[simp] theorem State.modHost_nt (s : State) (f : HostSt → HostSt) : (s.modHost f).nt = s.nt := rfl
@[simp] theorem State.modHost_ib (s : State) (f : HostSt → HostSt) : (s.modHost f).ib = s.ib := rfl
@[simp] theorem State.modHost_serial (s : State) (f : HostSt → HostSt) : (s.modHost f).serial = s.serial := rfl
@[simp] theorem State.modHost_macA (s : State) (f : HostSt → HostSt) : (s.modHost f).macA = s.macA := rfl
@[simp] theorem State.modHost_macB (s : State) (f : HostSt → HostSt) : (s.modHost f).macB = s.macB := rfl
@[simp] theorem State.modHost_frame (s : State) (f : HostSt → HostSt) : (s.modHost f).frame = s.frame := rfl
@[simp] theorem State.modHost_host (s : State) (f : HostSt → HostSt) : (s.modHost f).host = f s.host := rfl
@[simp] theorem State.modHost_pi (s : State) (f : HostSt → HostSt) : (s.modHost f).pi = s.pi := rfl
@[simp] theorem State.modHost_mbx (s : State) (f : HostSt → HostSt) : (s.modHost f).mbx = s.mbx := rfl
@[simp] theorem State.modHost_par (s : State) (f : HostSt → HostSt) : (s.modHost f).par = s.par := rfl
@[simp] theorem State.modHost_flt (s : State) (f : HostSt → HostSt) : (s.modHost f).flt = s.flt := rfl
@[simp] theorem State.modHost_pwr (s : State) (f : HostSt → HostSt) : (s.modHost f).pwr = s.pwr := rfl
@[simp] theorem State.modHost_sec (s : State) (f : HostSt → HostSt) : (s.modHost f).sec = s.sec := rfl
@[simp] theorem State.modHost_links (s : State) (f : HostSt → HostSt) : (s.modHost f).links = s.links := rfl
@[simp] theorem State.modHost_axes (s : State) (f : HostSt → HostSt) : (s.modHost f).axes = s.axes := rfl
@[simp] theorem State.modHost_pins (s : State) (f : HostSt → HostSt) : (s.modHost f).pins = s.pins := rfl
@[simp] theorem State.modHost_ports (s : State) (f : HostSt → HostSt) : (s.modHost f).ports = s.ports := rfl
@[simp] theorem State.modHost_trk (s : State) (f : HostSt → HostSt) : (s.modHost f).trk = s.trk := rfl
@[simp] theorem State.modHost_fio (s : State) (f : HostSt → HostSt) : (s.modHost f).fio = s.fio := rfl
@[simp] theorem State.modHost_cap (s : State) (f : HostSt → HostSt) : (s.modHost f).cap = s.cap := rfl
@[simp] theorem State.modHost_net (s : State) (f : HostSt → HostSt) : (s.modHost f).net = s.net := rfl
@[simp] theorem State.modHost_twin (s : State) (f : HostSt → HostSt) : (s.modHost f).twin = s.twin := rfl
@[simp] theorem State.modHost_saf (s : State) (f : HostSt → HostSt) : (s.modHost f).saf = s.saf := rfl
@[simp] theorem State.modHost_age (s : State) (f : HostSt → HostSt) : (s.modHost f).age = s.age := rfl
@[simp] theorem State.modHost_freeCtr (s : State) (f : HostSt → HostSt) : (s.modHost f).freeCtr = s.freeCtr := rfl
@[simp] theorem State.modHost_out (s : State) (f : HostSt → HostSt) : (s.modHost f).out = s.out := rfl
@[simp] theorem State.modHost_pending (s : State) (f : HostSt → HostSt) : (s.modHost f).pending = s.pending := rfl

@[simp] theorem State.modPi_nt (s : State) (f : PiSt → PiSt) : (s.modPi f).nt = s.nt := rfl
@[simp] theorem State.modPi_ib (s : State) (f : PiSt → PiSt) : (s.modPi f).ib = s.ib := rfl
@[simp] theorem State.modPi_serial (s : State) (f : PiSt → PiSt) : (s.modPi f).serial = s.serial := rfl
@[simp] theorem State.modPi_macA (s : State) (f : PiSt → PiSt) : (s.modPi f).macA = s.macA := rfl
@[simp] theorem State.modPi_macB (s : State) (f : PiSt → PiSt) : (s.modPi f).macB = s.macB := rfl
@[simp] theorem State.modPi_frame (s : State) (f : PiSt → PiSt) : (s.modPi f).frame = s.frame := rfl
@[simp] theorem State.modPi_host (s : State) (f : PiSt → PiSt) : (s.modPi f).host = s.host := rfl
@[simp] theorem State.modPi_pi (s : State) (f : PiSt → PiSt) : (s.modPi f).pi = f s.pi := rfl
@[simp] theorem State.modPi_mbx (s : State) (f : PiSt → PiSt) : (s.modPi f).mbx = s.mbx := rfl
@[simp] theorem State.modPi_par (s : State) (f : PiSt → PiSt) : (s.modPi f).par = s.par := rfl
@[simp] theorem State.modPi_flt (s : State) (f : PiSt → PiSt) : (s.modPi f).flt = s.flt := rfl
@[simp] theorem State.modPi_pwr (s : State) (f : PiSt → PiSt) : (s.modPi f).pwr = s.pwr := rfl
@[simp] theorem State.modPi_sec (s : State) (f : PiSt → PiSt) : (s.modPi f).sec = s.sec := rfl
@[simp] theorem State.modPi_links (s : State) (f : PiSt → PiSt) : (s.modPi f).links = s.links := rfl
@[simp] theorem State.modPi_axes (s : State) (f : PiSt → PiSt) : (s.modPi f).axes = s.axes := rfl
@[simp] theorem State.modPi_pins (s : State) (f : PiSt → PiSt) : (s.modPi f).pins = s.pins := rfl
@[simp] theorem State.modPi_ports (s : State) (f : PiSt → PiSt) : (s.modPi f).ports = s.ports := rfl
@[simp] theorem State.modPi_trk (s : State) (f : PiSt → PiSt) : (s.modPi f).trk = s.trk := rfl
@[simp] theorem State.modPi_fio (s : State) (f : PiSt → PiSt) : (s.modPi f).fio = s.fio := rfl
@[simp] theorem State.modPi_cap (s : State) (f : PiSt → PiSt) : (s.modPi f).cap = s.cap := rfl
@[simp] theorem State.modPi_net (s : State) (f : PiSt → PiSt) : (s.modPi f).net = s.net := rfl
@[simp] theorem State.modPi_twin (s : State) (f : PiSt → PiSt) : (s.modPi f).twin = s.twin := rfl
@[simp] theorem State.modPi_saf (s : State) (f : PiSt → PiSt) : (s.modPi f).saf = s.saf := rfl
@[simp] theorem State.modPi_age (s : State) (f : PiSt → PiSt) : (s.modPi f).age = s.age := rfl
@[simp] theorem State.modPi_freeCtr (s : State) (f : PiSt → PiSt) : (s.modPi f).freeCtr = s.freeCtr := rfl
@[simp] theorem State.modPi_out (s : State) (f : PiSt → PiSt) : (s.modPi f).out = s.out := rfl
@[simp] theorem State.modPi_pending (s : State) (f : PiSt → PiSt) : (s.modPi f).pending = s.pending := rfl

@[simp] theorem State.modPar_nt (s : State) (f : ParSt → ParSt) : (s.modPar f).nt = s.nt := rfl
@[simp] theorem State.modPar_ib (s : State) (f : ParSt → ParSt) : (s.modPar f).ib = s.ib := rfl
@[simp] theorem State.modPar_serial (s : State) (f : ParSt → ParSt) : (s.modPar f).serial = s.serial := rfl
@[simp] theorem State.modPar_macA (s : State) (f : ParSt → ParSt) : (s.modPar f).macA = s.macA := rfl
@[simp] theorem State.modPar_macB (s : State) (f : ParSt → ParSt) : (s.modPar f).macB = s.macB := rfl
@[simp] theorem State.modPar_frame (s : State) (f : ParSt → ParSt) : (s.modPar f).frame = s.frame := rfl
@[simp] theorem State.modPar_host (s : State) (f : ParSt → ParSt) : (s.modPar f).host = s.host := rfl
@[simp] theorem State.modPar_pi (s : State) (f : ParSt → ParSt) : (s.modPar f).pi = s.pi := rfl
@[simp] theorem State.modPar_mbx (s : State) (f : ParSt → ParSt) : (s.modPar f).mbx = s.mbx := rfl
@[simp] theorem State.modPar_par (s : State) (f : ParSt → ParSt) : (s.modPar f).par = f s.par := rfl
@[simp] theorem State.modPar_flt (s : State) (f : ParSt → ParSt) : (s.modPar f).flt = s.flt := rfl
@[simp] theorem State.modPar_pwr (s : State) (f : ParSt → ParSt) : (s.modPar f).pwr = s.pwr := rfl
@[simp] theorem State.modPar_sec (s : State) (f : ParSt → ParSt) : (s.modPar f).sec = s.sec := rfl
@[simp] theorem State.modPar_links (s : State) (f : ParSt → ParSt) : (s.modPar f).links = s.links := rfl
@[simp] theorem State.modPar_axes (s : State) (f : ParSt → ParSt) : (s.modPar f).axes = s.axes := rfl
@[simp] theorem State.modPar_pins (s : State) (f : ParSt → ParSt) : (s.modPar f).pins = s.pins := rfl
@[simp] theorem State.modPar_ports (s : State) (f : ParSt → ParSt) : (s.modPar f).ports = s.ports := rfl
@[simp] theorem State.modPar_trk (s : State) (f : ParSt → ParSt) : (s.modPar f).trk = s.trk := rfl
@[simp] theorem State.modPar_fio (s : State) (f : ParSt → ParSt) : (s.modPar f).fio = s.fio := rfl
@[simp] theorem State.modPar_cap (s : State) (f : ParSt → ParSt) : (s.modPar f).cap = s.cap := rfl
@[simp] theorem State.modPar_net (s : State) (f : ParSt → ParSt) : (s.modPar f).net = s.net := rfl
@[simp] theorem State.modPar_twin (s : State) (f : ParSt → ParSt) : (s.modPar f).twin = s.twin := rfl
@[simp] theorem State.modPar_saf (s : State) (f : ParSt → ParSt) : (s.modPar f).saf = s.saf := rfl
@[simp] theorem State.modPar_age (s : State) (f : ParSt → ParSt) : (s.modPar f).age = s.age := rfl
@[simp] theorem State.modPar_freeCtr (s : State) (f : ParSt → ParSt) : (s.modPar f).freeCtr = s.freeCtr := rfl
@[simp] theorem State.modPar_out (s : State) (f : ParSt → ParSt) : (s.modPar f).out = s.out := rfl
@[simp] theorem State.modPar_pending (s : State) (f : ParSt → ParSt) : (s.modPar f).pending = s.pending := rfl

@[simp] theorem State.modFlt_nt (s : State) (f : FaultSt → FaultSt) : (s.modFlt f).nt = s.nt := rfl
@[simp] theorem State.modFlt_ib (s : State) (f : FaultSt → FaultSt) : (s.modFlt f).ib = s.ib := rfl
@[simp] theorem State.modFlt_serial (s : State) (f : FaultSt → FaultSt) : (s.modFlt f).serial = s.serial := rfl
@[simp] theorem State.modFlt_macA (s : State) (f : FaultSt → FaultSt) : (s.modFlt f).macA = s.macA := rfl
@[simp] theorem State.modFlt_macB (s : State) (f : FaultSt → FaultSt) : (s.modFlt f).macB = s.macB := rfl
@[simp] theorem State.modFlt_frame (s : State) (f : FaultSt → FaultSt) : (s.modFlt f).frame = s.frame := rfl
@[simp] theorem State.modFlt_host (s : State) (f : FaultSt → FaultSt) : (s.modFlt f).host = s.host := rfl
@[simp] theorem State.modFlt_pi (s : State) (f : FaultSt → FaultSt) : (s.modFlt f).pi = s.pi := rfl
@[simp] theorem State.modFlt_mbx (s : State) (f : FaultSt → FaultSt) : (s.modFlt f).mbx = s.mbx := rfl
@[simp] theorem State.modFlt_par (s : State) (f : FaultSt → FaultSt) : (s.modFlt f).par = s.par := rfl
@[simp] theorem State.modFlt_flt (s : State) (f : FaultSt → FaultSt) : (s.modFlt f).flt = f s.flt := rfl
@[simp] theorem State.modFlt_pwr (s : State) (f : FaultSt → FaultSt) : (s.modFlt f).pwr = s.pwr := rfl
@[simp] theorem State.modFlt_sec (s : State) (f : FaultSt → FaultSt) : (s.modFlt f).sec = s.sec := rfl
@[simp] theorem State.modFlt_links (s : State) (f : FaultSt → FaultSt) : (s.modFlt f).links = s.links := rfl
@[simp] theorem State.modFlt_axes (s : State) (f : FaultSt → FaultSt) : (s.modFlt f).axes = s.axes := rfl
@[simp] theorem State.modFlt_pins (s : State) (f : FaultSt → FaultSt) : (s.modFlt f).pins = s.pins := rfl
@[simp] theorem State.modFlt_ports (s : State) (f : FaultSt → FaultSt) : (s.modFlt f).ports = s.ports := rfl
@[simp] theorem State.modFlt_trk (s : State) (f : FaultSt → FaultSt) : (s.modFlt f).trk = s.trk := rfl
@[simp] theorem State.modFlt_fio (s : State) (f : FaultSt → FaultSt) : (s.modFlt f).fio = s.fio := rfl
@[simp] theorem State.modFlt_cap (s : State) (f : FaultSt → FaultSt) : (s.modFlt f).cap = s.cap := rfl
@[simp] theorem State.modFlt_net (s : State) (f : FaultSt → FaultSt) : (s.modFlt f).net = s.net := rfl
@[simp] theorem State.modFlt_twin (s : State) (f : FaultSt → FaultSt) : (s.modFlt f).twin = s.twin := rfl
@[simp] theorem State.modFlt_saf (s : State) (f : FaultSt → FaultSt) : (s.modFlt f).saf = s.saf := rfl
@[simp] theorem State.modFlt_age (s : State) (f : FaultSt → FaultSt) : (s.modFlt f).age = s.age := rfl
@[simp] theorem State.modFlt_freeCtr (s : State) (f : FaultSt → FaultSt) : (s.modFlt f).freeCtr = s.freeCtr := rfl
@[simp] theorem State.modFlt_out (s : State) (f : FaultSt → FaultSt) : (s.modFlt f).out = s.out := rfl
@[simp] theorem State.modFlt_pending (s : State) (f : FaultSt → FaultSt) : (s.modFlt f).pending = s.pending := rfl

@[simp] theorem State.modPwr_nt (s : State) (f : PwrSt → PwrSt) : (s.modPwr f).nt = s.nt := rfl
@[simp] theorem State.modPwr_ib (s : State) (f : PwrSt → PwrSt) : (s.modPwr f).ib = s.ib := rfl
@[simp] theorem State.modPwr_serial (s : State) (f : PwrSt → PwrSt) : (s.modPwr f).serial = s.serial := rfl
@[simp] theorem State.modPwr_macA (s : State) (f : PwrSt → PwrSt) : (s.modPwr f).macA = s.macA := rfl
@[simp] theorem State.modPwr_macB (s : State) (f : PwrSt → PwrSt) : (s.modPwr f).macB = s.macB := rfl
@[simp] theorem State.modPwr_frame (s : State) (f : PwrSt → PwrSt) : (s.modPwr f).frame = s.frame := rfl
@[simp] theorem State.modPwr_host (s : State) (f : PwrSt → PwrSt) : (s.modPwr f).host = s.host := rfl
@[simp] theorem State.modPwr_pi (s : State) (f : PwrSt → PwrSt) : (s.modPwr f).pi = s.pi := rfl
@[simp] theorem State.modPwr_mbx (s : State) (f : PwrSt → PwrSt) : (s.modPwr f).mbx = s.mbx := rfl
@[simp] theorem State.modPwr_par (s : State) (f : PwrSt → PwrSt) : (s.modPwr f).par = s.par := rfl
@[simp] theorem State.modPwr_flt (s : State) (f : PwrSt → PwrSt) : (s.modPwr f).flt = s.flt := rfl
@[simp] theorem State.modPwr_pwr (s : State) (f : PwrSt → PwrSt) : (s.modPwr f).pwr = f s.pwr := rfl
@[simp] theorem State.modPwr_sec (s : State) (f : PwrSt → PwrSt) : (s.modPwr f).sec = s.sec := rfl
@[simp] theorem State.modPwr_links (s : State) (f : PwrSt → PwrSt) : (s.modPwr f).links = s.links := rfl
@[simp] theorem State.modPwr_axes (s : State) (f : PwrSt → PwrSt) : (s.modPwr f).axes = s.axes := rfl
@[simp] theorem State.modPwr_pins (s : State) (f : PwrSt → PwrSt) : (s.modPwr f).pins = s.pins := rfl
@[simp] theorem State.modPwr_ports (s : State) (f : PwrSt → PwrSt) : (s.modPwr f).ports = s.ports := rfl
@[simp] theorem State.modPwr_trk (s : State) (f : PwrSt → PwrSt) : (s.modPwr f).trk = s.trk := rfl
@[simp] theorem State.modPwr_fio (s : State) (f : PwrSt → PwrSt) : (s.modPwr f).fio = s.fio := rfl
@[simp] theorem State.modPwr_cap (s : State) (f : PwrSt → PwrSt) : (s.modPwr f).cap = s.cap := rfl
@[simp] theorem State.modPwr_net (s : State) (f : PwrSt → PwrSt) : (s.modPwr f).net = s.net := rfl
@[simp] theorem State.modPwr_twin (s : State) (f : PwrSt → PwrSt) : (s.modPwr f).twin = s.twin := rfl
@[simp] theorem State.modPwr_saf (s : State) (f : PwrSt → PwrSt) : (s.modPwr f).saf = s.saf := rfl
@[simp] theorem State.modPwr_age (s : State) (f : PwrSt → PwrSt) : (s.modPwr f).age = s.age := rfl
@[simp] theorem State.modPwr_freeCtr (s : State) (f : PwrSt → PwrSt) : (s.modPwr f).freeCtr = s.freeCtr := rfl
@[simp] theorem State.modPwr_out (s : State) (f : PwrSt → PwrSt) : (s.modPwr f).out = s.out := rfl
@[simp] theorem State.modPwr_pending (s : State) (f : PwrSt → PwrSt) : (s.modPwr f).pending = s.pending := rfl

@[simp] theorem State.modSec_nt (s : State) (f : SecSt → SecSt) : (s.modSec f).nt = s.nt := rfl
@[simp] theorem State.modSec_ib (s : State) (f : SecSt → SecSt) : (s.modSec f).ib = s.ib := rfl
@[simp] theorem State.modSec_serial (s : State) (f : SecSt → SecSt) : (s.modSec f).serial = s.serial := rfl
@[simp] theorem State.modSec_macA (s : State) (f : SecSt → SecSt) : (s.modSec f).macA = s.macA := rfl
@[simp] theorem State.modSec_macB (s : State) (f : SecSt → SecSt) : (s.modSec f).macB = s.macB := rfl
@[simp] theorem State.modSec_frame (s : State) (f : SecSt → SecSt) : (s.modSec f).frame = s.frame := rfl
@[simp] theorem State.modSec_host (s : State) (f : SecSt → SecSt) : (s.modSec f).host = s.host := rfl
@[simp] theorem State.modSec_pi (s : State) (f : SecSt → SecSt) : (s.modSec f).pi = s.pi := rfl
@[simp] theorem State.modSec_mbx (s : State) (f : SecSt → SecSt) : (s.modSec f).mbx = s.mbx := rfl
@[simp] theorem State.modSec_par (s : State) (f : SecSt → SecSt) : (s.modSec f).par = s.par := rfl
@[simp] theorem State.modSec_flt (s : State) (f : SecSt → SecSt) : (s.modSec f).flt = s.flt := rfl
@[simp] theorem State.modSec_pwr (s : State) (f : SecSt → SecSt) : (s.modSec f).pwr = s.pwr := rfl
@[simp] theorem State.modSec_sec (s : State) (f : SecSt → SecSt) : (s.modSec f).sec = f s.sec := rfl
@[simp] theorem State.modSec_links (s : State) (f : SecSt → SecSt) : (s.modSec f).links = s.links := rfl
@[simp] theorem State.modSec_axes (s : State) (f : SecSt → SecSt) : (s.modSec f).axes = s.axes := rfl
@[simp] theorem State.modSec_pins (s : State) (f : SecSt → SecSt) : (s.modSec f).pins = s.pins := rfl
@[simp] theorem State.modSec_ports (s : State) (f : SecSt → SecSt) : (s.modSec f).ports = s.ports := rfl
@[simp] theorem State.modSec_trk (s : State) (f : SecSt → SecSt) : (s.modSec f).trk = s.trk := rfl
@[simp] theorem State.modSec_fio (s : State) (f : SecSt → SecSt) : (s.modSec f).fio = s.fio := rfl
@[simp] theorem State.modSec_cap (s : State) (f : SecSt → SecSt) : (s.modSec f).cap = s.cap := rfl
@[simp] theorem State.modSec_net (s : State) (f : SecSt → SecSt) : (s.modSec f).net = s.net := rfl
@[simp] theorem State.modSec_twin (s : State) (f : SecSt → SecSt) : (s.modSec f).twin = s.twin := rfl
@[simp] theorem State.modSec_saf (s : State) (f : SecSt → SecSt) : (s.modSec f).saf = s.saf := rfl
@[simp] theorem State.modSec_age (s : State) (f : SecSt → SecSt) : (s.modSec f).age = s.age := rfl
@[simp] theorem State.modSec_freeCtr (s : State) (f : SecSt → SecSt) : (s.modSec f).freeCtr = s.freeCtr := rfl
@[simp] theorem State.modSec_out (s : State) (f : SecSt → SecSt) : (s.modSec f).out = s.out := rfl
@[simp] theorem State.modSec_pending (s : State) (f : SecSt → SecSt) : (s.modSec f).pending = s.pending := rfl

@[simp] theorem State.modFrame_nt (s : State) (f : FrameSt → FrameSt) : (s.modFrame f).nt = s.nt := rfl
@[simp] theorem State.modFrame_ib (s : State) (f : FrameSt → FrameSt) : (s.modFrame f).ib = s.ib := rfl
@[simp] theorem State.modFrame_serial (s : State) (f : FrameSt → FrameSt) : (s.modFrame f).serial = s.serial := rfl
@[simp] theorem State.modFrame_macA (s : State) (f : FrameSt → FrameSt) : (s.modFrame f).macA = s.macA := rfl
@[simp] theorem State.modFrame_macB (s : State) (f : FrameSt → FrameSt) : (s.modFrame f).macB = s.macB := rfl
@[simp] theorem State.modFrame_frame (s : State) (f : FrameSt → FrameSt) : (s.modFrame f).frame = f s.frame := rfl
@[simp] theorem State.modFrame_host (s : State) (f : FrameSt → FrameSt) : (s.modFrame f).host = s.host := rfl
@[simp] theorem State.modFrame_pi (s : State) (f : FrameSt → FrameSt) : (s.modFrame f).pi = s.pi := rfl
@[simp] theorem State.modFrame_mbx (s : State) (f : FrameSt → FrameSt) : (s.modFrame f).mbx = s.mbx := rfl
@[simp] theorem State.modFrame_par (s : State) (f : FrameSt → FrameSt) : (s.modFrame f).par = s.par := rfl
@[simp] theorem State.modFrame_flt (s : State) (f : FrameSt → FrameSt) : (s.modFrame f).flt = s.flt := rfl
@[simp] theorem State.modFrame_pwr (s : State) (f : FrameSt → FrameSt) : (s.modFrame f).pwr = s.pwr := rfl
@[simp] theorem State.modFrame_sec (s : State) (f : FrameSt → FrameSt) : (s.modFrame f).sec = s.sec := rfl
@[simp] theorem State.modFrame_links (s : State) (f : FrameSt → FrameSt) : (s.modFrame f).links = s.links := rfl
@[simp] theorem State.modFrame_axes (s : State) (f : FrameSt → FrameSt) : (s.modFrame f).axes = s.axes := rfl
@[simp] theorem State.modFrame_pins (s : State) (f : FrameSt → FrameSt) : (s.modFrame f).pins = s.pins := rfl
@[simp] theorem State.modFrame_ports (s : State) (f : FrameSt → FrameSt) : (s.modFrame f).ports = s.ports := rfl
@[simp] theorem State.modFrame_trk (s : State) (f : FrameSt → FrameSt) : (s.modFrame f).trk = s.trk := rfl
@[simp] theorem State.modFrame_fio (s : State) (f : FrameSt → FrameSt) : (s.modFrame f).fio = s.fio := rfl
@[simp] theorem State.modFrame_cap (s : State) (f : FrameSt → FrameSt) : (s.modFrame f).cap = s.cap := rfl
@[simp] theorem State.modFrame_net (s : State) (f : FrameSt → FrameSt) : (s.modFrame f).net = s.net := rfl
@[simp] theorem State.modFrame_twin (s : State) (f : FrameSt → FrameSt) : (s.modFrame f).twin = s.twin := rfl
@[simp] theorem State.modFrame_saf (s : State) (f : FrameSt → FrameSt) : (s.modFrame f).saf = s.saf := rfl
@[simp] theorem State.modFrame_age (s : State) (f : FrameSt → FrameSt) : (s.modFrame f).age = s.age := rfl
@[simp] theorem State.modFrame_freeCtr (s : State) (f : FrameSt → FrameSt) : (s.modFrame f).freeCtr = s.freeCtr := rfl
@[simp] theorem State.modFrame_out (s : State) (f : FrameSt → FrameSt) : (s.modFrame f).out = s.out := rfl
@[simp] theorem State.modFrame_pending (s : State) (f : FrameSt → FrameSt) : (s.modFrame f).pending = s.pending := rfl

@[simp] theorem State.modTrk_nt (s : State) (f : TrkSt → TrkSt) : (s.modTrk f).nt = s.nt := rfl
@[simp] theorem State.modTrk_ib (s : State) (f : TrkSt → TrkSt) : (s.modTrk f).ib = s.ib := rfl
@[simp] theorem State.modTrk_serial (s : State) (f : TrkSt → TrkSt) : (s.modTrk f).serial = s.serial := rfl
@[simp] theorem State.modTrk_macA (s : State) (f : TrkSt → TrkSt) : (s.modTrk f).macA = s.macA := rfl
@[simp] theorem State.modTrk_macB (s : State) (f : TrkSt → TrkSt) : (s.modTrk f).macB = s.macB := rfl
@[simp] theorem State.modTrk_frame (s : State) (f : TrkSt → TrkSt) : (s.modTrk f).frame = s.frame := rfl
@[simp] theorem State.modTrk_host (s : State) (f : TrkSt → TrkSt) : (s.modTrk f).host = s.host := rfl
@[simp] theorem State.modTrk_pi (s : State) (f : TrkSt → TrkSt) : (s.modTrk f).pi = s.pi := rfl
@[simp] theorem State.modTrk_mbx (s : State) (f : TrkSt → TrkSt) : (s.modTrk f).mbx = s.mbx := rfl
@[simp] theorem State.modTrk_par (s : State) (f : TrkSt → TrkSt) : (s.modTrk f).par = s.par := rfl
@[simp] theorem State.modTrk_flt (s : State) (f : TrkSt → TrkSt) : (s.modTrk f).flt = s.flt := rfl
@[simp] theorem State.modTrk_pwr (s : State) (f : TrkSt → TrkSt) : (s.modTrk f).pwr = s.pwr := rfl
@[simp] theorem State.modTrk_sec (s : State) (f : TrkSt → TrkSt) : (s.modTrk f).sec = s.sec := rfl
@[simp] theorem State.modTrk_links (s : State) (f : TrkSt → TrkSt) : (s.modTrk f).links = s.links := rfl
@[simp] theorem State.modTrk_axes (s : State) (f : TrkSt → TrkSt) : (s.modTrk f).axes = s.axes := rfl
@[simp] theorem State.modTrk_pins (s : State) (f : TrkSt → TrkSt) : (s.modTrk f).pins = s.pins := rfl
@[simp] theorem State.modTrk_ports (s : State) (f : TrkSt → TrkSt) : (s.modTrk f).ports = s.ports := rfl
@[simp] theorem State.modTrk_trk (s : State) (f : TrkSt → TrkSt) : (s.modTrk f).trk = f s.trk := rfl
@[simp] theorem State.modTrk_fio (s : State) (f : TrkSt → TrkSt) : (s.modTrk f).fio = s.fio := rfl
@[simp] theorem State.modTrk_cap (s : State) (f : TrkSt → TrkSt) : (s.modTrk f).cap = s.cap := rfl
@[simp] theorem State.modTrk_net (s : State) (f : TrkSt → TrkSt) : (s.modTrk f).net = s.net := rfl
@[simp] theorem State.modTrk_twin (s : State) (f : TrkSt → TrkSt) : (s.modTrk f).twin = s.twin := rfl
@[simp] theorem State.modTrk_saf (s : State) (f : TrkSt → TrkSt) : (s.modTrk f).saf = s.saf := rfl
@[simp] theorem State.modTrk_age (s : State) (f : TrkSt → TrkSt) : (s.modTrk f).age = s.age := rfl
@[simp] theorem State.modTrk_freeCtr (s : State) (f : TrkSt → TrkSt) : (s.modTrk f).freeCtr = s.freeCtr := rfl
@[simp] theorem State.modTrk_out (s : State) (f : TrkSt → TrkSt) : (s.modTrk f).out = s.out := rfl
@[simp] theorem State.modTrk_pending (s : State) (f : TrkSt → TrkSt) : (s.modTrk f).pending = s.pending := rfl

@[simp] theorem State.modFio_nt (s : State) (f : FioSt → FioSt) : (s.modFio f).nt = s.nt := rfl
@[simp] theorem State.modFio_ib (s : State) (f : FioSt → FioSt) : (s.modFio f).ib = s.ib := rfl
@[simp] theorem State.modFio_serial (s : State) (f : FioSt → FioSt) : (s.modFio f).serial = s.serial := rfl
@[simp] theorem State.modFio_macA (s : State) (f : FioSt → FioSt) : (s.modFio f).macA = s.macA := rfl
@[simp] theorem State.modFio_macB (s : State) (f : FioSt → FioSt) : (s.modFio f).macB = s.macB := rfl
@[simp] theorem State.modFio_frame (s : State) (f : FioSt → FioSt) : (s.modFio f).frame = s.frame := rfl
@[simp] theorem State.modFio_host (s : State) (f : FioSt → FioSt) : (s.modFio f).host = s.host := rfl
@[simp] theorem State.modFio_pi (s : State) (f : FioSt → FioSt) : (s.modFio f).pi = s.pi := rfl
@[simp] theorem State.modFio_mbx (s : State) (f : FioSt → FioSt) : (s.modFio f).mbx = s.mbx := rfl
@[simp] theorem State.modFio_par (s : State) (f : FioSt → FioSt) : (s.modFio f).par = s.par := rfl
@[simp] theorem State.modFio_flt (s : State) (f : FioSt → FioSt) : (s.modFio f).flt = s.flt := rfl
@[simp] theorem State.modFio_pwr (s : State) (f : FioSt → FioSt) : (s.modFio f).pwr = s.pwr := rfl
@[simp] theorem State.modFio_sec (s : State) (f : FioSt → FioSt) : (s.modFio f).sec = s.sec := rfl
@[simp] theorem State.modFio_links (s : State) (f : FioSt → FioSt) : (s.modFio f).links = s.links := rfl
@[simp] theorem State.modFio_axes (s : State) (f : FioSt → FioSt) : (s.modFio f).axes = s.axes := rfl
@[simp] theorem State.modFio_pins (s : State) (f : FioSt → FioSt) : (s.modFio f).pins = s.pins := rfl
@[simp] theorem State.modFio_ports (s : State) (f : FioSt → FioSt) : (s.modFio f).ports = s.ports := rfl
@[simp] theorem State.modFio_trk (s : State) (f : FioSt → FioSt) : (s.modFio f).trk = s.trk := rfl
@[simp] theorem State.modFio_fio (s : State) (f : FioSt → FioSt) : (s.modFio f).fio = f s.fio := rfl
@[simp] theorem State.modFio_cap (s : State) (f : FioSt → FioSt) : (s.modFio f).cap = s.cap := rfl
@[simp] theorem State.modFio_net (s : State) (f : FioSt → FioSt) : (s.modFio f).net = s.net := rfl
@[simp] theorem State.modFio_twin (s : State) (f : FioSt → FioSt) : (s.modFio f).twin = s.twin := rfl
@[simp] theorem State.modFio_saf (s : State) (f : FioSt → FioSt) : (s.modFio f).saf = s.saf := rfl
@[simp] theorem State.modFio_age (s : State) (f : FioSt → FioSt) : (s.modFio f).age = s.age := rfl
@[simp] theorem State.modFio_freeCtr (s : State) (f : FioSt → FioSt) : (s.modFio f).freeCtr = s.freeCtr := rfl
@[simp] theorem State.modFio_out (s : State) (f : FioSt → FioSt) : (s.modFio f).out = s.out := rfl
@[simp] theorem State.modFio_pending (s : State) (f : FioSt → FioSt) : (s.modFio f).pending = s.pending := rfl

@[simp] theorem State.modCap_nt (s : State) (f : CapSt → CapSt) : (s.modCap f).nt = s.nt := rfl
@[simp] theorem State.modCap_ib (s : State) (f : CapSt → CapSt) : (s.modCap f).ib = s.ib := rfl
@[simp] theorem State.modCap_serial (s : State) (f : CapSt → CapSt) : (s.modCap f).serial = s.serial := rfl
@[simp] theorem State.modCap_macA (s : State) (f : CapSt → CapSt) : (s.modCap f).macA = s.macA := rfl
@[simp] theorem State.modCap_macB (s : State) (f : CapSt → CapSt) : (s.modCap f).macB = s.macB := rfl
@[simp] theorem State.modCap_frame (s : State) (f : CapSt → CapSt) : (s.modCap f).frame = s.frame := rfl
@[simp] theorem State.modCap_host (s : State) (f : CapSt → CapSt) : (s.modCap f).host = s.host := rfl
@[simp] theorem State.modCap_pi (s : State) (f : CapSt → CapSt) : (s.modCap f).pi = s.pi := rfl
@[simp] theorem State.modCap_mbx (s : State) (f : CapSt → CapSt) : (s.modCap f).mbx = s.mbx := rfl
@[simp] theorem State.modCap_par (s : State) (f : CapSt → CapSt) : (s.modCap f).par = s.par := rfl
@[simp] theorem State.modCap_flt (s : State) (f : CapSt → CapSt) : (s.modCap f).flt = s.flt := rfl
@[simp] theorem State.modCap_pwr (s : State) (f : CapSt → CapSt) : (s.modCap f).pwr = s.pwr := rfl
@[simp] theorem State.modCap_sec (s : State) (f : CapSt → CapSt) : (s.modCap f).sec = s.sec := rfl
@[simp] theorem State.modCap_links (s : State) (f : CapSt → CapSt) : (s.modCap f).links = s.links := rfl
@[simp] theorem State.modCap_axes (s : State) (f : CapSt → CapSt) : (s.modCap f).axes = s.axes := rfl
@[simp] theorem State.modCap_pins (s : State) (f : CapSt → CapSt) : (s.modCap f).pins = s.pins := rfl
@[simp] theorem State.modCap_ports (s : State) (f : CapSt → CapSt) : (s.modCap f).ports = s.ports := rfl
@[simp] theorem State.modCap_trk (s : State) (f : CapSt → CapSt) : (s.modCap f).trk = s.trk := rfl
@[simp] theorem State.modCap_fio (s : State) (f : CapSt → CapSt) : (s.modCap f).fio = s.fio := rfl
@[simp] theorem State.modCap_cap (s : State) (f : CapSt → CapSt) : (s.modCap f).cap = f s.cap := rfl
@[simp] theorem State.modCap_net (s : State) (f : CapSt → CapSt) : (s.modCap f).net = s.net := rfl
@[simp] theorem State.modCap_twin (s : State) (f : CapSt → CapSt) : (s.modCap f).twin = s.twin := rfl
@[simp] theorem State.modCap_saf (s : State) (f : CapSt → CapSt) : (s.modCap f).saf = s.saf := rfl
@[simp] theorem State.modCap_age (s : State) (f : CapSt → CapSt) : (s.modCap f).age = s.age := rfl
@[simp] theorem State.modCap_freeCtr (s : State) (f : CapSt → CapSt) : (s.modCap f).freeCtr = s.freeCtr := rfl
@[simp] theorem State.modCap_out (s : State) (f : CapSt → CapSt) : (s.modCap f).out = s.out := rfl
@[simp] theorem State.modCap_pending (s : State) (f : CapSt → CapSt) : (s.modCap f).pending = s.pending := rfl

@[simp] theorem State.modNet_nt (s : State) (f : NetSt → NetSt) : (s.modNet f).nt = s.nt := rfl
@[simp] theorem State.modNet_ib (s : State) (f : NetSt → NetSt) : (s.modNet f).ib = s.ib := rfl
@[simp] theorem State.modNet_serial (s : State) (f : NetSt → NetSt) : (s.modNet f).serial = s.serial := rfl
@[simp] theorem State.modNet_macA (s : State) (f : NetSt → NetSt) : (s.modNet f).macA = s.macA := rfl
@[simp] theorem State.modNet_macB (s : State) (f : NetSt → NetSt) : (s.modNet f).macB = s.macB := rfl
@[simp] theorem State.modNet_frame (s : State) (f : NetSt → NetSt) : (s.modNet f).frame = s.frame := rfl
@[simp] theorem State.modNet_host (s : State) (f : NetSt → NetSt) : (s.modNet f).host = s.host := rfl
@[simp] theorem State.modNet_pi (s : State) (f : NetSt → NetSt) : (s.modNet f).pi = s.pi := rfl
@[simp] theorem State.modNet_mbx (s : State) (f : NetSt → NetSt) : (s.modNet f).mbx = s.mbx := rfl
@[simp] theorem State.modNet_par (s : State) (f : NetSt → NetSt) : (s.modNet f).par = s.par := rfl
@[simp] theorem State.modNet_flt (s : State) (f : NetSt → NetSt) : (s.modNet f).flt = s.flt := rfl
@[simp] theorem State.modNet_pwr (s : State) (f : NetSt → NetSt) : (s.modNet f).pwr = s.pwr := rfl
@[simp] theorem State.modNet_sec (s : State) (f : NetSt → NetSt) : (s.modNet f).sec = s.sec := rfl
@[simp] theorem State.modNet_links (s : State) (f : NetSt → NetSt) : (s.modNet f).links = s.links := rfl
@[simp] theorem State.modNet_axes (s : State) (f : NetSt → NetSt) : (s.modNet f).axes = s.axes := rfl
@[simp] theorem State.modNet_pins (s : State) (f : NetSt → NetSt) : (s.modNet f).pins = s.pins := rfl
@[simp] theorem State.modNet_ports (s : State) (f : NetSt → NetSt) : (s.modNet f).ports = s.ports := rfl
@[simp] theorem State.modNet_trk (s : State) (f : NetSt → NetSt) : (s.modNet f).trk = s.trk := rfl
@[simp] theorem State.modNet_fio (s : State) (f : NetSt → NetSt) : (s.modNet f).fio = s.fio := rfl
@[simp] theorem State.modNet_cap (s : State) (f : NetSt → NetSt) : (s.modNet f).cap = s.cap := rfl
@[simp] theorem State.modNet_net (s : State) (f : NetSt → NetSt) : (s.modNet f).net = f s.net := rfl
@[simp] theorem State.modNet_twin (s : State) (f : NetSt → NetSt) : (s.modNet f).twin = s.twin := rfl
@[simp] theorem State.modNet_saf (s : State) (f : NetSt → NetSt) : (s.modNet f).saf = s.saf := rfl
@[simp] theorem State.modNet_age (s : State) (f : NetSt → NetSt) : (s.modNet f).age = s.age := rfl
@[simp] theorem State.modNet_freeCtr (s : State) (f : NetSt → NetSt) : (s.modNet f).freeCtr = s.freeCtr := rfl
@[simp] theorem State.modNet_out (s : State) (f : NetSt → NetSt) : (s.modNet f).out = s.out := rfl
@[simp] theorem State.modNet_pending (s : State) (f : NetSt → NetSt) : (s.modNet f).pending = s.pending := rfl

@[simp] theorem State.modTwin_nt (s : State) (f : TwinSt → TwinSt) : (s.modTwin f).nt = s.nt := rfl
@[simp] theorem State.modTwin_ib (s : State) (f : TwinSt → TwinSt) : (s.modTwin f).ib = s.ib := rfl
@[simp] theorem State.modTwin_serial (s : State) (f : TwinSt → TwinSt) : (s.modTwin f).serial = s.serial := rfl
@[simp] theorem State.modTwin_macA (s : State) (f : TwinSt → TwinSt) : (s.modTwin f).macA = s.macA := rfl
@[simp] theorem State.modTwin_macB (s : State) (f : TwinSt → TwinSt) : (s.modTwin f).macB = s.macB := rfl
@[simp] theorem State.modTwin_frame (s : State) (f : TwinSt → TwinSt) : (s.modTwin f).frame = s.frame := rfl
@[simp] theorem State.modTwin_host (s : State) (f : TwinSt → TwinSt) : (s.modTwin f).host = s.host := rfl
@[simp] theorem State.modTwin_pi (s : State) (f : TwinSt → TwinSt) : (s.modTwin f).pi = s.pi := rfl
@[simp] theorem State.modTwin_mbx (s : State) (f : TwinSt → TwinSt) : (s.modTwin f).mbx = s.mbx := rfl
@[simp] theorem State.modTwin_par (s : State) (f : TwinSt → TwinSt) : (s.modTwin f).par = s.par := rfl
@[simp] theorem State.modTwin_flt (s : State) (f : TwinSt → TwinSt) : (s.modTwin f).flt = s.flt := rfl
@[simp] theorem State.modTwin_pwr (s : State) (f : TwinSt → TwinSt) : (s.modTwin f).pwr = s.pwr := rfl
@[simp] theorem State.modTwin_sec (s : State) (f : TwinSt → TwinSt) : (s.modTwin f).sec = s.sec := rfl
@[simp] theorem State.modTwin_links (s : State) (f : TwinSt → TwinSt) : (s.modTwin f).links = s.links := rfl
@[simp] theorem State.modTwin_axes (s : State) (f : TwinSt → TwinSt) : (s.modTwin f).axes = s.axes := rfl
@[simp] theorem State.modTwin_pins (s : State) (f : TwinSt → TwinSt) : (s.modTwin f).pins = s.pins := rfl
@[simp] theorem State.modTwin_ports (s : State) (f : TwinSt → TwinSt) : (s.modTwin f).ports = s.ports := rfl
@[simp] theorem State.modTwin_trk (s : State) (f : TwinSt → TwinSt) : (s.modTwin f).trk = s.trk := rfl
@[simp] theorem State.modTwin_fio (s : State) (f : TwinSt → TwinSt) : (s.modTwin f).fio = s.fio := rfl
@[simp] theorem State.modTwin_cap (s : State) (f : TwinSt → TwinSt) : (s.modTwin f).cap = s.cap := rfl
@[simp] theorem State.modTwin_net (s : State) (f : TwinSt → TwinSt) : (s.modTwin f).net = s.net := rfl
@[simp] theorem State.modTwin_twin (s : State) (f : TwinSt → TwinSt) : (s.modTwin f).twin = f s.twin := rfl
@[simp] theorem State.modTwin_saf (s : State) (f : TwinSt → TwinSt) : (s.modTwin f).saf = s.saf := rfl
@[simp] theorem State.modTwin_age (s : State) (f : TwinSt → TwinSt) : (s.modTwin f).age = s.age := rfl
@[simp] theorem State.modTwin_freeCtr (s : State) (f : TwinSt → TwinSt) : (s.modTwin f).freeCtr = s.freeCtr := rfl
@[simp] theorem State.modTwin_out (s : State) (f : TwinSt → TwinSt) : (s.modTwin f).out = s.out := rfl
@[simp] theorem State.modTwin_pending (s : State) (f : TwinSt → TwinSt) : (s.modTwin f).pending = s.pending := rfl

@[simp] theorem State.modSaf_nt (s : State) (f : SafSt → SafSt) : (s.modSaf f).nt = s.nt := rfl
@[simp] theorem State.modSaf_ib (s : State) (f : SafSt → SafSt) : (s.modSaf f).ib = s.ib := rfl
@[simp] theorem State.modSaf_serial (s : State) (f : SafSt → SafSt) : (s.modSaf f).serial = s.serial := rfl
@[simp] theorem State.modSaf_macA (s : State) (f : SafSt → SafSt) : (s.modSaf f).macA = s.macA := rfl
@[simp] theorem State.modSaf_macB (s : State) (f : SafSt → SafSt) : (s.modSaf f).macB = s.macB := rfl
@[simp] theorem State.modSaf_frame (s : State) (f : SafSt → SafSt) : (s.modSaf f).frame = s.frame := rfl
@[simp] theorem State.modSaf_host (s : State) (f : SafSt → SafSt) : (s.modSaf f).host = s.host := rfl
@[simp] theorem State.modSaf_pi (s : State) (f : SafSt → SafSt) : (s.modSaf f).pi = s.pi := rfl
@[simp] theorem State.modSaf_mbx (s : State) (f : SafSt → SafSt) : (s.modSaf f).mbx = s.mbx := rfl
@[simp] theorem State.modSaf_par (s : State) (f : SafSt → SafSt) : (s.modSaf f).par = s.par := rfl
@[simp] theorem State.modSaf_flt (s : State) (f : SafSt → SafSt) : (s.modSaf f).flt = s.flt := rfl
@[simp] theorem State.modSaf_pwr (s : State) (f : SafSt → SafSt) : (s.modSaf f).pwr = s.pwr := rfl
@[simp] theorem State.modSaf_sec (s : State) (f : SafSt → SafSt) : (s.modSaf f).sec = s.sec := rfl
@[simp] theorem State.modSaf_links (s : State) (f : SafSt → SafSt) : (s.modSaf f).links = s.links := rfl
@[simp] theorem State.modSaf_axes (s : State) (f : SafSt → SafSt) : (s.modSaf f).axes = s.axes := rfl
@[simp] theorem State.modSaf_pins (s : State) (f : SafSt → SafSt) : (s.modSaf f).pins = s.pins := rfl
@[simp] theorem State.modSaf_ports (s : State) (f : SafSt → SafSt) : (s.modSaf f).ports = s.ports := rfl
@[simp] theorem State.modSaf_trk (s : State) (f : SafSt → SafSt) : (s.modSaf f).trk = s.trk := rfl
@[simp] theorem State.modSaf_fio (s : State) (f : SafSt → SafSt) : (s.modSaf f).fio = s.fio := rfl
@[simp] theorem State.modSaf_cap (s : State) (f : SafSt → SafSt) : (s.modSaf f).cap = s.cap := rfl
@[simp] theorem State.modSaf_net (s : State) (f : SafSt → SafSt) : (s.modSaf f).net = s.net := rfl
@[simp] theorem State.modSaf_twin (s : State) (f : SafSt → SafSt) : (s.modSaf f).twin = s.twin := rfl
@[simp] theorem State.modSaf_saf (s : State) (f : SafSt → SafSt) : (s.modSaf f).saf = f s.saf := rfl
@[simp] theorem State.modSaf_age (s : State) (f : SafSt → SafSt) : (s.modSaf f).age = s.age := rfl
@[simp] theorem State.modSaf_freeCtr (s : State) (f : SafSt → SafSt) : (s.modSaf f).freeCtr = s.freeCtr := rfl
@[simp] theorem State.modSaf_out (s : State) (f : SafSt → SafSt) : (s.modSaf f).out = s.out := rfl
@[simp] theorem State.modSaf_pending (s : State) (f : SafSt → SafSt) : (s.modSaf f).pending = s.pending := rfl

@[simp] theorem State.modAge_nt (s : State) (f : AgeSt → AgeSt) : (s.modAge f).nt = s.nt := rfl
@[simp] theorem State.modAge_ib (s : State) (f : AgeSt → AgeSt) : (s.modAge f).ib = s.ib := rfl
@[simp] theorem State.modAge_serial (s : State) (f : AgeSt → AgeSt) : (s.modAge f).serial = s.serial := rfl
@[simp] theorem State.modAge_macA (s : State) (f : AgeSt → AgeSt) : (s.modAge f).macA = s.macA := rfl
@[simp] theorem State.modAge_macB (s : State) (f : AgeSt → AgeSt) : (s.modAge f).macB = s.macB := rfl
@[simp] theorem State.modAge_frame (s : State) (f : AgeSt → AgeSt) : (s.modAge f).frame = s.frame := rfl
@[simp] theorem State.modAge_host (s : State) (f : AgeSt → AgeSt) : (s.modAge f).host = s.host := rfl
@[simp] theorem State.modAge_pi (s : State) (f : AgeSt → AgeSt) : (s.modAge f).pi = s.pi := rfl
@[simp] theorem State.modAge_mbx (s : State) (f : AgeSt → AgeSt) : (s.modAge f).mbx = s.mbx := rfl
@[simp] theorem State.modAge_par (s : State) (f : AgeSt → AgeSt) : (s.modAge f).par = s.par := rfl
@[simp] theorem State.modAge_flt (s : State) (f : AgeSt → AgeSt) : (s.modAge f).flt = s.flt := rfl
@[simp] theorem State.modAge_pwr (s : State) (f : AgeSt → AgeSt) : (s.modAge f).pwr = s.pwr := rfl
@[simp] theorem State.modAge_sec (s : State) (f : AgeSt → AgeSt) : (s.modAge f).sec = s.sec := rfl
@[simp] theorem State.modAge_links (s : State) (f : AgeSt → AgeSt) : (s.modAge f).links = s.links := rfl
@[simp] theorem State.modAge_axes (s : State) (f : AgeSt → AgeSt) : (s.modAge f).axes = s.axes := rfl
@[simp] theorem State.modAge_pins (s : State) (f : AgeSt → AgeSt) : (s.modAge f).pins = s.pins := rfl
@[simp] theorem State.modAge_ports (s : State) (f : AgeSt → AgeSt) : (s.modAge f).ports = s.ports := rfl
@[simp] theorem State.modAge_trk (s : State) (f : AgeSt → AgeSt) : (s.modAge f).trk = s.trk := rfl
@[simp] theorem State.modAge_fio (s : State) (f : AgeSt → AgeSt) : (s.modAge f).fio = s.fio := rfl
@[simp] theorem State.modAge_cap (s : State) (f : AgeSt → AgeSt) : (s.modAge f).cap = s.cap := rfl
@[simp] theorem State.modAge_net (s : State) (f : AgeSt → AgeSt) : (s.modAge f).net = s.net := rfl
@[simp] theorem State.modAge_twin (s : State) (f : AgeSt → AgeSt) : (s.modAge f).twin = s.twin := rfl
@[simp] theorem State.modAge_saf (s : State) (f : AgeSt → AgeSt) : (s.modAge f).saf = s.saf := rfl
@[simp] theorem State.modAge_age (s : State) (f : AgeSt → AgeSt) : (s.modAge f).age = f s.age := rfl
@[simp] theorem State.modAge_freeCtr (s : State) (f : AgeSt → AgeSt) : (s.modAge f).freeCtr = s.freeCtr := rfl
@[simp] theorem State.modAge_out (s : State) (f : AgeSt → AgeSt) : (s.modAge f).out = s.out := rfl
@[simp] theorem State.modAge_pending (s : State) (f : AgeSt → AgeSt) : (s.modAge f).pending = s.pending := rfl

@[simp] theorem State.modMbx_nt (s : State) (i : Fin 16) (f : Mbx → Mbx) : (s.modMbx i f).nt = s.nt := rfl
@[simp] theorem State.modMbx_ib (s : State) (i : Fin 16) (f : Mbx → Mbx) : (s.modMbx i f).ib = s.ib := rfl
@[simp] theorem State.modMbx_serial (s : State) (i : Fin 16) (f : Mbx → Mbx) : (s.modMbx i f).serial = s.serial := rfl
@[simp] theorem State.modMbx_macA (s : State) (i : Fin 16) (f : Mbx → Mbx) : (s.modMbx i f).macA = s.macA := rfl
@[simp] theorem State.modMbx_macB (s : State) (i : Fin 16) (f : Mbx → Mbx) : (s.modMbx i f).macB = s.macB := rfl
@[simp] theorem State.modMbx_frame (s : State) (i : Fin 16) (f : Mbx → Mbx) : (s.modMbx i f).frame = s.frame := rfl
@[simp] theorem State.modMbx_host (s : State) (i : Fin 16) (f : Mbx → Mbx) : (s.modMbx i f).host = s.host := rfl
@[simp] theorem State.modMbx_pi (s : State) (i : Fin 16) (f : Mbx → Mbx) : (s.modMbx i f).pi = s.pi := rfl
@[simp] theorem State.modMbx_mbx (s : State) (i : Fin 16) (f : Mbx → Mbx) : (s.modMbx i f).mbx = s.mbx.set i (f s.mbx[i]) := rfl
@[simp] theorem State.modMbx_par (s : State) (i : Fin 16) (f : Mbx → Mbx) : (s.modMbx i f).par = s.par := rfl
@[simp] theorem State.modMbx_flt (s : State) (i : Fin 16) (f : Mbx → Mbx) : (s.modMbx i f).flt = s.flt := rfl
@[simp] theorem State.modMbx_pwr (s : State) (i : Fin 16) (f : Mbx → Mbx) : (s.modMbx i f).pwr = s.pwr := rfl
@[simp] theorem State.modMbx_sec (s : State) (i : Fin 16) (f : Mbx → Mbx) : (s.modMbx i f).sec = s.sec := rfl
@[simp] theorem State.modMbx_links (s : State) (i : Fin 16) (f : Mbx → Mbx) : (s.modMbx i f).links = s.links := rfl
@[simp] theorem State.modMbx_axes (s : State) (i : Fin 16) (f : Mbx → Mbx) : (s.modMbx i f).axes = s.axes := rfl
@[simp] theorem State.modMbx_pins (s : State) (i : Fin 16) (f : Mbx → Mbx) : (s.modMbx i f).pins = s.pins := rfl
@[simp] theorem State.modMbx_ports (s : State) (i : Fin 16) (f : Mbx → Mbx) : (s.modMbx i f).ports = s.ports := rfl
@[simp] theorem State.modMbx_trk (s : State) (i : Fin 16) (f : Mbx → Mbx) : (s.modMbx i f).trk = s.trk := rfl
@[simp] theorem State.modMbx_fio (s : State) (i : Fin 16) (f : Mbx → Mbx) : (s.modMbx i f).fio = s.fio := rfl
@[simp] theorem State.modMbx_cap (s : State) (i : Fin 16) (f : Mbx → Mbx) : (s.modMbx i f).cap = s.cap := rfl
@[simp] theorem State.modMbx_net (s : State) (i : Fin 16) (f : Mbx → Mbx) : (s.modMbx i f).net = s.net := rfl
@[simp] theorem State.modMbx_twin (s : State) (i : Fin 16) (f : Mbx → Mbx) : (s.modMbx i f).twin = s.twin := rfl
@[simp] theorem State.modMbx_saf (s : State) (i : Fin 16) (f : Mbx → Mbx) : (s.modMbx i f).saf = s.saf := rfl
@[simp] theorem State.modMbx_age (s : State) (i : Fin 16) (f : Mbx → Mbx) : (s.modMbx i f).age = s.age := rfl
@[simp] theorem State.modMbx_freeCtr (s : State) (i : Fin 16) (f : Mbx → Mbx) : (s.modMbx i f).freeCtr = s.freeCtr := rfl
@[simp] theorem State.modMbx_out (s : State) (i : Fin 16) (f : Mbx → Mbx) : (s.modMbx i f).out = s.out := rfl
@[simp] theorem State.modMbx_pending (s : State) (i : Fin 16) (f : Mbx → Mbx) : (s.modMbx i f).pending = s.pending := rfl

@[simp] theorem State.modLink_nt (s : State) (i : Fin 32) (f : LinkSt → LinkSt) : (s.modLink i f).nt = s.nt := rfl
@[simp] theorem State.modLink_ib (s : State) (i : Fin 32) (f : LinkSt → LinkSt) : (s.modLink i f).ib = s.ib := rfl
@[simp] theorem State.modLink_serial (s : State) (i : Fin 32) (f : LinkSt → LinkSt) : (s.modLink i f).serial = s.serial := rfl
@[simp] theorem State.modLink_macA (s : State) (i : Fin 32) (f : LinkSt → LinkSt) : (s.modLink i f).macA = s.macA := rfl
@[simp] theorem State.modLink_macB (s : State) (i : Fin 32) (f : LinkSt → LinkSt) : (s.modLink i f).macB = s.macB := rfl
@[simp] theorem State.modLink_frame (s : State) (i : Fin 32) (f : LinkSt → LinkSt) : (s.modLink i f).frame = s.frame := rfl
@[simp] theorem State.modLink_host (s : State) (i : Fin 32) (f : LinkSt → LinkSt) : (s.modLink i f).host = s.host := rfl
@[simp] theorem State.modLink_pi (s : State) (i : Fin 32) (f : LinkSt → LinkSt) : (s.modLink i f).pi = s.pi := rfl
@[simp] theorem State.modLink_mbx (s : State) (i : Fin 32) (f : LinkSt → LinkSt) : (s.modLink i f).mbx = s.mbx := rfl
@[simp] theorem State.modLink_par (s : State) (i : Fin 32) (f : LinkSt → LinkSt) : (s.modLink i f).par = s.par := rfl
@[simp] theorem State.modLink_flt (s : State) (i : Fin 32) (f : LinkSt → LinkSt) : (s.modLink i f).flt = s.flt := rfl
@[simp] theorem State.modLink_pwr (s : State) (i : Fin 32) (f : LinkSt → LinkSt) : (s.modLink i f).pwr = s.pwr := rfl
@[simp] theorem State.modLink_sec (s : State) (i : Fin 32) (f : LinkSt → LinkSt) : (s.modLink i f).sec = s.sec := rfl
@[simp] theorem State.modLink_links (s : State) (i : Fin 32) (f : LinkSt → LinkSt) : (s.modLink i f).links = s.links.set i (f s.links[i]) := rfl
@[simp] theorem State.modLink_axes (s : State) (i : Fin 32) (f : LinkSt → LinkSt) : (s.modLink i f).axes = s.axes := rfl
@[simp] theorem State.modLink_pins (s : State) (i : Fin 32) (f : LinkSt → LinkSt) : (s.modLink i f).pins = s.pins := rfl
@[simp] theorem State.modLink_ports (s : State) (i : Fin 32) (f : LinkSt → LinkSt) : (s.modLink i f).ports = s.ports := rfl
@[simp] theorem State.modLink_trk (s : State) (i : Fin 32) (f : LinkSt → LinkSt) : (s.modLink i f).trk = s.trk := rfl
@[simp] theorem State.modLink_fio (s : State) (i : Fin 32) (f : LinkSt → LinkSt) : (s.modLink i f).fio = s.fio := rfl
@[simp] theorem State.modLink_cap (s : State) (i : Fin 32) (f : LinkSt → LinkSt) : (s.modLink i f).cap = s.cap := rfl
@[simp] theorem State.modLink_net (s : State) (i : Fin 32) (f : LinkSt → LinkSt) : (s.modLink i f).net = s.net := rfl
@[simp] theorem State.modLink_twin (s : State) (i : Fin 32) (f : LinkSt → LinkSt) : (s.modLink i f).twin = s.twin := rfl
@[simp] theorem State.modLink_saf (s : State) (i : Fin 32) (f : LinkSt → LinkSt) : (s.modLink i f).saf = s.saf := rfl
@[simp] theorem State.modLink_age (s : State) (i : Fin 32) (f : LinkSt → LinkSt) : (s.modLink i f).age = s.age := rfl
@[simp] theorem State.modLink_freeCtr (s : State) (i : Fin 32) (f : LinkSt → LinkSt) : (s.modLink i f).freeCtr = s.freeCtr := rfl
@[simp] theorem State.modLink_out (s : State) (i : Fin 32) (f : LinkSt → LinkSt) : (s.modLink i f).out = s.out := rfl
@[simp] theorem State.modLink_pending (s : State) (i : Fin 32) (f : LinkSt → LinkSt) : (s.modLink i f).pending = s.pending := rfl

@[simp] theorem State.modAxis_nt (s : State) (i : Fin 128) (f : Axis → Axis) : (s.modAxis i f).nt = s.nt := rfl
@[simp] theorem State.modAxis_ib (s : State) (i : Fin 128) (f : Axis → Axis) : (s.modAxis i f).ib = s.ib := rfl
@[simp] theorem State.modAxis_serial (s : State) (i : Fin 128) (f : Axis → Axis) : (s.modAxis i f).serial = s.serial := rfl
@[simp] theorem State.modAxis_macA (s : State) (i : Fin 128) (f : Axis → Axis) : (s.modAxis i f).macA = s.macA := rfl
@[simp] theorem State.modAxis_macB (s : State) (i : Fin 128) (f : Axis → Axis) : (s.modAxis i f).macB = s.macB := rfl
@[simp] theorem State.modAxis_frame (s : State) (i : Fin 128) (f : Axis → Axis) : (s.modAxis i f).frame = s.frame := rfl
@[simp] theorem State.modAxis_host (s : State) (i : Fin 128) (f : Axis → Axis) : (s.modAxis i f).host = s.host := rfl
@[simp] theorem State.modAxis_pi (s : State) (i : Fin 128) (f : Axis → Axis) : (s.modAxis i f).pi = s.pi := rfl
@[simp] theorem State.modAxis_mbx (s : State) (i : Fin 128) (f : Axis → Axis) : (s.modAxis i f).mbx = s.mbx := rfl
@[simp] theorem State.modAxis_par (s : State) (i : Fin 128) (f : Axis → Axis) : (s.modAxis i f).par = s.par := rfl
@[simp] theorem State.modAxis_flt (s : State) (i : Fin 128) (f : Axis → Axis) : (s.modAxis i f).flt = s.flt := rfl
@[simp] theorem State.modAxis_pwr (s : State) (i : Fin 128) (f : Axis → Axis) : (s.modAxis i f).pwr = s.pwr := rfl
@[simp] theorem State.modAxis_sec (s : State) (i : Fin 128) (f : Axis → Axis) : (s.modAxis i f).sec = s.sec := rfl
@[simp] theorem State.modAxis_links (s : State) (i : Fin 128) (f : Axis → Axis) : (s.modAxis i f).links = s.links := rfl
@[simp] theorem State.modAxis_axes (s : State) (i : Fin 128) (f : Axis → Axis) : (s.modAxis i f).axes = s.axes.set i (f s.axes[i]) := rfl
@[simp] theorem State.modAxis_pins (s : State) (i : Fin 128) (f : Axis → Axis) : (s.modAxis i f).pins = s.pins := rfl
@[simp] theorem State.modAxis_ports (s : State) (i : Fin 128) (f : Axis → Axis) : (s.modAxis i f).ports = s.ports := rfl
@[simp] theorem State.modAxis_trk (s : State) (i : Fin 128) (f : Axis → Axis) : (s.modAxis i f).trk = s.trk := rfl
@[simp] theorem State.modAxis_fio (s : State) (i : Fin 128) (f : Axis → Axis) : (s.modAxis i f).fio = s.fio := rfl
@[simp] theorem State.modAxis_cap (s : State) (i : Fin 128) (f : Axis → Axis) : (s.modAxis i f).cap = s.cap := rfl
@[simp] theorem State.modAxis_net (s : State) (i : Fin 128) (f : Axis → Axis) : (s.modAxis i f).net = s.net := rfl
@[simp] theorem State.modAxis_twin (s : State) (i : Fin 128) (f : Axis → Axis) : (s.modAxis i f).twin = s.twin := rfl
@[simp] theorem State.modAxis_saf (s : State) (i : Fin 128) (f : Axis → Axis) : (s.modAxis i f).saf = s.saf := rfl
@[simp] theorem State.modAxis_age (s : State) (i : Fin 128) (f : Axis → Axis) : (s.modAxis i f).age = s.age := rfl
@[simp] theorem State.modAxis_freeCtr (s : State) (i : Fin 128) (f : Axis → Axis) : (s.modAxis i f).freeCtr = s.freeCtr := rfl
@[simp] theorem State.modAxis_out (s : State) (i : Fin 128) (f : Axis → Axis) : (s.modAxis i f).out = s.out := rfl
@[simp] theorem State.modAxis_pending (s : State) (i : Fin 128) (f : Axis → Axis) : (s.modAxis i f).pending = s.pending := rfl

@[simp] theorem State.modPin_nt (s : State) (i : Fin 8) (f : PinSt → PinSt) : (s.modPin i f).nt = s.nt := rfl
@[simp] theorem State.modPin_ib (s : State) (i : Fin 8) (f : PinSt → PinSt) : (s.modPin i f).ib = s.ib := rfl
@[simp] theorem State.modPin_serial (s : State) (i : Fin 8) (f : PinSt → PinSt) : (s.modPin i f).serial = s.serial := rfl
@[simp] theorem State.modPin_macA (s : State) (i : Fin 8) (f : PinSt → PinSt) : (s.modPin i f).macA = s.macA := rfl
@[simp] theorem State.modPin_macB (s : State) (i : Fin 8) (f : PinSt → PinSt) : (s.modPin i f).macB = s.macB := rfl
@[simp] theorem State.modPin_frame (s : State) (i : Fin 8) (f : PinSt → PinSt) : (s.modPin i f).frame = s.frame := rfl
@[simp] theorem State.modPin_host (s : State) (i : Fin 8) (f : PinSt → PinSt) : (s.modPin i f).host = s.host := rfl
@[simp] theorem State.modPin_pi (s : State) (i : Fin 8) (f : PinSt → PinSt) : (s.modPin i f).pi = s.pi := rfl
@[simp] theorem State.modPin_mbx (s : State) (i : Fin 8) (f : PinSt → PinSt) : (s.modPin i f).mbx = s.mbx := rfl
@[simp] theorem State.modPin_par (s : State) (i : Fin 8) (f : PinSt → PinSt) : (s.modPin i f).par = s.par := rfl
@[simp] theorem State.modPin_flt (s : State) (i : Fin 8) (f : PinSt → PinSt) : (s.modPin i f).flt = s.flt := rfl
@[simp] theorem State.modPin_pwr (s : State) (i : Fin 8) (f : PinSt → PinSt) : (s.modPin i f).pwr = s.pwr := rfl
@[simp] theorem State.modPin_sec (s : State) (i : Fin 8) (f : PinSt → PinSt) : (s.modPin i f).sec = s.sec := rfl
@[simp] theorem State.modPin_links (s : State) (i : Fin 8) (f : PinSt → PinSt) : (s.modPin i f).links = s.links := rfl
@[simp] theorem State.modPin_axes (s : State) (i : Fin 8) (f : PinSt → PinSt) : (s.modPin i f).axes = s.axes := rfl
@[simp] theorem State.modPin_pins (s : State) (i : Fin 8) (f : PinSt → PinSt) : (s.modPin i f).pins = s.pins.set i (f s.pins[i]) := rfl
@[simp] theorem State.modPin_ports (s : State) (i : Fin 8) (f : PinSt → PinSt) : (s.modPin i f).ports = s.ports := rfl
@[simp] theorem State.modPin_trk (s : State) (i : Fin 8) (f : PinSt → PinSt) : (s.modPin i f).trk = s.trk := rfl
@[simp] theorem State.modPin_fio (s : State) (i : Fin 8) (f : PinSt → PinSt) : (s.modPin i f).fio = s.fio := rfl
@[simp] theorem State.modPin_cap (s : State) (i : Fin 8) (f : PinSt → PinSt) : (s.modPin i f).cap = s.cap := rfl
@[simp] theorem State.modPin_net (s : State) (i : Fin 8) (f : PinSt → PinSt) : (s.modPin i f).net = s.net := rfl
@[simp] theorem State.modPin_twin (s : State) (i : Fin 8) (f : PinSt → PinSt) : (s.modPin i f).twin = s.twin := rfl
@[simp] theorem State.modPin_saf (s : State) (i : Fin 8) (f : PinSt → PinSt) : (s.modPin i f).saf = s.saf := rfl
@[simp] theorem State.modPin_age (s : State) (i : Fin 8) (f : PinSt → PinSt) : (s.modPin i f).age = s.age := rfl
@[simp] theorem State.modPin_freeCtr (s : State) (i : Fin 8) (f : PinSt → PinSt) : (s.modPin i f).freeCtr = s.freeCtr := rfl
@[simp] theorem State.modPin_out (s : State) (i : Fin 8) (f : PinSt → PinSt) : (s.modPin i f).out = s.out := rfl
@[simp] theorem State.modPin_pending (s : State) (i : Fin 8) (f : PinSt → PinSt) : (s.modPin i f).pending = s.pending := rfl

@[simp] theorem State.modPort_nt (s : State) (i : Fin 4) (f : PortSt → PortSt) : (s.modPort i f).nt = s.nt := rfl
@[simp] theorem State.modPort_ib (s : State) (i : Fin 4) (f : PortSt → PortSt) : (s.modPort i f).ib = s.ib := rfl
@[simp] theorem State.modPort_serial (s : State) (i : Fin 4) (f : PortSt → PortSt) : (s.modPort i f).serial = s.serial := rfl
@[simp] theorem State.modPort_macA (s : State) (i : Fin 4) (f : PortSt → PortSt) : (s.modPort i f).macA = s.macA := rfl
@[simp] theorem State.modPort_macB (s : State) (i : Fin 4) (f : PortSt → PortSt) : (s.modPort i f).macB = s.macB := rfl
@[simp] theorem State.modPort_frame (s : State) (i : Fin 4) (f : PortSt → PortSt) : (s.modPort i f).frame = s.frame := rfl
@[simp] theorem State.modPort_host (s : State) (i : Fin 4) (f : PortSt → PortSt) : (s.modPort i f).host = s.host := rfl
@[simp] theorem State.modPort_pi (s : State) (i : Fin 4) (f : PortSt → PortSt) : (s.modPort i f).pi = s.pi := rfl
@[simp] theorem State.modPort_mbx (s : State) (i : Fin 4) (f : PortSt → PortSt) : (s.modPort i f).mbx = s.mbx := rfl
@[simp] theorem State.modPort_par (s : State) (i : Fin 4) (f : PortSt → PortSt) : (s.modPort i f).par = s.par := rfl
@[simp] theorem State.modPort_flt (s : State) (i : Fin 4) (f : PortSt → PortSt) : (s.modPort i f).flt = s.flt := rfl
@[simp] theorem State.modPort_pwr (s : State) (i : Fin 4) (f : PortSt → PortSt) : (s.modPort i f).pwr = s.pwr := rfl
@[simp] theorem State.modPort_sec (s : State) (i : Fin 4) (f : PortSt → PortSt) : (s.modPort i f).sec = s.sec := rfl
@[simp] theorem State.modPort_links (s : State) (i : Fin 4) (f : PortSt → PortSt) : (s.modPort i f).links = s.links := rfl
@[simp] theorem State.modPort_axes (s : State) (i : Fin 4) (f : PortSt → PortSt) : (s.modPort i f).axes = s.axes := rfl
@[simp] theorem State.modPort_pins (s : State) (i : Fin 4) (f : PortSt → PortSt) : (s.modPort i f).pins = s.pins := rfl
@[simp] theorem State.modPort_ports (s : State) (i : Fin 4) (f : PortSt → PortSt) : (s.modPort i f).ports = s.ports.set i (f s.ports[i]) := rfl
@[simp] theorem State.modPort_trk (s : State) (i : Fin 4) (f : PortSt → PortSt) : (s.modPort i f).trk = s.trk := rfl
@[simp] theorem State.modPort_fio (s : State) (i : Fin 4) (f : PortSt → PortSt) : (s.modPort i f).fio = s.fio := rfl
@[simp] theorem State.modPort_cap (s : State) (i : Fin 4) (f : PortSt → PortSt) : (s.modPort i f).cap = s.cap := rfl
@[simp] theorem State.modPort_net (s : State) (i : Fin 4) (f : PortSt → PortSt) : (s.modPort i f).net = s.net := rfl
@[simp] theorem State.modPort_twin (s : State) (i : Fin 4) (f : PortSt → PortSt) : (s.modPort i f).twin = s.twin := rfl
@[simp] theorem State.modPort_saf (s : State) (i : Fin 4) (f : PortSt → PortSt) : (s.modPort i f).saf = s.saf := rfl
@[simp] theorem State.modPort_age (s : State) (i : Fin 4) (f : PortSt → PortSt) : (s.modPort i f).age = s.age := rfl
@[simp] theorem State.modPort_freeCtr (s : State) (i : Fin 4) (f : PortSt → PortSt) : (s.modPort i f).freeCtr = s.freeCtr := rfl
@[simp] theorem State.modPort_out (s : State) (i : Fin 4) (f : PortSt → PortSt) : (s.modPort i f).out = s.out := rfl
@[simp] theorem State.modPort_pending (s : State) (i : Fin 4) (f : PortSt → PortSt) : (s.modPort i f).pending = s.pending := rfl

@[simp] theorem State.adv_nt (s : State) (tm : Nat) : (s.adv tm).nt = max s.nt tm := rfl
@[simp] theorem State.adv_ib (s : State) (tm : Nat) : (s.adv tm).ib = s.ib := rfl
@[simp] theorem State.adv_serial (s : State) (tm : Nat) : (s.adv tm).serial = s.serial := rfl
@[simp] theorem State.adv_macA (s : State) (tm : Nat) : (s.adv tm).macA = s.macA := rfl
@[simp] theorem State.adv_macB (s : State) (tm : Nat) : (s.adv tm).macB = s.macB := rfl
@[simp] theorem State.adv_frame (s : State) (tm : Nat) : (s.adv tm).frame = s.frame := rfl
@[simp] theorem State.adv_host (s : State) (tm : Nat) : (s.adv tm).host = s.host := rfl
@[simp] theorem State.adv_pi (s : State) (tm : Nat) : (s.adv tm).pi = s.pi := rfl
@[simp] theorem State.adv_mbx (s : State) (tm : Nat) : (s.adv tm).mbx = s.mbx := rfl
@[simp] theorem State.adv_par (s : State) (tm : Nat) : (s.adv tm).par = s.par := rfl
@[simp] theorem State.adv_flt (s : State) (tm : Nat) : (s.adv tm).flt = s.flt := rfl
@[simp] theorem State.adv_pwr (s : State) (tm : Nat) : (s.adv tm).pwr = s.pwr := rfl
@[simp] theorem State.adv_sec (s : State) (tm : Nat) : (s.adv tm).sec = s.sec := rfl
@[simp] theorem State.adv_links (s : State) (tm : Nat) : (s.adv tm).links = s.links := rfl
@[simp] theorem State.adv_axes (s : State) (tm : Nat) : (s.adv tm).axes = s.axes := rfl
@[simp] theorem State.adv_pins (s : State) (tm : Nat) : (s.adv tm).pins = s.pins := rfl
@[simp] theorem State.adv_ports (s : State) (tm : Nat) : (s.adv tm).ports = s.ports := rfl
@[simp] theorem State.adv_trk (s : State) (tm : Nat) : (s.adv tm).trk = s.trk := rfl
@[simp] theorem State.adv_fio (s : State) (tm : Nat) : (s.adv tm).fio = s.fio := rfl
@[simp] theorem State.adv_cap (s : State) (tm : Nat) : (s.adv tm).cap = s.cap := rfl
@[simp] theorem State.adv_net (s : State) (tm : Nat) : (s.adv tm).net = s.net := rfl
@[simp] theorem State.adv_twin (s : State) (tm : Nat) : (s.adv tm).twin = s.twin := rfl
@[simp] theorem State.adv_saf (s : State) (tm : Nat) : (s.adv tm).saf = s.saf := rfl
@[simp] theorem State.adv_age (s : State) (tm : Nat) : (s.adv tm).age = s.age := rfl
@[simp] theorem State.adv_freeCtr (s : State) (tm : Nat) : (s.adv tm).freeCtr = s.freeCtr := rfl
@[simp] theorem State.adv_out (s : State) (tm : Nat) : (s.adv tm).out = s.out := rfl
@[simp] theorem State.adv_pending (s : State) (tm : Nat) : (s.adv tm).pending = s.pending := rfl

@[simp] theorem State.emit_nt (s : State) (x : Out) : (s.emit x).nt = s.nt := rfl
@[simp] theorem State.emit_ib (s : State) (x : Out) : (s.emit x).ib = s.ib := rfl
@[simp] theorem State.emit_serial (s : State) (x : Out) : (s.emit x).serial = s.serial := rfl
@[simp] theorem State.emit_macA (s : State) (x : Out) : (s.emit x).macA = s.macA := rfl
@[simp] theorem State.emit_macB (s : State) (x : Out) : (s.emit x).macB = s.macB := rfl
@[simp] theorem State.emit_frame (s : State) (x : Out) : (s.emit x).frame = s.frame := rfl
@[simp] theorem State.emit_host (s : State) (x : Out) : (s.emit x).host = s.host := rfl
@[simp] theorem State.emit_pi (s : State) (x : Out) : (s.emit x).pi = s.pi := rfl
@[simp] theorem State.emit_mbx (s : State) (x : Out) : (s.emit x).mbx = s.mbx := rfl
@[simp] theorem State.emit_par (s : State) (x : Out) : (s.emit x).par = s.par := rfl
@[simp] theorem State.emit_flt (s : State) (x : Out) : (s.emit x).flt = s.flt := rfl
@[simp] theorem State.emit_pwr (s : State) (x : Out) : (s.emit x).pwr = s.pwr := rfl
@[simp] theorem State.emit_sec (s : State) (x : Out) : (s.emit x).sec = s.sec := rfl
@[simp] theorem State.emit_links (s : State) (x : Out) : (s.emit x).links = s.links := rfl
@[simp] theorem State.emit_axes (s : State) (x : Out) : (s.emit x).axes = s.axes := rfl
@[simp] theorem State.emit_pins (s : State) (x : Out) : (s.emit x).pins = s.pins := rfl
@[simp] theorem State.emit_ports (s : State) (x : Out) : (s.emit x).ports = s.ports := rfl
@[simp] theorem State.emit_trk (s : State) (x : Out) : (s.emit x).trk = s.trk := rfl
@[simp] theorem State.emit_fio (s : State) (x : Out) : (s.emit x).fio = s.fio := rfl
@[simp] theorem State.emit_cap (s : State) (x : Out) : (s.emit x).cap = s.cap := rfl
@[simp] theorem State.emit_net (s : State) (x : Out) : (s.emit x).net = s.net := rfl
@[simp] theorem State.emit_twin (s : State) (x : Out) : (s.emit x).twin = s.twin := rfl
@[simp] theorem State.emit_saf (s : State) (x : Out) : (s.emit x).saf = s.saf := rfl
@[simp] theorem State.emit_age (s : State) (x : Out) : (s.emit x).age = s.age := rfl
@[simp] theorem State.emit_freeCtr (s : State) (x : Out) : (s.emit x).freeCtr = s.freeCtr := rfl
@[simp] theorem State.emit_out (s : State) (x : Out) : (s.emit x).out = s.out ++ [x] := rfl
@[simp] theorem State.emit_pending (s : State) (x : Out) : (s.emit x).pending = s.pending := rfl

@[simp] theorem State.drawNat_nt (s : State) : s.drawNat.2.nt = s.nt := rfl
@[simp] theorem State.drawNat_ib (s : State) : s.drawNat.2.ib = s.ib := rfl
@[simp] theorem State.drawNat_serial (s : State) : s.drawNat.2.serial = s.serial := rfl
@[simp] theorem State.drawNat_macA (s : State) : s.drawNat.2.macA = s.macA := rfl
@[simp] theorem State.drawNat_macB (s : State) : s.drawNat.2.macB = s.macB := rfl
@[simp] theorem State.drawNat_frame (s : State) : s.drawNat.2.frame = s.frame := rfl
@[simp] theorem State.drawNat_host (s : State) : s.drawNat.2.host = s.host := rfl
@[simp] theorem State.drawNat_pi (s : State) : s.drawNat.2.pi = s.pi := rfl
@[simp] theorem State.drawNat_mbx (s : State) : s.drawNat.2.mbx = s.mbx := rfl
@[simp] theorem State.drawNat_par (s : State) : s.drawNat.2.par = s.par := rfl
@[simp] theorem State.drawNat_flt (s : State) : s.drawNat.2.flt = s.flt := rfl
@[simp] theorem State.drawNat_pwr (s : State) : s.drawNat.2.pwr = s.pwr := rfl
@[simp] theorem State.drawNat_sec (s : State) : s.drawNat.2.sec = s.sec := rfl
@[simp] theorem State.drawNat_links (s : State) : s.drawNat.2.links = s.links := rfl
@[simp] theorem State.drawNat_axes (s : State) : s.drawNat.2.axes = s.axes := rfl
@[simp] theorem State.drawNat_pins (s : State) : s.drawNat.2.pins = s.pins := rfl
@[simp] theorem State.drawNat_ports (s : State) : s.drawNat.2.ports = s.ports := rfl
@[simp] theorem State.drawNat_trk (s : State) : s.drawNat.2.trk = s.trk := rfl
@[simp] theorem State.drawNat_fio (s : State) : s.drawNat.2.fio = s.fio := rfl
@[simp] theorem State.drawNat_cap (s : State) : s.drawNat.2.cap = s.cap := rfl
@[simp] theorem State.drawNat_net (s : State) : s.drawNat.2.net = s.net := rfl
@[simp] theorem State.drawNat_twin (s : State) : s.drawNat.2.twin = s.twin := rfl
@[simp] theorem State.drawNat_saf (s : State) : s.drawNat.2.saf = s.saf := rfl
@[simp] theorem State.drawNat_age (s : State) : s.drawNat.2.age = s.age := rfl
@[simp] theorem State.drawNat_freeCtr (s : State) : s.drawNat.2.freeCtr = s.freeCtr + 1 := rfl
@[simp] theorem State.drawNat_out (s : State) : s.drawNat.2.out = s.out := rfl
@[simp] theorem State.drawNat_pending (s : State) : s.drawNat.2.pending = s.pending := rfl

@[simp] theorem State.drawBool_nt (s : State) : s.drawBool.2.nt = s.nt := rfl
@[simp] theorem State.drawBool_ib (s : State) : s.drawBool.2.ib = s.ib := rfl
@[simp] theorem State.drawBool_serial (s : State) : s.drawBool.2.serial = s.serial := rfl
@[simp] theorem State.drawBool_macA (s : State) : s.drawBool.2.macA = s.macA := rfl
@[simp] theorem State.drawBool_macB (s : State) : s.drawBool.2.macB = s.macB := rfl
@[simp] theorem State.drawBool_frame (s : State) : s.drawBool.2.frame = s.frame := rfl
@[simp] theorem State.drawBool_host (s : State) : s.drawBool.2.host = s.host := rfl
@[simp] theorem State.drawBool_pi (s : State) : s.drawBool.2.pi = s.pi := rfl
@[simp] theorem State.drawBool_mbx (s : State) : s.drawBool.2.mbx = s.mbx := rfl
@[simp] theorem State.drawBool_par (s : State) : s.drawBool.2.par = s.par := rfl
@[simp] theorem State.drawBool_flt (s : State) : s.drawBool.2.flt = s.flt := rfl
@[simp] theorem State.drawBool_pwr (s : State) : s.drawBool.2.pwr = s.pwr := rfl
@[simp] theorem State.drawBool_sec (s : State) : s.drawBool.2.sec = s.sec := rfl
@[simp] theorem State.drawBool_links (s : State) : s.drawBool.2.links = s.links := rfl
@[simp] theorem State.drawBool_axes (s : State) : s.drawBool.2.axes = s.axes := rfl
@[simp] theorem State.drawBool_pins (s : State) : s.drawBool.2.pins = s.pins := rfl
@[simp] theorem State.drawBool_ports (s : State) : s.drawBool.2.ports = s.ports := rfl
@[simp] theorem State.drawBool_trk (s : State) : s.drawBool.2.trk = s.trk := rfl
@[simp] theorem State.drawBool_fio (s : State) : s.drawBool.2.fio = s.fio := rfl
@[simp] theorem State.drawBool_cap (s : State) : s.drawBool.2.cap = s.cap := rfl
@[simp] theorem State.drawBool_net (s : State) : s.drawBool.2.net = s.net := rfl
@[simp] theorem State.drawBool_twin (s : State) : s.drawBool.2.twin = s.twin := rfl
@[simp] theorem State.drawBool_saf (s : State) : s.drawBool.2.saf = s.saf := rfl
@[simp] theorem State.drawBool_age (s : State) : s.drawBool.2.age = s.age := rfl
@[simp] theorem State.drawBool_freeCtr (s : State) : s.drawBool.2.freeCtr = s.freeCtr + 1 := rfl
@[simp] theorem State.drawBool_out (s : State) : s.drawBool.2.out = s.out := rfl
@[simp] theorem State.drawBool_pending (s : State) : s.drawBool.2.pending = s.pending := rfl

@[simp] theorem State.drawRat_nt (s : State) : s.drawRat.2.nt = s.nt := rfl
@[simp] theorem State.drawRat_ib (s : State) : s.drawRat.2.ib = s.ib := rfl
@[simp] theorem State.drawRat_serial (s : State) : s.drawRat.2.serial = s.serial := rfl
@[simp] theorem State.drawRat_macA (s : State) : s.drawRat.2.macA = s.macA := rfl
@[simp] theorem State.drawRat_macB (s : State) : s.drawRat.2.macB = s.macB := rfl
@[simp] theorem State.drawRat_frame (s : State) : s.drawRat.2.frame = s.frame := rfl
@[simp] theorem State.drawRat_host (s : State) : s.drawRat.2.host = s.host := rfl
@[simp] theorem State.drawRat_pi (s : State) : s.drawRat.2.pi = s.pi := rfl
@[simp] theorem State.drawRat_mbx (s : State) : s.drawRat.2.mbx = s.mbx := rfl
@[simp] theorem State.drawRat_par (s : State) : s.drawRat.2.par = s.par := rfl
@[simp] theorem State.drawRat_flt (s : State) : s.drawRat.2.flt = s.flt := rfl
@[simp] theorem State.drawRat_pwr (s : State) : s.drawRat.2.pwr = s.pwr := rfl
@[simp] theorem State.drawRat_sec (s : State) : s.drawRat.2.sec = s.sec := rfl
@[simp] theorem State.drawRat_links (s : State) : s.drawRat.2.links = s.links := rfl
@[simp] theorem State.drawRat_axes (s : State) : s.drawRat.2.axes = s.axes := rfl
@[simp] theorem State.drawRat_pins (s : State) : s.drawRat.2.pins = s.pins := rfl
@[simp] theorem State.drawRat_ports (s : State) : s.drawRat.2.ports = s.ports := rfl
@[simp] theorem State.drawRat_trk (s : State) : s.drawRat.2.trk = s.trk := rfl
@[simp] theorem State.drawRat_fio (s : State) : s.drawRat.2.fio = s.fio := rfl
@[simp] theorem State.drawRat_cap (s : State) : s.drawRat.2.cap = s.cap := rfl
@[simp] theorem State.drawRat_net (s : State) : s.drawRat.2.net = s.net := rfl
@[simp] theorem State.drawRat_twin (s : State) : s.drawRat.2.twin = s.twin := rfl
@[simp] theorem State.drawRat_saf (s : State) : s.drawRat.2.saf = s.saf := rfl
@[simp] theorem State.drawRat_age (s : State) : s.drawRat.2.age = s.age := rfl
@[simp] theorem State.drawRat_freeCtr (s : State) : s.drawRat.2.freeCtr = s.freeCtr + 1 := rfl
@[simp] theorem State.drawRat_out (s : State) : s.drawRat.2.out = s.out := rfl
@[simp] theorem State.drawRat_pending (s : State) : s.drawRat.2.pending = s.pending := rfl

/-- Two entries of a vector after one of them has been set. -/
theorem vector_set_get {α : Type} {n : Nat} (v : Vector α n) (i k : Fin n) (x : α) :
    (v.set i x)[k] = if i = k then x else v[k] := by
  simp only [Fin.getElem_fin, Vector.getElem_set, Fin.ext_iff]

/-- The entry that was set. -/
@[simp] theorem vector_set_self {α : Type} {n : Nat} (v : Vector α n) (i : Fin n) (x : α) : (v.set i x)[i] = x := by
  simp

/-- A repeated change keeps what each of its steps keeps. -/
theorem State.each_keeps {α : Type} (P : State → Prop) (f : State → α → State) (hf : ∀ t x, P t → P (f t x)) :
    ∀ (l : List α) (s : State), P s → P (s.each l f)
  | [], _, h => h
  | x :: rest, s, h => State.each_keeps P f hf rest (f s x) (hf s x h)

/-- A repeated change leaves what each of its steps leaves. -/
theorem State.each_same {α β : Type} (g : State → β) (f : State → α → State) (hf : ∀ t x, g (f t x) = g t)
    (l : List α) (s : State) : g (s.each l f) = g s :=
  State.each_keeps (fun t => g t = g s) f (fun t x h => (hf t x).trans h) l s rfl

end Sys2Proof.Machine
end

