-- ==== Sys2Proof/Laws/Serve.lean ====
section
/-! SUPPORT. What serving a mailbox command can do, said once: the command is not there, it is refused before its own
conditions, or it acts. -/

namespace Sys2Proof.Machine

/-- A command that its mailbox does not hold changes device time alone. -/
theorem serve_absent {s : State} {m : Fin 16} {op : Nat} {hit : List Byte → Bool} (tm right : Nat)
    (act : State → List Byte → Served) (busy : State → List Byte → Bool) (h : s.holds m op hit = false) :
    s.serve m tm op hit right act busy = s.adv tm := by
  have e : (s.adv tm).holds m op hit = false := h
  simp only [State.serve, e, Bool.false_eq_true, if_false]

/-- A command with a status against it before its own conditions is answered with that status. -/
theorem serve_refused {s : State} {m : Fin 16} {op right st : Nat} {hit : List Byte → Bool} (tm : Nat)
    (act : State → List Byte → Served) (h : s.holds m op hit = true) (e : s.preStatus m false right = st)
    (n : st ≠ stOk) (n' : st ≠ stRange) :
    s.serve m tm op hit right act (fun _ _ => false) = (s.adv tm).answer m st 0 [] := by
  have e1 : (s.adv tm).holds m op hit = true := h
  have e2 : (s.adv tm).preStatus m false right = st := e
  have e3 : st ≠ 0 := n
  simp only [State.serve, e1, e2, e3, n', if_true, if_false, ne_eq, not_false_eq_true, State.settle]

/-- A command whose header is not in order is answered RANGE, or with a status that stands before it. -/
theorem serve_header {s : State} {m : Fin 16} {op right : Nat} {hit : List Byte → Bool} (tm : Nat)
    (act : State → List Byte → Served) (h : s.holds m op hit = true) (e : s.preStatus m false right = stRange) :
    s.serve m tm op hit right act (fun _ _ => false) =
      (s.adv tm).answer m (headerStatus (act (s.adv tm) s.mbx[m].payload)) 0 [] := by
  have e1 : (s.adv tm).holds m op hit = true := h
  have e2 : (s.adv tm).preStatus m false right = stRange := e
  simp only [State.serve, e1, e2, if_true, State.settle]
  rfl

theorem headerStatus_cases (r : Served) :
    headerStatus r = stRange ∨ headerStatus r = stUnknown ∨ headerStatus r = stLocked := by
  cases r <;> simp only [headerStatus]
  case fail st _ _ => split <;> tauto
  case failed _ st => split <;> tauto
  all_goals exact .inl trivial

theorem ready_iff {s : State} {m : Fin 16} {op right : Nat} {hit : List Byte → Bool}
    (h : s.ready m op hit right = true) (tm : Nat) :
    (s.adv tm).holds m op hit = true ∧ (s.adv tm).preStatus m false right = 0 := by
  simp only [State.ready, Bool.and_eq_true, beq_iff_eq] at h
  exact h

/-- A command that nothing is against acts on its payload. -/
theorem serve_ready {s : State} {m : Fin 16} {op right : Nat} {hit : List Byte → Bool} (tm : Nat)
    (act : State → List Byte → Served) (busy : State → List Byte → Bool) (h : s.ready m op hit right = true)
    (hb : busy (s.adv tm) s.mbx[m].payload = false) :
    s.serve m tm op hit right act busy = (s.adv tm).settle m (act (s.adv tm) s.mbx[m].payload) := by
  obtain ⟨h1, h2⟩ := ready_iff h tm
  have e : (s.adv tm).mbx = s.mbx := rfl
  have n : ¬ (0 = stRange) := by decide
  simp only [State.serve, h1, e, hb, h2, n, if_true, ne_eq, not_true_eq_false, if_false]

/-- A call that nothing is against acts on its arguments. -/
theorem serveCall_ready {s : State} {m : Fin 16} {id n : Nat} (tm : Nat) (act : State → List Byte → Served)
    (busy : State → Bool) (h : s.callReady m id n = true) (hb : busy (s.adv tm) = false) :
    s.serveCall m tm id n act busy = (s.adv tm).settle m (act (s.adv tm) (callArgs s.mbx[m].payload)) := by
  simp only [State.callReady, Bool.and_eq_true, beq_iff_eq, Bool.not_eq_true'] at h
  obtain ⟨⟨h1, h2⟩, h3⟩ := h
  have e3 : (s.adv tm).standbyRefuses id = false := h3
  rw [State.serveCall, serve_ready tm _ _ h1 hb]
  simp only [h2, ne_eq, not_true_eq_false, if_false, e3, withState, Bool.not_false, if_true]

/-- A call's ID of an axis class, in its parts (R56). -/
theorem axis_id {c i x : Nat} {a : Fin 128} (hi : i < 65536) (h : x = c * 2 ^ 24 + a.val * 2 ^ 16 + i) :
    idClass x = c ∧ idIndex x = i ∧ idInst x = a.val := by
  obtain ⟨a, ha⟩ := a
  simp only [idClass, idIndex, idInst] at h ⊢
  omega

theorem axisNo_val (a : Fin 128) : axisNo a.val = a := by
  apply Fin.ext
  simp only [axisNo, fin]
  omega

/-- An axis call that nothing is against acts on its axis and arguments. -/
theorem serveAxis_ready {s : State} {m : Fin 16} {a : Fin 128} {cls idx n : Nat} (tm : Nat) (hi : idx < 65536)
    (act : Fin 128 → State → List Byte → Served) (busy : Fin 128 → State → Bool)
    (h : s.axisReady m a cls idx n = true) (hb : busy a (s.adv tm) = false) :
    s.serveAxis m tm cls idx n act busy = (s.adv tm).settle m (act a (s.adv tm) (callArgs s.mbx[m].payload)) := by
  simp only [State.axisReady, Bool.and_eq_true, beq_iff_eq, Bool.not_eq_true'] at h
  obtain ⟨⟨h1, h2⟩, h3⟩ := h
  obtain ⟨r1, r2⟩ := ready_iff h1 tm
  have hid : fld s.mbx[m].payload 0 4 = cls * 2 ^ 24 + a.val * 2 ^ 16 + idx := by
    have := r1
    simp only [State.holds, Bool.and_eq_true, decide_eq_true_eq] at this
    exact this.2
  obtain ⟨i1, i2, i3⟩ := axis_id hi hid
  have i4 : axisNo (idInst (fld s.mbx[m].payload 0 4)) = a := by rw [i3]; exact axisNo_val a
  have e3 : (s.adv tm).standbyRefuses (fld s.mbx[m].payload 0 4) = false := by
    have : idClass (cls * 2 ^ 24) = cls := by simp only [idClass]; omega
    simp only [State.standbyRefuses, this] at h3
    simp only [State.standbyRefuses, i1]
    exact h3
  have r : s.ready m 0x10 (fun p => idClass (fld p 0 4) = cls && idIndex (fld p 0 4) = idx &&
      decide (idInst (fld p 0 4) < 128)) 1 = true := by
    simp only [State.ready, Bool.and_eq_true, beq_iff_eq]
    refine ⟨?_, r2⟩
    have := r1
    simp only [State.holds, Bool.and_eq_true, decide_eq_true_eq] at this ⊢
    exact ⟨this.1, ⟨i1, i2⟩, i3 ▸ a.isLt⟩
  rw [State.serveAxis, serve_ready tm _ _ r (by show busy (axisNo (idInst (fld s.mbx[m].payload 0 4))) _ = false; rw [i4]; exact hb)]
  simp only [h2, ne_eq, not_true_eq_false, if_false, e3, withState, Bool.not_false, if_true, i4]

theorem loginOk_begun (s : State) (m : Fin 16) (tm sub : Nat) : (s.safetyBegun m tm).loginOk m sub = s.loginOk m sub := by
  simp only [State.safetyBegun, State.loginOk, State.modSaf, State.adv]
  cases s.saf.login with
  | none => rfl
  | some l =>
    obtain ⟨a, b, c⟩ := l
    by_cases e : a = s.mbx[m].sid <;> simp [e, -Fin.getElem_fin]

/-- A SAFETY sub-command that nothing is against acts on its payload. -/
theorem serveSafety_ready {s : State} {m : Fin 16} {sub n : Nat} (tm : Nat) (l : Option Nat)
    (act : State → List Byte → Served) (hl : l = none ∨ l = some n) (h : s.safetyReady m sub n = true) :
    s.serveSafety m tm sub l act =
      (s.adv tm).settle m (act (s.safetyBegun m tm) (s.mbx[m].payload.drop 4)) := by
  simp only [State.safetyReady, Bool.and_eq_true, Bool.or_eq_true, decide_eq_true_eq, beq_iff_eq] at h
  obtain ⟨⟨⟨⟨h1, h2⟩, h3⟩, h4⟩, h5⟩ := h
  have e2 : (s.safetyBegun m tm).ib = true := h2
  have e3 : (decide (3 ≤ sub) && !(s.safetyBegun m tm).loginOk m sub) = false := by
    rw [loginOk_begun]
    rcases h3 with h3 | h3
    · have : ¬ 3 ≤ sub := by omega
      simp [this]
    · simp [h3]
  have e6 : ¬ s.mbx[m].payload.length < 4 := by omega
  have e7 : (l.any fun k => s.mbx[m].payload.length != 4 + k) = false := by
    rcases hl with rfl | rfl
    · rfl
    · simp [h5, -Fin.getElem_fin]
  rw [State.serveSafety, serve_ready tm _ _ h1 rfl]
  have : (s.adv tm).modSaf (fun k => { k with login := k.login.map fun l =>
    if l.1 = (s.adv tm).mbx[m].sid then (l.1, (s.adv tm).nt, l.2.2) else l }) = s.safetyBegun m tm := rfl
  simp only [this, e2, e3, h4, e6, e7]
  simp

end Sys2Proof.Machine
end

