-- ==== Sys2Proof/Tests/Slice0.lean ====
section
/-! SUPPORT. The model's own tests: ill-formed commands, the spec's worked examples, and for every statement states
that meet its hypotheses. -/

set_option Elab.async false
set_option linter.unusedVariables false

namespace Sys2Proof.Tests

open Sys2Proof Sys2Proof.Machine

/-! Ill-formed commands: one for each check. -/

/-- An unaligned offset (R39). -/
theorem test_wf_unaligned : (Instr.registerWrite .pcie 2 0 0).wf = false := by decide
/-- A register past the host address space (R39). -/
theorem test_wf_register : (Instr.registerWrite .pcie 0x40000 0 0).wf = false := by decide
/-- An offset past three address bytes, at each QSPI command (R41). -/
theorem test_wf_qspi : (Instr.qspiRead (2 ^ 24) 1 0).wf = false ∧ (Instr.qspiQread (2 ^ 24) 1 0).wf = false ∧
    (Instr.qspiWrite (2 ^ 24) [] 0).wf = false ∧ (Instr.qspiQwrite (2 ^ 24) [] 0).wf = false := by decide
/-- A wide register past the register file (R39). -/
theorem test_wf_wide : (Instr.wideRegisterLowRead .pcie 0x1000 0).wf = false := by decide
/-- An offset below the two banks (R39). -/
theorem test_wf_bank : (Instr.piBankWrite .pcie 0x1FFFC 0 0).wf = false := by decide
/-- A stamp of more than 64 bits (R16). -/
theorem test_wf_stamp : (Instr.latchEdge 0 0 true (2 ^ 64)).wf = false := by decide
/-- A turnaround of more than two bytes (R87). -/
theorem test_wf_turn : (Instr.drspReceive 0 (2 ^ 16) 0).wf = false := by decide
/-- A packet with more bytes than symbols (R85). -/
theorem test_wf_packet : (Instr.upstreamPacket 0 true 0 [1] 0).wf = false := by decide
/-- A pin that acts after it is seen. -/
theorem test_wf_pin : (Instr.tripPinActivation 0 2 1).wf = false := by decide
/-- A supply reading of more than 16 bits (R310). -/
theorem test_wf_fv24 : (Instr.channelFFrame true 0 0 0 (2 ^ 16) 0).wf = false := by decide
/-- A frame shorter than a MAC header (R351). -/
theorem test_wf_frame : (Instr.ethFrameReceive 0 true [] 0).wf = false := by decide
/-- An answer before its request (R360). -/
theorem test_wf_pdelay : (Instr.pdelayMeasure 0 2 0 0 1 0).wf = false := by decide
/-- A frame counter of more than 32 bits (R21). -/
theorem test_wf_fc : (Instr.twinBurstReceive 0 (2 ^ 32) [] 0).wf = false := by decide
/-- A session number of more than 32 bits (R487). -/
theorem test_wf_session : (Instr.eventDatagramSend (2 ^ 32) 0).wf = false ∧ (Instr.sessionIdle (2 ^ 32) 0).wf = false := by
  decide
/-- A failed item of a test that passed (R510). -/
theorem test_wf_cluster_test : (Instr.clusterTestDone 0 false 1 0).wf = false := by decide
/-- Well-formed commands. -/
theorem test_wf_good : (Instr.registerWrite .pcie 0x100 0 0).wf = true ∧ (Instr.qspiRead 0x3FFFC 1 0).wf = true := by decide

/-! Worked examples of the spec. -/

/-- Axis 77 lies in cluster 4, on link 19, at slot 1 (01, *locating axis 77*). -/
theorem test_axis_77 : (clusterOf 77).val = 4 ∧ (linkOf 77).val = 19 ∧ (slotOf 77).val = 1 := by decide
/-- ID 0x1C25_0004 is index 4 of class AX.FBK of axis 37 (00, *reading a parameter ID*). -/
theorem test_param_id : idClass 0x1C250004 = 0x1C ∧ idInst 0x1C250004 = 37 ∧ idIndex 0x1C250004 = 4 := by decide
/-- 0.85 and 120.0 in F32 (03, *changing two expert gains of axis 37*). -/
theorem test_f32 : f32Enc 120 = 0x42F00000 ∧ f32Dec 0x42F00000 = 120 ∧ rabs (f32Dec 0x3F59999A - 17 / 20) < 1 / 2 ^ 25 := by
  decide +kernel
/-- The four frames under policy 0, whose sum is the requested one (05, *a roller motor at low duty*). -/
theorem test_short_pulse_carry : shapeOn 0 true 25000 100 300 180 0 = (0, 180) ∧
    shapeOn 0 true 25000 100 300 170 180 = (350, 0) ∧ shapeOn 0 true 25000 100 300 24620 0 = (25000, -380) ∧
    shapeOn 0 true 25000 100 300 24300 (-380) = (23920, 0) := by decide
/-- The same under policies 1 and 2 (05). -/
theorem test_short_pulse_clamp : shapeOn 1 true 25000 100 300 180 0 = (300, 0) ∧
    shapeOn 1 true 25000 100 300 24620 0 = (24500, 0) ∧ shapeOn 2 true 25000 100 300 170 0 = (0, 0) ∧
    shapeOn 2 true 25000 100 300 24620 0 = (25000, 0) := by decide
/-- The floor of the VEL stage of axis 52 is 7, and 285.11 A does not fit there (08, *a velocity step*). -/
theorem test_vel_floor : bfpFloor 50 = 7 ∧ bfpSum 7 [28511 / 100] = (8388607, true) := by decide +kernel
/-- The exponent rises from a mantissa of 2^22 on and falls when every one lies below 2^20 (08, *a velocity step*). -/
theorem test_renorm : (renorm 9 7 [2 ^ 22]).1 = 10 ∧ (renorm 10 7 [2 ^ 22 - 1]).1 = 10 ∧ (renorm 10 7 [2 ^ 20 - 1]).1 = 9 ∧
    (renorm 7 7 [0]).1 = 7 := by decide

/-! States for the hypotheses of the statements. -/

/-- A device in OPERATE with every domain on, at tick 20 of Tf = 50 µs. -/
def up : State :=
  { State.reset with
    nt := 1000000
    pwr := { State.reset.pwr with state := .operate, domains := 0xFFFF, supply := 0xFFFF, verified := true }
    frame := { tick := 1000000, fc := 20, ticking := true } }

/-- `up` with a parameter at a value. -/
def par (id n : Nat) (s : State) : State :=
  s.modPar fun p => { p with store := storePut p.store ⟨id, .num n, true⟩ }

/-- `up` with mailbox 0 owned by a path in a state. -/
def own (o : Owner) (st : MbxState) : State := up.modMbx 0 fun b => { b with owner := o, state := st }

/-- A state in which mailbox 0 holds a command that the firmware has taken, from session 1 with every right. -/
def held (op : Nat) (pay : List Byte) (s : State) : State :=
  (s.modSec fun k => { k with nextSession := 2, sessions :=
    [{ id := 1, mbx := 0, owner := .pcie, wanted := 63, rights := 63, proved := true }] }).modMbx 0 fun b =>
      { b with
        owner := .pcie, state := .executing, session := 1
        copy := leBytes 2 1 ++ leBytes 2 op ++ leBytes 2 0 ++ leBytes 2 pay.length ++ leBytes 4 1 ++ leBytes 4 0 ++ pay }

/-- The same with a call. -/
def calls (id : Nat) (args : List Byte) (s : State) : State := held 0x10 (leBytes 4 id ++ args) s

/-- A call on axis 127 of the class and index of the ID. -/
def axCall (cls idx : Nat) (args : List Byte) (s : State) : State := calls (cls * 2 ^ 24 + 127 * 2 ^ 16 + idx) args s

/-- A SAFETY sub-command from a login. -/
def safCmd (sub : Byte) (args : List Byte) (s : State) : State :=
  held 0x50 ([sub, 0, 0, 0] ++ args) (s.modSaf fun k => { k with login := some (1, 1000000, false) })

/-- A value of a safety parameter in the active block of both channels. -/
def saf (id n : Nat) (s : State) : State :=
  (s.modChan 0 fun c => { c with block := blockPut c.block (id, n) }).modChan 1 fun c =>
    { c with block := blockPut c.block (id, n) }

/-- A state whose link 31 is as given. -/
def lnk (f : LinkSt → LinkSt) (s : State) : State := s.modLink 31 fun x => f { x with state := .up }

/-- A state in which axis 0 chops and opens the blanking windows of pin 0 at 100 ns and 200 ns of each PWM period. -/
def chopping (s : State) : State :=
  par (Pid.trpPEnable 0) 1 (par (Pid.trpPBlank 0) 1 ((s.modLink 0 fun x => { x with sentAct := 1000000 }).modAxis 0 fun x => { x with pwm := { x.pwm with
    live := { x.pwm.live with kind := 1, hb := x.pwm.live.hb.set 0 ⟨4, 100, 200⟩ } } }))
theorem crc32cFrom_lt (bs : List Byte) (i : Nat) (h : i < 2 ^ 32) : crc32cFrom i bs < 2 ^ 32 := by
  unfold crc32cFrom
  induction bs generalizing i with
  | nil => exact h
  | cons b bs ih =>
    rw [List.foldl_cons]
    apply ih
    have : ∀ (l : List Nat) (r : Nat), r < 2 ^ 32 → l.foldl (fun r i => let x := r.testBit 0 != b.getLsbD i
                if x then (r / 2) ^^^ 0x82F63B78 else r / 2) r < 2 ^ 32 := by
      intro l
      induction l with
      | nil => intro r h; exact h
      | cons k l ih =>
        intro r h
        rw [List.foldl_cons]
        apply ih
        dsimp only
        split
        · exact Nat.xor_lt_two_pow (by omega) (by decide)
        · omega
    exact this _ _ h
theorem crc32c_lt (bs : List Byte) : crc32c bs < 2 ^ 32 := Nat.xor_lt_two_pow (crc32cFrom_lt bs _ (by decide)) (by decide)
theorem crc16_lt (bs : List Byte) : crc16 bs < 2 ^ 16 := by
  unfold crc16 crcL
  have hs : ∀ (r : Nat) (b : Bool), crcStepL 16 0x8BB7 r b < 2 ^ 16 := by
    intro r b; unfold crcStepL; dsimp only; split
    · exact Nat.xor_lt_two_pow (by omega) (by decide)
    · omega
  have : ∀ (l : List Byte) (r : Nat), r < 2 ^ 16 → l.foldl (fun r b => [7, 6, 5, 4, 3, 2, 1, 0].foldl (fun r i => crcStepL 16 0x8BB7 r (b.getLsbD i)) r) r < 2 ^ 16 := by
    intro l; induction l with
    | nil => intro r h; exact h
    | cons b l ih => intro r h; rw [List.foldl_cons]; apply ih; simp only [List.foldl]; exact hs _ _
  exact this _ _ (by decide)
theorem blockCrc0_lt (b) : blockCrc 0 b < 2 ^ 32 := by
  unfold blockCrc; rw [if_pos rfl]; exact crc32c_lt _
theorem blockCrc1_lt (b) : blockCrc 1 b < 2 ^ 16 := by
  unfold blockCrc; rw [if_neg (by decide)]; exact crc16_lt _

/-- ACTIVATE with the two CRCs of an empty staged block. -/
def actCmd (c0 c1 : Nat) := safCmd 5 (leBytes 4 c0 ++ leBytes 2 c1 ++ [0, 0]) (up.modSaf fun k => { k with staged := some [] })
theorem actCmd_copy (c0 c1 : Nat) : (actCmd c0 c1).mbx[(0 : Fin 16)].copy = [1,0,0x50,0,0,0,12,0,1,0,0,0,0,0,0,0] ++ [5, 0, 0, 0] ++ (leBytes 4 c0 ++ leBytes 2 c1 ++ [0, 0]) := by
  simp [actCmd, safCmd, held, State.modMbx, leBytes]
theorem actCmd_payload (c0 c1 : Nat) : (actCmd c0 c1).mbx[(0 : Fin 16)].payload = [5, 0, 0, 0] ++ (leBytes 4 c0 ++ leBytes 2 c1 ++ [0, 0]) := by
  unfold Mbx.payload; rw [actCmd_copy]; simp [fld, leBytes, leNat]
theorem actCmd_crc (c0 c1 : Nat) (h : c0 < 2 ^ 32) : fld (actCmd c0 c1).mbx[(0 : Fin 16)].payload 4 4 = c0 := by
  rw [actCmd_payload]; simp [fld, leBytes, leNat]; omega
theorem actCmd_crcL (c0 c1 : Nat) (h : c1 < 2 ^ 16) : fld (actCmd c0 c1).mbx[(0 : Fin 16)].payload 8 2 = c1 := by
  rw [actCmd_payload]; simp [fld, leBytes, leNat]; omega
theorem actCmd_zero (c0 c1 : Nat) : fld (actCmd c0 c1).mbx[(0 : Fin 16)].payload 10 2 = 0 := by
  rw [actCmd_payload]; simp [fld, leBytes, leNat]
theorem up_wait : up.mbx[(0 : Fin 16)].wait = .none := by decide +kernel
theorem up_hidden : up.mbx[(0 : Fin 16)].hidden = none := by decide +kernel
theorem actCmd_ready (c0 c1 : Nat) : (actCmd c0 c1).safetyReady 0 5 8 = true := by
  have h1 : (actCmd c0 c1).mbx[(0 : Fin 16)].op = 0x50 := by unfold Mbx.op; rw [actCmd_copy]; rfl
  have h2 : (actCmd c0 c1).mbx[(0 : Fin 16)].sid = 1 := by unfold Mbx.sid; rw [actCmd_copy]; rfl
  have h3 : (actCmd c0 c1).mbx[(0 : Fin 16)].headerOk = true := by unfold Mbx.headerOk Mbx.flags; rw [actCmd_copy]; rfl
  have h4 : (actCmd c0 c1).mbx[(0 : Fin 16)].session = 1 := by simp [actCmd, safCmd, held, State.modMbx]
  have h5 : (actCmd c0 c1).mbx[(0 : Fin 16)].state = .executing := by simp [actCmd, safCmd, held, State.modMbx]
  have h6 : (actCmd c0 c1).mbx[(0 : Fin 16)].wait = .none := by
    simpa [actCmd, safCmd, held, State.modMbx] using up_wait
  have h7 : (actCmd c0 c1).mbx[(0 : Fin 16)].hidden = none := by
    simpa [actCmd, safCmd, held, State.modMbx] using up_hidden
  have h8 : (actCmd c0 c1).session 1 = some { id := 1, mbx := 0, owner := .pcie, wanted := 63, rights := 63, proved := true } := rfl
  have h9 : (actCmd c0 c1).fwRuns = true := (show up.fwRuns = true by decide +kernel)
  have h10 : (actCmd c0 c1).pwr.state = .operate := rfl
  have h11 : (actCmd c0 c1).saf.login = some (1, 1000000, false) := rfl
  have h12 : (actCmd c0 c1).ib = true := rfl
  simp only [State.safetyReady, State.ready, State.holds, State.preStatus, State.sessionOk, State.rightsOf, State.loginOk, h1, h2, h3, h4, h5, h6, h7, h8, h9, h10, h11, h12, actCmd_payload]
  simp [fld, leNat, leBytes, isSub, stOk]

/-- The bytes under the tag of a Crepra frame from node 7 with SEQ 1. -/
def crepraBody (typ : Byte) (dst fc : Nat) (pay : List Byte) : List Byte :=
  [1, typ, 0, 0, 7, 0] ++ leBytes 2 dst ++ leBytes 4 1 ++ leBytes 4 fc ++ leBytes 2 pay.length ++ [0, 0] ++ pay

/-- Such a frame at HOST from port A UP, tagged under the key [1]. -/
def crepraRx (typ : Byte) (dst fc : Nat) (pay : List Byte) : RxFrame :=
  ⟨0, 1000000, 1000000, List.replicate 12 0 ++ [0x88, 0xB5] ++ crepraBody typ dst fc pay ++
    crepraTag [1] (crepraBody typ dst fc pay)⟩

/-- A state with the line key [1] at index 0 and a frame at HOST. -/
def rxd (f : RxFrame) (s : State) : State :=
  { s with
    sec := { s.sec with lineKeys := s.sec.lineKeys.set 0 (some [1]) }
    net := { s.net with rx := [f] } }

/-- The state after a frame from node 7 was accepted. -/
def took (typ : Nat) (s : State) : State := (s.copySeen 7 0).modNet fun n => { n with seqs := [⟨7, typ, 1⟩] }

theorem crepra_tag (key body : List Byte) : ((crepraTag key body).take 8 == crepraTag key body) = true := by
  simp [crepraTag]
theorem takeRx_one (s : State) (f : RxFrame) (hit : RxFrame → Bool) (h : s.net.rx = [f]) (hh : hit f = true) :
    s.takeRx hit = some (f, s.modNet fun n => { n with rx := [] }) := by
  simp [State.takeRx, h, hh, State.modNet]
/-- A state whose four line ports carry frames at 1000 Mbit/s. -/
def wired (s : State) : State :=
  { s with
    pwr := { s.pwr with forwarding := true }
    net := { s.net with ports := s.net.ports.map fun p => { p with link := true, gig := true, inband := 3, full := true } } }

/-- A frame at HOST from port A UP. -/
def frm (etype body : List Byte) : RxFrame := ⟨0, 1000000, 999000, List.replicate 12 7 ++ etype ++ body⟩

/-- A state with one frame at HOST. -/
def atHost (f : RxFrame) (s : State) : State := { s with net := { s.net with rx := [f] } }

/-- A state without frames at HOST. -/
def empty (s : State) : State := s.modNet fun n => { n with rx := [] }

/-- A PTP message with messageType, flags and sequenceId. -/
def ptpMsg (typ flags seq : Byte) : List Byte :=
  [typ, 2, 0, 44, 0, 0, flags, 8] ++ List.replicate 23 0 ++ [seq, 0, 0] ++ List.replicate 10 0

/-- A state whose address on network A is 1. -/
def homed (s : State) : State := par Pid.netAIp 1 s

/-- An IPv4 packet to address 1 from address 2. -/
def ipPkt (proto : Byte) (data : List Byte) : List Byte :=
  [0x45, 0] ++ beBytes 2 (20 + data.length) ++ [0, 0, 0, 0, 64, proto, 0, 0, 0, 0, 0, 2, 0, 0, 0, 1] ++ data

/-- A UDP datagram with a mailbox datagram to the mailbox port. -/
def udpPkt (b : List Byte) : List Byte :=
  ipPkt 17 ([0, 9, 196, 34] ++ beBytes 2 (8 + b.length) ++ [0, 0] ++ b)

/-- A mailbox datagram of a KIND, for a mailbox and session, with a COUNTER and an empty body of 16 bytes. -/
def mbxDgram (kind mbx : Byte) (sid counter : Nat) : List Byte :=
  [1, kind, mbx, 0] ++ leBytes 4 sid ++ leBytes 8 counter ++ leBytes 2 5 ++ List.replicate 14 0

/-- An image with nothing but its header and its last 16 bytes. -/
def bareImage (fc crc : Nat) : List Byte :=
  leBytes 4 fc ++ [1, 0, 0, 0] ++ leBytes 4 48 ++ List.replicate 20 0 ++
    leBytes 4 fc ++ leBytes 4 48 ++ leBytes 4 crc ++ leBytes 4 (0xFFFFFFFF - crc)

theorem crepra_taken (s u : State) (f : RxFrame) (c : Crepra) (typ : Nat) (key : List Byte) (h : s.net.rx = [f])
    (hit : s.isCrepra typ f = true) (hc : crepraOf (ethHead f.bytes).body = c)
    (hk : (s.modNet fun n => { n with rx := [] }).lineKey c.key = some key) (ht : (c.tag == crepraTag key c.covered) = true)
    (hv : c.ver = 1)
    (hs : ((s.modNet fun n => { n with rx := [] }).copySeen c.src (netOf f.port)).seqAccept c.src c.typ c.seq = some u) :
    s.takeCrepra typ = (some c, u) := by
  subst hc
  simp only [State.takeCrepra, takeRx_one s f _ h hit, State.crepraCheck, State.tagOk, hk, ht, hv, hs]
  rfl

/-- The Crepra frame of a frame. -/
def crepraIn (f : RxFrame) : Crepra := crepraOf (ethHead f.bytes).body

/-- A state with a tagged frame from node 7 at HOST. -/
def sent (typ : Byte) (pay : List Byte) (s : State) : State := rxd (crepraRx typ 0xFFFF 20 pay) s

/-- That state after the frame was accepted at a device time. -/
def accepted (typ : Byte) (pay : List Byte) (tm : Nat) (s : State) : State := took typ.toNat (empty ((sent typ pay s).adv tm))

/-- The device in a twin state. -/
def twin (t : TwinState) (s : State) : State := s.modTwin fun k => { k with state := t }

/-- A command telegram with SEQ 5 and no demand. -/
def telFrame : List Byte :=
  [1, 1, 0, 0, 0, 0, 0, 0, 5, 0, 0, 0] ++ (List.replicate 5 [0, 0, 0, 0, 255, 255, 255, 255]).flatten ++
    leBytes 2 26686 ++ leBytes 4 1057697844
theorem crepraBody_length (typ : Byte) (dst fc : Nat) (pay : List Byte) : (crepraBody typ dst fc pay).length = 20 + pay.length := by
  simp [crepraBody, leBytes]; omega
theorem inner_body (typ : Byte) (dst fc : Nat) (pay : List Byte) :
    (ethHead (crepraRx typ dst fc pay).bytes).body = crepraBody typ dst fc pay ++ crepraTag [1] (crepraBody typ dst fc pay) := by
  have h : leNat [181#8, 136#8] = 34997 := rfl
  simp [ethHead, crepraRx, beNat, h]
theorem inner_len (typ : Byte) (dst fc : Nat) (pay t : List Byte) (h : pay.length < 65536) :
    fld (crepraBody typ dst fc pay ++ t) 16 2 = pay.length := by
  simp [crepraBody, leBytes, fld, leNat]; omega
theorem inner_tag (typ : Byte) (dst fc : Nat) (pay : List Byte) (h : pay.length < 65536) :
    ((crepraIn (crepraRx typ dst fc pay)).tag == crepraTag [1] (crepraIn (crepraRx typ dst fc pay)).covered) = true := by
  simp only [crepraIn, inner_body, crepraOf, inner_len _ _ _ _ _ h]
  rw [← crepraBody_length typ dst fc pay, List.take_left, List.drop_left, crepra_tag]
theorem inner_key (typ : Byte) (dst fc : Nat) (pay : List Byte) : (crepraIn (crepraRx typ dst fc pay)).key = 0 := by
  simp [crepraIn, inner_body, crepraOf, crepraBody, fld, leNat]
theorem inner_tagOk (s : State) (typ : Byte) (dst fc : Nat) (pay : List Byte) (h : pay.length < 65536)
    (hk : s.sec.lineKeys[0] = some [1]) : s.tagOk (crepraIn (crepraRx typ dst fc pay)) = true := by
  simp only [State.tagOk, State.lineKey, inner_key]
  simp [hk]
  simpa using inner_tag typ dst fc pay h
theorem pair_of_snd {α β : Type} (p : α × β) (b : β) (h : p.2 = b) : p = (p.1, b) := by rw [← h]

/-! States that meet the hypotheses of the statements. -/

/-- States that meet the hypotheses of `HostReadsReturnTheirWords`, one for each clause. -/
theorem test_hyp_HostReadsReturnTheirWords :
    (∃ (off : Nat) (n : Nat) (tm : Nat) (s : State), s.pathUp .qspi = true ∧ isHighWord off = false) ∧
    (∃ (off : Nat) (n : Nat) (tm : Nat) (s : State), s.pathUp .qspi = true) ∧
    (∃ (off : Nat) (n : Nat) (tm : Nat) (s : State), s.pathUp .qspi = true) ∧
    (∃ (p : Path) (off : Nat) (tm : Nat) (s : State), s.pathUp p = true ∧ isLowWord off = true) := by
  refine ⟨⟨0x70, 1, 0, up, by decide +kernel⟩,
    ⟨0x500, 3, 0, up, by decide +kernel⟩,
    ⟨0x500, 3, 0, up, by decide +kernel⟩,
    ⟨.pcie, 0x508, 0, up, by decide +kernel⟩⟩

/-- States that meet the hypotheses of `HostWritesActOnWords`, one for each clause. -/
theorem test_hyp_HostWritesActOnWords :
    (∃ (off : Nat) (tm : Nat) (v : Word) (s : State), s.pathUp .qspi = true) ∧
    (∃ (off : Nat) (tm : Nat) (bs : List Byte) (part : List Byte) (s : State), bs.length % 4 = 0 ∧ part.length < 4) ∧
    (∃ (p : Path) (v : Word) (tm : Nat) (s : State), s.pathUp p = true) ∧
    (∃ (off : Nat) (tm : Nat) (v : Word) (s : State), s.pathUp .pcie = true) ∧
    (∃ (p : Path) (off : Nat) (tm : Nat) (v : Word) (s : State), s.pathUp p = true ∧ s.pi.enable = false ∧ s.pi.banksOk = true ∧ 0x20000 ≤ off ∧ off < 0x30000) := by
  refine ⟨⟨0x70, 0, 5, up, by decide +kernel⟩,
    ⟨0x70, 0, [1, 2, 3, 4], [5, 6, 7], up, by decide +kernel⟩,
    ⟨.pcie, 7, 0, up, by decide +kernel⟩,
    ⟨0x50, 0, 0x210000, up, by decide +kernel⟩,
    ⟨.qspi, 0x2FFFC, 0, 5, up, by decide +kernel⟩⟩

/-- States that meet the hypotheses of `MailboxOwnership`, one for each clause. -/
theorem test_hyp_MailboxOwnership :
    (∃ (p : Path) (m : Fin 16) (s : State), s.pathUp p = true ∧ s.netOnly m = false ∧ s.mbx[m].owner = .free) ∧
    (∃ (p : Path) (m : Fin 16) (s : State), (s.netOnly m = true ∨ s.mbx[m].owner ≠ .free)) ∧
    (∃ (p : Path) (m : Fin 16) (s : State), s.pathUp p = true ∧ s.mbx[m].owner = Owner.ofPath p ∧ (s.mbx[m].state = .idle ∨ s.mbx[m].state = .done)) ∧
    (∃ (p : Path) (m : Fin 16) (s : State), s.pathUp p = true ∧ s.mbx[m].owner = Owner.ofPath p ∧ (s.mbx[m].state = .pending ∨ s.mbx[m].state = .executing)) := by
  refine ⟨⟨.pcie, 0, up, by decide +kernel⟩,
    ⟨.pcie, 0, own .qspi .idle, by decide +kernel⟩,
    ⟨.pcie, 0, own .pcie .done, by decide +kernel⟩,
    ⟨.pcie, 0, own .pcie .executing, by decide +kernel⟩⟩

/-- States that meet the hypotheses of `MailboxCommandCycle`, one for each clause. -/
theorem test_hyp_MailboxCommandCycle :
    (∃ (p : Path) (m : Fin 16) (tm : Nat) (s : State), s.pathUp p = true ∧ s.mbx[m].owner = Owner.ofPath p ∧ (s.mbx[m].state = .idle ∨ s.mbx[m].state = .done)) ∧
    (∃ (p : Path) (m : Fin 16) (tm : Nat) (s : State), s.pathUp p = true ∧ s.mbx[m].owner = Owner.ofPath p ∧ (s.mbx[m].state = .pending ∨ s.mbx[m].state = .executing)) ∧
    (∃ (m : Fin 16) (tm : Nat) (s : State), s.fwRuns = true ∧ s.mbx[m].state = .pending ∧ s.turnOf m = true) ∧
    (∃ (m : Fin 16) (tm : Nat) (s : State), s.hostUp = true ∧ s.fwRuns = false ∧ s.mbx[m].state = .pending ∧ s.mbx[m].owner ≠ .net ∧ s.mbx[m].releasing = false ∧ s.mbx[m].discard = false) ∧
    (∃ (m : Fin 16) (tm : Nat) (fr : List Byte) (s : State), s.mbx[m].state = .executing ∧ s.mbx[m].hidden = some fr ∧ s.mbx[m].owner ≠ .net ∧ s.mbx[m].releasing = false ∧ s.mbx[m].discard = false ∧ ((∀ x ∈ s.sec.sessions, x.ending = false))) ∧
    (∃ (m : Fin 16) (tm : Nat) (s : State), s.mbx[m].state = .pending ∧ s.mbx[m].bellAt + ms s.mbx[m].deadlineNow ≤ max s.nt tm ∧ s.mbx[m].owner ≠ .net ∧ s.mbx[m].releasing = false ∧ s.mbx[m].discard = false) ∧
    (∃ (m : Fin 16) (tm : Nat) (id : Nat) (s : State), s.mbx[m].state = .executing ∧ s.mbx[m].wait = .call id ∧ s.mbx[m].hidden = none ∧ s.mbx[m].bellAt + ms s.mbx[m].deadlineNow ≤ max s.nt tm ∧ s.mbx[m].owner ≠ .net ∧ s.mbx[m].releasing = false ∧ s.mbx[m].discard = false) := by
  refine ⟨⟨.pcie, 0, 0, own .pcie .idle, by decide +kernel⟩,
    ⟨.pcie, 0, 0, own .pcie .pending, by decide +kernel⟩,
    ⟨0, 0, own .pcie .pending, by decide +kernel⟩,
    ⟨0, 0, (own .pcie .pending).modPwr fun p => { p with state := .service }, by decide +kernel⟩,
    ⟨0, 0, [1, 0], (own .pcie .executing).modMbx 0 fun b => { b with hidden := some [1, 0] }, by decide +kernel⟩,
    ⟨0, 500000000, own .pcie .pending, by decide +kernel⟩,
    ⟨0, 500000000, 0x0100F001, (own .pcie .executing).modMbx 0 fun b => { b with wait := .call 0x0100F001 }, by decide +kernel⟩⟩

/-- States that meet the hypotheses of `InterruptRegisters`, one for each clause. -/
theorem test_hyp_InterruptRegisters :
    (∃ (v : Word) (s : State), s.hostUp = true) ∧
    (∃ (v : Word) (s : State), s.hostUp = true) ∧
    (∃ (v : Word) (s : State), s.hostUp = true) ∧
    (∃ (v : Word) (s : State), s.hostUp = true) ∧
    (∃ (v : Word) (s : State), s.hostUp = true ∧ s.host.msiOn = true ∧ s.host.pcieUp = true ∧ s.host.msiGranted = 1 ∧ s.host.irqStatus &&& irqBits &&& s.host.irqEnable = 0 ∧ v &&& irqBits &&& s.host.irqEnable ≠ 0) := by
  refine ⟨⟨1, up, by decide +kernel⟩,
    ⟨1, up, by decide +kernel⟩,
    ⟨1, up, by decide +kernel⟩,
    ⟨1, up, by decide +kernel⟩,
    ⟨2, up.modHost fun h => { h with msiOn := true, irqEnable := 2 }, by decide +kernel⟩⟩

/-- States that meet the hypotheses of `EventQueueSnapshotWatchdog`, one for each clause. -/
theorem test_hyp_EventQueueSnapshotWatchdog :
    (∃ (r : EvtRec) (l : List EvtRec) (s : State), s.hostUp = true ∧ s.host.evt = r :: l) ∧
    (∃ (s : State), s.hostUp = true ∧ s.host.evt = []) ∧
    (∃ (s : State), s.hostUp = true) ∧
    (∃ (tm : Nat) (s : State), s.hostUp = true) ∧
    (∃ (s : State), s.hostUp = true) ∧
    (∃ (tm : Nat) (s : State), s.hostUp = true) ∧
    (∃ (tm : Nat) (s : State), s.hostUp = true ∧ s.pN Pid.hostWdogTime ≠ 0 ∧ s.host.wdogExpired = false ∧ s.host.wdogFrom + ms (s.pN Pid.hostWdogTime) ≤ max s.nt tm) ∧
    (∃ (tm : Nat) (s : State), s.fwRuns = true ∧ s.host.fwAliveAt + ms 1 ≤ max s.nt tm) := by
  refine ⟨⟨{ code := 0x0102 }, [], up.modHost fun h => { h with evt := [{ code := 0x0102 }] }, by decide +kernel⟩,
    ⟨up, by decide +kernel⟩,
    ⟨up, by decide +kernel⟩,
    ⟨0, up, by decide +kernel⟩,
    ⟨up, by decide +kernel⟩,
    ⟨0, up, by decide +kernel⟩,
    ⟨10000000, par Pid.hostWdogTime 10 up, by decide +kernel⟩,
    ⟨1000000, up, by decide +kernel⟩⟩

/-- States that meet the hypotheses of `ProcessImageControl`, one for each clause. -/
theorem test_hyp_ProcessImageControl :
    (∃ (p : Path) (v : Word) (s : State), s.pathUp p = true ∧ s.fullService = true ∧ s.pi.enable = false ∧ bit v.toNat 0 = true) ∧
    (∃ (p : Path) (v : Word) (s : State), s.pathUp p = true) ∧
    (∃ (p : Path) (tm : Nat) (s : State), s.pathUp p = true ∧ s.pi.live = true ∧ s.pi.handed = false ∧ s.pi.writer = (Owner.ofPath p).code) ∧
    (∃ (s : State), s.pi.running = true ∧ s.pi.handshake = true ∧ s.pN Pid.hostPiTimeout ≠ 0 ∧ s.pN Pid.hostPiTimeout ≤ s.pi.dry ∧ s.pi.dryRaised = false) ∧
    (∃ (tm : Nat) (s : State), s.fullService = true ∧ s.frame.ticking = true ∧ s.frame.tick + 10500 ≤ max s.nt tm ∧ max s.nt tm < s.frame.tick + s.tf ∧ s.pi.banksOk = true) := by
  refine ⟨⟨.pcie, 5, up, by decide +kernel⟩,
    ⟨.pcie, 5, up, by decide +kernel⟩,
    ⟨.pcie, 0, up.modPi fun p => { p with enable := true, handshake := true, writer := 1 }, by decide +kernel⟩,
    ⟨par Pid.hostPiTimeout 3 (up.modPi fun p => { p with running := true, handshake := true, dry := 3 }), by decide +kernel⟩,
    ⟨1010500, up, by decide +kernel⟩⟩

/-- States that meet the hypotheses of `CommandNotTakenHasNoEffect`, one for each clause. -/
theorem test_hyp_CommandNotTakenHasNoEffect :
    ∃ (m : Fin 16) (tm : Nat) (s : State), s.mbx[m].state ≠ .executing := by
  refine ⟨0, 0, up, by decide +kernel⟩

/-- States that meet the hypotheses of `CallRefusedBeforeItsOwnConditions`, one for each clause. -/
theorem test_hyp_CallRefusedBeforeItsOwnConditions :
    ∃ (m : Fin 16) (tm : Nat) (st : Nat) (s : State) (c : Instr) (id : Nat), (c, id) ∈ ([(.trpClear m tm, 0x2100F001), (.trkCreate m tm, 0x4000F001), (.trkDelete m tm, 0x4000F002), (.trkModify m tm, 0x4000F003), (.trkSetEv m tm, 0x4000F004), (.trkRead m tm, 0x4000F005), (.trkFlush m tm, 0x4000F006), (.fioOutWrite m tm, 0x6000F001), (.fioOutRearm m tm, 0x6000F002), (.capArm m tm, 0x5000F001), (.capForce m tm, 0x5000F002), (.capStop m tm, 0x5000F003), (.ptpSetTime m tm, 0x3100F001), (.twinSwitch m tm, 0xB000F001), (.twinRejoin m tm, 0xB000F002), (.twinTake m tm, 0xB000F003), (.flogClear m tm, 0xF000F001), (.pwrOperate m tm, 0x0800F001), (.pwrConfig m tm, 0x0800F002), (.pwrReset m tm, 0x0800F003), (.pwrSleep m tm, 0x0800F004), (.pwrWake m tm, 0x0800F005), (.secFwActivate m tm, 0x8000F001), (.secFwCommit m tm, 0x8000F002), (.secLinekeySet m tm, 0x8000F003), (.secLinekeyClear m tm, 0x8000F004), (.secOperSet m tm, 0x8000F005), (.secDebugUnlock m tm, 0x8000F006), (.secRelease m tm, 0x8000F007), (.secTransfer m tm, 0x8000F008), (.ageAxisReset m tm, 0x0A00F003), (.ageFwRestart m tm, 0x0A00F004)] : List (Instr × Nat)) ∧ s.holds m 0x10 (fun p => fld p 0 4 = id) = true ∧ s.preStatus m false (callRight id) = st ∧ st ≠ stOk := by
  refine ⟨0, 0, stAuth, (calls 0x2100F001 [] up).modSec fun k => { k with sessions := [] }, .trpClear 0 0, 0x2100F001, by decide +kernel⟩

/-- States that meet the hypotheses of `ParameterCommandsAct`, one for each clause. -/
theorem test_hyp_ParameterCommandsAct :
    (∃ (m : Fin 16) (tm : Nat) (ty : Nat) (bs : List Byte) (s : State), s.ready m 0x01 anyPay 0 = true ∧ s.mbx[m].payload.length = 4 ∧ (s.adv tm).getOne (bit s.mbx[m].flags 1) (fld s.mbx[m].payload 0 4) = (ty, stOk, bs)) ∧
    (∃ (m : Fin 16) (tm : Nat) (ty : Nat) (bs : List Byte) (s : State), s.ready m 0x03 anyPay 0 = true ∧ s.mbx[m].payload.length = 8 ∧ fld s.mbx[m].payload 0 2 = 1 ∧ fld s.mbx[m].payload 2 2 = 0 ∧ bs.length ≤ 400 ∧ (s.adv tm).getOne (bit s.mbx[m].flags 1) (fld s.mbx[m].payload 4 4) = (ty, stOk, bs)) ∧
    (∃ (m : Fin 16) (tm : Nat) (i : Nat) (e : SetEntry) (vals : List (Nat × PVal)) (s : State), s.ready m 0x02 anyPay (if keysClass (fld s.mbx[m].payload 0 4) then 16 else 1) = true ∧ s.drives = true ∧ parseEntries 1 s.mbx[m].payload = some [e] ∧ (s.adv tm).judge (s.rightsOf m) (bit s.mbx[m].flags 0) [e] = (stOk, i, vals)) ∧
    (∃ (m : Fin 16) (tm : Nat) (n : Nat) (i : Nat) (es : List SetEntry) (vals : List (Nat × PVal)) (s : State), s.ready m 0x04 anyPay 17 = true ∧ s.drives = true ∧ fld s.mbx[m].payload 0 2 = n ∧ 1 ≤ n ∧ n ≤ 32 ∧ fld s.mbx[m].payload 2 2 = 0 ∧ parseEntries n (s.mbx[m].payload.drop 4) = some es ∧ (s.adv tm).judge (s.rightsOf m) (bit s.mbx[m].flags 0) es = (stOk, i, vals)) ∧
    (∃ (m : Fin 16) (tm : Nat) (n : Nat) (i : Nat) (st : Nat) (es : List SetEntry) (vals : List (Nat × PVal)) (s : State), s.ready m 0x04 anyPay 17 = true ∧ s.drives = true ∧ fld s.mbx[m].payload 0 2 = n ∧ 1 ≤ n ∧ n ≤ 32 ∧ fld s.mbx[m].payload 2 2 = 0 ∧ parseEntries n (s.mbx[m].payload.drop 4) = some es ∧ (s.adv tm).judge (s.rightsOf m) (bit s.mbx[m].flags 0) es = (st, i, vals) ∧ st ≠ stOk) ∧
    (∃ (m : Fin 16) (tm : Nat) (s : State), s.ready m 0x20 anyPay 0 = true ∧ s.mbx[m].payload.length = 8 ∧ fld s.mbx[m].payload 0 2 = 1 ∧ fld s.mbx[m].payload 2 2 = 0 ∧ fld s.mbx[m].payload 7 1 = 1 ∧ s.mbx[m].owner = .pcie ∧ s.host.subsPcie.length < 64) ∧
    (∃ (m : Fin 16) (tm : Nat) (s : State), s.ready m 0xF0 anyPay 0 = true) ∧
    (∃ (m : Fin 16) (tm : Nat) (s : State), s.callReady m 0x0100F001 0 = true ∧ s.par.saving = none) ∧
    (∃ (m : Fin 16) (tm : Nat) (n : Nat) (bs : List Byte) (s : State), s.ready m 0x03 anyPay 0 = true ∧ fld s.mbx[m].payload 0 2 = n ∧ 1 ≤ n ∧ n ≤ 64 ∧ fld s.mbx[m].payload 2 2 = 0 ∧ s.mbx[m].payload.length = 4 + 4 * n ∧ fitEntries 496 ((List.range n).map ((s.adv tm).multiEntry m)) = (bs, n)) ∧
    (∃ (m : Fin 16) (tm : Nat) (n : Nat) (k : Nat) (bs : List Byte) (s : State), s.ready m 0x03 anyPay 0 = true ∧ fld s.mbx[m].payload 0 2 = n ∧ 1 ≤ n ∧ n ≤ 64 ∧ fld s.mbx[m].payload 2 2 = 0 ∧ s.mbx[m].payload.length = 4 + 4 * n ∧ fitEntries 496 ((List.range n).map ((s.adv tm).multiEntry m)) = (bs, k) ∧ k < n) ∧
    (∃ (m : Fin 16) (tm : Nat) (n : Nat) (l : List Sub) (s : State), s.ready m 0x20 anyPay 0 = true ∧ fld s.mbx[m].payload 0 2 = n ∧ fld s.mbx[m].payload 2 2 = 0 ∧ s.mbx[m].payload.length = 4 + 4 * n ∧ ((subEntries s.mbx[m].payload n).all fun x => decide (x.2.2 ≤ 1)) = true ∧ s.mbx[m].owner = .pcie ∧ (subEntries s.mbx[m].payload n).foldl subStep (some s.host.subsPcie) = some l) ∧
    (∃ (m : Fin 16) (tm : Nat) (n : Nat) (l : List Sub) (s : State), s.ready m 0x20 anyPay 0 = true ∧ fld s.mbx[m].payload 0 2 = n ∧ fld s.mbx[m].payload 2 2 = 0 ∧ s.mbx[m].payload.length = 4 + 4 * n ∧ ((subEntries s.mbx[m].payload n).all fun x => decide (x.2.2 ≤ 1)) = true ∧ s.mbx[m].owner = .qspi ∧ (subEntries s.mbx[m].payload n).foldl subStep (some s.host.subsQspi) = some l) ∧
    (∃ (m : Fin 16) (tm : Nat) (n : Nat) (l : List Sub) (x : Session) (s : State), s.ready m 0x20 anyPay 0 = true ∧ fld s.mbx[m].payload 0 2 = n ∧ fld s.mbx[m].payload 2 2 = 0 ∧ s.mbx[m].payload.length = 4 + 4 * n ∧ ((subEntries s.mbx[m].payload n).all fun e => decide (e.2.2 ≤ 1)) = true ∧ s.mbx[m].owner = .net ∧ s.session s.mbx[m].sid = some x ∧ (subEntries s.mbx[m].payload n).foldl subStep (some x.subs) = some l) := by
  refine ⟨⟨0, 0, 2, [0, 0], held 0x01 (leBytes 4 Pid.hostWdogTime) up, by decide +kernel⟩,
    ⟨0, 0, 2, [0, 0], held 0x03 ([1, 0, 0, 0] ++ leBytes 4 Pid.hostWdogTime) up, by decide +kernel⟩,
    ⟨0, 0, 0, ⟨Pid.hostWdogTime, 2, 0, [5, 0]⟩, [(Pid.hostWdogTime, .num 5)], held 0x02 (leBytes 4 Pid.hostWdogTime ++ [2, 0, 2, 0, 5, 0]) up, by decide +kernel⟩,
    ⟨0, 0, 1, 0, [⟨Pid.hostWdogTime, 2, 0, [5, 0]⟩], [(Pid.hostWdogTime, .num 5)], held 0x04 ([1, 0, 0, 0] ++ leBytes 4 Pid.hostWdogTime ++ [2, 0, 2, 0, 5, 0]) up, by decide +kernel⟩,
    ⟨0, 0, 1, 0, stUnknown, [⟨0x02FF0000, 2, 0, [5, 0]⟩], [], held 0x04 ([1, 0, 0, 0] ++ leBytes 4 0x02FF0000 ++ [2, 0, 2, 0, 5, 0]) up, by decide +kernel⟩,
    ⟨0, 0, held 0x20 [1, 0, 0, 0, 2, 1, 0xFF, 1] up, by decide +kernel⟩,
    ⟨0, 0, held 0xF0 [1, 2, 3] up, by decide +kernel⟩,
    ⟨0, 0, calls 0x0100F001 [] up, by decide +kernel⟩,
    ⟨0, 0, 2, fitEntries 496 ((List.range 2).map ((held 0x03 ([2, 0, 0, 0] ++ leBytes 4 Pid.hostWdogTime ++ leBytes 4 Pid.hostPiTimeout) up).multiEntry 0)) |>.1, held 0x03 ([2, 0, 0, 0] ++ leBytes 4 Pid.hostWdogTime ++ leBytes 4 Pid.hostPiTimeout) up, by decide +kernel⟩,
    ⟨0, 0, 64, 41, fitEntries 496 ((List.range 64).map ((held 0x03 ([64, 0, 0, 0] ++ (List.replicate 64 (leBytes 4 Pid.hostWdogTime)).flatten) up).multiEntry 0)) |>.1, held 0x03 ([64, 0, 0, 0] ++ (List.replicate 64 (leBytes 4 Pid.hostWdogTime)).flatten) up, by decide +kernel⟩,
    ⟨0, 0, 2, [⟨258, 255⟩], held 0x20 [2, 0, 0, 0, 2, 1, 0xFF, 1, 3, 1, 0xFF, 0] up, by decide +kernel⟩,
    ⟨0, 0, 2, [⟨258, 255⟩], (held 0x20 [2, 0, 0, 0, 2, 1, 0xFF, 1, 3, 1, 0xFF, 0] (up.modHost fun h => { h with subsQspi := [⟨259, 255⟩] })).modMbx 0 (fun b => { b with owner := .qspi }) |>.modSec fun k => { k with sessions := k.sessions.map fun x => { x with owner := .qspi } }, by decide +kernel⟩,
    ⟨0, 0, 1, [⟨258, 255⟩], { id := 1, mbx := 0, owner := .net, wanted := 63, rights := 63, proved := true }, (held 0x20 [1, 0, 0, 0, 2, 1, 0xFF, 1] up).modMbx 0 (fun b => { b with owner := .net }) |>.modSec fun k => { k with sessions := k.sessions.map fun x => { x with owner := .net } }, by decide +kernel⟩⟩

/-- States that meet the hypotheses of `FileCommandsAct`, one for each clause. -/
theorem test_hyp_FileCommandsAct :
    (∃ (m : Fin 16) (tm : Nat) (f : FileName) (bs : List Byte) (s : State), s.ready m 0x30 anyPay 0 = true ∧ fld s.mbx[m].payload 0 1 = 0 ∧ fld s.mbx[m].payload 1 1 ≤ 64 ∧ s.mbx[m].payload.length = 2 + fld s.mbx[m].payload 1 1 ∧ fileOf (s.mbx[m].payload.drop 2) = some f ∧ (s.adv tm).fileBytes f = some bs) ∧
    (∃ (m : Fin 16) (tm : Nat) (h : FileHandle) (s : State), s.handleOf m (fld s.mbx[m].payload 0 2) = some h ∧ s.ready m 0x31 anyPay h.file.right = true ∧ h.writing = true ∧ 8 ≤ s.mbx[m].payload.length ∧ fld s.mbx[m].payload 2 2 = 0 ∧ fld s.mbx[m].payload 4 4 = h.data.length) ∧
    (∃ (m : Fin 16) (tm : Nat) (h : FileHandle) (s : State), s.handleOf m (fld s.mbx[m].payload 0 2) = some h ∧ s.ready m 0x32 anyPay 0 = true ∧ h.writing = false ∧ s.mbx[m].payload.length = 8 ∧ fld s.mbx[m].payload 2 2 ≤ 488) ∧
    (∃ (m : Fin 16) (tm : Nat) (h : FileHandle) (s : State), s.handleOf m (fld s.mbx[m].payload 0 2) = some h ∧ s.ready m 0x33 anyPay 0 = true ∧ h.writing = false ∧ s.mbx[m].payload.length = 4 ∧ fld s.mbx[m].payload 2 2 = 0) ∧
    (∃ (m : Fin 16) (tm : Nat) (f : FileName) (s : State), fld s.mbx[m].payload 0 1 = 1 ∧ s.fileIn m = some f ∧ s.ready m 0x30 anyPay f.right = true ∧ fld s.mbx[m].payload 1 1 ≤ 64 ∧ s.mbx[m].payload.length = 2 + fld s.mbx[m].payload 1 1 ∧ (s.adv tm).writable f = true) ∧
    (∃ (m : Fin 16) (tm : Nat) (st : Nat) (h : FileHandle) (u : State) (s : State), s.handleOf m (fld s.mbx[m].payload 0 2) = some h ∧ s.ready m 0x33 anyPay 0 = true ∧ h.writing = true ∧ s.mbx[m].payload.length = 4 ∧ fld s.mbx[m].payload 2 2 = 0 ∧ ((s.adv tm).modPar fun k => { k with files := k.files.filter fun x => x.handle != h.handle }).closeWrite h.file h.data = (st, u)) := by
  refine ⟨⟨0, 0, .flogLog, [], held 0x30 [0, 8, 0x46, 0x4C, 0x4F, 0x47, 0x2E, 0x4C, 0x4F, 0x47] up, by decide +kernel⟩,
    ⟨0, 0, ⟨5, .pcie, 1, .secFwSlot, true, []⟩, (held 0x31 [5, 0, 0, 0, 0, 0, 0, 0, 9] up).modPar fun p => { p with files := [⟨5, .pcie, 1, .secFwSlot, true, []⟩] }, by decide +kernel⟩,
    ⟨0, 0, ⟨5, .pcie, 1, .flogLog, false, [1, 2, 3]⟩, (held 0x32 [5, 0, 2, 0, 1, 0, 0, 0] up).modPar fun p => { p with files := [⟨5, .pcie, 1, .flogLog, false, [1, 2, 3]⟩] }, by decide +kernel⟩,
    ⟨0, 0, ⟨5, .pcie, 1, .flogLog, false, [1, 2, 3]⟩, (held 0x33 [5, 0, 0, 0] up).modPar fun p => { p with files := [⟨5, .pcie, 1, .flogLog, false, [1, 2, 3]⟩] }, by decide +kernel⟩,
    ⟨0, 0, .capMask, held 0x30 [1, 8, 0x43, 0x41, 0x50, 0x2E, 0x4D, 0x41, 0x53, 0x4B] up, by decide +kernel⟩,
    ⟨0, 0, 0, ⟨5, .pcie, 1, .flogLog, true, [1, 2, 3]⟩, (held 0x33 [5, 0, 0, 0] up).modPar fun p => { p with files := [] }, (held 0x33 [5, 0, 0, 0] up).modPar fun p => { p with files := [⟨5, .pcie, 1, .flogLog, true, [1, 2, 3]⟩] }, by decide +kernel⟩⟩

/-- States that meet the hypotheses of `SessionCommandsAct`, one for each clause. -/
theorem test_hyp_SessionCommandsAct :
    (∃ (m : Fin 16) (tm : Nat) (s : State), s.ready m 0x40 (isSub 1) 0 = true ∧ s.sec.lockedUntil = none ∧ s.mbx[m].payload.length = 88 ∧ fld s.mbx[m].payload 1 3 = 0 ∧ fld s.mbx[m].payload 6 2 = 0 ∧ s.mbx[m].session = 0 ∧ s.mbx[m].sid = 0) ∧
    (∃ (m : Fin 16) (tm : Nat) (c : Nat) (rights : Nat) (key : List Byte) (x : Session) (s : State), s.ready m 0x40 (isSub 2) 0 = true ∧ s.session s.mbx[m].sid = some x ∧ s.mbx[m].payload.length = 72 ∧ fld s.mbx[m].payload 1 3 = 0 ∧ fld s.mbx[m].payload 5 3 = 0 ∧ fld s.mbx[m].payload 4 1 = c ∧ (c ≤ 7 ∨ c = 0xFF) ∧ s.sec.cred c = some (key, rights)) ∧
    (∃ (m : Fin 16) (tm : Nat) (x : Session) (s : State), s.ready m 0x40 (isSub 3) 0 = true ∧ s.session s.mbx[m].sid = some x ∧ s.mbx[m].payload.length = 4 ∧ fld s.mbx[m].payload 1 3 = 0) ∧
    (∃ (m : Fin 16) (tm : Nat) (s : State), s.ready m 0x40 (isSub 0x10) 0 = true ∧ s.mbx[m].payload.length = 68 ∧ fld s.mbx[m].payload 1 3 = 0 ∧ s.sec.owned = false ∧ s.pwr.strapClaim = true) ∧
    (∃ (m : Fin 16) (tm : Nat) (c : Nat) (x : Session) (s : State), s.ready m 0x40 (isSub 2) 0 = true ∧ s.session s.mbx[m].sid = some x ∧ s.mbx[m].payload.length = 72 ∧ fld s.mbx[m].payload 1 3 = 0 ∧ fld s.mbx[m].payload 5 3 = 0 ∧ fld s.mbx[m].payload 4 1 = c ∧ (c ≤ 7 ∨ c = 0xFF) ∧ s.sec.cred c = none) := by
  refine ⟨⟨0, 0, (held 0x40 (1 :: List.replicate 87 0) up).modMbx 0 fun b => { b with session := 0, copy := b.copy.set 8 0 }, by decide +kernel⟩,
    ⟨0, 0, 255, 63, [], { id := 1, mbx := 0, owner := .pcie, wanted := 63, rights := 63, proved := true }, held 0x40 ([2, 0, 0, 0, 0xFF, 0, 0, 0] ++ List.replicate 64 0) (up.modSec fun k => { k with owned := true }), by decide +kernel⟩,
    ⟨0, 0, { id := 1, mbx := 0, owner := .pcie, wanted := 63, rights := 63, proved := true }, held 0x40 [3, 0, 0, 0] up, by decide +kernel⟩,
    ⟨0, 0, held 0x40 (16 :: List.replicate 67 0) ({ up with pwr := { up.pwr with strapClaim := true } }), by decide +kernel⟩,
    ⟨0, 0, 7, { id := 1, mbx := 0, owner := .pcie, wanted := 63, rights := 63, proved := true }, held 0x40 ([2, 0, 0, 0, 7, 0, 0, 0] ++ List.replicate 64 0) up, by decide +kernel⟩⟩

/-- States that meet the hypotheses of `SafetyCommandsAct`, one for each clause. -/
theorem test_hyp_SafetyCommandsAct :
    (∃ (m : Fin 16) (tm : Nat) (s : State), s.safetyReady m 1 20 = true ∧ s.saf.lockedUntil = none ∧ s.saf.password = none ∧ ((s.mbx[m].payload.drop 4).all fun b => b == 0) = true) ∧
    (∃ (m : Fin 16) (tm : Nat) (n : Nat) (salt : List Byte) (h : List Byte) (s : State), s.safetyReady m 1 20 = true ∧ s.saf.lockedUntil = none ∧ s.saf.password = some (salt, h) ∧ fld s.mbx[m].payload 4 4 = n ∧ n ≤ 16 ∧ ((s.mbx[m].payload.drop (8 + n)).all fun b => b == 0) = true ∧ Config.sha256 (salt ++ (s.mbx[m].payload.drop 8).take n) = h) ∧
    (∃ (m : Fin 16) (tm : Nat) (s : State), s.safetyReady m 2 0 = true) ∧
    (∃ (m : Fin 16) (tm : Nat) (n : Nat) (s : State), s.safetyReady m 3 (4 + 12 * n) = true ∧ fld s.mbx[m].payload 4 4 = n ∧ 1 ≤ n ∧ n ≤ 40 ∧ ((∀ i < n, stageStatus ((s.mbx[m].payload.drop (8 + 12 * i)).take 12) = 0))) ∧
    (∃ (m : Fin 16) (tm : Nat) (b : List (Nat × Nat)) (s : State), s.safetyReady m 4 0 = true ∧ s.saf.staged = some b) ∧
    (∃ (m : Fin 16) (tm : Nat) (b : List (Nat × Nat)) (s : State), s.safetyReady m 5 8 = true ∧ s.saf.staged = some b ∧ fld s.mbx[m].payload 4 4 = blockCrc 0 b ∧ fld s.mbx[m].payload 8 2 = blockCrc 1 b ∧ fld s.mbx[m].payload 10 2 = 0 ∧ s.pwr.supply.getLsbD 4 = true ∧ ((∀ a : Fin 128, s.axes[a].state = .off ∨ s.axes[a].state = .sto))) ∧
    (∃ (m : Fin 16) (tm : Nat) (b : List (Nat × Nat)) (s : State), s.safetyReady m 5 8 = true ∧ s.saf.staged = some b ∧ fld s.mbx[m].payload 10 2 = 0 ∧ (fld s.mbx[m].payload 4 4 ≠ blockCrc 0 b ∨ fld s.mbx[m].payload 8 2 ≠ blockCrc 1 b ∨ s.pwr.supply.getLsbD 4 = false)) ∧
    (∃ (m : Fin 16) (tm : Nat) (s : State), s.safetyReady m 6 0 = true) ∧
    (∃ (m : Fin 16) (tm : Nat) (n : Nat) (s : State), s.safetyReady m 7 20 = true ∧ fld s.mbx[m].payload 4 4 = n ∧ 8 ≤ n ∧ n ≤ 16 ∧ ((s.mbx[m].payload.drop (8 + n)).all fun b => b == 0) = true ∧ ((((s.mbx[m].payload.drop 8).take n).all fun c => decide (0x21 ≤ c.toNat ∧ c.toNat ≤ 0x7E)) = true)) ∧
    (∃ (m : Fin 16) (tm : Nat) (s : State), s.safetyReady m 8 4 = true ∧ fld s.mbx[m].payload 6 2 = 0 ∧ bit (s.safV 0 Pid.safResetSrc) 2 = false) ∧
    (∃ (m : Fin 16) (tm : Nat) (s : State), s.safetyReady m 8 4 = true ∧ fld s.mbx[m].payload 6 2 = 0 ∧ bit (s.safV 0 Pid.safResetSrc) 2 = true ∧ s.pwr.state = .safe) ∧
    (∃ (m : Fin 16) (tm : Nat) (s : State) (u : State), s.safetyReady m 8 4 = true ∧ fld s.mbx[m].payload 6 2 = 0 ∧ bit (s.safV 0 Pid.safResetSrc) 2 = true ∧ (s.safetyBegun m tm).safReset (grpsOf (fld s.mbx[m].payload 4 2)) 2 s.mbx[m].owner.logPath s.mbx[m].sid = (true, u)) := by
  refine ⟨⟨0, 0, held 0x50 (1 :: List.replicate 23 0) up, by decide +kernel⟩,
    ⟨0, 0, 1, [7], Config.sha256 ([7] ++ [0x41]), held 0x50 ([1, 0, 0, 0, 1, 0, 0, 0, 0x41] ++ List.replicate 15 0) (up.modSaf fun k => { k with password := some ([7], Config.sha256 ([7] ++ [0x41])) }), by exact ⟨by decide +kernel, by decide +kernel, rfl, by decide +kernel, by decide +kernel, by decide +kernel, rfl⟩⟩,
    ⟨0, 0, safCmd 2 [] up, by decide +kernel⟩,
    ⟨0, 0, 1, safCmd 3 ([1, 0, 0, 0] ++ leBytes 4 Pid.safXchkT ++ d32 3) up, by decide +kernel⟩,
    ⟨0, 0, [(Pid.safXchkT, 3)], safCmd 4 [] (up.modSaf fun k => { k with staged := some [(Pid.safXchkT, 3)] }), by decide +kernel⟩,
    ⟨0, 0, [], actCmd (blockCrc 0 []) (blockCrc 1 []), by exact ⟨actCmd_ready _ _, rfl, actCmd_crc _ _ (blockCrc0_lt _), actCmd_crcL _ _ (blockCrc1_lt _), actCmd_zero _ _, show up.pwr.supply.getLsbD 4 = true by decide +kernel, show ∀ a : Fin 128, up.axes[a].state = .off ∨ up.axes[a].state = .sto by decide +kernel⟩⟩,
    ⟨0, 0, [], (actCmd 0 0).modPwr fun p => { p with supply := 0 }, by exact ⟨by decide +kernel, by decide +kernel, by decide +kernel, Or.inr (Or.inr (by decide +kernel))⟩⟩,
    ⟨0, 0, safCmd 6 [] (up.modSaf fun k => { k with staged := some [] }), by decide +kernel⟩,
    ⟨0, 0, 8, safCmd 7 ([8, 0, 0, 0] ++ List.replicate 8 0x41 ++ List.replicate 8 0) up, by decide +kernel⟩,
    ⟨0, 0, safCmd 8 [1, 0, 0, 0] up, by decide +kernel⟩,
    ⟨0, 0, safCmd 8 [1, 0, 0, 0] (saf Pid.safResetSrc 4 { up with pwr := { up.pwr with state := .safe } }), by decide +kernel⟩,
    ⟨0, 0, safCmd 8 [0, 0, 0, 0] (saf Pid.safResetSrc 4 up), (((safCmd 8 [0, 0, 0, 0] (saf Pid.safResetSrc 4 up)).safetyBegun 0 0).safReset [] 2 1 1).2, by exact ⟨by decide +kernel, by decide +kernel, by decide +kernel, Prod.ext (by decide +kernel) rfl⟩⟩⟩

/-- States that meet the hypotheses of `AxisRequestsWaitForTheTick`, one for each clause. -/
theorem test_hyp_AxisRequestsWaitForTheTick :
    (∃ (m : Fin 16) (tm : Nat) (a : Fin 128) (s : State), s.axisReady m a 0x10 0xF001 0 = true) ∧
    (∃ (m : Fin 16) (tm : Nat) (a : Fin 128) (s : State), s.axisReady m a 0x16 0xF001 0 = true) ∧
    (∃ (m : Fin 16) (tm : Nat) (a : Fin 128) (s : State), s.axisReady m a 0x1C 0xF001 8 = true ∧ s.fbkLost a = false ∧ s.axes[a].fbk.estimated = false) ∧
    (∃ (m : Fin 16) (tm : Nat) (a : Fin 128) (s : State), s.axisReady m a 0x18 0xF002 0 = true) ∧
    (∃ (m : Fin 16) (tm : Nat) (a : Fin 128) (s : State), s.axisReady m a 0x18 0xF003 0 = true) ∧
    (∃ (m : Fin 16) (tm : Nat) (a : Fin 128) (s : State), s.axisReady m a 0x18 0xF004 0 = true ∧ (s.motType a.val ≠ 1 ∨ s.pN (Pid.axComSource a.val) ≠ 1)) ∧
    (∃ (m : Fin 16) (tm : Nat) (a : Fin 128) (s : State), s.axisReady m a 0x18 0xF004 0 = true ∧ s.motType a.val = 1 ∧ s.pN (Pid.axComSource a.val) = 1) ∧
    (∃ (m : Fin 16) (tm : Nat) (a : Fin 128) (s : State), s.axisReady m a 0x19 0xF002 0 = true ∧ (s.axes[a].hom.phase ≠ 0 ∨ s.axes[a].hom.startReq = true)) ∧
    (∃ (m : Fin 16) (tm : Nat) (a : Fin 128) (s : State), s.axisReady m a 0x1A 0xF002 0 = true ∧ (s.axes[a].gea.stat ≠ 0 ∨ s.axes[a].gea.engReq = true)) ∧
    (∃ (m : Fin 16) (tm : Nat) (a : Fin 128) (s : State), s.axisReady m a 0x17 0xF002 0 = true) ∧
    (∃ (m : Fin 16) (tm : Nat) (a : Fin 128) (s : State), s.axisReady m a 0x1E 0xF001 1 = true ∧ s.arg m 0 1 < 16) ∧
    (∃ (m : Fin 16) (tm : Nat) (a : Fin 128) (s : State), s.axisReady m a 0x1E 0xF002 1 = true ∧ s.arg m 0 1 < 16) := by
  refine ⟨⟨0, 0, 127, axCall 0x10 0xF001 [] up, by decide +kernel⟩,
    ⟨0, 0, 127, axCall 0x16 0xF001 [] up, by decide +kernel⟩,
    ⟨0, 0, 127, axCall 0x1C 0xF001 [1, 2, 3, 4, 5, 6, 7, 8] up, by decide +kernel⟩,
    ⟨0, 0, 127, axCall 0x18 0xF002 [] up, by decide +kernel⟩,
    ⟨0, 0, 127, axCall 0x18 0xF003 [] up, by decide +kernel⟩,
    ⟨0, 0, 127, axCall 0x18 0xF004 [] up, by decide +kernel⟩,
    ⟨0, 0, 127, axCall 0x18 0xF004 [] (par (Pid.axMotType 127) 1 (par (Pid.axComSource 127) 1 up)), by decide +kernel⟩,
    ⟨0, 0, 127, axCall 0x19 0xF002 [] (up.modAxis 127 fun x => { x with hom := { x.hom with startReq := true } }), by decide +kernel⟩,
    ⟨0, 0, 127, axCall 0x1A 0xF002 [] (up.modAxis 127 fun x => { x with gea := { x.gea with engReq := true } }), by decide +kernel⟩,
    ⟨0, 0, 127, axCall 0x17 0xF002 [] (up.modAxis 127 fun x => { x with eng := { x.eng with inj := .running } }), by decide +kernel⟩,
    ⟨0, 0, 127, axCall 0x1E 0xF001 [15] up, by decide +kernel⟩,
    ⟨0, 0, 127, axCall 0x1E 0xF002 [9] up, by decide +kernel⟩⟩

/-- States that meet the hypotheses of `AxisCallsThatCheckTheAxis`, one for each clause. -/
theorem test_hyp_AxisCallsThatCheckTheAxis :
    (∃ (m : Fin 16) (tm : Nat) (a : Fin 128) (s : State), s.axisReady m a 0x11 0xF001 0 = true ∧ s.axes[a].state = .ready ∧ s.motType a.val = 1 ∧ s.axes[a].com.learn = none) ∧
    (∃ (m : Fin 16) (tm : Nat) (a : Fin 128) (s : State), s.axisReady m a 0x11 0xF001 0 = true ∧ s.axes[a].state ≠ .ready) ∧
    (∃ (m : Fin 16) (tm : Nat) (a : Fin 128) (s : State), s.axisReady m a 0x17 0xF001 0 = true ∧ s.axes[a].eng.inj ≠ .running ∧ (s.axes[a].state = .run ∨ s.axes[a].state = .hold) ∧ s.injBypassed a (s.pN (Pid.axInjPoint a.val)) = false ∧ s.reducedAt a = false) ∧
    (∃ (m : Fin 16) (tm : Nat) (a : Fin 128) (s : State), s.axisReady m a 0x17 0xF001 0 = true ∧ s.axes[a].eng.inj = .running) ∧
    (∃ (m : Fin 16) (tm : Nat) (n : Nat) (a : Fin 128) (es : List QEntry) (s : State), s.axisReady m a 0x18 0xF001 (4 + 28 * n) = true ∧ s.arg m 0 1 = n ∧ s.arg m 1 3 = 0 ∧ 1 ≤ n ∧ s.axes[a].prf.queue.length + n ≤ 8 ∧ (s.adv tm).parseQueue a n s.axes[a].prf.nextId ((callArgs s.mbx[m].payload).drop 4) = some es ∧ (s.adv tm).appendCheck a es = stOk) ∧
    (∃ (m : Fin 16) (tm : Nat) (n : Nat) (a : Fin 128) (es : List QEntry) (s : State), s.axisReady m a 0x18 0xF001 (4 + 28 * n) = true ∧ s.arg m 0 1 = n ∧ s.arg m 1 3 = 0 ∧ 1 ≤ n ∧ n ≤ 8 ∧ 8 < s.axes[a].prf.queue.length + n ∧ (s.adv tm).parseQueue a n s.axes[a].prf.nextId ((callArgs s.mbx[m].payload).drop 4) = some es ∧ (s.adv tm).appendCheck a es = stOk) ∧
    (∃ (m : Fin 16) (tm : Nat) (a : Fin 128) (s : State), s.axisReady m a 0x19 0xF001 0 = true ∧ s.axes[a].prf.mode = 4 ∧ s.axes[a].prf.queue = [] ∧ s.axes[a].state = .hold ∧ (s.pN (Pid.axHomSwSrc a.val) = 0 ∨ s.pN (Pid.fioBMode ((s.pN (Pid.axHomSwSrc a.val) - 1) / 8)) = 0) ∧ s.axes[a].hom.phase = 0 ∧ s.axes[a].gea.stat = 0 ∧ (s.pN (Pid.axFbkSource a.val) ≠ 0 ∨ s.pN (Pid.axHomMethod a.val) = 0)) ∧
    (∃ (m : Fin 16) (tm : Nat) (a : Fin 128) (s : State), s.axisReady m a 0x19 0xF001 0 = true ∧ (s.axes[a].prf.mode ≠ 4 ∨ s.axes[a].state ≠ .hold ∨ s.axes[a].prf.queue ≠ [])) ∧
    (∃ (m : Fin 16) (tm : Nat) (a : Fin 128) (s : State), s.axisReady m a 0x1A 0xF001 0 = true ∧ (s.gearChain a 6 a).2 = false ∧ (s.gearChain a 6 a).1 + s.gearBelow 5 a ≤ 4 ∧ s.axes[a].prf.mode = 4 ∧ s.axes[a].prf.queue = [] ∧ s.axes[a].state = .hold ∧ s.axes[a].hom.phase = 0 ∧ s.axes[a].hom.startReq = false ∧ s.axes[a].gea.stat = 0 ∧ s.pN (Pid.axFbkSource a.val) ≠ 0) ∧
    (∃ (m : Fin 16) (tm : Nat) (a : Fin 128) (s : State), s.axisReady m a 0x1A 0xF001 0 = true ∧ ((s.gearChain a 6 a).2 = true ∨ 4 < (s.gearChain a 6 a).1 + s.gearBelow 5 a)) := by
  refine ⟨⟨0, 0, 127, axCall 0x11 0xF001 [] (par (Pid.axMotType 127) 1 (up.modAxis 127 fun x => { x with state := .ready })), by decide +kernel⟩,
    ⟨0, 0, 127, axCall 0x11 0xF001 [] up, by decide +kernel⟩,
    ⟨0, 0, 127, axCall 0x17 0xF001 [] (par (Pid.axInjPoint 127) 4 (up.modAxis 127 fun x => { x with state := .run })), by decide +kernel⟩,
    ⟨0, 0, 127, axCall 0x17 0xF001 [] (up.modAxis 127 fun x => { x with eng := { x.eng with inj := .running } }), by decide +kernel⟩,
    ⟨0, 0, 1, 127, [{ id := 0, typ := 2, target := 0, v := 0, acc := 10000, dec := 10000, jerk := 0 }], axCall 0x18 0xF001 ([1, 0, 0, 0, 2, 0, 0, 0] ++ List.replicate 24 0) up, by decide +kernel⟩,
    ⟨0, 0, 1, 127, [{ id := 0, typ := 2, target := 0, v := 0, acc := 10000, dec := 10000, jerk := 0 }], axCall 0x18 0xF001 ([1, 0, 0, 0, 2, 0, 0, 0] ++ List.replicate 24 0) (up.modAxis 127 fun x => { x with prf := { x.prf with queue := List.replicate 8 { typ := 2 } } }), by decide +kernel⟩,
    ⟨0, 0, 127, axCall 0x19 0xF001 [] (par (Pid.axFbkSource 127) 1 (up.modAxis 127 fun x => { x with state := .hold, prf := { x.prf with mode := 4 } })), by decide +kernel⟩,
    ⟨0, 0, 127, axCall 0x19 0xF001 [] up, by decide +kernel⟩,
    ⟨0, 0, 127, axCall 0x1A 0xF001 [] (par (Pid.axFbkSource 127) 1 (up.modAxis 127 fun x => { x with state := .hold, prf := { x.prf with mode := 4 } })), by decide +kernel⟩,
    ⟨0, 0, 127, axCall 0x1A 0xF001 [] (par (Pid.axGeaMaster 127) 127 up), by decide +kernel⟩⟩

/-- States that meet the hypotheses of `CallsThatWaitForTheirCommit`, one for each clause. -/
theorem test_hyp_CallsThatWaitForTheirCommit :
    (∃ (m : Fin 16) (tm : Nat) (s : State), s.callReady m 0x4000F001 20 = true ∧ s.trkOn = true ∧ s.arg m 1 3 = 0 ∧ s.zoneUsed (s.arg m 0 1) = true) ∧
    (∃ (m : Fin 16) (tm : Nat) (s : State), s.callReady m 0x4000F002 2 = true ∧ s.trkOn = true) ∧
    (∃ (m : Fin 16) (tm : Nat) (s : State), s.callReady m 0x4000F003 16 = true ∧ s.trkOn = true ∧ s.arg m 2 1 < 8 ∧ s.arg m 3 1 = 0) ∧
    (∃ (m : Fin 16) (tm : Nat) (e : CmpEv) (s : State), s.callReady m 0x4000F004 12 = true ∧ s.trkOn = true ∧ s.arg m 2 1 < 4 ∧ s.arg m 3 1 = 0 ∧ s.parseEv ((callArgs s.mbx[m].payload).drop 4) = some e) ∧
    (∃ (m : Fin 16) (tm : Nat) (s : State), s.callReady m 0x4000F006 0 = true ∧ s.trkOn = true) ∧
    (∃ (m : Fin 16) (tm : Nat) (s : State), s.callReady m 0x4000F006 0 = true ∧ s.trkOn = false) ∧
    (∃ (m : Fin 16) (tm : Nat) (s : State), s.callReady m 0x4000F005 4 = true ∧ s.arg m 1 3 = 0) ∧
    (∃ (m : Fin 16) (tm : Nat) (s : State), s.callReady m 0x5000F001 0 = true ∧ s.domainOn 13 = true) ∧
    (∃ (m : Fin 16) (tm : Nat) (s : State), s.callReady m 0x5000F002 0 = true ∧ s.domainOn 13 = true) ∧
    (∃ (m : Fin 16) (tm : Nat) (s : State), s.callReady m 0x5000F003 0 = true ∧ s.domainOn 13 = true) := by
  refine ⟨⟨0, 0, calls 0x4000F001 (List.replicate 20 0) (par Pid.trkEnable 1 (par (Pid.topoZKind 0) 1 up)), by decide +kernel⟩,
    ⟨0, 0, calls 0x4000F002 [255, 1] (par Pid.trkEnable 1 up), by decide +kernel⟩,
    ⟨0, 0, calls 0x4000F003 ([1, 2, 7, 0] ++ List.replicate 12 0) (par Pid.trkEnable 1 up), by decide +kernel⟩,
    ⟨0, 0, {}, calls 0x4000F004 ([1, 2, 3, 0] ++ List.replicate 8 0) (par Pid.trkEnable 1 up), by decide +kernel⟩,
    ⟨0, 0, calls 0x4000F006 [] (par Pid.trkEnable 1 up), by decide +kernel⟩,
    ⟨0, 0, calls 0x4000F006 [] up, by decide +kernel⟩,
    ⟨0, 0, calls 0x4000F005 [255, 0, 0, 0] up, by decide +kernel⟩,
    ⟨0, 0, calls 0x5000F001 [] up, by decide +kernel⟩,
    ⟨0, 0, calls 0x5000F002 [] up, by decide +kernel⟩,
    ⟨0, 0, calls 0x5000F003 [] up, by decide +kernel⟩⟩

/-- States that meet the hypotheses of `DeviceCallsAct`, one for each clause. -/
theorem test_hyp_DeviceCallsAct :
    (∃ (m : Fin 16) (tm : Nat) (s : State), s.callReady m 0x2100F001 20 = true ∧ s.arg m 1 3 = 0 ∧ ((s.adv tm).clearNamed (callArgs s.mbx[m].payload)).1.any (s.adv tm).pinHeld = false ∧ ((s.adv tm).clearNamed (callArgs s.mbx[m].payload)).2.any (s.adv tm).stageHeld = false) ∧
    (∃ (m : Fin 16) (tm : Nat) (p : Fin 8) (s : State), s.callReady m 0x2100F001 20 = true ∧ s.arg m 1 3 = 0 ∧ p ∈ ((s.adv tm).clearNamed (callArgs s.mbx[m].payload)).1 ∧ (s.adv tm).pinHeld p = true) ∧
    (∃ (m : Fin 16) (tm : Nat) (s : State), s.callReady m 0x6000F001 4 = true ∧ BitVec.ofNat 16 (s.arg m 2 2) &&& s.fio.mask = 0) ∧
    (∃ (m : Fin 16) (tm : Nat) (s : State), s.callReady m 0x6000F001 4 = true ∧ BitVec.ofNat 16 (s.arg m 2 2) &&& s.fio.mask ≠ 0) ∧
    (∃ (m : Fin 16) (tm : Nat) (s : State), s.callReady m 0x6000F002 0 = true ∧ s.fio.rearmReady = true ∧ s.fio.cfLost = false) ∧
    (∃ (m : Fin 16) (tm : Nat) (s : State), s.callReady m 0x6000F003 4 = true ∧ s.fio.diag = none ∧ BitVec.ofNat 16 (s.arg m 0 2) ≠ 0 ∧ s.arg m 2 2 = 0 ∧ s.fio.uvWarn = false ∧ s.fio.uvOff = false ∧ s.fio.common = true ∧ s.fio.cfLost = false) ∧
    (∃ (m : Fin 16) (tm : Nat) (s : State), s.callReady m 0x3100F001 8 = true ∧ s.stepAllowed = true ∧ (s.net.units[fin 2 (by decide) s.net.driver]).state = .master) ∧
    (∃ (m : Fin 16) (tm : Nat) (s : State), s.callReady m 0x3100F001 8 = true ∧ ((s.net.units[fin 2 (by decide) s.net.driver]).state ≠ .master ∨ s.stepAllowed = false)) ∧
    (∃ (m : Fin 16) (tm : Nat) (s : State), s.callReady m 0xB000F001 0 = true ∧ s.twin.state = .active ∧ s.twin.partner = TwinState.standby.code ∧ 32 ≤ s.twin.retRun) ∧
    (∃ (m : Fin 16) (tm : Nat) (s : State), s.callReady m 0xB000F002 0 = true ∧ s.twin.state = .isolated) ∧
    (∃ (m : Fin 16) (tm : Nat) (s : State), s.callReady m 0xB000F003 0 = true ∧ s.twin.state = .syncing) ∧
    (∃ (m : Fin 16) (tm : Nat) (s : State), s.callReady m 0xF000F001 4 = true ∧ s.arg m 3 1 = 0 ∧ s.arg m 0 2 = 0xFFFF ∧ s.arg m 2 1 = 0xFF ∧ ((∀ x ∈ s.flt.inForce, x.code / 256 ≠ 0x70 ∧ x.clearing = false ∧ (s.adv tm).causeOn x.code x.inst = false))) ∧
    (∃ (m : Fin 16) (tm : Nat) (x : InForce) (s : State), s.callReady m 0xF000F001 4 = true ∧ s.arg m 3 1 = 0 ∧ s.arg m 0 2 = x.code ∧ s.arg m 2 1 = x.inst ∧ x.code ≠ 0xFFFF ∧ x.inst ≠ 0xFF ∧ x ∈ s.flt.inForce ∧ x.clearing = false ∧ x.code / 256 = 0x70) ∧
    (∃ (m : Fin 16) (tm : Nat) (code : Nat) (inst : Nat) (s : State), s.callReady m 0xF000F001 4 = true ∧ s.arg m 3 1 = 0 ∧ s.arg m 0 2 = code ∧ s.arg m 2 1 = inst ∧ code ≠ 0xFFFF ∧ inst ≠ 0xFF ∧ code / 256 ≠ 0x70 ∧ (s.adv tm).clearOn code inst = []) := by
  refine ⟨⟨0, 1000000000, calls 0x2100F001 (1 :: List.replicate 19 0) (up.modPin 0 fun p => { p with latched := true }), by decide +kernel⟩,
    ⟨0, 0, 0, calls 0x2100F001 (1 :: List.replicate 19 0) (up.modPin 0 fun p => { p with latched := true, active := true }), by decide +kernel⟩,
    ⟨0, 0, calls 0x6000F001 [1, 0, 1, 0] up, by decide +kernel⟩,
    ⟨0, 0, calls 0x6000F001 [1, 0, 1, 0] (up.modFio fun f => { f with mask := 1 }), by decide +kernel⟩,
    ⟨0, 0, calls 0x6000F002 [] (up.modFio fun f => { f with rearmReady := true }), by decide +kernel⟩,
    ⟨0, 0, calls 0x6000F003 [1, 0, 0, 0] (up.modFio fun f => { f with common := true }), by decide +kernel⟩,
    ⟨0, 0, calls 0x3100F001 [0, 0, 0, 1, 0, 0, 0, 0] (up.modUnit 0 fun u => { u with state := .master }), by decide +kernel⟩,
    ⟨0, 0, calls 0x3100F001 [0, 0, 0, 1, 0, 0, 0, 0] up, by decide +kernel⟩,
    ⟨0, 0, calls 0xB000F001 [] (up.modTwin fun k => { k with state := .active, partner := TwinState.standby.code, retRun := 32 }), by decide +kernel⟩,
    ⟨0, 0, calls 0xB000F002 [] (up.modTwin fun k => { k with state := .isolated }), by decide +kernel⟩,
    ⟨0, 0, calls 0xB000F003 [] (up.modTwin fun k => { k with state := .syncing }), by decide +kernel⟩,
    ⟨0, 0, calls 0xF000F001 [255, 255, 255, 0] (up.modFlt fun f => { f with inForce := [⟨0x2101, 0, 4, 4, [], 0, false, none, false, false⟩] }), by decide +kernel⟩,
    ⟨0, 0, ⟨0x7001, 0, 5, 5, [], 0, false, none, false, false⟩, calls 0xF000F001 [1, 0x70, 0, 0] (up.modFlt fun f => { f with inForce := [⟨0x7001, 0, 5, 5, [], 0, false, none, false, false⟩] }), by decide +kernel⟩,
    ⟨0, 0, 0x9001, 0, calls 0xF000F001 [1, 0x90, 0, 0] (up.modFlt fun f => { f with inForce := [{ code := 0x9001, inst := 0, dflt := 0, level := 0, targets := [], tm := 0 }] }), by decide +kernel⟩⟩

/-- States that meet the hypotheses of `PowerCallsAct`, one for each clause. -/
theorem test_hyp_PowerCallsAct :
    (∃ (m : Fin 16) (tm : Nat) (s : State), s.callReady m 0x0800F001 0 = true ∧ s.pwr.state = .config) ∧
    (∃ (m : Fin 16) (tm : Nat) (s : State), s.callReady m 0x0800F001 0 = true ∧ s.pwr.state = .safe) ∧
    (∃ (m : Fin 16) (tm : Nat) (s : State), s.callReady m 0x0800F002 0 = true ∧ s.pwr.state = .operate ∧ s.allOff = true) ∧
    (∃ (m : Fin 16) (tm : Nat) (s : State), s.callReady m 0x0800F002 0 = true ∧ s.allOff = false) ∧
    (∃ (m : Fin 16) (tm : Nat) (s : State), s.callReady m 0x0800F003 0 = true) ∧
    (∃ (m : Fin 16) (tm : Nat) (s : State), s.callReady m 0x0800F004 2 = true ∧ s.arg m 1 1 = 0 ∧ s.pwr.wakeAt = none ∧ s.pwr.wakeReq = 0 ∧ ((∀ c : Fin 8, bit (s.arg m 0 1) c.val = true → s.asleep c = true ∨ s.canSleep c = true))) ∧
    (∃ (m : Fin 16) (tm : Nat) (c : Fin 8) (s : State), s.callReady m 0x0800F004 2 = true ∧ s.arg m 1 1 = 0 ∧ bit (s.arg m 0 1) c.val = true ∧ s.asleep c = false ∧ s.canSleep c = false) ∧
    (∃ (m : Fin 16) (tm : Nat) (s : State), s.callReady m 0x0800F005 1 = true) := by
  refine ⟨⟨0, 0, calls 0x0800F001 [] { up with pwr := { up.pwr with state := .config } }, by decide +kernel⟩,
    ⟨0, 0, calls 0x0800F001 [] { up with pwr := { up.pwr with state := .safe } }, by decide +kernel⟩,
    ⟨0, 0, calls 0x0800F002 [] up, by decide +kernel⟩,
    ⟨0, 0, calls 0x0800F002 [] (up.modAxis 0 fun x => { x with state := .ready }), by decide +kernel⟩,
    ⟨0, 0, calls 0x0800F003 [] up, by decide +kernel⟩,
    ⟨0, 0, calls 0x0800F004 [1, 0] up, by decide +kernel⟩,
    ⟨0, 0, 0, calls 0x0800F004 [1, 0] (up.modAxis 0 fun x => { x with state := .ready }), by decide +kernel⟩,
    ⟨0, 0, calls 0x0800F005 [128] up, by decide +kernel⟩⟩

/-- States that meet the hypotheses of `SecurityAndAgeingCallsAct`, one for each clause. -/
theorem test_hyp_SecurityAndAgeingCallsAct :
    (∃ (m : Fin 16) (tm : Nat) (s : State), s.callReady m 0x8000F001 4 = true ∧ s.arg m 0 4 = 0 ∧ s.sec.closedOk = true) ∧
    (∃ (m : Fin 16) (tm : Nat) (s : State), s.callReady m 0x8000F002 4 = true ∧ s.arg m 0 4 = 1 ∧ s.trial = true) ∧
    (∃ (m : Fin 16) (tm : Nat) (s : State), s.callReady m 0x8000F002 4 = true ∧ s.arg m 0 4 = 0 ∧ s.trial = false) ∧
    (∃ (m : Fin 16) (tm : Nat) (s : State), s.callReady m 0x8000F003 36 = true ∧ s.arg m 0 1 ≤ 3 ∧ s.arg m 1 3 = 0) ∧
    (∃ (m : Fin 16) (tm : Nat) (s : State), s.callReady m 0x8000F004 4 = true ∧ s.arg m 0 1 ≤ 3 ∧ s.arg m 1 3 = 0) ∧
    (∃ (m : Fin 16) (tm : Nat) (i : Fin 8) (s : State), s.callReady m 0x8000F005 68 = true ∧ s.arg m 0 1 = i.val ∧ s.arg m 1 1 = 0 ∧ s.arg m 2 2 ≤ 31 ∧ (((callArgs s.mbx[m].payload).drop 4).all fun b => b == 0) = false) ∧
    (∃ (m : Fin 16) (tm : Nat) (s : State), s.callReady m 0x8000F006 0 = true ∧ s.allOff = true) ∧
    (∃ (m : Fin 16) (tm : Nat) (s : State), s.callReady m 0x8000F007 0 = true ∧ s.allOff = true) ∧
    (∃ (m : Fin 16) (tm : Nat) (s : State), s.callReady m 0x8000F008 64 = true ∧ s.allOff = true) ∧
    (∃ (m : Fin 16) (tm : Nat) (c : Fin 8) (s : State), s.callReady m 0x0A00F001 4 = true ∧ s.arg m 0 4 = c.val ∧ ((∀ k : Fin 8, s.age.clt[k] = none)) ∧ (clusterAxes c).all s.axOff = true) ∧
    (∃ (m : Fin 16) (tm : Nat) (c : Fin 8) (s : State), s.callReady m 0x0A00F001 4 = true ∧ s.arg m 0 4 = c.val ∧ ((∀ k : Fin 8, s.age.clt[k] = none)) ∧ (clusterAxes c).all s.axOff = false) ∧
    (∃ (m : Fin 16) (tm : Nat) (mode : Nat) (port : Fin 4) (s : State), s.callReady m 0x0A00F002 4 = true ∧ s.arg m 0 4 = port.val + 256 * mode ∧ 1 ≤ mode ∧ mode ≤ 2 ∧ s.age.loop = none ∧ (s.net.ports[fin 4 (by decide) (2 * (1 - netOf port.val))]).link = true ∧ (s.net.ports[fin 4 (by decide) (2 * (1 - netOf port.val) + 1)]).link = true ∧ ((s.net.units[fin 2 (by decide) (1 - netOf port.val)]).state = .locked ∨ (s.net.units[fin 2 (by decide) (1 - netOf port.val)]).state = .locking ∨ (s.net.units[fin 2 (by decide) (1 - netOf port.val)]).state = .master) ∧ (s.net.driver ≠ netOf port.val ∨ s.pN Pid.ptpSource = 2)) ∧
    (∃ (m : Fin 16) (tm : Nat) (a : Fin 128) (s : State), s.callReady m 0x0A00F003 4 = true ∧ s.arg m 0 4 = a.val) ∧
    (∃ (m : Fin 16) (tm : Nat) (s : State), s.callReady m 0x0A00F004 0 = true) ∧
    (∃ (m : Fin 16) (tm : Nat) (s : State), s.callReady m 0x8000F001 4 = true ∧ s.arg m 0 4 = 1 ∧ s.sec.closedOk = true) ∧
    (∃ (m : Fin 16) (tm : Nat) (s : State), s.callReady m 0x8000F002 4 = true ∧ s.arg m 0 4 = 0 ∧ s.trial = true) ∧
    (∃ (m : Fin 16) (tm : Nat) (i : Fin 8) (s : State), s.callReady m 0x8000F005 68 = true ∧ s.arg m 0 1 = i.val ∧ s.arg m 1 1 = 0 ∧ s.arg m 2 2 ≤ 31 ∧ (((callArgs s.mbx[m].payload).drop 4).all fun b => b == 0) = true) := by
  refine ⟨⟨0, 0, calls 0x8000F001 [0, 0, 0, 0] (up.modSec fun k => { k with closedOk := true }), by decide +kernel⟩,
    ⟨0, 0, calls 0x8000F002 [1, 0, 0, 0] (up.modSec fun k => { k with next := some 0, tried := true }), by decide +kernel⟩,
    ⟨0, 0, calls 0x8000F002 [0, 0, 0, 0] up, by decide +kernel⟩,
    ⟨0, 0, calls 0x8000F003 ([3, 0, 0, 0] ++ List.replicate 32 1) up, by decide +kernel⟩,
    ⟨0, 0, calls 0x8000F004 [3, 0, 0, 0] up, by decide +kernel⟩,
    ⟨0, 0, 7, calls 0x8000F005 ([7, 0, 31, 0] ++ List.replicate 64 1) up, by decide +kernel⟩,
    ⟨0, 0, calls 0x8000F006 [] up, by decide +kernel⟩,
    ⟨0, 0, calls 0x8000F007 [] up, by decide +kernel⟩,
    ⟨0, 0, calls 0x8000F008 (List.replicate 64 1) up, by decide +kernel⟩,
    ⟨0, 0, 7, calls 0x0A00F001 [7, 0, 0, 0] up, by decide +kernel⟩,
    ⟨0, 0, 7, calls 0x0A00F001 [7, 0, 0, 0] (up.modAxis 127 fun x => { x with state := .ready }), by decide +kernel⟩,
    ⟨0, 0, 1, 0, calls 0x0A00F002 [0, 1, 0, 0] ({ up with net := { up.net with driver := 1, ports := up.net.ports.map fun p => { p with link := true }, units := up.net.units.map fun u => { u with state := .locked } } }), by decide +kernel⟩,
    ⟨0, 0, 127, calls 0x0A00F003 [127, 0, 0, 0] up, by decide +kernel⟩,
    ⟨0, 0, calls 0x0A00F004 [] up, by decide +kernel⟩,
    ⟨0, 0, calls 0x8000F001 [1, 0, 0, 0] (up.modSec fun k => { k with closedOk := true }), by decide +kernel⟩,
    ⟨0, 0, calls 0x8000F002 [0, 0, 0, 0] (up.modSec fun k => { k with next := some 0, tried := true }), by decide +kernel⟩,
    ⟨0, 0, 7, calls 0x8000F005 (7 :: List.replicate 67 0) up, by decide +kernel⟩⟩

/-- States that meet the hypotheses of `FrameTickBeginsAndCommits`, one for each clause. -/
theorem test_hyp_FrameTickBeginsAndCommits :
    (∃ (s : State), s.frame.ticking = true ∧ s.domainOn 8 = true) ∧
    (∃ (s : State), (s.frame.ticking = false ∨ s.domainOn 8 = false)) ∧
    (∃ (c : State) (v : State) (s : State) (bad : List Group) (ok : Group → Bool), c = s.capInputs ∧ bad = c.par.ready.filter c.reserves ∧ v = c.each bad State.groupRefused) ∧
    (∃ (c : Nat) (s : State), s.frame.tfNext = some c ∧ s.beginTick.frame.tick % 100000 = 0) ∧
    (∃ (c : Nat) (s : State), s.frame.tfNext = some c ∧ s.beginTick.frame.tick % 100000 ≠ 0) := by
  refine ⟨⟨up, by decide +kernel⟩,
    ⟨{ up with pwr := { up.pwr with domains := 0 } }, by decide +kernel⟩,
    ⟨up.capInputs, up.capInputs, up, [], fun _ => true, by exact ⟨rfl, rfl, rfl⟩⟩,
    ⟨2, { up with nt := 1050001, frame := { up.frame with tfNext := some 2 } }, by decide +kernel⟩,
    ⟨2, up.modFrame fun f => { f with tfNext := some 2 }, by decide +kernel⟩⟩

/-- States that meet the hypotheses of `EnginesSchedulesAndOverruns`, one for each clause. -/
theorem test_hyp_EnginesSchedulesAndOverruns :
    (∃ (c : Fin 8) (ns : Nat) (s : State), s.axOn c = true ∧ s.frame.ticking = true ∧ ns ≤ 8000 ∧ s.frame.overran.getLsbD c.val = false ∧ s.frame.finished.getLsbD c.val = false ∧ s.nt ≤ s.frame.tick + 9500) ∧
    (∃ (c : Fin 8) (s : State), s.axOn c = true ∧ s.frame.ticking = true ∧ s.frame.overran.getLsbD c.val = false ∧ s.frame.finished.getLsbD c.val = true) ∧
    (∃ (c : Fin 8) (s : State), s.axOn c = true ∧ s.frame.ticking = true ∧ s.frame.overran.getLsbD c.val = false ∧ s.frame.finished.getLsbD c.val = false) ∧
    (∃ (a : Fin 128) (s : State), s.axes[a].prf.spTick = some s.frame.tick) ∧
    (∃ (c : Fin 8) (s : State), s.axOn c = true ∧ s.frame.ticking = true ∧ s.frame.finished.getLsbD c.val = true ∧ s.gatesHeld c = false ∧ s.frame.sent.getLsbD c.val = false ∧ s.nt ≤ s.frame.tick + 13000) ∧
    (∃ (c : Fin 8) (s : State), s.axOn c = true ∧ s.frame.ticking = true ∧ s.gatesHeld c = true ∧ s.frame.sent.getLsbD c.val = false ∧ s.nt ≤ s.frame.tick + 13000) ∧
    (∃ (c : Fin 8) (s : State), s.axOn c = true ∧ s.frame.ticking = true ∧ s.frame.finished.getLsbD c.val = false ∧ s.frame.overran.getLsbD c.val = false ∧ s.age.clt[c] = none ∧ s.frame.reduced.getLsbD c.val = false) ∧
    (∃ (c : Fin 8) (s : State), s.axOn c = true ∧ s.frame.ticking = true ∧ s.frame.finished.getLsbD c.val = false ∧ s.frame.overran.getLsbD c.val = false ∧ s.age.clt[c] = none ∧ s.frame.reduced.getLsbD c.val = true) ∧
    (∃ (c : Fin 8) (s : State), s.frame.overran.getLsbD c.val = true ∧ 3 ≤ s.frame.consec[c] ∧ s.frame.reduced.getLsbD c.val = false) := by
  refine ⟨⟨7, 8000, par (Pid.axMotType 127) 1 up, by decide +kernel⟩,
    ⟨7, par (Pid.axMotType 127) 1 (up.modFrame fun f => { f with finished := 128 }), by decide +kernel⟩,
    ⟨7, up, by decide +kernel⟩,
    ⟨127, up.modAxis 127 fun x => { x with prf := { x.prf with spTick := some 1000000 } }, by decide +kernel⟩,
    ⟨7, up.modFrame fun f => { f with finished := 128 }, by decide +kernel⟩,
    ⟨7, up.modFrame fun f => { f with gatesOff := 128 }, by decide +kernel⟩,
    ⟨7, up, by decide +kernel⟩,
    ⟨7, up.modFrame fun f => { f with reduced := 128 }, by decide +kernel⟩,
    ⟨7, up.modFrame fun f => { f with overran := 128, consec := f.consec.set 7 3 }, by decide +kernel⟩⟩

/-- States that meet the hypotheses of `SensorlessStartPhases`, one for each clause. -/
theorem test_hyp_SensorlessStartPhases :
    (∃ (a : Fin 128) (tm : Nat) (s : State), s.inPhase a .listen = true ∧ s.axes[a].com.heard = [] ∧ s.axes[a].com.listenFrom + ms (s.pN (Pid.axComCatchQuiet a.val)) ≤ max s.nt tm) ∧
    (∃ (a : Fin 128) (tm : Nat) (s : State), s.inPhase a .brake = true ∧ s.axes[a].com.brakeFrom + ms (s.pN (Pid.axComBrakeOn a.val)) ≤ max s.nt tm) ∧
    (∃ (a : Fin 128) (tm : Nat) (s : State), s.inPhase a .brake = true ∧ ms (s.pN (Pid.axComBrakeTmax a.val)) < s.axes[a].com.brakeTotal + (max s.nt tm - s.axes[a].com.brakeFrom)) ∧
    (∃ (a : Fin 128) (tm : Nat) (b : Nat) (s : State), s.inPhase a .ipd = true ∧ 18 ≤ s.axes[a].com.ipdFrame ∧ s.axes[a].com.ipdMax = b ∧ (s.pN (Pid.axComIpdMargin a.val) : Rat) / 100 * s.axes[a].com.ipdI[fin 6 (by decide) b] ≤ s.axes[a].com.ipdI[fin 6 (by decide) b] - s.axes[a].com.ipdI[fin 6 (by decide) (b + 3)]) ∧
    (∃ (a : Fin 128) (tm : Nat) (b : Nat) (s : State), s.inPhase a .ipd = true ∧ 18 ≤ s.axes[a].com.ipdFrame ∧ s.axes[a].com.ipdMax = b ∧ s.axes[a].com.ipdI[fin 6 (by decide) b] - s.axes[a].com.ipdI[fin 6 (by decide) (b + 3)] < (s.pN (Pid.axComIpdMargin a.val) : Rat) / 100 * s.axes[a].com.ipdI[fin 6 (by decide) b]) ∧
    (∃ (a : Fin 128) (tm : Nat) (s : State), s.inPhase a .align = true ∧ s.axes[a].com.alignFrom + ms (s.pN (Pid.axComAlignT a.val)) ≤ max s.nt tm) ∧
    (∃ (a : Fin 128) (tm : Nat) (s : State), s.inPhase a .ramp = true ∧ s.pN (Pid.axComStartZc a.val) ≤ s.axes[a].com.rampZc) ∧
    (∃ (a : Fin 128) (tm : Nat) (s : State), s.inPhase a .ramp = true ∧ s.axes[a].com.tryFailed (s.pN (Pid.axComStartWin a.val)) (max s.nt tm) = true) ∧
    (∃ (a : Fin 128) (tm : Nat) (s : State), s.inPhase a .pause = true ∧ s.axes[a].com.pauseFrom + ms 50 ≤ max s.nt tm ∧ s.axes[a].com.startTry < 3) ∧
    (∃ (a : Fin 128) (tm : Nat) (s : State), s.inPhase a .pause = true ∧ s.axes[a].com.pauseFrom + ms 50 ≤ max s.nt tm ∧ 3 ≤ s.axes[a].com.startTry) ∧
    (∃ (a : Fin 128) (tm : Nat) (f : Rat) (pct : Rat) (sg : Rat) (s : State), s.inPhase a .listen = true ∧ 3 ≤ s.axes[a].com.heard.length ∧ s.axes[a].com.listenFrom + ms (s.pN (Pid.axComCatchListen a.val)) ≤ max s.nt tm ∧ hz60 (meanNat (heard60 s.axes[a].com.heard)) = f ∧ (if s.fRated a.val = 0 then 0 else 100 * f / s.fRated a.val) = pct ∧ (if heardForward s.axes[a].com.heard then pct else -pct) = sg) := by
  refine ⟨⟨127, 241000000, up.modCom 127 fun c => { c with phase := .listen }, by decide +kernel⟩,
    ⟨127, 10000000, up.modCom 127 fun c => { c with phase := .brake }, by decide +kernel⟩,
    ⟨127, 0, up.modCom 127 fun c => { c with phase := .brake, brakeTotal := 60000000000000 }, by decide +kernel⟩,
    ⟨127, 0, 0, up.modCom 127 fun c => { c with phase := .ipd, ipdFrame := 18, ipdI := c.ipdI.set 0 1 }, by decide +kernel⟩,
    ⟨127, 0, 0, up.modCom 127 fun c => { c with phase := .ipd, ipdFrame := 18, ipdI := Vector.replicate 6 1 }, by decide +kernel⟩,
    ⟨127, 100000000, up.modCom 127 fun c => { c with phase := .align }, by decide +kernel⟩,
    ⟨127, 0, up.modCom 127 fun c => { c with phase := .ramp, rampZc := 3 }, by decide +kernel⟩,
    ⟨127, 0, up.modCom 127 fun c => { c with phase := .ramp, backRun := 2 }, by decide +kernel⟩,
    ⟨127, 50000000, up.modCom 127 fun c => { c with phase := .pause, startTry := 2 }, by decide +kernel⟩,
    ⟨127, 50000000, up.modCom 127 fun c => { c with phase := .pause, startTry := 3 }, by decide +kernel⟩,
    ⟨127, 1000000000, (hz60 (meanNat (heard60 [⟨0, true, 0⟩, ⟨1, false, 1000000⟩, ⟨2, true, 2000000⟩]))), (if State.fRated (up.modCom 127 fun c => { c with phase := .listen, heard := [⟨0, true, 0⟩, ⟨1, false, 1000000⟩, ⟨2, true, 2000000⟩] }) 127 = 0 then 0 else 100 * (hz60 (meanNat (heard60 [⟨0, true, 0⟩, ⟨1, false, 1000000⟩, ⟨2, true, 2000000⟩]))) / State.fRated (up.modCom 127 fun c => { c with phase := .listen, heard := [⟨0, true, 0⟩, ⟨1, false, 1000000⟩, ⟨2, true, 2000000⟩] }) 127), (if State.fRated (up.modCom 127 fun c => { c with phase := .listen, heard := [⟨0, true, 0⟩, ⟨1, false, 1000000⟩, ⟨2, true, 2000000⟩] }) 127 = 0 then 0 else 100 * (hz60 (meanNat (heard60 [⟨0, true, 0⟩, ⟨1, false, 1000000⟩, ⟨2, true, 2000000⟩]))) / State.fRated (up.modCom 127 fun c => { c with phase := .listen, heard := [⟨0, true, 0⟩, ⟨1, false, 1000000⟩, ⟨2, true, 2000000⟩] }) 127), (up.modCom 127 fun c => { c with phase := .listen, heard := [⟨0, true, 0⟩, ⟨1, false, 1000000⟩, ⟨2, true, 2000000⟩] }), by decide +kernel⟩⟩

/-- States that meet the hypotheses of `CommutationEvents`, one for each clause. -/
theorem test_hyp_CommutationEvents :
    (∃ (a : Fin 128) (tm : Nat) (s : State), s.inPhase a .sensorless = true ∧ s.axes[a].state = .run ∧ 2 ≤ s.axes[a].com.missRun ∧ s.pN (Pid.axComSource a.val) ≠ 2 ∧ (within (secs 1) (max s.nt tm) s.axes[a].com.recatchAt).length < 3) ∧
    (∃ (a : Fin 128) (tm : Nat) (s : State), s.inPhase a .sensorless = true ∧ s.axes[a].state = .run ∧ (2 ≤ s.axes[a].com.missRun ∨ 3 ≤ s.axes[a].com.offRun) ∧ s.pN (Pid.axComSource a.val) = 2) ∧
    (∃ (a : Fin 128) (tm : Nat) (s : State), s.inPhase a .sensorless = true ∧ s.axes[a].state = .run ∧ (2 ≤ s.axes[a].com.missRun ∨ 3 ≤ s.axes[a].com.offRun) ∧ s.pN (Pid.axComSource a.val) ≠ 2 ∧ 3 ≤ (within (secs 1) (max s.nt tm) s.axes[a].com.recatchAt).length) ∧
    (∃ (a : Fin 128) (tm : Nat) (s : State), s.inPhase a .coastStop = true ∧ s.axes[a].state = .stop ∧ max s.axes[a].com.coastFrom (s.axes[a].com.zcAt.getD 0) + ms (s.pN (Pid.axComCatchQuiet a.val)) ≤ max s.nt tm) ∧
    (∃ (a : Fin 128) (tm : Nat) (s : State), s.inPhase a .coastStop = true ∧ s.axes[a].state = .fault ∧ max s.axes[a].com.coastFrom (s.axes[a].com.zcAt.getD 0) + ms (s.pN (Pid.axComCatchQuiet a.val)) ≤ max s.nt tm) ∧
    (∃ (a : Fin 128) (tm : Nat) (k : LearnSt) (s : State), s.axes[a].com.learn = some k ∧ s.axes[a].state = .ready ∧ k.n < 5 ∧ k.stepFrom + ms (s.pN (Pid.axComAlignT a.val)) ≤ max s.nt tm) ∧
    (∃ (a : Fin 128) (tm : Nat) (map : Nat) (res : Nat) (k : LearnSt) (s : State), s.axes[a].com.learn = some k ∧ s.axes[a].state = .ready ∧ 5 ≤ k.n ∧ k.stepFrom + ms (s.pN (Pid.axComAlignT a.val)) ≤ max s.nt tm ∧ learnResult (s.pN (Pid.axComHallMap a.val)) (k.seen ++ [s.axes[a].com.hallState]) = (map, res) ∧ res ≠ 0) ∧
    (∃ (a : Fin 128) (tm : Nat) (s : State), 400 ≤ s.axes[a].com.blindRun) ∧
    (∃ (a : Fin 128) (tm : Nat) (s : State), s.axes[a].com.keFrom + ms 200 ≤ max s.nt tm ∧ s.axes[a].com.keN < 100) ∧
    (∃ (a : Fin 128) (tm : Nat) (r : Rat) (s : State), s.axes[a].com.keFrom + ms 200 ≤ max s.nt tm ∧ 100 ≤ s.axes[a].com.keN ∧ s.axes[a].com.keSum / (s.axes[a].com.keN : Rat) = r ∧ 85 / 100 ≤ r ∧ r ≤ 115 / 100) ∧
    (∃ (a : Fin 128) (tm : Nat) (r : Rat) (s : State), s.axes[a].com.keFrom + ms 200 ≤ max s.nt tm ∧ 100 ≤ s.axes[a].com.keN ∧ s.axes[a].com.keSum / (s.axes[a].com.keN : Rat) = r ∧ (r < 70 / 100 ∨ 130 / 100 < r)) ∧
    (∃ (a : Fin 128) (tm : Nat) (s : State), s.inPhase a .sensorless = true ∧ s.axes[a].state = .run ∧ s.axes[a].com.missRun < 2 ∧ 3 ≤ s.axes[a].com.offRun ∧ s.pN (Pid.axComSource a.val) ≠ 2 ∧ (within (secs 1) (max s.nt tm) s.axes[a].com.recatchAt).length < 3) ∧
    (∃ (a : Fin 128) (tm : Nat) (map : Nat) (k : LearnSt) (s : State), s.axes[a].com.learn = some k ∧ s.axes[a].state = .ready ∧ 5 ≤ k.n ∧ k.stepFrom + ms (s.pN (Pid.axComAlignT a.val)) ≤ max s.nt tm ∧ learnResult (s.pN (Pid.axComHallMap a.val)) (k.seen ++ [s.axes[a].com.hallState]) = (map, 0)) ∧
    (∃ (a : Fin 128) (tm : Nat) (k : LearnSt) (s : State), s.axes[a].com.learn = some k ∧ s.axes[a].state ≠ .ready) ∧
    (∃ (a : Fin 128) (tm : Nat) (r : Rat) (s : State), s.axes[a].com.keFrom + ms 200 ≤ max s.nt tm ∧ 100 ≤ s.axes[a].com.keN ∧ s.axes[a].com.keSum / (s.axes[a].com.keN : Rat) = r ∧ 70 / 100 ≤ r ∧ r ≤ 130 / 100 ∧ (r < 85 / 100 ∨ 115 / 100 < r)) := by
  refine ⟨⟨127, 0, (up.modAxis 127 fun x => { x with state := .run }).modCom 127 fun c => { c with phase := .sensorless, missRun := 2 }, by decide +kernel⟩,
    ⟨127, 0, par (Pid.axComSource 127) 2 ((up.modAxis 127 fun x => { x with state := .run }).modCom 127 fun c => { c with phase := .sensorless, offRun := 3 }), by decide +kernel⟩,
    ⟨127, 0, (up.modAxis 127 fun x => { x with state := .run }).modCom 127 fun c => { c with phase := .sensorless, missRun := 2, recatchAt := [3, 2, 1] }, by decide +kernel⟩,
    ⟨127, 240000000, (up.modAxis 127 fun x => { x with state := .stop }).modCom 127 fun c => { c with phase := .coastStop }, by decide +kernel⟩,
    ⟨127, 240000000, (up.modAxis 127 fun x => { x with state := .fault }).modCom 127 fun c => { c with phase := .coastStop }, by decide +kernel⟩,
    ⟨127, 100000000, { n := 4 }, (up.modAxis 127 fun x => { x with state := .ready }).modCom 127 fun c => { c with learn := some { n := 4 } }, by decide +kernel⟩,
    ⟨127, 100000000, 4093977375, 3, { n := 5, seen := [0, 0, 0, 0, 0] }, (up.modAxis 127 fun x => { x with state := .ready }).modCom 127 fun c => { c with learn := some { n := 5, seen := [0, 0, 0, 0, 0] } }, by decide +kernel⟩,
    ⟨127, 0, up.modCom 127 fun c => { c with blindRun := 400 }, by decide +kernel⟩,
    ⟨127, 200000000, up, by decide +kernel⟩,
    ⟨127, 200000000, 1, up.modCom 127 fun c => { c with keN := 100, keSum := 100 }, by decide +kernel⟩,
    ⟨127, 200000000, 2, up.modCom 127 fun c => { c with keN := 100, keSum := 200 }, by decide +kernel⟩,
    ⟨127, 0, (up.modAxis 127 fun x => { x with state := .run }).modCom 127 fun c => { c with phase := .sensorless, offRun := 3 }, by decide +kernel⟩,
    ⟨127, 100000000, (learnResult 0 [5, 4, 6, 2, 3, 1]).1, { n := 5, seen := [5, 4, 6, 2, 3] }, (up.modAxis 127 fun x => { x with state := .ready }).modCom 127 fun c => { c with learn := some { n := 5, seen := [5, 4, 6, 2, 3] }, hallState := 1 }, by decide +kernel⟩,
    ⟨127, 0, { n := 4 }, up.modCom 127 fun c => { c with learn := some { n := 4 } }, by decide +kernel⟩,
    ⟨127, 200000000, 8 / 10, up.modCom 127 fun c => { c with keN := 100, keSum := 80 }, by decide +kernel⟩⟩

/-- States that meet the hypotheses of `AxisSupervision`, one for each clause. -/
theorem test_hyp_AxisSupervision :
    (∃ (a : Fin 128) (tm : Nat) (s : State), s.axes[a].fbk.cause ≠ 0 ∧ s.axes[a].fbk.cause ≤ 6 ∧ (s.adv tm).lossCause a s.axes[a].fbk = s.axes[a].fbk.cause) ∧
    (∃ (a : Fin 128) (tm : Nat) (s : State), s.axes[a].fbk.frozen = true) ∧
    (∃ (a : Fin 128) (tm : Nat) (s : State), (s.pN (Pid.axFbkSource a.val) = 1 ∨ s.pN (Pid.axFbkSource a.val) = 2 ∨ s.pN (Pid.axFbkSource a.val) = 6)) ∧
    (∃ (a : Fin 128) (tm : Nat) (t0 : Nat) (s : State), s.axes[a].eng.feFrom = some t0 ∧ t0 + ms (s.pN (Pid.axPosFeTime a.val)) ≤ max s.nt tm) ∧
    (∃ (a : Fin 128) (tm : Nat) (s : State), (s.axes[a].eng.satRun.toList.any fun n => decide (64 ≤ n)) = true) ∧
    (∃ (a : Fin 128) (tm : Nat) (s : State), 10 ≤ s.axes[a].eng.vbusLow) ∧
    (∃ (a : Fin 128) (tm : Nat) (s : State), s.axes[a].eng.inj = .running ∧ ms s.axes[a].eng.injTime ≤ s.axes[a].eng.injFrames * s.tf) ∧
    (∃ (a : Fin 128) (tm : Nat) (s : State), 1 ≤ s.axes[a].prf.mode ∧ s.axes[a].prf.mode ≤ 3 ∧ s.inMask a.val = false ∧ s.axes[a].active = true ∧ s.pN (Pid.axPrfIpoTmax a.val) ≤ s.axes[a].prf.ipo.run) ∧
    (∃ (a : Fin 128) (tm : Nat) (s : State), 100 ≤ s.axes[a].stp.clampRun) ∧
    (∃ (a : Fin 128) (tm : Nat) (s : State), s.axes[a].active = true ∧ 3 ≤ s.axes[a].stp.stallRun) ∧
    (∃ (a : Fin 128) (tm : Nat) (s : State), (s.axes[a].stp.candA = true ∨ s.axes[a].stp.candB = true)) ∧
    (∃ (a : Fin 128) (tm : Nat) (s : State), s.axes[a].stopRuns = true ∧ s.axes[a].rea.stopFrom + ms (s.pN (Pid.axReaStopTmax a.val)) ≤ max s.nt tm) ∧
    (∃ (a : Fin 128) (tm : Nat) (t0 : Nat) (s : State), s.axes[a].rea.quietFrom = some t0 ∧ t0 + ms 10 ≤ max s.nt tm) ∧
    (∃ (a : Fin 128) (tm : Nat) (t0 : Nat) (s : State), s.axes[a].active = true ∧ s.axes[a].stp.stallFrom = some t0 ∧ t0 + ms 20 ≤ max s.nt tm) := by
  refine ⟨⟨127, 0, par (Pid.axFbkSource 127) 1 (up.modAxis 127 fun x => { x with fbk := { x.fbk with cause := 6, noData := 2 } }), by decide +kernel⟩,
    ⟨127, 0, up.modAxis 127 fun x => { x with fbk := { x.fbk with frozen := true } }, by decide +kernel⟩,
    ⟨127, 0, par (Pid.axFbkSource 127) 6 up, by decide +kernel⟩,
    ⟨127, 10000000, 0, up.modAxis 127 fun x => { x with eng := { x.eng with feFrom := some 0 } }, by decide +kernel⟩,
    ⟨127, 0, up.modAxis 127 fun x => { x with eng := { x.eng with satRun := x.eng.satRun.set 6 64 } }, by decide +kernel⟩,
    ⟨127, 0, up.modAxis 127 fun x => { x with eng := { x.eng with vbusLow := 10 } }, by decide +kernel⟩,
    ⟨127, 0, up.modAxis 127 fun x => { x with eng := { x.eng with inj := .running } }, by decide +kernel⟩,
    ⟨127, 0, up.modAxis 127 fun x => { x with state := .run, prf := { x.prf with mode := 1, ipo := { x.prf.ipo with run := 40 } } }, by decide +kernel⟩,
    ⟨127, 0, up.modAxis 127 fun x => { x with stp := { x.stp with clampRun := 100 } }, by decide +kernel⟩,
    ⟨127, 0, up.modAxis 127 fun x => { x with state := .run, stp := { x.stp with stallRun := 3 } }, by decide +kernel⟩,
    ⟨127, 0, up.modAxis 127 fun x => { x with stp := { x.stp with candA := true } }, by decide +kernel⟩,
    ⟨127, 2000000000, up.modAxis 127 fun x => { x with state := .fault, rea := { x.rea with applied := 2 } }, by decide +kernel⟩,
    ⟨127, 10000000, 0, up.modAxis 127 fun x => { x with rea := { x.rea with quietFrom := some 0 } }, by decide +kernel⟩,
    ⟨127, 20000000, 0, up.modAxis 127 fun x => { x with state := .run, stp := { x.stp with stallFrom := some 0 } }, by decide +kernel⟩⟩

/-- States that meet the hypotheses of `MoveHomingAndStepperEvents`, one for each clause. -/
theorem test_hyp_MoveHomingAndStepperEvents :
    (∃ (a : Fin 128) (tm : Nat) (t0 : Nat) (s : State), s.axes[a].prf.dwellUntil = some t0 ∧ t0 ≤ max s.nt tm ∧ s.axes[a].prf.running = true ∧ s.axes[a].prf.stopRow = 0) ∧
    (∃ (a : Fin 128) (tm : Nat) (t0 : Nat) (s : State), s.axes[a].prf.inWinFrom = some t0 ∧ s.axes[a].prf.allDone = true ∧ t0 + ms (s.pN (Pid.axPrfWindowT a.val)) ≤ max s.nt tm) ∧
    (∃ (a : Fin 128) (tm : Nat) (t0 : Nat) (s : State), s.axes[a].hom.stallFrom = some t0 ∧ s.axes[a].hom.phase = 4 ∧ t0 + ms (s.pN (Pid.axHomStopT a.val)) ≤ max s.nt tm) ∧
    (∃ (a : Fin 128) (tm : Nat) (t0 : Nat) (s : State), s.axes[a].stp.zeroFrom = some t0 ∧ s.axes[a].stp.holdFrom = none ∧ t0 + ms (s.pN (Pid.axStpHoldT a.val)) ≤ max s.nt tm) ∧
    (∃ (a : Fin 128) (tm : Nat) (s : State), s.axes[a].stp.volt = true ∧ 4 ≤ s.axes[a].stp.overRun) ∧
    (∃ (a : Fin 128) (tm : Nat) (t0 : Nat) (s : State), s.axes[a].stp.forced = some t0 ∧ t0 + secs 1 ≤ max s.nt tm) ∧
    (∃ (a : Fin 128) (tm : Nat) (j : Nat) (s : State), s.axes[a].stp.blend = some j ∧ s.pN (Pid.axStpBlendN a.val) ≤ j) ∧
    (∃ (a : Fin 128) (tm : Nat) (t0 : Nat) (s : State), s.axes[a].stp.alignFrom = some t0 ∧ t0 + ms 200 ≤ max s.nt tm) := by
  refine ⟨⟨127, 0, 0, up.modAxis 127 fun x => { x with prf := { x.prf with dwellUntil := some 0, running := true } }, by exact ⟨by decide +kernel, by decide +kernel, by decide +kernel, by decide +kernel⟩⟩,
    ⟨127, 1000000000, 0, up.modAxis 127 fun x => { x with prf := { x.prf with mode := 4, inWinFrom := some 0 } }, by decide +kernel⟩,
    ⟨127, 50000000, 0, up.modAxis 127 fun x => { x with hom := { x.hom with stallFrom := some 0, phase := 4 } }, by decide +kernel⟩,
    ⟨127, 200000000, 0, up.modAxis 127 fun x => { x with stp := { x.stp with zeroFrom := some 0 } }, by decide +kernel⟩,
    ⟨127, 0, up.modAxis 127 fun x => { x with stp := { x.stp with volt := true, overRun := 4 } }, by decide +kernel⟩,
    ⟨127, 1000000000, 0, up.modAxis 127 fun x => { x with stp := { x.stp with forced := some 0 } }, by decide +kernel⟩,
    ⟨127, 0, 32, up.modAxis 127 fun x => { x with stp := { x.stp with blend := some 32 } }, by decide +kernel⟩,
    ⟨127, 200000000, 0, up.modAxis 127 fun x => { x with stp := { x.stp with alignFrom := some 0 } }, by decide +kernel⟩⟩

/-- States that meet the hypotheses of `TrackingCallsAreApplied`, one for each clause. -/
theorem test_hyp_TrackingCallsAreApplied :
    (∃ (s : State), s.trkOn = true ∧ s.frame.ticking = true) ∧
    (∃ (m : Nat) (i : Nat) (gen : Nat) (s : State), s.ctxNamed i gen = false) ∧
    (∃ (m : Nat) (i : Nat) (gen : Nat) (s : State), s.ctxNamed i gen = true) ∧
    (∃ (m : Nat) (i : Nat) (gen : Nat) (mask : Nat) (objId : Nat) (route : Nat) (len : Nat) (s : State), s.ctxNamed i gen = true ∧ bit mask 0 = false ∧ bit mask 1 = false ∧ bit mask 2 = true) ∧
    (∃ (m : Nat) (zone : Nat) (objId : Nat) (len : Nat) (route : Nat) (pos : Int) (s : State), ((∀ i : Fin 256, s.trk.ctx[i].state ≠ .free))) ∧
    (∃ (m : Nat) (zone : Nat) (objId : Nat) (len : Nat) (route : Nat) (pos : Int) (i : Fin 256) (s : State), s.trk.ctx[i].state = .free ∧ ((∀ j : Fin 256, j < i → s.trk.ctx[j].state ≠ .free))) := by
  refine ⟨⟨par Pid.trkEnable 1 up, by decide +kernel⟩,
    ⟨0, 255, 1, up, by decide +kernel⟩,
    ⟨0, 255, 1, up.modCtx 255 fun c => { c with state := .active, gen := 1 }, by decide +kernel⟩,
    ⟨0, 255, 1, 4, 0, 0, 9, up.modCtx 255 fun c => { c with state := .active, gen := 1 }, by decide +kernel⟩,
    ⟨0, 0, 0, 0, 0, 0, { up with trk := { up.trk with ctx := Vector.replicate 256 { state := .active } } }, by decide +kernel⟩,
    ⟨0, 0, 0, 0, 0, 0, 255, { up with trk := { up.trk with ctx := (Vector.replicate 256 { state := .active }).set 255 {} } }, by decide +kernel⟩⟩

/-- States that meet the hypotheses of `LatchesAndHandoffs`, one for each clause. -/
theorem test_hyp_LatchesAndHandoffs :
    (∃ (a : Fin 128) (n : Fin 2) (rising : Bool) (stamp : Nat) (s : State), s.pN (Pid.axCmpLSrc a.val n.val) ≠ 0 ∧ ((s.pN (Pid.axCmpLEdge a.val n.val) = 0 → rising = true)) ∧ ((s.pN (Pid.axCmpLEdge a.val n.val) = 1 → rising = false)) ∧ s.axOn (clusterOf a) = true) ∧
    (∃ (a : Fin 128) (n : Fin 2) (rising : Bool) (stamp : Nat) (s : State), s.pN (Pid.axCmpLSrc a.val n.val) ≠ 0 ∧ ((s.pN (Pid.axCmpLEdge a.val n.val) = 0 → rising = true)) ∧ ((s.pN (Pid.axCmpLEdge a.val n.val) = 1 → rising = false)) ∧ s.axOn (clusterOf a) = true ∧ ((∀ t ∈ s.axes[a].lat[n].waits, s.axes[a].fbk.posAt ≤ t)) ∧ s.axes[a].fbk.posAt ≤ stamp) ∧
    (∃ (tm : Nat) (f : RxFrame) (c : Crepra) (u : State) (v : State) (s : State), (s.adv tm).takeRx ((s.adv tm).isCrepra 5) = some (f, u) ∧ u.crepraCheck f = (some c, v) ∧ v.drives = true ∧ v.trkOn = true) ∧
    (∃ (tm : Nat) (h : HandOff) (s : State), (s.trk.out.find? fun h => decide (h.sentAt + ms (s.pN Pid.trkHoTimeout) ≤ max s.nt tm)) = some h ∧ h.tries < s.pN Pid.trkHoRetry) ∧
    (∃ (tm : Nat) (h : HandOff) (s : State), (s.trk.out.find? fun h => decide (h.sentAt + ms (s.pN Pid.trkHoTimeout) ≤ max s.nt tm)) = some h ∧ s.pN Pid.trkHoRetry ≤ h.tries) ∧
    (∃ (a : Fin 128) (n : Fin 2) (rising : Bool) (stamp : Nat) (s : State), (s.pN (Pid.axCmpLSrc a.val n.val) = 0 ∨ (s.pN (Pid.axCmpLEdge a.val n.val) = 0 ∧ rising = false) ∨ (s.pN (Pid.axCmpLEdge a.val n.val) = 1 ∧ rising = true))) := by
  refine ⟨⟨127, 1, true, 1000000, par (Pid.axCmpLSrc 127 1) 1 (par (Pid.axCmpLEdge 127 1) 2 up), by decide +kernel⟩,
    ⟨127, 1, false, 1000000, par (Pid.axCmpLSrc 127 1) 1 (par (Pid.axCmpLEdge 127 1) 2 up), by decide +kernel⟩,
    ⟨0, crepraRx 5 0xFFFE 20 [], crepraOf (ethHead (crepraRx 5 0xFFFE 20 []).bytes).body, ((par Pid.trkEnable 1 (rxd (crepraRx 5 0xFFFE 20 []) up)).modNet fun n => { n with rx := [] }).adv 0, took 5 (((par Pid.trkEnable 1 (rxd (crepraRx 5 0xFFFE 20 []) up)).modNet fun n => { n with rx := [] }).adv 0), par Pid.trkEnable 1 (rxd (crepraRx 5 0xFFFE 20 []) up), by exact ⟨takeRx_one _ _ _ rfl (by decide +kernel), by simp only [State.crepraCheck, show (((par Pid.trkEnable 1 (rxd (crepraRx 5 0xFFFE 20 []) up)).modNet fun n => { n with rx := [] }).adv 0).tagOk (crepraOf (ethHead (crepraRx 5 0xFFFE 20 []).bytes).body) = true from crepra_tag [1] (crepraBody 5 0xFFFE 20 [])]; rfl, by decide +kernel, by decide +kernel⟩⟩,
    ⟨2000000, { seq := 1, zone := 0, rcd := [], sentAt := 0, tries := 3 }, up.modTrk fun k => { k with out := [{ seq := 1, zone := 0, rcd := [], sentAt := 0, tries := 3 }] }, by decide +kernel⟩,
    ⟨2000000, { seq := 1, zone := 0, rcd := [], sentAt := 0, tries := 4 }, up.modTrk fun k => { k with out := [{ seq := 1, zone := 0, rcd := [], sentAt := 0, tries := 4 }] }, by decide +kernel⟩,
    ⟨127, 1, true, 5, par (Pid.axCmpLSrc 127 1) 1 (par (Pid.axCmpLEdge 127 1) 1 up), by decide +kernel⟩⟩

/-- States that meet the hypotheses of `LinkTimeAndPackets`, one for each clause. -/
theorem test_hyp_LinkTimeAndPackets :
    (∃ (l : Fin 32) (tm : Nat) (s : State), s.linkTx l = true ∧ s.frame.tick + 1000 ≤ max s.nt tm ∧ max s.nt tm < s.frame.tick + 1025 ∧ s.links[l].syncTick ≠ some s.frame.tick ∧ s.links[l].txEnd ≤ max s.nt tm) ∧
    (∃ (l : Fin 32) (tm : Nat) (s : State), s.linkTx l = true ∧ s.frame.tick + 2000 ≤ max s.nt tm ∧ max s.nt tm < s.frame.tick + 2025 ∧ s.links[l].dreqTick ≠ some s.frame.tick ∧ s.links[l].txEnd ≤ max s.nt tm) ∧
    (∃ (l : Fin 32) (syms : List Sym) (s : State), s.links[l].txEnd ≤ s.nt) ∧
    (∃ (l : Fin 32) (turn : Nat) (t1 : Nat) (tm : Nat) (s : State), s.links[l].t1 = some t1 ∧ s.linkOn l = true ∧ turn ≠ 0 ∧ s.links[l].rts = []) ∧
    (∃ (l : Fin 32) (turn : Nat) (t1 : Nat) (tm : Nat) (s : State), s.links[l].t1 = some t1 ∧ s.linkOn l = true ∧ turn ≠ 0 ∧ s.links[l].rts ≠ [] ∧ 16 < rabs (((4 * (((max s.nt tm : Nat) : Int) - (t1 : Int)) - (turn : Int) : Int) : Rat) - meanInt s.links[l].rts)) ∧
    (∃ (l : Fin 32) (viol : Bool) (syms : Nat) (tm : Nat) (bytes : List Byte) (s : State), s.linkOn l = true ∧ (viol = true ∨ linkCrc (bytes.take (bytes.length - 2)) ≠ fld bytes (bytes.length - 2) 2)) ∧
    (∃ (l : Fin 32) (syms : Nat) (tm : Nat) (bytes : List Byte) (s : State), s.linkOn l = true ∧ 3 ≤ bytes.length ∧ linkCrc (bytes.take (bytes.length - 2)) = fld bytes (bytes.length - 2) 2) ∧
    (∃ (l : Fin 32) (turn : Nat) (t1 : Nat) (tm : Nat) (s : State), s.links[l].t1 = some t1 ∧ s.linkOn l = true ∧ turn ≠ 0 ∧ rabs (((4 * (((max s.nt tm : Nat) : Int) - (t1 : Int)) - (turn : Int) : Int) : Rat) - meanInt s.links[l].rts) ≤ 16) := by
  refine ⟨⟨31, 1001000, lnk id up, by decide +kernel⟩,
    ⟨31, 1002000, lnk id up, by decide +kernel⟩,
    ⟨31, [.k symDreq], lnk id up, by decide +kernel⟩,
    ⟨31, 20, 1002000, 1002400, lnk (fun x => { x with t1 := some 1002000 }) up, by decide +kernel⟩,
    ⟨31, 20, 1002000, 1002400, lnk (fun x => { x with t1 := some 1002000, rts := [1000] }) up, by decide +kernel⟩,
    ⟨31, true, 3, 0, [], lnk id up, by decide +kernel⟩,
    ⟨31, 3, 1014000, [0, 0xF0, 0xE1], lnk id up, by decide +kernel⟩,
    ⟨31, 8, 999990, 0, (lnk (fun x => { x with t1 := some 999990, rts := [30, 20] }) up), by decide +kernel⟩⟩

/-- States that meet the hypotheses of `LinkStateAndFaults`, one for each clause. -/
theorem test_hyp_LinkStateAndFaults :
    (∃ (l : Fin 32) (tm : Nat) (s : State), s.linkReady l = true) ∧
    (∃ (l : Fin 32) (tm : Nat) (s : State), s.linkReady l = false) ∧
    (∃ (l : Fin 32) (tm : Nat) (s : State), s.linkIsUp l = true ∧ s.resignsFor l = false) ∧
    (∃ (l : Fin 32) (tm : Nat) (s : State), s.linkIsUp l = true ∧ s.resignsFor l = true) ∧
    (∃ (l : Fin 32) (tm : Nat) (s : State), s.linkOn l = true ∧ 8 ≤ s.links[l].discards) ∧
    (∃ (l : Fin 32) (tm : Nat) (r : StatRec) (s : State), s.linkOn l = true ∧ s.links[l].state = .up ∧ s.links[l].stat = some r ∧ r.timeLock = false) ∧
    (∃ (l : Fin 32) (tm : Nat) (s : State), 16 < (within (secs 1) (max s.nt tm) s.links[l].crcAt).length) ∧
    (∃ (l : Fin 32) (tm : Nat) (s : State), 10 < (within (secs 1) (max s.nt tm) s.links[l].lateAt).length) ∧
    (∃ (l : Fin 32) (tm : Nat) (s : State), 100 ≤ s.links[l].dropRun) ∧
    (∃ (l : Fin 32) (k : Fin 4) (tm : Nat) (s : State), s.linkIsUp l = true ∧ s.links[l].slotCfg[k].raised = false ∧ s.links[l].slotCfg[k].refused = true) ∧
    (∃ (l : Fin 32) (tm : Nat) (msg : DtMsg) (s : State), s.links[l].dtMsg = some msg ∧ s.linkIsUp l = true ∧ s.frameAhead msg.fc = false ∧ (msg.fc ≠ s.frame.fc ∨ s.frame.tick + 1500 < max s.nt tm) ∧ msg.answered = false ∧ msg.due = false ∧ s.links[l].dtUnanswered = 0) ∧
    (∃ (l : Fin 32) (tm : Nat) (msg : DtMsg) (s : State), s.links[l].dtMsg = some msg ∧ s.linkIsUp l = true ∧ s.frameAhead msg.fc = false ∧ (msg.fc ≠ s.frame.fc ∨ s.frame.tick + 1500 < max s.nt tm) ∧ msg.answered = false ∧ msg.due = false ∧ s.links[l].dtUnanswered = 1) ∧
    (∃ (a : Fin 128) (tm : Nat) (s : State), s.linkIsUp (linkOf a) = true ∧ s.pN (Pid.axPwmDtMode a.val) = 0 ∧ s.axes[a].pwm.adaptTick + 16 * s.tf ≤ s.frame.tick) ∧
    (∃ (a : Fin 128) (tm : Nat) (s : State), (s.axes[a].pwm.hb.toList.any fun h => decide (16 ≤ h.overRun)) = true) ∧
    (∃ (l : Fin 32) (k : Fin 4) (tm : Nat) (s : State), s.linkIsUp l = true ∧ s.links[l].slotCfg[k].raised = false ∧ s.links[l].slotCfg[k].ok = false ∧ s.links[l].slotCfg[k].due = false ∧ 3 ≤ s.links[l].slotCfg[k].sent ∧ s.links[l].slotCfg[k].sentTick + 3 * s.tf ≤ s.frame.tick) := by
  refine ⟨⟨31, 0, lnk (fun x => { x with state := .train, capNew := true, rts := List.replicate 16 1000, stat := some { port := 8 } }) up, by decide +kernel⟩,
    ⟨31, 0, lnk (fun x => { x with state := .train, capNew := true, rts := List.replicate 15 1000, stat := some { port := 8 } }) up, by decide +kernel⟩,
    ⟨31, 0, lnk id up, by decide +kernel⟩,
    ⟨31, 0, par Pid.twinResignLink 1 (lnk id (up.modTwin fun k => { k with state := .active, partner := TwinState.standby.code, retUp := 0xFFFFFFFF })), by decide +kernel⟩,
    ⟨31, 0, lnk (fun x => { x with discards := 8 }) up, by decide +kernel⟩,
    ⟨31, 0, {}, lnk (fun x => { x with stat := some {} }) up, by decide +kernel⟩,
    ⟨31, 0, lnk (fun x => { x with crcAt := List.replicate 17 1000000 }) up, by decide +kernel⟩,
    ⟨31, 0, lnk (fun x => { x with lateAt := List.replicate 11 1000000 }) up, by decide +kernel⟩,
    ⟨31, 0, lnk (fun x => { x with dropRun := 100 }) up, by decide +kernel⟩,
    ⟨31, 3, 0, lnk (fun x => { x with slotCfg := x.slotCfg.set 3 { refused := true } }) up, by decide +kernel⟩,
    ⟨31, 0, { fc := 19, sentTick := 950000, vals := [] }, lnk (fun x => { x with dtMsg := some { fc := 19, sentTick := 950000, vals := [] } }) up, by decide +kernel⟩,
    ⟨31, 0, { fc := 19, sentTick := 950000, vals := [] }, lnk (fun x => { x with dtMsg := some { fc := 19, sentTick := 950000, vals := [] }, dtUnanswered := 1 }) up, by decide +kernel⟩,
    ⟨127, 0, lnk id up, by decide +kernel⟩,
    ⟨127, 0, up.modAxis 127 fun x => { x with pwm := { x.pwm with hb := x.pwm.hb.set 3 { overRun := 16 } } }, by decide +kernel⟩,
    ⟨31, 3, 0, lnk (fun x => { x with slotCfg := x.slotCfg.set 3 { x.slotCfg[3] with sent := 3, due := false, sentTick := 850000 } }) up, by decide +kernel⟩⟩

/-- States that meet the hypotheses of `ServiceFramesOfALink`, one for each clause. -/
theorem test_hyp_ServiceFramesOfALink :
    (∃ (l : Fin 32) (tm : Nat) (s : State), s.linkTx l = true ∧ s.frame.tick + 13500 ≤ (s.adv tm).txAt l ∧ (s.adv tm).txAt l ≤ s.frame.tick + s.tf - 3000 ∧ s.links[l].state ≠ .up ∧ s.links[l].capNew = false) ∧
    (∃ (l : Fin 32) (tm : Nat) (s : State), s.linkTx l = true ∧ s.frame.tick + 13500 ≤ (s.adv tm).txAt l ∧ (s.adv tm).txAt l ≤ s.frame.tick + s.tf - 3000 ∧ s.links[l].state = .up ∧ s.drives = true ∧ s.links[l].slotCfg[0].due = true) ∧
    (∃ (l : Fin 32) (tm : Nat) (s : State), ((s.adv tm).txAt l < s.frame.tick + 13500 ∨ s.frame.tick + s.tf - 3000 < (s.adv tm).txAt l)) ∧
    (∃ (l : Fin 32) (k : Nat) (tm : Nat) (s : State), s.linkTx l = true ∧ s.frame.tick + 13500 ≤ (s.adv tm).txAt l ∧ (s.adv tm).txAt l ≤ s.frame.tick + s.tf - 3000 ∧ s.links[l].state = .up ∧ s.drives = true ∧ ((List.range 4).find? fun k => (s.links[l].slotCfg[fin 4 (by decide) k]).wants s.frame.tick s.tf) = some k) ∧
    (∃ (l : Fin 32) (tm : Nat) (s : State), s.linkTx l = true ∧ s.frame.tick + 13500 ≤ (s.adv tm).txAt l ∧ (s.adv tm).txAt l ≤ s.frame.tick + s.tf - 3000 ∧ s.links[l].state = .up ∧ s.drives = true ∧ ((List.range 4).find? fun k => (s.links[l].slotCfg[fin 4 (by decide) k]).wants s.frame.tick s.tf) = none ∧ (s.adv tm).dtDue l = true) ∧
    (∃ (l : Fin 32) (tm : Nat) (s : State), s.linkTx l = true ∧ s.frame.tick + 13500 ≤ (s.adv tm).txAt l ∧ (s.adv tm).txAt l ≤ s.frame.tick + s.tf - 3000 ∧ s.links[l].state = .up ∧ s.drives = true ∧ ((List.range 4).find? fun k => (s.links[l].slotCfg[fin 4 (by decide) k]).wants s.frame.tick s.tf) = none ∧ (s.adv tm).dtDue l = false ∧ s.links[l].dozeSent = true ∧ s.links[l].dozeAns = false ∧ ((linkAxes l).all fun a => s.axes[a].state == .off) = true) ∧
    (∃ (l : Fin 32) (tm : Nat) (s : State), s.linkTx l = true ∧ s.links[l].state ≠ .up ∧ s.links[l].capNew = true) := by
  refine ⟨⟨31, 1013500, lnk (fun x => { x with state := .train }) up, by decide +kernel⟩,
    ⟨31, 1047000, lnk (fun x => { x with slotCfg := x.slotCfg.set 0 { due := true } }) up, by decide +kernel⟩,
    ⟨31, 1047001, lnk id up, by decide +kernel⟩,
    ⟨31, 3, 1047000, lnk (fun x => { x with slotCfg := (x.slotCfg.map fun c => { c with due := false, ok := true }).set 3 { due := true } }) up, by decide +kernel⟩,
    ⟨31, 1013500, lnk (fun x => { x with slotCfg := x.slotCfg.map fun c => { c with due := false, ok := true } }) up, by decide +kernel⟩,
    ⟨31, 1013500, lnk (fun x => { x with dozeSent := true, dtAcked := true, dtLastTick := 1000000, slotCfg := x.slotCfg.map fun c => { c with due := false, ok := true } }) up, by decide +kernel⟩,
    ⟨31, 1013500, lnk (fun x => { x with state := .train, capNew := true }) up, by decide +kernel⟩⟩

/-- States that meet the hypotheses of `TripPinsAndSequences`, one for each clause. -/
theorem test_hyp_TripPinsAndSequences :
    (∃ (p : Fin 8) (inst : Nat) (tm : Nat) (s : State), inst + s.pN (Pid.trpPFilter p.val) ≤ max s.nt tm ∧ s.pinUsed p = true ∧ s.blankEnd p inst = none ∧ s.pins[p].latched = false) ∧
    (∃ (p : Fin 8) (inst : Nat) (tm : Nat) (s : State), inst + s.pN (Pid.trpPFilter p.val) ≤ max s.nt tm ∧ s.pinUsed p = true ∧ s.blankEnd p inst = none ∧ s.pins[p].latched = true) ∧
    (∃ (p : Fin 8) (inst : Nat) (tm : Nat) (e : Nat) (s : State), max s.nt tm < inst + s.pN (Pid.trpPFilter p.val) ∧ s.pinUsed p = true ∧ s.blankEnd p inst = some e) ∧
    (∃ (p : Fin 8) (inst : Nat) (tm : Nat) (e : Nat) (s : State), inst + s.pN (Pid.trpPFilter p.val) ≤ max s.nt tm ∧ s.pinUsed p = true ∧ s.blankEnd p inst = some e ∧ max s.nt tm < e) ∧
    (∃ (p : Fin 8) (inst : Nat) (tm : Nat) (e : Nat) (s : State), s.pinUsed p = true ∧ s.pins[p].waiting = some inst ∧ s.pins[p].active = true ∧ s.blankEnd p inst = some e ∧ e ≤ max s.nt tm) ∧
    (∃ (p : Fin 8) (tm : Nat) (s : State), 100 < (within (secs 1) (max s.nt tm) s.pins[p].ignoredAt).length) ∧
    (∃ (l : Fin 32) (mask : BitVec 4) (tm : Nat) (s : State), s.linkOn l = true) ∧
    (∃ (l : Fin 32) (mask : BitVec 4) (tm : Nat) (s : State), s.linkOn l = false) ∧
    (∃ (a : Fin 128) (s : State), s.axes[a].pwm.trip = false) ∧
    (∃ (l : Fin 32) (tm : Nat) (s : State), s.linkOn l = true ∧ (s.adv tm).killMask l ≠ 0 ∧ s.links[l].killAt + 1000 ≤ max s.nt tm ∧ s.links[l].txEnd ≤ max s.nt tm) ∧
    (∃ (l : Fin 32) (mask : BitVec 4) (s : State), s.linkOn l = true ∧ s.links[l].txEnd ≤ s.nt) ∧
    (∃ (l : Fin 32) (tm : Nat) (s : State), (s.adv tm).killMask l = 0) ∧
    (∃ (p : Fin 8) (tm : Nat) (s : State), s.pins[p].active = true) ∧
    (∃ (p : Fin 8) (inst : Nat) (tm : Nat) (e : Nat) (s : State), inst + s.pN (Pid.trpPFilter p.val) ≤ max s.nt tm ∧ s.pinUsed p = true ∧ s.blankEnd p inst = some e ∧ e ≤ max s.nt tm ∧ s.pins[p].latched = false) ∧
    (∃ (p : Fin 8) (inst : Nat) (tm : Nat) (s : State), inst + s.pN (Pid.trpPFilter p.val) ≤ max s.nt tm ∧ s.pinUsed p = false) ∧
    (∃ (p : Fin 8) (inst : Nat) (tm : Nat) (s : State), max s.nt tm < inst + s.pN (Pid.trpPFilter p.val) ∧ (s.pinUsed p = false ∨ s.blankEnd p inst = none)) := by
  refine ⟨⟨7, 1000000, 1000040, par (Pid.trpPEnable 7) 1 up, by decide +kernel⟩,
    ⟨7, 1000000, 1000040, par (Pid.trpPEnable 7) 1 (up.modPin 7 fun p => { p with latched := true }), by decide +kernel⟩,
    ⟨0, 1000150, 1000189, 1001350, chopping up, by decide +kernel⟩,
    ⟨0, 1000150, 1001349, 1001350, chopping up, by decide +kernel⟩,
    ⟨0, 1000150, 1001350, 1001350, (chopping up).modPin 0 fun p => { p with waiting := some 1000150, active := true }, by decide +kernel⟩,
    ⟨7, 0, up.modPin 7 fun p => { p with ignoredAt := List.replicate 101 1000000 }, by decide +kernel⟩,
    ⟨31, 0xA, 0, lnk id up, by decide +kernel⟩,
    ⟨31, 0xF, 0, { up with pwr := { up.pwr with domains := 0 } }, by decide +kernel⟩,
    ⟨127, up, by decide +kernel⟩,
    ⟨31, 0, lnk (fun x => { x with killSaf := 8 }) up, by decide +kernel⟩,
    ⟨31, 15, lnk id up, by decide +kernel⟩,
    ⟨31, 0, lnk id up, by decide +kernel⟩,
    ⟨7, 0, up.modPin 7 fun p => { p with active := true }, by decide +kernel⟩,
    ⟨0, 1000150, 1001350, 1001350, chopping up, by decide +kernel⟩,
    ⟨7, 1000000, 1000040, up, by decide +kernel⟩,
    ⟨7, 1000000, 1000000, par (Pid.trpPEnable 7) 1 up, by decide +kernel⟩⟩

/-- States that meet the hypotheses of `LineEncoderEvents`, one for each clause. -/
theorem test_hyp_LineEncoderEvents :
    (∃ (p : Fin 4) (a : Bool) (b : Bool) (tm : Nat) (s : State), s.domainOn 12 = true) ∧
    (∃ (p : Fin 4) (tm : Nat) (s : State), s.domainOn 12 = true ∧ s.pN (Pid.lePMode p.val) = 1 ∧ s.ports[p].zarmed = false) ∧
    (∃ (p : Fin 4) (tm : Nat) (s : State), s.ports[p].zarmed = true) ∧
    (∃ (p : Fin 4) (wire : Bool) (tm : Nat) (u : State) (s : State), u = ((s.adv tm).modPort p fun x => { x with wire := wire }) ∧ u.leBad p = true) ∧
    (∃ (p : Fin 4) (wire : Bool) (tm : Nat) (u : State) (s : State), u = ((s.adv tm).modPort p fun x => { x with wire := wire }) ∧ u.leBad p = false) := by
  refine ⟨⟨3, true, false, 0, up, by decide +kernel⟩,
    ⟨3, 0, par (Pid.lePMode 3) 1 up, by decide +kernel⟩,
    ⟨3, 0, up.modPort 3 fun p => { p with zarmed := true }, by decide +kernel⟩,
    ⟨3, true, 0, (up.adv 0).modPort 3 fun x => { x with wire := true }, up, by exact ⟨rfl, by decide +kernel⟩⟩,
    ⟨3, false, 0, (up.adv 0).modPort 3 fun x => { x with wire := false }, up, by exact ⟨rfl, by decide +kernel⟩⟩⟩

/-- States that meet the hypotheses of `FieldIoEvents`, one for each clause. -/
theorem test_hyp_FieldIoEvents :
    (∃ (tm : Nat) (s : State), s.fio.cfLost = false ∧ s.fio.lastUp + 10000 ≤ max s.nt tm) ∧
    (∃ (tm : Nat) (s : State), s.fio.dieOff = false ∧ s.fio.lastDown + 100000 ≤ max s.nt tm) ∧
    (∃ (i : Fin 40) (stamp : Nat) (tm : Nat) (s : State), (s.adv tm).accepted i = some stamp ∧ s.fio.invalid = false) ∧
    (∃ (i : Fin 40) (stamp : Nat) (tm : Nat) (s : State), (s.adv tm).accepted i = some stamp ∧ s.fio.invalid = true) ∧
    (∃ (tm : Nat) (t0 : Nat) (s : State), s.fio.lowFrom = some t0 ∧ s.fio.uvWarn = false ∧ t0 + 100000 ≤ max s.nt tm) ∧
    (∃ (tm : Nat) (s : State), s.fio.uvOff = false ∧ s.fio.cfLost = false ∧ s.fio.goodFrom.isSome = true ∧ s.fio.fv24 < 1600) ∧
    (∃ (tm : Nat) (t0 : Nat) (s : State), s.fio.uvOff = true ∧ s.fio.cfLost = false ∧ s.fio.highFrom = some t0 ∧ t0 + ms 10 ≤ max s.nt tm) ∧
    (∃ (tm : Nat) (t0 : Nat) (t1 : Nat) (s : State), s.fio.invalid = true ∧ s.fio.uvOff = false ∧ s.fio.cfLost = false ∧ s.fio.goodFrom = some t0 ∧ s.fio.highFrom = some t1 ∧ t0 + ms 10 ≤ max s.nt tm ∧ t1 + ms 10 ≤ max s.nt tm) ∧
    (∃ (tm : Nat) (t0 : Nat) (auto : Bool) (s : State), s.fio.restoreAt = some (t0, auto) ∧ t0 ≤ max s.nt tm) ∧
    (∃ (tm : Nat) (s : State), s.fio.uvWarn = true ∧ 1850 < s.fio.fv24) ∧
    (∃ (tm : Nat) (s : State), s.fio.rise = true) ∧
    (∃ (tm : Nat) (s : State), s.fio.diag = none) ∧
    (∃ (tm : Nat) (d : DiagSt) (s : State), (s.fio.diagApply (max s.nt tm)).diag = some d ∧ d.applied = true ∧ d.inverted = true ∧ d.since + ms (s.aonN Pid.fioDiagTStep) ≤ max s.nt tm) ∧
    (∃ (tm : Nat) (due : List FoutChange) (s : State), (s.fio.changes.filter fun c => decide (c.tm ≤ max s.nt tm)).foldl (fun l c => insertChange c l) [] = due) ∧
    (∃ (tm : Nat) (d : DiagSt) (s : State), (s.fio.diagApply (max s.nt tm)).diag = some d ∧ (d.applied = false ∨ max s.nt tm < d.since + ms (s.aonN Pid.fioDiagTStep))) ∧
    (∃ (tm : Nat) (d : DiagSt) (s : State), (s.fio.diagApply (max s.nt tm)).diag = some d ∧ d.applied = true ∧ d.inverted = false ∧ d.since + ms (s.aonN Pid.fioDiagTStep) ≤ max s.nt tm ∧ d.result = none) ∧
    (∃ (tm : Nat) (r : Nat) (out : Nat) (d : DiagSt) (s : State), (s.fio.diagApply (max s.nt tm)).diag = some d ∧ d.applied = true ∧ d.inverted = false ∧ d.since + ms (s.aonN Pid.fioDiagTStep) ≤ max s.nt tm ∧ d.result = some (r, out)) := by
  refine ⟨⟨1000000, up, by decide +kernel⟩,
    ⟨1000000, up, by decide +kernel⟩,
    ⟨39, 100000, 1000000000, up.modFio fun f => { f with invalid := false, ins := f.ins.set 39 { raw := true } }, by decide +kernel⟩,
    ⟨39, 100000, 1000000000, up.modFio fun f => { f with ins := f.ins.set 39 { raw := true } }, by decide +kernel⟩,
    ⟨100000, 0, up.modFio fun f => { f with lowFrom := some 0 }, by decide +kernel⟩,
    ⟨0, up.modFio fun f => { f with goodFrom := some 0, fv24 := 1599 }, by decide +kernel⟩,
    ⟨10000000, 0, up.modFio fun f => { f with uvOff := true, highFrom := some 0 }, by decide +kernel⟩,
    ⟨10000000, 0, 0, up.modFio fun f => { f with goodFrom := some 0, highFrom := some 0 }, by decide +kernel⟩,
    ⟨0, 1000000, true, up.modFio fun f => { f with restoreAt := some (1000000, true) }, by decide +kernel⟩,
    ⟨0, up.modFio fun f => { f with uvWarn := true, fv24 := 1851 }, by decide +kernel⟩,
    ⟨0, up.modFio fun f => { f with rise := true }, by decide +kernel⟩,
    ⟨0, up, by decide +kernel⟩,
    ⟨1000000000, { allow := 1, cand := 1, held := 0, since := 0, applied := true }, up.modFio fun f => { f with diag := some { allow := 1, cand := 1, held := 0, since := 0, applied := true } }, by decide +kernel⟩,
    ⟨7, [⟨3, true, 5, false, false⟩], up.modFio fun f => { f with changes := [⟨3, true, 5, false, false⟩] }, by decide +kernel⟩,
    ⟨0, ⟨3, 3, 1, false, 0, 0, 900000, true, true, none⟩, up.modFio fun f => { f with diag := some ⟨3, 3, 1, false, 0, 0, 900000, true, true, none⟩ }, by decide +kernel⟩,
    ⟨9000000000, ⟨3, 3, 1, false, 0, 0, 900000, true, false, none⟩, up.modFio fun f => { f with diag := some ⟨3, 3, 1, false, 0, 0, 900000, true, false, none⟩ }, by decide +kernel⟩,
    ⟨9000000000, 0, 1, ⟨3, 3, 1, false, 0, 0, 900000, true, false, some (0, 1)⟩, up.modFio fun f => { f with diag := some ⟨3, 3, 1, false, 0, 0, 900000, true, false, some (0, 1)⟩ }, by decide +kernel⟩⟩

/-- States that meet the hypotheses of `CaptureSamples`, one for each clause. -/
theorem test_hyp_CaptureSamples :
    (∃ (tm : Nat) (s : State), s.domainOn 13 = true ∧ s.cap.armed = true ∧ s.cap.cfg.mode = 0 ∧ s.frame.tick + 9500 ≤ max s.nt tm ∧ (s.cap.n = 0 ∨ s.cap.lastAt < s.frame.tick)) ∧
    (∃ (tm : Nat) (s : State), s.domainOn 13 = true ∧ s.cap.armed = true ∧ s.cap.cfg.mode = 0 ∧ s.cap.n ≠ 0 ∧ s.frame.tick ≤ s.cap.lastAt) ∧
    (∃ (tm : Nat) (s : State), s.domainOn 13 = true ∧ s.cap.armed = true ∧ s.cap.cfg.mode = 1 ∧ s.cap.armTick + 14000 + s.cap.n * s.cap.cfg.period ≤ max s.nt tm) ∧
    (∃ (tm : Nat) (s : State), s.domainOn 13 = false) ∧
    (∃ (tm : Nat) (s : State), s.domainOn 13 = true ∧ s.cap.armed = true ∧ 2 ≤ s.cap.cfg.mode) := by
  refine ⟨⟨1009500, up.modCap fun c => { c with state := .fill }, by decide +kernel⟩,
    ⟨1009500, up.modCap fun c => { c with state := .fill, n := 1, lastAt := 1000000 }, by decide +kernel⟩,
    ⟨1014000, up.modCap fun c => { c with state := .fill, cfg := { c.cfg with mode := 1 } }, by decide +kernel⟩,
    ⟨0, { up with pwr := { up.pwr with domains := 0 } }, by decide +kernel⟩,
    ⟨0, { up with cap := { up.cap with state := .fill, cfg := { up.cap.cfg with mode := 2 } } }, by decide +kernel⟩⟩

/-- States that meet the hypotheses of `PortsAndSwitch`, one for each clause. -/
theorem test_hyp_PortsAndSwitch :
    (∃ (port : Fin 4) (fcs : Bool) (bytes : List Byte) (tm : Nat) (s : State), (fcs = false ∨ (s.adv tm).drainPorts.portOk port.val = false ∨ 2000 < bytes.length + 4)) ∧
    (∃ (port : Fin 4) (bytes : List Byte) (tm : Nat) (rx : Rat) (u : State) (s : State), u = (s.adv tm).drainPorts ∧ u.portOk port.val = true ∧ bytes.length + 4 ≤ 2000 ∧ u.route port (ethHead bytes) = (false, true) ∧ rx = (tm : Rat) - (u.aonN (Pid.netPPhyRx port.val) : Rat) / 1000) ∧
    (∃ (port : Fin 4) (full : Bool) (tm : Nat) (s : State), s.domainOn (10 + netOf port.val) = true ∧ (s.net.ports[port]).link = false) ∧
    (∃ (port : Fin 4) (tm : Nat) (s : State), (s.net.ports[port]).link = true ∧ s.aonN (Pid.netPEnable port.val) = 1) ∧
    (∃ (port : Fin 4) (tm : Nat) (s : State), (s.net.ports[port]).link = false) ∧
    (∃ (port : Fin 4) (tm : Nat) (s : State), (s.net.ports[port]).link = true ∧ (s.net.ports[port]).configErr = false ∧ ((s.net.ports[port]).inband = 1 ∨ ((s.net.ports[port]).inband ≠ 0 ∧ (s.net.ports[port]).full = false))) ∧
    (∃ (port : Fin 4) (tm : Nat) (s : State), 100 < (within (secs 1) (max s.nt tm) (s.net.ports[port]).dropAt).length) ∧
    (∃ (port : Fin 4) (tm : Nat) (c : Nat) (u : State) (s : State), u = (s.adv tm).drainPorts ∧ u.aonN (Pid.netPGclCycle port.val) = c ∧ c ≠ 0 ∧ u.nt % c = 0) ∧
    (∃ (tm : Nat) (s : State), 10 < (within (secs 1) (max s.nt tm) s.net.tsqAt).length) ∧
    (∃ (port : Fin 4) (tm : Nat) (s : State), 10 < (within (secs 1) (max s.nt tm) (s.net.ports[port]).authAt).length) ∧
    (∃ (tm : Nat) (t0 : Nat) (s : State), s.frame.unalignedFrom = some t0 ∧ s.pwr.state = .operate ∧ s.aligned = false ∧ t0 + secs 1 ≤ max s.nt tm) ∧
    (∃ (tm : Nat) (s : State), s.pN Pid.cycDual = 1 ∧ (s.net.copies.any fun c => c.oneNet s.frame.fc && !c.raised) = true) ∧
    (∃ (port : Fin 4) (bytes : List Byte) (tm : Nat) (on : Bool) (host : Bool) (rx : Rat) (u : State) (s : State), u = (s.adv tm).drainPorts ∧ u.portOk port.val = true ∧ bytes.length + 4 ≤ 2000 ∧ u.route port (ethHead bytes) = (on, host) ∧ rx = (tm : Rat) - (u.aonN (Pid.netPPhyRx port.val) : Rat) / 1000) ∧
    (∃ (port : Fin 4) (speed : Fin 4) (full : Bool) (tm : Nat) (s : State), s.domainOn (10 + netOf port.val) = true ∧ (s.net.ports[port]).link = false ∧ 1 ≤ speed.val ∧ speed.val ≤ 2) ∧
    (∃ (port : Fin 4) (full : Bool) (tm : Nat) (s : State), s.domainOn (10 + netOf port.val) = true ∧ (s.net.ports[port]).link = false) := by
  refine ⟨⟨3, false, [], 0, wired up, by decide +kernel⟩,
    ⟨3, List.replicate 60 0, 1000000, ((1000000 : Nat) : Rat) - (((((wired up).adv 1000000).drainPorts).aonN (Pid.netPPhyRx 3) : Nat) : Rat) / 1000, ((wired up).adv 1000000).drainPorts, wired up, by exact ⟨rfl, by decide +kernel, by decide +kernel, by decide +kernel, rfl⟩⟩,
    ⟨3, true, 0, up, by decide +kernel⟩,
    ⟨3, 0, wired up, by decide +kernel⟩,
    ⟨3, 0, up, by decide +kernel⟩,
    ⟨3, 0, (wired up).modNetPort 3 fun p => { p with full := false }, by decide +kernel⟩,
    ⟨3, 1000000, (wired up).modNetPort 3 fun p => { p with dropAt := List.replicate 101 999999 }, by decide +kernel⟩,
    ⟨3, 0, 1000, ((par (Pid.netPGclCycle 3) 1000 (wired up)).adv 0).drainPorts, par (Pid.netPGclCycle 3) 1000 (wired up), by exact ⟨rfl, by decide +kernel, by decide +kernel, by decide +kernel⟩⟩,
    ⟨1000000, (wired up).modNet fun n => { n with tsqAt := List.replicate 11 999999 }, by decide +kernel⟩,
    ⟨3, 1000000, (wired up).modNetPort 3 fun p => { p with authAt := List.replicate 11 999999 }, by decide +kernel⟩,
    ⟨2000000000, 1000000, { up with frame := { up.frame with unalignedFrom := some 1000000 } }, by decide +kernel⟩,
    ⟨0, par Pid.cycDual 1 ({ up with frame := { up.frame with fc := 200 } }.modNet fun n => { n with copies := [{ src := 7, since := 0, lastA := some 200 }] }), by decide +kernel⟩,
    ⟨3, List.replicate 60 0, 1000000, false, true, ((1000000 : Nat) : Rat) - (((((wired up).adv 1000000).drainPorts).aonN (Pid.netPPhyRx 3) : Nat) : Rat) / 1000, ((wired up).adv 1000000).drainPorts, wired up, by exact ⟨rfl, by decide +kernel, by decide +kernel, by decide +kernel, rfl⟩⟩,
    ⟨3, 2, true, 0, up, by decide +kernel⟩,
    ⟨3, true, 0, up, by decide +kernel⟩⟩

/-- States that meet the hypotheses of `TimeUnits`, one for each clause. -/
theorem test_hyp_TimeUnits :
    (∃ (tm : Nat) (f : RxFrame) (b : List Byte) (u : State) (s : State), (s.adv tm).takeRx (isPtp 0) = some (f, u) ∧ b = (ethHead f.bytes).body ∧ ptpTwoStep b = true) ∧
    (∃ (tm : Nat) (f : RxFrame) (b : List Byte) (u : State) (s : State), (s.adv tm).takeRx (isPtp 0) = some (f, u) ∧ b = (ethHead f.bytes).body ∧ ptpTwoStep b = false ∧ u.slaveOn (fin 4 (by decide) f.port) b = true) ∧
    (∃ (tm : Nat) (f : RxFrame) (w : SyncWait) (b : List Byte) (u : State) (v : State) (s : State), (s.adv tm).drainPorts.takeRx (isPtp 8) = some (f, u) ∧ b = (ethHead f.bytes).body ∧ (u.net.units[fin 2 (by decide) (netOf f.port)]).wait = some w ∧ w.port = f.port ∧ w.seq = ptpSeq b ∧ v = (u.modUnit (fin 2 (by decide) (netOf f.port)) fun x => { x with wait := none }).passFollow (fin 4 (by decide) f.port) w f ∧ v.slaveOn (fin 4 (by decide) f.port) b = true) ∧
    (∃ (port : Fin 4) (t1 : Nat) (t2 : Nat) (t3 : Nat) (t4 : Nat) (tm : Nat) (s : State), s.portOk port.val = true) ∧
    (∃ (tm : Nat) (r : Nat) (n : Fin 2) (f : RxFrame) (b : List Byte) (u : State) (s : State), (s.adv tm).takeRx (isPtp 0xB) = some (f, u) ∧ b = (ethHead f.bytes).body ∧ n = fin 2 (by decide) (netOf f.port) ∧ u.fwRuns = true ∧ fld b 4 1 = u.pN Pid.ptpDomain ∧ r = Config.bmca (u.clockId n.val) (u.pN Pid.ptpPriority1) (decide (u.pN Pid.ptpRole = 1)) (f.port % 2) b ((u.net.units[n]).state == .master)) ∧
    (∃ (net : Fin 2) (tm : Nat) (s : State), (s.net.units[net]).state = .locked ∧ s.net.driver ≠ net.val ∧ (s.net.units[net]).lastSync + s.pN Pid.ptpSyncLoss * (s.net.units[net]).interval ≤ max s.nt tm) ∧
    (∃ (net : Fin 2) (tm : Nat) (s : State), (s.net.units[net]).state = .locked ∧ s.net.driver = net.val ∧ (s.net.units[net]).lastSync + s.pN Pid.ptpSyncLoss * (s.net.units[net]).interval ≤ max s.nt tm) ∧
    (∃ (tm : Nat) (t0 : Nat) (s : State), s.net.holdFrom = some t0 ∧ (s.net.units[fin 2 (by decide) s.net.driver]).state = .holdover ∧ t0 + secs (s.pN Pid.ptpHoldoverT) ≤ max s.nt tm) ∧
    (∃ (tm : Nat) (t0 : Nat) (u : State) (s : State), u = (s.adv tm).watchDiverge ∧ u.net.divergeFrom = some t0 ∧ t0 + secs 10 ≤ u.nt) ∧
    (∃ (net : Fin 2) (tm : Nat) (u : State) (s : State), u = (s.adv tm).drainPorts ∧ (u.net.units[net]).state = .master ∧ u.nt < (u.net.units[net]).masterAt) ∧
    (∃ (net : Fin 2) (tm : Nat) (u : State) (v : State) (s : State), u = (s.adv tm).drainPorts ∧ (u.net.units[net]).state = .master ∧ (u.net.units[net]).masterAt ≤ u.nt ∧ v = (u.modUnit net fun x => { x with masterAt := u.nt + (roundEven (logSecs (u.pI 8 Pid.ptpLogSync) * 1000000000)).toNat, syncSeq := (x.syncSeq + 1) % 65536 })) := by
  refine ⟨⟨0, frm [0x88, 0xF7] (ptpMsg 0 2 9), ptpMsg 0 2 9, empty ((atHost (frm [0x88, 0xF7] (ptpMsg 0 2 9)) up).adv 0), atHost (frm [0x88, 0xF7] (ptpMsg 0 2 9)) up, by exact ⟨takeRx_one _ _ _ rfl (by decide +kernel), rfl, by decide +kernel⟩⟩,
    ⟨0, frm [0x88, 0xF7] (ptpMsg 0 0 9), ptpMsg 0 0 9, empty ((atHost (frm [0x88, 0xF7] (ptpMsg 0 0 9)) (up.modUnit 0 fun x => { x with slave := some 0 })).adv 0), atHost (frm [0x88, 0xF7] (ptpMsg 0 0 9)) (up.modUnit 0 fun x => { x with slave := some 0 }), by exact ⟨takeRx_one _ _ _ rfl (by decide +kernel), rfl, by decide +kernel, by decide +kernel⟩⟩,
    ⟨0, frm [0x88, 0xF7] (ptpMsg 8 0 9), { port := 0, seq := 9, tRx := 999000, corr := 0, log := 0 }, ptpMsg 8 0 9, empty (((atHost (frm [0x88, 0xF7] (ptpMsg 8 0 9)) (up.modUnit 0 fun x => { x with slave := some 0, wait := some { port := 0, seq := 9, tRx := 999000, corr := 0, log := 0 } })).adv 0).drainPorts), State.passFollow ((empty (((atHost (frm [0x88, 0xF7] (ptpMsg 8 0 9)) (up.modUnit 0 fun x => { x with slave := some 0, wait := some { port := 0, seq := 9, tRx := 999000, corr := 0, log := 0 } })).adv 0).drainPorts)).modUnit 0 fun x => { x with wait := none }) 0 { port := 0, seq := 9, tRx := 999000, corr := 0, log := 0 } (frm [0x88, 0xF7] (ptpMsg 8 0 9)), atHost (frm [0x88, 0xF7] (ptpMsg 8 0 9)) (up.modUnit 0 fun x => { x with slave := some 0, wait := some { port := 0, seq := 9, tRx := 999000, corr := 0, log := 0 } }), by exact ⟨takeRx_one _ _ _ rfl (by decide +kernel), rfl, by decide +kernel, rfl, by decide +kernel, rfl, by decide +kernel⟩⟩,
    ⟨3, 1000, 2000, 2500, 4000, 0, wired up, by decide +kernel⟩,
    ⟨0, _, 0, frm [0x88, 0xF7] (ptpMsg 0xB 0 9), ptpMsg 0xB 0 9, empty ((atHost (frm [0x88, 0xF7] (ptpMsg 0xB 0 9)) up).adv 0), atHost (frm [0x88, 0xF7] (ptpMsg 0xB 0 9)) up, by exact ⟨takeRx_one _ _ _ rfl (by decide +kernel), rfl, rfl, by decide +kernel, by decide +kernel, rfl⟩⟩,
    ⟨1, 2000000000, up.modUnit 1 fun u => { u with state := .locked }, by decide +kernel⟩,
    ⟨0, 2000000000, up.modUnit 0 fun u => { u with state := .locked }, by decide +kernel⟩,
    ⟨100000000000, 0, (up.modUnit 0 fun u => { u with state := .holdover }).modNet fun n => { n with holdFrom := some 0 }, by decide +kernel⟩,
    ⟨20000000000, 0, (((up.modUnit 0 fun u => { u with state := .locked, offset := 2000 }).modUnit 1 fun u => { u with state := .locked }).modNet fun n => { n with divergeFrom := some 0 }).adv 20000000000 |>.watchDiverge, ((up.modUnit 0 fun u => { u with state := .locked, offset := 2000 }).modUnit 1 fun u => { u with state := .locked }).modNet fun n => { n with divergeFrom := some 0 }, by exact ⟨rfl, by decide +kernel, by decide +kernel⟩⟩,
    ⟨1, 0, ((up.modUnit 1 fun u => { u with state := .master, masterAt := 2000000 }).adv 0).drainPorts, up.modUnit 1 fun u => { u with state := .master, masterAt := 2000000 }, by exact ⟨rfl, by decide +kernel, by decide +kernel⟩⟩,
    ⟨1, 0, (((wired up).modUnit 1 fun u => { u with state := .master }).adv 0).drainPorts, (((((wired up).modUnit 1 fun u => { u with state := .master }).adv 0).drainPorts).modUnit 1 fun x => { x with masterAt := ((((wired up).modUnit 1 fun u => { u with state := .master }).adv 0).drainPorts).nt + (roundEven (logSecs (((((wired up).modUnit 1 fun u => { u with state := .master }).adv 0).drainPorts).pI 8 Pid.ptpLogSync) * 1000000000)).toNat, syncSeq := (x.syncSeq + 1) % 65536 }), (wired up).modUnit 1 fun u => { u with state := .master }, by exact ⟨rfl, by decide +kernel, by decide +kernel, rfl⟩⟩⟩

/-- States that meet the hypotheses of `CyclicFrames`, one for each clause. -/
theorem test_hyp_CyclicFrames :
    (∃ (tm : Nat) (n : Nat) (c : Crepra) (u : State) (s : State), (s.adv tm).takeCrepra 1 = (some c, u) ∧ fld c.payload 4 1 = n ∧ 1 ≤ n ∧ n ≤ 64 ∧ c.payload.length = 8 + 24 * n ∧ u.isLate (fld c.payload 0 4) = false) ∧
    (∃ (tm : Nat) (n : Nat) (c : Crepra) (u : State) (v : State) (s : State), (s.adv tm).takeCrepra 1 = (some c, u) ∧ fld c.payload 4 1 = n ∧ 1 ≤ n ∧ n ≤ 64 ∧ c.payload.length = 8 + 24 * n ∧ u.isLate (fld c.payload 0 4) = true ∧ v = (u.modNet fun k => { k with late := count32 k.late })) ∧
    (∃ (tm : Nat) (n : Nat) (c : Crepra) (u : State) (s : State), (s.adv tm).takeCrepra 3 = (some c, u) ∧ fld c.payload 4 1 = n ∧ c.payload.length = 8 + 20 * n) ∧
    (∃ (tm : Nat) (c : Crepra) (u : State) (s : State), (s.adv tm).takeCrepra 3 = (some c, u) ∧ c.payload.length ≠ 8 + 20 * fld c.payload 4 1) ∧
    (∃ (tm : Nat) (d : Nat) (u : State) (s : State), u = s.adv tm ∧ s.pN Pid.cycStatDiv = d ∧ d ≠ 0 ∧ s.fc % d = 0 ∧ u.sendDue s.net.statFc = true ∧ s.statusAxes.length ≤ 64) ∧
    (∃ (tm : Nat) (s : State), s.pN Pid.cycStatDiv = 0) ∧
    (∃ (tm : Nat) (l : List Nat) (u : State) (s : State), u = ((s.adv tm).modNet fun n => { n with chanFc := some s.fc }) ∧ (s.adv tm).sendDue s.net.chanFc = true ∧ l ≠ [] ∧ ((List.range 16).filter fun c => s.pN (Pid.cycPubC c) / 2 ^ 24 != 0) = l) ∧
    (∃ (tm : Nat) (f : RxFrame) (c : Crepra) (u : State) (s : State), (s.adv tm).takeRx ((s.adv tm).isCrepra 6) = some (f, u) ∧ c = crepraOf (ethHead f.bytes).body ∧ c.ver = 1 ∧ c.key = 0xFF ∧ c.payload.length = 2) ∧
    (∃ (tm : Nat) (f : RxFrame) (c : Crepra) (u : State) (s : State), (s.adv tm).takeRx ((s.adv tm).isCrepra 6) = some (f, u) ∧ c = crepraOf (ethHead f.bytes).body ∧ c.key ≠ 0xFF) ∧
    (∃ (tm : Nat) (d : Nat) (dst : Nat) (u : State) (s : State), u = State.modNet (s.adv tm) (fun n => { n with statFc := some s.fc }) ∧ s.pN Pid.cycStatDiv = d ∧ d ≠ 0 ∧ s.fc % d = 0 ∧ (s.adv tm).sendDue s.net.statFc = true ∧ 64 < s.statusAxes.length ∧ s.pN Pid.cycStatDst = dst) := by
  refine ⟨⟨0, 1, crepraIn (crepraRx 1 0xFFFF 20 (leBytes 4 21 ++ [1, 0, 0, 0] ++ List.replicate 24 0)), accepted 1 (leBytes 4 21 ++ [1, 0, 0, 0] ++ List.replicate 24 0) 0 (up), sent 1 (leBytes 4 21 ++ [1, 0, 0, 0] ++ List.replicate 24 0) (up), by exact ⟨crepra_taken _ _ _ _ _ [1] rfl (by decide +kernel) rfl rfl (crepra_tag [1] (crepraBody 1 0xFFFF 20 (leBytes 4 21 ++ [1, 0, 0, 0] ++ List.replicate 24 0))) rfl rfl, by decide +kernel, by decide +kernel, by decide +kernel, by decide +kernel, by decide +kernel⟩⟩,
    ⟨0, 1, crepraIn (crepraRx 1 0xFFFF 20 (leBytes 4 0 ++ [1, 0, 0, 0] ++ List.replicate 24 0)), accepted 1 (leBytes 4 0 ++ [1, 0, 0, 0] ++ List.replicate 24 0) 0 (up), (accepted 1 (leBytes 4 0 ++ [1, 0, 0, 0] ++ List.replicate 24 0) 0 up).modNet fun k => { k with late := count32 k.late }, sent 1 (leBytes 4 0 ++ [1, 0, 0, 0] ++ List.replicate 24 0) (up), by exact ⟨crepra_taken _ _ _ _ _ [1] rfl (by decide +kernel) rfl rfl (crepra_tag [1] (crepraBody 1 0xFFFF 20 (leBytes 4 0 ++ [1, 0, 0, 0] ++ List.replicate 24 0))) rfl rfl, by decide +kernel, by decide +kernel, by decide +kernel, by decide +kernel, by decide +kernel, rfl⟩⟩,
    ⟨0, 2, crepraIn (crepraRx 3 0xFFFF 20 (leBytes 4 21 ++ [2, 0, 0, 0] ++ List.replicate 40 0)), accepted 3 (leBytes 4 21 ++ [2, 0, 0, 0] ++ List.replicate 40 0) 0 (up), sent 3 (leBytes 4 21 ++ [2, 0, 0, 0] ++ List.replicate 40 0) (up), by exact ⟨crepra_taken _ _ _ _ _ [1] rfl (by decide +kernel) rfl rfl (crepra_tag [1] (crepraBody 3 0xFFFF 20 (leBytes 4 21 ++ [2, 0, 0, 0] ++ List.replicate 40 0))) rfl rfl, by decide +kernel, by decide +kernel⟩⟩,
    ⟨0, crepraIn (crepraRx 3 0xFFFF 20 (leBytes 4 21 ++ [2, 0, 0, 0] ++ List.replicate 39 0)), accepted 3 (leBytes 4 21 ++ [2, 0, 0, 0] ++ List.replicate 39 0) 0 (up), sent 3 (leBytes 4 21 ++ [2, 0, 0, 0] ++ List.replicate 39 0) (up), by exact ⟨crepra_taken _ _ _ _ _ [1] rfl (by decide +kernel) rfl rfl (crepra_tag [1] (crepraBody 3 0xFFFF 20 (leBytes 4 21 ++ [2, 0, 0, 0] ++ List.replicate 39 0))) rfl rfl, by decide +kernel⟩⟩,
    ⟨1011000, 1, (par Pid.cycStatDiv 1 up).adv 1011000, par Pid.cycStatDiv 1 up, by exact ⟨rfl, by decide +kernel, by decide +kernel, by decide +kernel, by decide +kernel, by decide +kernel⟩⟩,
    ⟨0, up, by decide +kernel⟩,
    ⟨1011000, [15], ((par (Pid.cycPubC 15) 0x02000000 up).adv 1011000).modNet fun n => { n with chanFc := some (par (Pid.cycPubC 15) 0x02000000 up).fc }, par (Pid.cycPubC 15) 0x02000000 up, by exact ⟨rfl, by decide +kernel, by decide +kernel, by decide +kernel⟩⟩,
    ⟨0, frm [0x88, 0xB5] ([1, 6, 0, 0xFF, 7, 0, 0xFF, 0xFF] ++ List.replicate 8 0 ++ [2, 0, 0, 0, 5, 6] ++ List.replicate 8 0), crepraIn (frm [0x88, 0xB5] ([1, 6, 0, 0xFF, 7, 0, 0xFF, 0xFF] ++ List.replicate 8 0 ++ [2, 0, 0, 0, 5, 6] ++ List.replicate 8 0)), empty ((atHost (frm [0x88, 0xB5] ([1, 6, 0, 0xFF, 7, 0, 0xFF, 0xFF] ++ List.replicate 8 0 ++ [2, 0, 0, 0, 5, 6] ++ List.replicate 8 0)) up).adv 0), atHost (frm [0x88, 0xB5] ([1, 6, 0, 0xFF, 7, 0, 0xFF, 0xFF] ++ List.replicate 8 0 ++ [2, 0, 0, 0, 5, 6] ++ List.replicate 8 0)) up, by exact ⟨takeRx_one _ _ _ rfl (by decide +kernel), rfl, by decide +kernel, by decide +kernel, by decide +kernel⟩⟩,
    ⟨0, frm [0x88, 0xB5] ([1, 6, 0, 0xFE, 7, 0, 0xFF, 0xFF] ++ List.replicate 8 0 ++ [2, 0, 0, 0, 5, 6] ++ List.replicate 8 0), crepraIn (frm [0x88, 0xB5] ([1, 6, 0, 0xFE, 7, 0, 0xFF, 0xFF] ++ List.replicate 8 0 ++ [2, 0, 0, 0, 5, 6] ++ List.replicate 8 0)), empty ((atHost (frm [0x88, 0xB5] ([1, 6, 0, 0xFE, 7, 0, 0xFF, 0xFF] ++ List.replicate 8 0 ++ [2, 0, 0, 0, 5, 6] ++ List.replicate 8 0)) up).adv 0), atHost (frm [0x88, 0xB5] ([1, 6, 0, 0xFE, 7, 0, 0xFF, 0xFF] ++ List.replicate 8 0 ++ [2, 0, 0, 0, 5, 6] ++ List.replicate 8 0)) up, by exact ⟨takeRx_one _ _ _ rfl (by decide +kernel), rfl, by decide +kernel⟩⟩,
    ⟨1011000, 1, (par Pid.cycStatMaskHi (2 ^ 64 - 1) (par Pid.cycStatMaskLo 1 (par Pid.cycStatDiv 1 up))).pN Pid.cycStatDst, (par Pid.cycStatMaskHi (2 ^ 64 - 1) (par Pid.cycStatMaskLo 1 (par Pid.cycStatDiv 1 up))).adv 1011000 |>.modNet (fun n => { n with statFc := some (par Pid.cycStatMaskHi (2 ^ 64 - 1) (par Pid.cycStatMaskLo 1 (par Pid.cycStatDiv 1 up))).fc }), par Pid.cycStatMaskHi (2 ^ 64 - 1) (par Pid.cycStatMaskLo 1 (par Pid.cycStatDiv 1 up)), by exact ⟨rfl, by decide +kernel, by decide +kernel, by decide +kernel, by decide +kernel, by decide +kernel, by decide +kernel⟩⟩⟩

/-- States that meet the hypotheses of `Datagrams`, one for each clause. -/
theorem test_hyp_Datagrams :
    (∃ (tm : Nat) (n : Nat) (f : RxFrame) (h : EthHead) (u : State) (s : State), (s.adv tm).takeIp (s.adv tm).isArp = some (f, u) ∧ h = ethHead f.bytes ∧ n = netOf f.port) ∧
    (∃ (tm : Nat) (s : State), (s.adv tm).takeIp (s.adv tm).isArp = none) ∧
    (∃ (tm : Nat) (n : Nat) (f : RxFrame) (h : EthHead) (u : State) (s : State) (icmp : List Byte) (ip : List Byte), (s.adv tm).takeIp (s.adv tm).isEcho = some (f, u) ∧ h = ethHead f.bytes ∧ n = netOf f.port ∧ icmp = leBytes 4 0 ++ (ip4Of h.body).data.drop 4 ∧ ip = beBytes 2 0x4500 ++ beBytes 2 (20 + icmp.length) ++ beBytes 4 0 ++ beBytes 2 0x4001 ++ beBytes 2 0 ++ beBytes 4 (u.ipAddr n) ++ beBytes 4 (ip4Of h.body).src ∧ (patchAt icmp 2 (beBytes 2 (inetSum icmp))).length = icmp.length) ∧
    (∃ (tm : Nat) (f : RxFrame) (d : Dgram) (m : Fin 16) (u : State) (s : State), (s.adv tm).takeIp ((s.adv tm).isDgram 0) = some (f, u) ∧ d = dgramOf f ∧ u.fwRuns = true ∧ fld d.bytes 2 1 = 0xFF ∧ fld d.bytes 4 4 = 0 ∧ u.clearRuns d (fld (d.bytes.drop 16) 0 2) = false ∧ (allMbx.find? fun m => u.netOnly m && (u.mbx[m]).owner == .free) = some m) ∧
    (∃ (tm : Nat) (f : RxFrame) (u : State) (s : State), (s.adv tm).takeIp ((s.adv tm).isDgram 0) = some (f, u) ∧ u.fwRuns = true ∧ fld (dgramOf f).bytes 2 1 = 0xFF ∧ fld (dgramOf f).bytes 4 4 = 0 ∧ u.clearRuns (dgramOf f) (fld ((dgramOf f).bytes.drop 16) 0 2) = false ∧ ((∀ m : Fin 16, u.netOnly m = false ∨ (u.mbx[m]).owner ≠ .free))) ∧
    (∃ (tm : Nat) (f : RxFrame) (u : State) (s : State), (s.adv tm).takeIp ((s.adv tm).isDgram 1) = some (f, u) ∧ u.fwRuns = true ∧ u.openDgram (dgramOf f) = none) ∧
    (∃ (tm : Nat) (f : RxFrame) (d : Dgram) (x : Session) (u : State) (v : State) (s : State), (s.adv tm).takeIp ((s.adv tm).isDgram 1) = some (f, u) ∧ d = dgramOf f ∧ u.fwRuns = true ∧ u.session (fld d.bytes 4 4) = some x ∧ x.owner = .net ∧ x.mbx = fld d.bytes 2 1 ∧ x.fresh (fld d.bytes 8 8) = true ∧ v = (u.modSession x.id fun y => { y.accept (fld d.bytes 8 8) with net := d.net, peerMac := d.mac, peerIp := d.ip, peerPort := d.port }) ∧ (v.mbx[fin 16 (by decide) x.mbx]).state = .idle) ∧
    (∃ (sid : Nat) (tm : Nat) (x : Session) (s : State), s.session sid = some x ∧ x.owner = .net ∧ x.proved = true ∧ 30 ≤ x.evts.length) ∧
    (∃ (sid : Nat) (tm : Nat) (x : Session) (s : State), s.session sid = some x ∧ x.evts = []) ∧
    (∃ (sid : Nat) (tm : Nat) (x : Session) (s : State), s.session sid = some x ∧ x.owner = .net ∧ x.proved = true ∧ x.evts ≠ [] ∧ x.evtFrom + ms (s.pN Pid.netEvtPeriod) ≤ max s.nt tm) := by
  refine ⟨⟨0, 0, frm [8, 6] ([0, 1, 8, 0, 6, 4, 0, 1] ++ List.replicate 16 9 ++ [0, 0, 0, 1]), ethHead (frm [8, 6] ([0, 1, 8, 0, 6, 4, 0, 1] ++ List.replicate 16 9 ++ [0, 0, 0, 1])).bytes, empty (((atHost (frm [8, 6] ([0, 1, 8, 0, 6, 4, 0, 1] ++ List.replicate 16 9 ++ [0, 0, 0, 1])) (homed (wired up))).adv 0).dropIp), atHost (frm [8, 6] ([0, 1, 8, 0, 6, 4, 0, 1] ++ List.replicate 16 9 ++ [0, 0, 0, 1])) (homed (wired up)), by exact ⟨takeRx_one _ _ _ (by decide +kernel) (by decide +kernel), rfl, by decide +kernel⟩⟩,
    ⟨0, homed up, by decide +kernel⟩,
    ⟨0, 0, frm [8, 0] (ipPkt 1 ([8, 0, 0, 0] ++ List.replicate 8 5)), ethHead (frm [8, 0] (ipPkt 1 ([8, 0, 0, 0] ++ List.replicate 8 5))).bytes, empty (((atHost (frm [8, 0] (ipPkt 1 ([8, 0, 0, 0] ++ List.replicate 8 5))) (homed (wired up))).adv 0).dropIp), atHost (frm [8, 0] (ipPkt 1 ([8, 0, 0, 0] ++ List.replicate 8 5))) (homed (wired up)), leBytes 4 0 ++ (ip4Of (ethHead (frm [8, 0] (ipPkt 1 ([8, 0, 0, 0] ++ List.replicate 8 5))).bytes).body).data.drop 4, beBytes 2 0x4500 ++ beBytes 2 (20 + (leBytes 4 0 ++ (ip4Of (ethHead (frm [8, 0] (ipPkt 1 ([8, 0, 0, 0] ++ List.replicate 8 5))).bytes).body).data.drop 4).length) ++ beBytes 4 0 ++ beBytes 2 0x4001 ++ beBytes 2 0 ++ beBytes 4 ((empty (((atHost (frm [8, 0] (ipPkt 1 ([8, 0, 0, 0] ++ List.replicate 8 5))) (homed (wired up))).adv 0).dropIp)).ipAddr 0) ++ beBytes 4 (ip4Of (ethHead (frm [8, 0] (ipPkt 1 ([8, 0, 0, 0] ++ List.replicate 8 5))).bytes).body).src, by exact ⟨takeRx_one _ _ _ (by decide +kernel) (by decide +kernel), rfl, by decide +kernel, rfl, rfl, by decide +kernel⟩⟩,
    ⟨0, frm [8, 0] (udpPkt (mbxDgram 0 0xFF 0 0)), dgramOf (frm [8, 0] (udpPkt (mbxDgram 0 0xFF 0 0))), 12, empty (((atHost (frm [8, 0] (udpPkt (mbxDgram 0 0xFF 0 0))) (homed (up))).adv 0).dropIp), atHost (frm [8, 0] (udpPkt (mbxDgram 0 0xFF 0 0))) (homed (up)), by exact ⟨takeRx_one _ _ _ (by decide +kernel) (by decide +kernel), rfl, by decide +kernel, by decide +kernel, by decide +kernel, by decide +kernel, by decide +kernel⟩⟩,
    ⟨0, frm [8, 0] (udpPkt (mbxDgram 0 0xFF 0 0)), empty (((atHost (frm [8, 0] (udpPkt (mbxDgram 0 0xFF 0 0))) (homed ({ up with mbx := up.mbx.map fun b => { b with owner := .pcie } }))).adv 0).dropIp), atHost (frm [8, 0] (udpPkt (mbxDgram 0 0xFF 0 0))) (homed ({ up with mbx := up.mbx.map fun b => { b with owner := .pcie } })), by exact ⟨takeRx_one _ _ _ (by decide +kernel) (by decide +kernel), by decide +kernel, by decide +kernel, by decide +kernel, by decide +kernel, by decide +kernel⟩⟩,
    ⟨0, frm [8, 0] (udpPkt (mbxDgram 1 3 2 1)), empty (((atHost (frm [8, 0] (udpPkt (mbxDgram 1 3 2 1))) (homed (up))).adv 0).dropIp), atHost (frm [8, 0] (udpPkt (mbxDgram 1 3 2 1))) (homed (up)), by exact ⟨takeRx_one _ _ _ (by decide +kernel) (by decide +kernel), by decide +kernel, by decide +kernel⟩⟩,
    ⟨0, frm [8, 0] (udpPkt (mbxDgram 1 3 2 1)), dgramOf (frm [8, 0] (udpPkt (mbxDgram 1 3 2 1))), { id := 2, mbx := 3, owner := .net, rxTop := 65, keys := List.replicate 64 1 }, empty (((atHost (frm [8, 0] (udpPkt (mbxDgram 1 3 2 1))) (homed (up.modSec fun k => { k with sessions := [{ id := 2, mbx := 3, owner := .net, rxTop := 65, keys := List.replicate 64 1 }] }))).adv 0).dropIp), (empty (((atHost (frm [8, 0] (udpPkt (mbxDgram 1 3 2 1))) (homed (up.modSec fun k => { k with sessions := [{ id := 2, mbx := 3, owner := .net, rxTop := 65, keys := List.replicate 64 1 }] }))).adv 0).dropIp)).modSession 2 fun y => { y.accept (fld (dgramOf (frm [8, 0] (udpPkt (mbxDgram 1 3 2 1)))).bytes 8 8) with net := (dgramOf (frm [8, 0] (udpPkt (mbxDgram 1 3 2 1)))).net, peerMac := (dgramOf (frm [8, 0] (udpPkt (mbxDgram 1 3 2 1)))).mac, peerIp := (dgramOf (frm [8, 0] (udpPkt (mbxDgram 1 3 2 1)))).ip, peerPort := (dgramOf (frm [8, 0] (udpPkt (mbxDgram 1 3 2 1)))).port }, atHost (frm [8, 0] (udpPkt (mbxDgram 1 3 2 1))) (homed (up.modSec fun k => { k with sessions := [{ id := 2, mbx := 3, owner := .net, rxTop := 65, keys := List.replicate 64 1 }] })), by exact ⟨takeRx_one _ _ _ (by decide +kernel) (by decide +kernel), rfl, by decide +kernel, by decide +kernel, by decide +kernel, by decide +kernel, by decide +kernel, rfl, by decide +kernel⟩⟩,
    ⟨2, 0, { id := 2, mbx := 3, owner := .net, proved := true, keys := List.replicate 64 1, evts := List.replicate 31 {} }, up.modSec fun k => { k with sessions := [{ id := 2, mbx := 3, owner := .net, proved := true, keys := List.replicate 64 1, evts := List.replicate 31 {} }] }, by decide +kernel⟩,
    ⟨2, 0, { id := 2, mbx := 3, owner := .net, proved := true }, up.modSec fun k => { k with sessions := [{ id := 2, mbx := 3, owner := .net, proved := true }] }, by decide +kernel⟩,
    ⟨2, 10000000000, { id := 2, mbx := 3, owner := .net, proved := true, keys := List.replicate 64 1, evts := [{}] }, up.modSec fun k => { k with sessions := [{ id := 2, mbx := 3, owner := .net, proved := true, keys := List.replicate 64 1, evts := [{}] }] }, by decide +kernel⟩⟩

/-- States that meet the hypotheses of `TwinTransfer`, one for each clause. -/
theorem test_hyp_TwinTransfer :
    (∃ (tm : Nat) (s : State), (s.adv tm).snapDue = true ∧ s.twin.state ≠ .active) ∧
    (∃ (tm : Nat) (b : List Byte) (u : State) (s : State), (s.adv tm).snapDue = true ∧ s.twin.state = .active ∧ s.paired = true ∧ s.twin.split = false ∧ ((s.adv tm).modTwin fun k => { k with snapTick := some s.frame.tick }).buildImage = (b, u) ∧ u.twin.split = false) ∧
    (∃ (k : Fin 2) (fc : Nat) (tm : Nat) (bytes : List Byte) (s : State), s.domainOn 15 = true ∧ s.twin.state ≠ .solo) ∧
    (∃ (tm : Nat) (b : List Byte) (any : Bool) (u : State) (s : State), s.domainOn 15 = true ∧ s.frame.ticking = true ∧ s.receives = true ∧ s.frame.tick + 1500 ≤ max s.nt tm ∧ s.twin.comTick ≠ some s.frame.tick ∧ u = ((s.adv tm).modTwin fun k => { k with comTick := some s.frame.tick }) ∧ u.arrived = (some b, any) ∧ s.twin.split = false ∧ u.imageOk b = true ∧ s.twin.state ≠ .active) ∧
    (∃ (tm : Nat) (any : Bool) (u : State) (s : State), s.domainOn 15 = true ∧ s.frame.ticking = true ∧ s.receives = true ∧ s.frame.tick + 1500 ≤ max s.nt tm ∧ s.twin.comTick ≠ some s.frame.tick ∧ u = ((s.adv tm).modTwin fun k => { k with comTick := some s.frame.tick }) ∧ u.arrived = (none, any) ∧ s.twin.split = false) ∧
    (∃ (k : Fin 2) (pair : Bool) (bytes : List Byte) (tm : Nat) (s : State), s.domainOn 15 = true ∧ s.twin.state = .standby ∧ bytes.length = 32) ∧
    (∃ (k : Fin 2) (pair : Bool) (bytes : List Byte) (tm : Nat) (s : State), bytes.length ≠ 32) ∧
    (∃ (tm : Nat) (b : List Byte) (any : Bool) (u : State) (s : State), s.domainOn 15 = true ∧ s.frame.ticking = true ∧ s.receives = true ∧ s.frame.tick + 1500 ≤ max s.nt tm ∧ s.twin.comTick ≠ some s.frame.tick ∧ u = ((s.adv tm).modTwin fun k => { k with comTick := some s.frame.tick }) ∧ u.arrived = (some b, any) ∧ s.twin.split = false ∧ u.imageOk b = false) ∧
    (∃ (tm : Nat) (s : State), (s.domainOn 15 = false ∨ s.frame.ticking = false ∨ s.receives = false ∨ max s.nt tm < s.frame.tick + 1500 ∨ s.twin.comTick = some s.frame.tick)) := by
  refine ⟨⟨1009500, twin .standby up, by decide +kernel⟩,
    ⟨1009500, (((((twin .active up).modTwin fun k => { k with partner := 2 }).adv 1009500).modTwin fun k => { k with snapTick := some 1000000 })).buildImage.1, (((((twin .active up).modTwin fun k => { k with partner := 2 }).adv 1009500).modTwin fun k => { k with snapTick := some 1000000 })).buildImage.2, (twin .active up).modTwin fun k => { k with partner := 2 }, by exact ⟨by decide +kernel, by decide +kernel, by decide +kernel, by decide +kernel, Prod.mk.eta.symm, by decide +kernel⟩⟩,
    ⟨1, 65535, 0, [1, 2], twin .standby up, by decide +kernel⟩,
    ⟨1001500, bareImage 19 824647964, true, (((twin .standby up).modTwin fun k => { k with half := Vector.replicate 2 (some (19, linkWords 0 (bareImage 19 824647964))) |>.set 1 (some (19, linkWords 1 (bareImage 19 824647964))) }).adv 1001500).modTwin fun k => { k with comTick := some 1000000 }, (twin .standby up).modTwin fun k => { k with half := Vector.replicate 2 (some (19, linkWords 0 (bareImage 19 824647964))) |>.set 1 (some (19, linkWords 1 (bareImage 19 824647964))) }, by exact ⟨by decide +kernel, by decide +kernel, by decide +kernel, by decide +kernel, by decide +kernel, rfl, by decide +kernel, by decide +kernel, by decide +kernel, by decide +kernel⟩⟩,
    ⟨1001500, false, ((twin .standby up).adv 1001500).modTwin fun k => { k with comTick := some 1000000 }, twin .standby up, by exact ⟨by decide +kernel, by decide +kernel, by decide +kernel, by decide +kernel, by decide +kernel, rfl, by decide +kernel, by decide +kernel⟩⟩,
    ⟨1, true, [2, 0, 0, 0, 19, 0, 0, 0] ++ List.replicate 24 255, 0, twin .standby up, by decide +kernel⟩,
    ⟨1, true, [2], 0, twin .standby up, by decide +kernel⟩,
    ⟨1001500, (((((twin .standby up).modTwin fun k => { k with half := Vector.replicate 2 (some (19, linkWords 0 (List.replicate 64 0))) }).adv 1001500).arrived).1.getD []), ((((twin .standby up).modTwin fun k => { k with half := Vector.replicate 2 (some (19, linkWords 0 (List.replicate 64 0))) }).adv 1001500).arrived).2, (((twin .standby up).modTwin fun k => { k with half := Vector.replicate 2 (some (19, linkWords 0 (List.replicate 64 0))) }).adv 1001500).modTwin fun k => { k with comTick := some 1000000 }, (twin .standby up).modTwin fun k => { k with half := Vector.replicate 2 (some (19, linkWords 0 (List.replicate 64 0))) }, by exact ⟨by decide +kernel, by decide +kernel, by decide +kernel, by decide +kernel, by decide +kernel, rfl, by decide +kernel, by decide +kernel, by decide +kernel⟩⟩,
    ⟨1001499, twin .standby up, by decide +kernel⟩⟩

/-- States that meet the hypotheses of `TwinStateEvents`, one for each clause. -/
theorem test_hyp_TwinStateEvents :
    (∃ (tm : Nat) (s : State), s.twin.state = .active ∧ 8 ≤ s.twin.retMiss ∧ s.faultOn 0xB002 0 = false) ∧
    (∃ (tm : Nat) (s : State), s.twin.state ≠ .solo ∧ s.twin.split = false ∧ 4 ≤ s.twin.dry[0] ∧ s.twin.dry[1] < 4) ∧
    (∃ (tm : Nat) (s : State), s.twin.state ≠ .solo ∧ s.twin.split = false ∧ 4 ≤ s.twin.dry[1] ∧ s.twin.dry[0] < 4) ∧
    (∃ (tm : Nat) (s : State), s.twin.split = true ∧ 16 ≤ s.twin.splitGood) ∧
    (∃ (tm : Nat) (s : State), s.twin.state = .standby ∧ s.frame.ticking = true ∧ s.frame.tick + 1500 ≤ max s.nt tm ∧ s.upLinks ≠ [] ∧ s.twin.resigned = true) ∧
    (∃ (tm : Nat) (s : State), s.twin.state = .standby ∧ s.upLinks = []) ∧
    (∃ (tm : Nat) (t0 : Nat) (s : State), s.twin.state = .syncing ∧ s.pwr.strapPos = 0 ∧ s.twin.startFrom = some t0 ∧ t0 + ms (s.pN Pid.twinStartWait) ≤ max s.nt tm) ∧
    (∃ (tm : Nat) (t0 : Nat) (s : State), s.twin.state = .syncing ∧ s.pwr.strapPos = 1 ∧ s.twin.startFrom = some t0 ∧ t0 + ms (s.pN Pid.twinStartWait) ≤ max s.nt tm ∧ s.faultOn 0xB009 0 = false) ∧
    (∃ (tm : Nat) (s : State), s.twin.state = .syncing ∧ s.twin.bulkDone = true ∧ 32 ≤ s.twin.commitRun ∧ s.twin.pairOk = true) ∧
    (∃ (tm : Nat) (s : State), s.twin.state = .standby ∧ s.pN Pid.twinStaleMax ≤ s.twin.noCommit) ∧
    (∃ (tm : Nat) (s : State), s.twin.state = .standby ∧ 4 ≤ s.twin.splitLease ∧ s.faultOn 0xB004 0 = false) ∧
    (∃ (tm : Nat) (s : State), s.twin.state = .standby ∧ 4 ≤ s.twin.trkDiff ∧ s.faultOn 0xB008 0 = false) ∧
    (∃ (tm : Nat) (s : State), s.twin.state = .standby ∧ s.frame.ticking = true ∧ s.frame.tick + 1500 ≤ max s.nt tm ∧ s.upLinks ≠ [] ∧ s.twin.resigned = false ∧ (s.upLinks.all (s.adv tm).leaseGone) = true) := by
  refine ⟨⟨0, (twin .active up).modTwin fun k => { k with retMiss := 8 }, by decide +kernel⟩,
    ⟨0, (twin .active up).modTwin fun k => { k with dry := Vector.replicate 2 4 |>.set 1 3 }, by decide +kernel⟩,
    ⟨0, (twin .active up).modTwin fun k => { k with dry := Vector.replicate 2 4 |>.set 0 3 }, by decide +kernel⟩,
    ⟨0, (twin .active up).modTwin fun k => { k with split := true, splitGood := 16 }, by decide +kernel⟩,
    ⟨1001500, lnk id ((twin .standby up).modTwin fun k => { k with resigned := true }), by decide +kernel⟩,
    ⟨0, twin .standby up, by decide +kernel⟩,
    ⟨2000000000, 0, (twin .syncing up).modTwin fun k => { k with startFrom := some 0 }, by decide +kernel⟩,
    ⟨2000000000, 0, ((twin .syncing up).modTwin fun k => { k with startFrom := some 0 }).modPwr fun p => { p with strapPos := 1 }, by decide +kernel⟩,
    ⟨0, (twin .syncing up).modTwin fun k => { k with bulkDone := true, commitRun := 32, pairOk := true }, by decide +kernel⟩,
    ⟨0, (twin .standby up).modTwin fun k => { k with noCommit := 2000 }, by decide +kernel⟩,
    ⟨0, (twin .standby up).modTwin fun k => { k with splitLease := 4 }, by decide +kernel⟩,
    ⟨0, (twin .standby up).modTwin fun k => { k with trkDiff := 4 }, by decide +kernel⟩,
    ⟨1001500, lnk (fun x => { x with stat := some {}, statTick := 950000 }) (twin .standby up), by decide +kernel⟩⟩

/-- States that meet the hypotheses of `SafetyInputsAndCrossCheck`, one for each clause. -/
theorem test_hyp_SafetyInputsAndCrossCheck :
    (∃ (ch : Fin 2) (sp : BitVec 8) (sn : BitVec 8) (tm : Nat) (u : State) (s : State), s.chanOn ch = true ∧ s.pwr.supply.getLsbD 5 = true ∧ u = ((s.adv tm).modChan ch fun c => { c with pairs := Vector.ofFn fun n : Fin 8 => (c.pairs[n]).sample (sp.getLsbD n.val) (sn.getLsbD n.val) (us (s.safV ch (Pid.safSiFilter n.val))) (max s.nt tm) }) ∧ (ch = 1 ∨ bit ((u.safEval ch).safV 0 Pid.safResetSrc) 1 = false)) ∧
    (∃ (ch : Fin 2) (sp : BitVec 8) (sn : BitVec 8) (tm : Nat) (s : State), (s.chanOn ch = false ∨ s.pwr.supply.getLsbD 5 = false)) ∧
    (∃ (n : Fin 8) (t0 : Nat) (tm : Nat) (s : State), s.safOn = true ∧ s.saf.chan[0].pairs[n].disc = false ∧ s.saf.chan[0].pairs[n].sameFrom = some t0 ∧ t0 + ms (s.safV 0 (Pid.safSiDisc n.val)) < max s.nt tm) ∧
    (∃ (ch : Fin 2) (tm : Nat) (s : State), s.chanOn ch = true) ∧
    (∃ (ch : Fin 2) (tm : Nat) (s : State), s.chanOn ch = true) ∧
    (∃ (ch : Fin 2) (tm : Nat) (s : State), s.safOn = true ∧ s.saf.armed = true ∧ s.pwr.state ≠ .safe ∧ s.saf.chan[ch].rxAt + ms 1 ≤ max s.nt tm) ∧
    (∃ (ch : Fin 2) (tm : Nat) (t0 : Nat) (s : State), s.safOn = true ∧ s.pwr.state ≠ .safe ∧ s.saf.chan[ch].diffFrom = some t0 ∧ t0 + ms (s.safV ch Pid.safXchkT) < max s.nt tm) ∧
    (∃ (ch : Fin 2) (tm : Nat) (s : State), s.safOn = true ∧ s.pwr.state ≠ .safe) ∧
    (∃ (s : State), s.pwr.state ≠ .safe) ∧
    (∃ (sp : BitVec 8) (sn : BitVec 8) (tm : Nat) (u : State) (s : State), s.chanOn 0 = true ∧ s.pwr.supply.getLsbD 5 = true ∧ u = ((s.adv tm).modChan 0 fun c => { c with pairs := Vector.ofFn fun n : Fin 8 => (c.pairs[n]).sample (sp.getLsbD n.val) (sn.getLsbD n.val) (us (s.safV 0 (Pid.safSiFilter n.val))) (max s.nt tm) }) ∧ bit ((u.safEval 0).safV 0 Pid.safResetSrc) 1 = true) := by
  refine ⟨⟨1, 255, 0, 0, ((up.adv 0).modChan 1 fun c => { c with pairs := Vector.ofFn fun n : Fin 8 => (c.pairs[n]).sample ((255 : BitVec 8).getLsbD n.val) ((0 : BitVec 8).getLsbD n.val) (us (up.safV 1 (Pid.safSiFilter n.val))) (max up.nt 0) }), up, by exact ⟨by decide +kernel, by decide +kernel, rfl, by decide +kernel⟩⟩,
    ⟨1, 255, 0, 0, { up with ib := false }, by decide +kernel⟩,
    ⟨7, 0, 2000000000, up.modChan 0 fun c => { c with pairs := c.pairs.set 7 { sameFrom := some 0 } }, by decide +kernel⟩,
    ⟨1, 0, up, by decide +kernel⟩,
    ⟨1, 0, up, by decide +kernel⟩,
    ⟨1, 3000000, up.modSaf fun k => { k with armed := true }, by decide +kernel⟩,
    ⟨1, 2000000000, 0, up.modChan 1 fun c => { c with diffFrom := some 0 }, by decide +kernel⟩,
    ⟨1, 0, up, by decide +kernel⟩,
    ⟨up, by decide +kernel⟩,
    ⟨255, 0, 0, ((saf Pid.safResetSrc 2 up).adv 0).modChan 0 (fun c => { c with pairs := Vector.ofFn fun n : Fin 8 => (c.pairs[n]).sample ((255 : BitVec 8).getLsbD n.val) ((0 : BitVec 8).getLsbD n.val) (us ((saf Pid.safResetSrc 2 up).safV 0 (Pid.safSiFilter n.val))) (max (saf Pid.safResetSrc 2 up).nt 0) }), saf Pid.safResetSrc 2 up, by exact ⟨by decide +kernel, by decide +kernel, rfl, by decide +kernel⟩⟩⟩

/-- States that meet the hypotheses of `SafetyStopsAndLimits`, one for each clause. -/
theorem test_hyp_SafetyStopsAndLimits :
    (∃ (ch : Fin 2) (g : Fin 16) (tm : Nat) (s : State), s.chanOn ch = true ∧ (s.saf.chan[ch].groups[g]).state = .ss1 ∧ (s.saf.chan[ch].groups[g]).ends ≤ max s.nt tm) ∧
    (∃ (ch : Fin 2) (g : Fin 16) (tm : Nat) (s : State), max s.nt tm < (s.saf.chan[ch].groups[g]).ends) ∧
    (∃ (ch : Fin 2) (g : Fin 16) (t0 : Nat) (tm : Nat) (s : State), s.chanOn ch = true ∧ (s.saf.chan[ch].groups[g]).slsFrom = some t0 ∧ t0 + ms (s.safV ch (Pid.safGSlsRamp g.val)) ≤ max s.nt tm) ∧
    (∃ (ch : Fin 2) (a : Fin 128) (w : Dword) (tm : Nat) (s : State), s.chanOn ch = true) ∧
    (∃ (a : Fin 128) (ch : Fin 2) (tm : Nat) (s : State), s.safOn = true ∧ 2 ≤ (s.saf.chan[ch].axes[a]).missRun ∧ s.saf.chan[ch].degraded = true) ∧
    (∃ (a : Fin 128) (ch : Fin 2) (tm : Nat) (s : State), s.safOn = true ∧ 3 ≤ (s.saf.chan[ch].axes[a]).slsRun) ∧
    (∃ (a : Fin 128) (ch : Fin 2) (tm : Nat) (s : State), s.safOn = true ∧ 3 ≤ (s.saf.chan[ch].axes[a]).sdiRun) ∧
    (∃ (a : Fin 128) (ch : Fin 2) (tm : Nat) (s : State), s.safOn = true ∧ 2 ≤ (s.saf.chan[ch].axes[a]).missRun ∧ ((s.slsLimit ch a).isSome = true ∨ s.sdiDir ch a ≠ 0)) ∧
    (∃ (a : Fin 128) (ch : Fin 2) (tm : Nat) (s : State), s.safOn = true ∧ (s.saf.chan[ch].axes[a]).got = true ∧ s.frame.ticking = true ∧ s.axOn (clusterOf a) = true ∧ s.frame.tick + 10000 ≤ max s.nt tm ∧ (s.saf.chan[ch].axes[a]).wordAt + s.tf < s.frame.tick ∧ s.saf.chan[ch].degraded = true) := by
  refine ⟨⟨1, 15, 0, up.modGrp 1 15 fun y => { y with state := .ss1, ends := 1000000 }, by decide +kernel⟩,
    ⟨1, 15, 0, up.modGrp 1 15 fun y => { y with ends := 1000001 }, by decide +kernel⟩,
    ⟨1, 15, 0, 20000000000, up.modGrp 1 15 fun y => { y with slsFrom := some 0 }, by decide +kernel⟩,
    ⟨1, 127, 5, 0, up, by decide +kernel⟩,
    ⟨127, 1, 0, up.modChan 1 fun c => { c with degraded := true, axes := c.axes.set 127 { missRun := 2 } }, by decide +kernel⟩,
    ⟨127, 1, 0, up.modChan 1 fun c => { c with axes := c.axes.set 127 { slsRun := 3 } }, by decide +kernel⟩,
    ⟨127, 1, 0, up.modChan 1 fun c => { c with axes := c.axes.set 127 { sdiRun := 3 } }, by decide +kernel⟩,
    ⟨127, 1, 0, (saf (Pid.safLGroup 31) 15 (saf Pid.safTelUse 1 up)).modChan 1 fun c => { c with configured := true, tel := { c.tel with sdi := BitVec.ofNat _ (2 ^ 15) }, axes := c.axes.set 127 { missRun := 2 } }, by decide +kernel⟩,
    ⟨127, 1, 1000000000000, (up.modChan 1 fun c => { c with degraded := true, axes := c.axes.set 127 { got := true, wordAt := 0 } }).modFrame fun f => { f with tick := 999999950000 }, by decide +kernel⟩⟩

/-- States that meet the hypotheses of `SafetyTelegrams`, one for each clause. -/
theorem test_hyp_SafetyTelegrams :
    (∃ (tm : Nat) (f : RxFrame) (c : Crepra) (v : State) (u : State) (s : State), (s.adv tm).takeRx ((s.adv tm).isCrepra 4) = some (f, u) ∧ c = crepraOf (ethHead f.bytes).body ∧ u.tagOk c = false ∧ v = u.authErr f.port c ∧ v.safOn = true ∧ v.telContent 0 c.payload false = none ∧ v.telContent 1 c.payload false = none ∧ v.pwr.supply.getLsbD 4 = true) ∧
    (∃ (tm : Nat) (tel : TelSt) (f : RxFrame) (c : Crepra) (v : State) (w : State) (x : State) (u : State) (s : State), (s.adv tm).takeRx ((s.adv tm).isCrepra 4) = some (f, u) ∧ c = crepraOf (ethHead f.bytes).body ∧ u.tagOk c = true ∧ v = u.copySeen c.src (netOf f.port) ∧ v.safOn = true ∧ v.telContent 0 c.payload true = some tel ∧ v.telWhat 0 tel.seq = .new ∧ v.telCopies (netOf f.port) (v.telFull c.payload true) c.payload = (w, false) ∧ w.telTake 0 c.payload true = (x, true) ∧ x.pwr.supply.getLsbD 4 = true) ∧
    (∃ (tm : Nat) (s : State), ((∀ x ∈ s.saf.copies, max s.nt tm < x.tm + ms (s.safV 0 Pid.safTelSkew)))) ∧
    (∃ (tm : Nat) (x : TelCopies) (s : State), s.saf.copies = [x] ∧ x.netA = true ∧ x.netB = false ∧ x.judged = false ∧ x.tm + ms (s.safV 0 Pid.safTelSkew) ≤ max s.nt tm ∧ s.saf.missFrom = Vector.replicate 2 none) ∧
    (∃ (net : Fin 2) (t0 : Nat) (tm : Nat) (s : State), s.safOn = true ∧ s.saf.missFrom[net] = some t0 ∧ s.saf.lost[net] = false ∧ t0 + ms (s.safV 0 Pid.safTelOneNetT) ≤ max s.nt tm) ∧
    (∃ (tm : Nat) (s : State), s.safOn = true ∧ s.safV 0 Pid.safTelUse = 1 ∧ s.saf.chan[0].telOk = true ∧ s.saf.chan[0].telAt + ms (s.safV 0 Pid.safTelTimeout) ≤ max s.nt tm) := by
  refine ⟨⟨0, frm [0x88, 0xB5] ([1, 4, 0, 0, 7, 0, 0, 0] ++ List.replicate 8 0 ++ [1, 0, 0, 0, 5] ++ List.replicate 8 0), crepraIn (frm [0x88, 0xB5] ([1, 4, 0, 0, 7, 0, 0, 0] ++ List.replicate 8 0 ++ [1, 0, 0, 0, 5] ++ List.replicate 8 0)), (empty ((atHost (frm [0x88, 0xB5] ([1, 4, 0, 0, 7, 0, 0, 0] ++ List.replicate 8 0 ++ [1, 0, 0, 0, 5] ++ List.replicate 8 0)) up).adv 0)).authErr 0 (crepraIn (frm [0x88, 0xB5] ([1, 4, 0, 0, 7, 0, 0, 0] ++ List.replicate 8 0 ++ [1, 0, 0, 0, 5] ++ List.replicate 8 0))), empty ((atHost (frm [0x88, 0xB5] ([1, 4, 0, 0, 7, 0, 0, 0] ++ List.replicate 8 0 ++ [1, 0, 0, 0, 5] ++ List.replicate 8 0)) up).adv 0), atHost (frm [0x88, 0xB5] ([1, 4, 0, 0, 7, 0, 0, 0] ++ List.replicate 8 0 ++ [1, 0, 0, 0, 5] ++ List.replicate 8 0)) up, by exact ⟨takeRx_one _ _ _ rfl (by decide +kernel), rfl, by decide +kernel, rfl, by decide +kernel, by decide +kernel, by decide +kernel, by decide +kernel⟩⟩,
    ⟨0, { seq := 5, sto := 0, ss1 := 0, sls := 0, sdi := 0, reset := false }, crepraRx 4 0xFFFF 20 telFrame, crepraIn (crepraRx 4 0xFFFF 20 telFrame), (empty ((sent 4 telFrame up).adv 0)).copySeen (crepraIn (crepraRx 4 0xFFFF 20 telFrame)).src (netOf (crepraRx 4 0xFFFF 20 telFrame).port), (((empty ((sent 4 telFrame up).adv 0)).copySeen (crepraIn (crepraRx 4 0xFFFF 20 telFrame)).src (netOf (crepraRx 4 0xFFFF 20 telFrame).port)).telCopies (netOf (crepraRx 4 0xFFFF 20 telFrame).port) (((empty ((sent 4 telFrame up).adv 0)).copySeen (crepraIn (crepraRx 4 0xFFFF 20 telFrame)).src (netOf (crepraRx 4 0xFFFF 20 telFrame).port)).telFull (crepraIn (crepraRx 4 0xFFFF 20 telFrame)).payload true) (crepraIn (crepraRx 4 0xFFFF 20 telFrame)).payload).1, (((((empty ((sent 4 telFrame up).adv 0)).copySeen (crepraIn (crepraRx 4 0xFFFF 20 telFrame)).src (netOf (crepraRx 4 0xFFFF 20 telFrame).port)).telCopies (netOf (crepraRx 4 0xFFFF 20 telFrame).port) (((empty ((sent 4 telFrame up).adv 0)).copySeen (crepraIn (crepraRx 4 0xFFFF 20 telFrame)).src (netOf (crepraRx 4 0xFFFF 20 telFrame).port)).telFull (crepraIn (crepraRx 4 0xFFFF 20 telFrame)).payload true) (crepraIn (crepraRx 4 0xFFFF 20 telFrame)).payload).1).telTake 0 (crepraIn (crepraRx 4 0xFFFF 20 telFrame)).payload true).1, empty ((sent 4 telFrame up).adv 0), sent 4 telFrame up, by exact ⟨takeRx_one _ _ _ rfl (by decide +kernel), rfl, inner_tagOk _ _ _ _ _ (by decide) rfl, rfl, by decide +kernel, by decide +kernel, by decide +kernel, pair_of_snd _ _ (by decide +kernel), pair_of_snd _ _ (by decide +kernel), by decide +kernel⟩⟩,
    ⟨0, up.modSaf fun k => { k with copies := [⟨5, 1000000, [], true, false, false⟩] }, by decide +kernel⟩,
    ⟨2000000000, ⟨5, 1000000, [], true, false, false⟩, up.modSaf fun k => { k with copies := [⟨5, 1000000, [], true, false, false⟩] }, by decide +kernel⟩,
    ⟨1, 0, 60000000000, up.modSaf fun k => { k with missFrom := k.missFrom.set 1 (some 0) }, by decide +kernel⟩,
    ⟨2000000000, saf Pid.safTelUse 1 (up.modChan 0 fun c => { c with telOk := true }), by decide +kernel⟩⟩

/-- States that meet the hypotheses of `SafetyOutputsDegradedLogins`, one for each clause. -/
theorem test_hyp_SafetyOutputsDegradedLogins :
    (∃ (n : Fin 2) (tm : Nat) (s : State), s.chanOn 1 = true ∧ s.saf.so[n].nextL ≤ max s.nt tm ∧ s.saf.so[n].failP = true) ∧
    (∃ (n : Fin 2) (tm : Nat) (s : State), s.safOn = true ∧ s.saf.so[n].nextP ≤ max s.nt tm ∧ s.saf.so[n].failL = false) ∧
    (∃ (n : Fin 2) (tm : Nat) (s : State), s.safOn = true ∧ s.saf.so[n].nextP ≤ max s.nt tm ∧ s.saf.so[n].failL = false) ∧
    (∃ (x : Int) (tm : Nat) (s : State), s.chanOn 1 = true ∧ s.pwr.state ≠ .safe ∧ (1400 < x ∨ x < -500)) ∧
    (∃ (x : Int) (tm : Nat) (s : State), s.chanOn 1 = true ∧ s.pwr.state ≠ .safe ∧ 1250 < x ∧ x ≤ 1400) ∧
    (∃ (x : Int) (tm : Nat) (s : State), s.chanOn 1 = true ∧ s.pwr.state ≠ .safe ∧ -350 ≤ x ∧ x ≤ 1200) ∧
    (∃ (t0 : Nat) (tm : Nat) (s : State), s.saf.clearFrom = some t0 ∧ s.safOn = true ∧ s.saf.chan[0].degraded = true ∧ s.degCause = false ∧ t0 + secs 5 ≤ max s.nt tm) ∧
    (∃ (tm : Nat) (s : State), s.safOn = true ∧ s.saf.chan[0].degraded = true ∧ secs (s.safV 0 Pid.safDegradedTmax) ≤ (s.adv tm).degUsedNow 0) ∧
    (∃ (t0 : Nat) (tm : Nat) (s : State), s.saf.exitAt = some t0 ∧ s.saf.chan[0].degraded = false ∧ t0 + secs 3600 ≤ max s.nt tm) ∧
    (∃ (sid : Nat) (t0 : Nat) (tm : Nat) (w : Bool) (s : State), s.saf.login = some (sid, t0, w) ∧ t0 + secs 600 ≤ max s.nt tm) ∧
    (∃ (u : Nat) (tm : Nat) (s : State), s.saf.lockedUntil = some u ∧ u ≤ max s.nt tm) ∧
    (∃ (u : Nat) (tm : Nat) (s : State), s.saf.lockedUntil = some u ∧ max s.nt tm < u) ∧
    (∃ (x : Int) (mon : Bool) (tm : Nat) (s : State), s.chanOn 1 = true ∧ s.pwr.state ≠ .safe ∧ mon = false) ∧
    (∃ (x : Int) (tm : Nat) (s : State), s.chanOn 1 = true ∧ s.pwr.state ≠ .safe ∧ -500 ≤ x ∧ x < -400) ∧
    (∃ (x : Int) (tm : Nat) (s : State), s.chanOn 1 = true ∧ s.pwr.state ≠ .safe ∧ ((-400 ≤ x ∧ x < -350) ∨ (1200 < x ∧ x ≤ 1250))) ∧
    (∃ (n : Fin 2) (ch : Fin 2) (ok : Bool) (tm : Nat) (s : State), s.chanOn ch = true ∧ max s.nt tm < (if ch = 0 then s.saf.so[n].nextP else s.saf.so[n].nextL)) := by
  refine ⟨⟨1, 0, up.modSaf fun k => { k with so := k.so.set 1 { failP := true } }, by decide +kernel⟩,
    ⟨1, 0, up, by decide +kernel⟩,
    ⟨1, 0, up, by decide +kernel⟩,
    ⟨-501, 0, up, by decide +kernel⟩,
    ⟨1251, 0, up, by decide +kernel⟩,
    ⟨1200, 0, up, by decide +kernel⟩,
    ⟨0, 6000000000, (up.modChan 0 fun c => { c with degraded := true }).modSaf fun k => { k with clearFrom := some 0 }, by decide +kernel⟩,
    ⟨20000000000000, up.modChan 0 fun c => { c with degraded := true }, by decide +kernel⟩,
    ⟨0, 3600000000000, up.modSaf fun k => { k with exitAt := some 0 }, by decide +kernel⟩,
    ⟨1, 0, 600000000000, false, up.modSaf fun k => { k with login := some (1, 0, false) }, by decide +kernel⟩,
    ⟨5, 0, up.modSaf fun k => { k with lockedUntil := some 5 }, by decide +kernel⟩,
    ⟨5000000, 0, up.modSaf fun k => { k with lockedUntil := some 5000000 }, by decide +kernel⟩,
    ⟨100, false, 0, up, by decide +kernel⟩,
    ⟨-500, 0, up, by decide +kernel⟩,
    ⟨1250, 0, up, by decide +kernel⟩,
    ⟨1, 1, true, 0, up.modSaf fun k => { k with so := k.so.set 1 { nextL := 100000000000 } }, by decide +kernel⟩⟩

/-- States that meet the hypotheses of `ResetsAndSupplies`, one for each clause. -/
theorem test_hyp_ResetsAndSupplies :
    (∃ (tm : Nat) (s : State), s.pwr.supply.getLsbD 0 = true) ∧
    (∃ (i : Fin 16) (tm : Nat) (s : State), 1 ≤ i.val ∧ i.val ≤ 3 ∧ s.pwr.supply.getLsbD i.val = true) ∧
    (∃ (tm : Nat) (s : State), s.pwr.supply.getLsbD 4 = true) ∧
    (∃ (i : Fin 16) (tm : Nat) (s : State), s.pwr.supply.getLsbD i.val = false) ∧
    (∃ (tm : Nat) (s : State), s.pwr.nReset = false) ∧
    (∃ (pos : Bool) (claim : Bool) (tm : Nat) (s : State), s.pwr.state = .reset ∧ s.pwr.reqOk = true ∧ s.pwr.nReset = true ∧ s.pwr.resetOut = false ∧ s.pwr.origin + us 500 ≤ max s.nt tm ∧ s.pwr.domains = 0) ∧
    (∃ (t0 : Nat) (tm : Nat) (s : State), s.pwr.callReset = some t0 ∧ t0 + ms 1 ≤ max s.nt tm) ∧
    (∃ (i : Fin 16) (tm : Nat) (s : State), 6 ≤ i.val ∧ s.pwr.supply.getLsbD i.val = true ∧ s.pwr.bankReq.getLsbD (i.val - 6) = true) ∧
    (∃ (i : Fin 16) (tm : Nat) (s : State), 6 ≤ i.val ∧ s.pwr.supply.getLsbD i.val = true ∧ s.pwr.bankReq.getLsbD (i.val - 6) = false) ∧
    (∃ (tm : Nat) (s : State), s.pwr.supply.getLsbD 5 = true) := by
  refine ⟨⟨0, up, by decide +kernel⟩,
    ⟨3, 0, up, by decide +kernel⟩,
    ⟨0, up, by decide +kernel⟩,
    ⟨15, 0, State.reset, by decide +kernel⟩,
    ⟨0, up.modPwr fun p => { p with nReset := false }, by decide +kernel⟩,
    ⟨true, false, 500000, State.reset.modPwr fun p => { p with supply := 0xFFFF, nReset := true }, by decide +kernel⟩,
    ⟨0, 1000000, up.modPwr fun p => { p with callReset := some 0 }, by decide +kernel⟩,
    ⟨6, 0, up, by decide +kernel⟩,
    ⟨15, 0, up, by decide +kernel⟩,
    ⟨0, up, by decide +kernel⟩⟩

/-- States that meet the hypotheses of `BringUpSteps`, one for each clause. -/
theorem test_hyp_BringUpSteps :
    (∃ (tm : Nat) (s : State), s.pwr.state = .reset ∧ s.pwr.resetOut = true ∧ s.domainOn 10 = true ∧ s.domainOn 11 = true ∧ s.pwr.origin + ms 2 ≤ max s.nt tm) ∧
    (∃ (tm : Nat) (s : State), s.pwr.state ≠ .reset ∧ s.pwr.forwarding = false ∧ s.domainOn 10 = true ∧ s.domainOn 11 = true ∧ s.pwr.deep.forwardDue (max s.nt tm) = true) ∧
    (∃ (tm : Nat) (s : State), s.pwr.state = .boot ∧ s.pwr.verified = false ∧ s.domainOn 8 = true ∧ s.domainOn 14 = true) ∧
    (∃ (tm : Nat) (s : State), s.pwr.state = .boot ∧ s.pwr.verified = true) ∧
    (∃ (tm : Nat) (s : State), s.pwr.state = .boot ∧ s.pwr.verified = true ∧ s.pwr.origin + ms 30 ≤ max s.nt tm ∧ s.sec.fallback = false ∧ s.sec.rollback = false) ∧
    (∃ (tm : Nat) (s : State), s.pwr.state = .ristretto ∧ s.par.restored = false) ∧
    (∃ (tm : Nat) (s : State), s.pwr.state = .ristretto ∧ s.par.restored = true ∧ (s.ib = false ∨ s.saf.armed = true) ∧ (s.adv tm).linksTried = true) ∧
    (∃ (tm : Nat) (t0 : Nat) (i : Fin 16) (s : State), 8 ≤ i.val ∧ (i.val, t0) ∈ s.pwr.switching ∧ t0 + switchTime i.val ≤ max s.nt tm) ∧
    (∃ (tm : Nat) (t0 : Nat) (c : Fin 8) (s : State), (c.val, t0) ∈ s.pwr.switching ∧ t0 + switchTime c.val ≤ max s.nt tm) ∧
    (∃ (tm : Nat) (s : State), s.pwr.state = .boot ∧ s.pwr.verified = true ∧ s.pwr.origin + ms 30 ≤ max s.nt tm) := by
  refine ⟨⟨2000000, up.modPwr fun p => { p with state := .reset, resetOut := true }, by decide +kernel⟩,
    ⟨0, up.modPwr fun p => { p with forwarding := false }, by decide +kernel⟩,
    ⟨0, up.modPwr fun p => { p with state := .boot, verified := false }, by decide +kernel⟩,
    ⟨0, up.modPwr fun p => { p with state := .boot }, by decide +kernel⟩,
    ⟨30000000, up.modPwr fun p => { p with state := .boot }, by decide +kernel⟩,
    ⟨0, up.modPwr fun p => { p with state := .ristretto }, by decide +kernel⟩,
    ⟨30000000, ({ up with ib := false }.modPwr fun p => { p with state := .ristretto }).modPar fun p => { p with restored := true }, by decide +kernel⟩,
    ⟨1000000, 0, 15, up.modPwr fun p => { p with switching := [(15, 0)] }, by decide +kernel⟩,
    ⟨1000000, 0, 7, up.modPwr fun p => { p with switching := [(7, 0)] }, by decide +kernel⟩,
    ⟨1031000000, { up with pwr := { up.pwr with state := .boot, verified := true } }, by decide +kernel⟩⟩

/-- States that meet the hypotheses of `SleepSteps`, one for each clause. -/
theorem test_hyp_SleepSteps :
    (∃ (c : Fin 8) (t0 : Nat) (tm : Nat) (s : State), s.pwr.offFrom[c] = some t0 ∧ s.fwRuns = true ∧ s.pN (Pid.pwrCAutoSleep c.val) = 1 ∧ s.pwr.doze[c] = .awake ∧ s.axOn c = true ∧ (s.adv tm).canSleep c = true ∧ s.drives = true ∧ t0 + secs (s.pN (Pid.pwrCIdleT c.val)) ≤ max s.nt tm) ∧
    (∃ (c : Fin 8) (t0 : Nat) (tm : Nat) (s : State), s.pwr.doze[c] = .dozeSent t0 ∧ t0 + 2 * s.tf ≤ max s.nt tm) ∧
    (∃ (c : Fin 8) (t0 : Nat) (tm : Nat) (s : State), s.pwr.doze[c] = .trafficOff t0 ∧ t0 + us 100 ≤ max s.nt tm) ∧
    (∃ (net : Bool) (tm : Nat) (s : State), (s.adv tm).deepDue = some net) ∧
    (∃ (tm : Nat) (s : State), (s.adv tm).deepDue = none ∧ (s.adv tm).deepIdle = false) ∧
    (∃ (t0 : Nat) (cl : Nat) (tm : Nat) (was : DevState) (u : State) (s : State), s.pwr.deep = .waking t0 cl was ∧ t0 + ms 8 ≤ max s.nt tm ∧ s.domainOn 8 = true ∧ s.pwr.retention = none ∧ u = (((s.adv tm).each [9, 12, 13, 15] State.domOn).modPwr fun p => { p with deep := .awake, retention := none, state := was, lastCmd := max s.nt tm })) ∧
    (∃ (net : Fin 2) (t0 : Nat) (tm : Nat) (s : State), s.pwr.bypassFrom = some t0 ∧ t0 + ms (s.aonN Pid.netBypassLead) ≤ max s.nt tm) ∧
    (∃ (l : Fin 32) (z : BitVec 8) (tm : Nat) (s : State), s.links[l].state = .doze) ∧
    (∃ (l : Fin 32) (tm : Nat) (s : State), s.links[l].state = .doze ∧ s.links[l].beaconLost = false ∧ s.links[l].beaconAt + 5 * ms s.links[l].beaconMs ≤ max s.nt tm) ∧
    (∃ (tm : Nat) (t0 : Nat) (cl : Nat) (was : DevState) (l : List PEntry) (u : State) (s : State), s.pwr.deep = .waking t0 cl was ∧ t0 + ms 8 ≤ max s.nt tm ∧ s.domainOn 8 = true ∧ s.pwr.retention = some l ∧ u = (((s.adv tm).each [9, 12, 13, 15] State.domOn).modPwr fun p => { p with deep := .awake, retention := none, state := was, lastCmd := ((s.adv tm).each [9, 12, 13, 15] State.domOn).nt })) := by
  refine ⟨⟨7, 0, 4000000000000, par (Pid.pwrCAutoSleep 7) 1 (up.modPwr fun p => { p with offFrom := p.offFrom.set 7 (some 0) }), by decide +kernel⟩,
    ⟨7, 0, 0, up.modPwr fun p => { p with doze := p.doze.set 7 (.dozeSent 0) }, by decide +kernel⟩,
    ⟨7, 0, 0, up.modPwr fun p => { p with doze := p.doze.set 7 (.trafficOff 0) }, by decide +kernel⟩,
    ⟨true, 0, up.modPwr fun p => { p with deep := .requested true, doze := Vector.replicate 8 .asleep }, by decide +kernel⟩,
    ⟨0, up, by decide +kernel⟩,
    ⟨0, 128, 8000000, .operate, (((up.modPwr fun p => { p with deep := .waking 0 128 .operate }).adv 8000000).each [9, 12, 13, 15] State.domOn).modPwr fun p => { p with deep := .awake, retention := none, state := .operate, lastCmd := max (up.modPwr fun p => { p with deep := .waking 0 128 .operate }).nt 8000000 }, up.modPwr fun p => { p with deep := .waking 0 128 .operate }, by exact ⟨rfl, by decide +kernel, by decide +kernel, by decide +kernel, rfl⟩⟩,
    ⟨1, 0, 100000000000, up.modPwr fun p => { p with bypassFrom := some 0 }, by decide +kernel⟩,
    ⟨31, 9, 0, up.modLink 31 fun x => { x with state := .doze }, by decide +kernel⟩,
    ⟨31, 1000000000000, up.modLink 31 fun x => { x with state := .doze }, by decide +kernel⟩,
    ⟨8000000, 0, 128, .operate, [], (((up.modPwr fun p => { p with deep := .waking 0 128 .operate, retention := some [] }).adv 8000000).each [9, 12, 13, 15] State.domOn).modPwr (fun p => { p with deep := .awake, retention := none, state := .operate, lastCmd := (((up.modPwr fun p => { p with deep := .waking 0 128 .operate, retention := some [] }).adv 8000000).each [9, 12, 13, 15] State.domOn).nt }), (up.modPwr fun p => { p with deep := .waking 0 128 .operate, retention := some [] }), by exact ⟨rfl, by decide +kernel, by decide +kernel, rfl, rfl⟩⟩⟩

/-- States that meet the hypotheses of `PercolatorRules`, one for each clause. -/
theorem test_hyp_PercolatorRules :
    (∃ (tm : Nat) (s : State), s.pwr.lastSample + us 100 ≤ max s.nt tm ∧ ((∀ r : Fin 32, s.ruleLevel s.pwr.ruleWord[r] = none ∧ rKind s.pwr.ruleWord[r] ≠ 4))) ∧
    (∃ (r : Fin 32) (tm : Nat) (s : State), rKind s.pwr.ruleWord[r] = 5 ∧ (s.pwr.rules[r]).timerFrom + secs s.pwr.timerS[fin 4 (by decide) (rIdx s.pwr.ruleWord[r])] ≤ max s.nt tm) ∧
    (∃ (r : Fin 32) (tm : Nat) (s : State), rKind s.pwr.ruleWord[r] ≠ 5) ∧
    (∃ (r : Fin 32) (cl : Nat) (src : Nat) (fw : Bool) (s : State), rEvent s.pwr.ruleWord[r] = false) ∧
    (∃ (tm : Nat) (s : State), max s.nt tm < s.pwr.lastSample + us 100) ∧
    (∃ (tm : Nat) (s : State), s.pwr.lastSample + us 100 ≤ max s.nt tm) := by
  refine ⟨⟨1000000000000, up.modPwr fun p => { p with wakeFrames := [(1, 0)] }, by decide +kernel⟩,
    ⟨31, 4000000000000, up.modPwr fun p => { p with ruleWord := p.ruleWord.set 31 (5 * 2 ^ 60 + 128 * 256) }, by decide +kernel⟩,
    ⟨31, 0, up, by decide +kernel⟩,
    ⟨31, 128, 8, true, up, by decide +kernel⟩,
    ⟨0, up.modPwr fun p => { p with lastSample := 1000000000 }, by decide +kernel⟩,
    ⟨1000000000000, up, by decide +kernel⟩⟩

/-- States that meet the hypotheses of `SupplyEyeAndTemperature`, one for each clause. -/
theorem test_hyp_SupplyEyeAndTemperature :
    (∃ (x : Int) (v : Nat) (tm : Nat) (s : State), s.fullService = true ∧ s.pN Pid.ageAvsEnable ≠ 0 ∧ s.pwr.state ≠ .service ∧ s.age.vdd = v ∧ x < (s.pN Pid.ageAvsSlackTgt : Int) ∧ v < s.pN Pid.ageAvsVmax) ∧
    (∃ (x : Int) (v : Nat) (tm : Nat) (s : State), s.fullService = true ∧ s.pN Pid.ageAvsEnable ≠ 0 ∧ s.pwr.state ≠ .service ∧ s.age.vdd = v ∧ x < (s.pN Pid.ageAvsSlackTgt : Int) ∧ v = s.pN Pid.ageAvsVmax) ∧
    (∃ (mv : Nat) (tm : Nat) (s : State), s.pN Pid.ageDroopMax < mv ∧ 3 ≤ (within (secs 1) (max s.nt tm) (max s.nt tm :: s.age.droopAt)).length) ∧
    (∃ (mv : Nat) (tm : Nat) (s : State), mv ≤ s.pN Pid.ageDroopMax) ∧
    (∃ (l : Fin 32) (eye : Nat) (tm : Nat) (set : Nat) (viol : Bool) (s : State), s.links[l].state = .up ∧ s.pN (Pid.lnkEq l.val) = set ∧ set ≠ 255 ∧ ((viol = true ∨ s.links[l].eyeAt = none))) ∧
    (∃ (l : Fin 32) (eye : Nat) (tm : Nat) (prev : Nat) (pe : Nat) (s : State), s.links[l].state = .up ∧ s.pN (Pid.lnkEq l.val) = 255 ∧ s.links[l].eqTrial = some (prev, pe) ∧ eye < pe + 3 ∧ (s.links[l].eyeAt.any fun t => decide (max s.nt tm < t + secs 1)) = false) ∧
    (∃ (x : Int) (tm : Nat) (s : State), s.age.xtalN + 1 < 3600000 ∧ s.pI 16 Pid.ageTjWarn * 10 < x ∧ s.age.tjWarn = false ∧ x ≤ 1250) ∧
    (∃ (x : Int) (tm : Nat) (s : State), s.age.xtalN + 1 < 3600000 ∧ x ≤ s.pI 16 Pid.ageTjWarn * 10 ∧ x ≤ 1250) ∧
    (∃ (tm : Nat) (s : State), s.age.flushAt + secs 86400 ≤ max s.nt tm) ∧
    (∃ (x : Int) (tm : Nat) (v : Nat) (s : State), s.fullService = true ∧ s.pN Pid.ageAvsEnable ≠ 0 ∧ s.pwr.state ≠ .service ∧ s.age.vdd = v ∧ (s.pN Pid.ageAvsSlackTgt : Int) + 20 < x ∧ 750 < v ∧ s.age.vddAt + ms 1000 ≤ max s.nt tm) ∧
    (∃ (x : Int) (tm : Nat) (v : Nat) (s : State), s.fullService = true ∧ s.pN Pid.ageAvsEnable ≠ 0 ∧ s.pwr.state ≠ .service ∧ s.age.vdd = v ∧ (s.pN Pid.ageAvsSlackTgt : Int) ≤ x ∧ (x ≤ (s.pN Pid.ageAvsSlackTgt : Int) + 20 ∨ v ≤ 750 ∨ max s.nt tm < s.age.vddAt + ms 1000)) ∧
    (∃ (mv : Nat) (tm : Nat) (s : State), s.pN Pid.ageDroopMax < mv ∧ (within (secs 1) (max s.nt tm) (max s.nt tm :: s.age.droopAt)).length < 3) ∧
    (∃ (l : Fin 32) (eye : Nat) (viol : Bool) (tm : Nat) (prev : Nat) (pe : Nat) (s : State), s.links[l].state = .up ∧ s.pN (Pid.lnkEq l.val) = 255 ∧ s.links[l].eqTrial = some (prev, pe) ∧ viol = false ∧ pe + 3 ≤ eye ∧ (s.links[l].eyeAt.any fun t => decide (max s.nt tm < t + secs 1)) = false) ∧
    (∃ (l : Fin 32) (eye : Nat) (viol : Bool) (tm : Nat) (s : State), s.links[l].state = .up ∧ s.pN (Pid.lnkEq l.val) = 255 ∧ s.links[l].eqTrial = none ∧ s.pN Pid.ageEyeMin ≤ eye ∧ (s.links[l].eyeAt.any fun t => decide (max s.nt tm < t + secs 1)) = false) ∧
    (∃ (x : Int) (tm : Nat) (s : State), 1500 < x ∧ s.age.xtalN + 1 < 3600000 ∧ s.age.tjWarn = true ∧ s.age.tjHot = none ∧ s.age.tjVery = none) := by
  refine ⟨⟨-1, 800, 0, par Pid.ageAvsEnable 1 (up.modAge fun k => { k with vdd := 800 }), by decide +kernel⟩,
    ⟨-1, up.pN Pid.ageAvsVmax, 0, par Pid.ageAvsEnable 1 (up.modAge fun k => { k with vdd := up.pN Pid.ageAvsVmax }), by decide +kernel⟩,
    ⟨200, 0, up.modAge fun k => { k with droopAt := [1000000, 1000000] }, by decide +kernel⟩,
    ⟨0, 0, up, by decide +kernel⟩,
    ⟨31, 20, 0, 5, true, par 0x201FFFFF 1 <| par (Pid.lnkEq 31) 5 (up.modLink 31 fun x => { x with state := .up }), by decide +kernel⟩,
    ⟨31, 22, 0, 3, 20, par (Pid.lnkEq 31) 255 (up.modLink 31 fun x => { x with state := .up, eqTrial := some (3, 20) }), by decide +kernel⟩,
    ⟨1250, 0, up, by decide +kernel⟩,
    ⟨0, 0, up, by decide +kernel⟩,
    ⟨86400000000000, up, by decide +kernel⟩,
    ⟨100, 2000000000, 800, par Pid.ageAvsEnable 1 (up.modAge fun k => { k with vdd := 800 }), by decide +kernel⟩,
    ⟨100, 0, 750, par Pid.ageAvsEnable 1 (up.modAge fun k => { k with vdd := 750 }), by decide +kernel⟩,
    ⟨65535, 0, up, by decide +kernel⟩,
    ⟨31, 60, false, 0, 3, 57, par (Pid.lnkEq 31) 255 (lnk (fun x => { x with eqTrial := some (3, 57) }) up), by decide +kernel⟩,
    ⟨31, 100, false, 0, par (Pid.lnkEq 31) 255 (lnk id up), by decide +kernel⟩,
    ⟨1501, 0, up.modAge fun k => { k with tjWarn := true }, by decide +kernel⟩⟩

/-- States that meet the hypotheses of `AgeingUpdatesAndTests`, one for each clause. -/
theorem test_hyp_AgeingUpdatesAndTests :
    (∃ (a : Fin 128) (tm : Nat) (s : State), s.fwRuns = true ∧ s.drives = true) ∧
    (∃ (a : Fin 128) (tm : Nat) (s : State), s.fwRuns = true ∧ s.drives = true ∧ s.age.axes[a].kAt + secs 3600 ≤ max s.nt tm ∧ s.age.axes[a].keN ≠ 0) ∧
    (∃ (tm : Nat) (s : State), max s.nt tm < s.age.lastDaily + secs 86400) ∧
    (∃ (tm : Nat) (u : State) (s : State) (up : List (Margin × Margin × Bool)), s.fwRuns = true ∧ s.age.lastDaily + secs 86400 ≤ max s.nt tm ∧ ((∀ a : Fin 128, s.motType a.val = 0 ∧ (s.age.axes[a]).fricN = 0)) ∧ s.fio.cmd = 0 ∧ u = (s.adv tm).margin 6 0 (lifeOf s.age.hist 175200) ∧ up = u.age.items.map (fun x => (x, u.dailyItem x))) ∧
    (∃ (tm : Nat) (s : State), s.frame.ticking = true ∧ s.fullService = true ∧ ((∀ c : Fin 8, s.age.etest[c] = none)) ∧ (s.adv tm).sliceFits = true ∧ s.age.slice + 1 ≠ 1024) ∧
    (∃ (tm : Nat) (s : State), s.frame.ticking = true ∧ s.fullService = true ∧ ((∀ c : Fin 8, s.age.etest[c] = none)) ∧ (s.adv tm).sliceFits = true ∧ s.age.slice + 1 = 1024) ∧
    (∃ (c : Fin 8) (tm : Nat) (s : State), s.age.etest[c] = none ∧ s.age.mcFail.getLsbD c.val = true) ∧
    (∃ (c : Fin 8) (item : Nat) (tm : Nat) (x : CltSt) (s : State), s.age.clt[c] = some x) ∧
    (∃ (errors : Nat) (sum : Nat) (tm : Nat) (x : LoopSt) (s : State), s.age.loop = some x ∧ x.since + ms (s.pN Pid.netBypassLead) ≤ max s.nt tm) ∧
    (∃ (a : Fin 128) (tm : Nat) (s : State), (s.fwRuns = false ∨ s.drives = false ∨ max s.nt tm < s.age.axes[a].kAt + secs 3600 ∨ s.age.axes[a].keN = 0)) ∧
    (∃ (c : Fin 8) (e : EtestSt) (tm : Nat) (s : State), s.age.etest[c] = some e ∧ 3 ≤ e.tries ∧ 2 ≤ e.fails) ∧
    (∃ (c : Fin 8) (e : EtestSt) (tm : Nat) (s : State), s.age.etest[c] = some e ∧ 3 ≤ e.tries ∧ e.fails < 2 ∧ s.age.mcFail.getLsbD c.val = false) ∧
    (∃ (c : Fin 8) (x : CltSt) (item : Nat) (tm : Nat) (s : State), s.age.clt[c] = some x) ∧
    (∃ (tm : Nat) (s : State), s.fwRuns = true ∧ s.age.lastDaily + secs 86400 ≤ max s.nt tm) := by
  refine ⟨⟨127, 0, up, by decide +kernel⟩,
    ⟨127, 3600000000000, up.modAge fun k => { k with axes := k.axes.set 127 { keN := 1, keSum := 1 } }, by decide +kernel⟩,
    ⟨0, up, by decide +kernel⟩,
    ⟨86400000000000, ((up.adv 86400000000000).margin 6 0 (lifeOf up.age.hist 175200)), up, ((up.adv 86400000000000).margin 6 0 (lifeOf up.age.hist 175200)).age.items.map (fun x => (x, ((up.adv 86400000000000).margin 6 0 (lifeOf up.age.hist 175200)).dailyItem x)), by exact ⟨by decide +kernel, by decide +kernel, by decide +kernel, by decide +kernel, rfl, rfl⟩⟩,
    ⟨0, up.modFrame fun f => { f with finished := 1 }, by decide +kernel⟩,
    ⟨0, (up.modFrame fun f => { f with finished := 128 }).modAge fun k => { k with slice := 1023 }, by decide +kernel⟩,
    ⟨7, 0, up.modAge fun k => { k with mcFail := 128 }, by decide +kernel⟩,
    ⟨7, 0, 0, ⟨0, 0⟩, up.modAge fun k => { k with clt := k.clt.set 7 (some ⟨0, 0⟩) }, by decide +kernel⟩,
    ⟨3, 4, 100000000000, ⟨3, 2, 0, 0⟩, up.modAge fun k => { k with loop := some ⟨3, 2, 0, 0⟩ }, by decide +kernel⟩,
    ⟨127, 0, up, by decide +kernel⟩,
    ⟨7, ⟨5, 3, 2⟩, 0, up.modAge fun k => { k with etest := k.etest.set 7 (some ⟨5, 3, 2⟩) }, by decide +kernel⟩,
    ⟨7, ⟨5, 3, 1⟩, 0, up.modAge fun k => { k with etest := k.etest.set 7 (some ⟨5, 3, 1⟩) }, by decide +kernel⟩,
    ⟨7, ⟨5, 2⟩, 3, 0, up.modAge fun k => { k with clt := k.clt.set 7 (some ⟨5, 2⟩) }, by decide +kernel⟩,
    ⟨86400000000000, up, by decide +kernel⟩⟩

/-- States that meet the hypotheses of `FirmwareAndSessions`, one for each clause. -/
theorem test_hyp_FirmwareAndSessions :
    (∃ (lock : Bool) (tm : Nat) (s : State), s.fwRuns = true ∧ (lock = true ∨ s.host.fwAliveAt + ms (s.pN Pid.ageFwWdogT) ≤ max s.nt tm)) ∧
    (∃ (tm : Nat) (s : State), s.pwr.state = .service ∧ s.age.fwStuck = false ∧ s.sec.bootable = true ∧ s.age.serviceFrom + ms 60 ≤ max s.nt tm ∧ s.sec.fallback = false ∧ s.sec.rollback = false) ∧
    (∃ (tm : Nat) (s : State), s.age.fwStuck = true) ∧
    (∃ (sid : Nat) (tm : Nat) (x : Session) (s : State), s.session sid = some x ∧ s.fwRuns = true ∧ x.lastCmd + secs (s.pN Pid.secSessionIdle) ≤ max s.nt tm) ∧
    (∃ (u : Nat) (tm : Nat) (s : State), s.sec.lockedUntil = some u ∧ u ≤ max s.nt tm) ∧
    (∃ (tm : Nat) (s : State), s.pwr.state = .service ∧ s.age.fwStuck = false ∧ s.sec.bootable = true ∧ s.age.serviceFrom + ms 60 ≤ max s.nt tm) := by
  refine ⟨⟨true, 0, up, by decide +kernel⟩,
    ⟨60000000, (up.modSec fun k => { k with slots := Vector.replicate 2 { good := true } }).modPwr fun p => { p with state := .service }, by decide +kernel⟩,
    ⟨0, up.modAge fun k => { k with fwStuck := true }, by decide +kernel⟩,
    ⟨2, 100000000000000, { id := 2, mbx := 3, owner := .pcie }, up.modSec fun k => { k with sessions := [{ id := 2, mbx := 3, owner := .pcie }] }, by decide +kernel⟩,
    ⟨5, 0, up.modSec fun k => { k with lockedUntil := some 5 }, by decide +kernel⟩,
    ⟨60000000, (up.modSec fun k => { k with slots := Vector.replicate 2 { good := true } }).modPwr fun p => { p with state := .service }, by decide +kernel⟩⟩

/-- States that meet the hypotheses of `StepTakesTheFrontCommand`, one for each clause. -/
theorem test_hyp_StepTakesTheFrontCommand :
    (∃ (c : Instr) (rest : List Instr) (s : State), s.pending = c :: rest) ∧
    (∃ (s : State), s.pending = []) := by
  refine ⟨⟨.clockMissing 0, [], { up with pending := [.clockMissing 0] }, by decide +kernel⟩,
    ⟨up, by decide +kernel⟩⟩

/-- States that meet the hypotheses of `StepKeepsMemoriesCanonical`, one for each clause. -/
theorem test_hyp_StepKeepsMemoriesCanonical :
    ∃ (s : State) (s' : State), s.memOk ∧ step s = .next s' := by
  refine ⟨{ State.reset with pending := [.nresetRelease 0] }, (State.reset.adv 0).modPwr fun p => { p with nReset := true, resetAt := State.reset.nt }, by exact ⟨by unfold State.memOk; decide +kernel, rfl⟩⟩

/-- States that meet the hypotheses of `WideRegistersLatchTheirHighWord`, one for each clause. -/
theorem test_hyp_WideRegistersLatchTheirHighWord :
    (∃ (p : Path) (off : Nat) (tm : Nat) (s : State), s.pathUp p = true ∧ isLowWord off = true) ∧
    (∃ (off : Nat) (tm : Nat) (hi : Word) (s : State), s.pathUp .qspi = true ∧ isHighWord off = true ∧ s.latched .qspi off = some hi) ∧
    (∃ (p : Path) (off : Nat) (s : State), isLowWord off = false) ∧
    (∃ (p : Path) (q : Path) (off : Nat) (o : Nat) (s : State), (q ≠ p ∨ o ≠ off + 4)) := by
  refine ⟨⟨.qspi, 0x008, 0, { up with pwr := { up.pwr with resetOut := true } }, by decide +kernel⟩,
    ⟨0x00C, 0, 7, { up with host := { up.host with hiLatch := [(.qspi, 0x00C, 7)] } }, by decide +kernel⟩,
    ⟨.qspi, 0x00C, up, by decide +kernel⟩,
    ⟨.qspi, .pcie, 0x008, 0x00C, up, by decide +kernel⟩⟩

/-- States that meet the hypotheses of `RepeatedRaiseOnlyCounts`, one for each clause. -/
theorem test_hyp_RepeatedRaiseOnlyCounts :
    ∃ (code : Nat) (inst : Nat) (data : Nat) (dflt : Nat) (fixed : Bool) (targets : List (Fin 128)) (l1 : List LogEntry) (l2 : List LogEntry) (e : LogEntry) (s : State), s.flt.log = l1 ++ e :: l2 ∧ e.kind = .raised ∧ e.code = code ∧ e.inst = inst ∧ ((∀ x ∈ l2, ¬(x.kind = .raised ∧ x.code = code ∧ x.inst = inst))) ∧ ((∀ x ∈ l1 ++ l2, x.seq ≠ e.seq)) ∧ ((s.faultOn code inst = true ∨ (s.raiseLevels code dflt fixed targets).2.1 = 0 ∧ s.nt < e.nt + 1000000000)) := by
  refine ⟨0x0103, 0, 0, 1, false, [], [], [], { seq := 0, nt := 0, fc := 0, code := 0x0103, inst := 0, applied := 1, dflt := 1, override := false, first := false, kind := .raised }, (up.modFlt fun f => { f with log := [{ seq := 0, nt := 0, fc := 0, code := 0x0103, inst := 0, applied := 1, dflt := 1, override := false, first := false, kind := .raised }], inForce := [{ code := 0x0103, inst := 0, dflt := 1, level := 1, targets := [], tm := 0 }] }), by decide +kernel⟩

/-- States that meet the hypotheses of `FirstRaiseTakesForce`, one for each clause. -/
theorem test_hyp_FirstRaiseTakesForce :
    ∃ (code : Nat) (inst : Nat) (data : Nat) (dflt : Nat) (fixed : Bool) (ovr : Bool) (targets : List (Fin 128)) (a : Fin 128) (level : Nat) (s : State), s.faultOn code inst = false ∧ 1 ≤ level ∧ s.raiseLevels code dflt fixed targets = ([(a, level)], level, ovr) ∧ s.flt.log.length < 256 := by
  refine ⟨0x1001, 127, 0, 3, true, false, [127], 127, 3, up, by decide +kernel⟩


end Sys2Proof.Tests
end

namespace Sys2Proof.Machine

/-! Numbers held below a bound, and the fixed mapping of axes, slots, links and clusters (R12). -/

theorem val_fin_of_lt {n i : Nat} (h : 0 < n) (hi : i < n) : (fin n h i).val = i := Nat.mod_eq_of_lt hi

@[simp] theorem val_clusterOf (a : Fin 128) : (clusterOf a).val = a.val / 16 := val_fin_of_lt _ (by omega)

@[simp] theorem val_linkOf (a : Fin 128) : (linkOf a).val = a.val / 4 :=
  val_fin_of_lt (by decide) (by omega)

@[simp] theorem val_slotOf (a : Fin 128) : (slotOf a).val = a.val % 4 := rfl

@[simp] theorem val_clusterOfLink (l : Fin 32) : (clusterOfLink l).val = l.val / 4 := val_fin_of_lt _ (by omega)

/-- Link and slot together name the axis: quotient and remainder by 4. -/
@[simp] theorem axisAt_linkOf_slotOf (a : Fin 128) : axisAt (linkOf a) (slotOf a).val = a := by
  have division : a.val / 4 * 4 + a.val % 4 % 4 = a.val := by omega
  rw [axisAt, val_linkOf, val_slotOf, division, axisNo_val]

/-- `k` consecutive numbers from `b`, none of them reduced, are the interval from `b` to before `b + k`. -/
theorem mem_map_fin_range_iff {n b k : Nat} (h : 0 < n) (hb : b + k ≤ n) (x : Fin n) :
    x ∈ (List.range k).map (fun i => fin n h (b + i)) ↔ b ≤ x.val ∧ x.val < b + k := by
  simp only [List.mem_map, List.mem_range]
  constructor
  · rintro ⟨i, hi, rfl⟩
    rw [val_fin_of_lt h (by omega)]
    omega
  · rintro ⟨hlo, hhi⟩
    refine ⟨x.val - b, by omega, Fin.ext ?_⟩
    rw [val_fin_of_lt h (by omega)]
    omega

theorem mem_clusterAxes_iff (c : Fin 8) (a : Fin 128) :
    a ∈ clusterAxes c ↔ 16 * c.val ≤ a.val ∧ a.val ≤ 16 * c.val + 15 := by
  have interval := mem_map_fin_range_iff (b := c.val * 16) (k := 16) (by decide) (by omega) a
  rw [clusterAxes]
  exact interval.trans (by omega)

theorem mem_clusterLinks_iff (c : Fin 8) (l : Fin 32) :
    l ∈ clusterLinks c ↔ 4 * c.val ≤ l.val ∧ l.val ≤ 4 * c.val + 3 := by
  have interval := mem_map_fin_range_iff (b := c.val * 4) (k := 4) (by decide) (by omega) l
  rw [clusterLinks]
  exact interval.trans (by omega)

/-- Settles O55: the quotients and the remainder of R12 stay below their bounds, so nothing is reduced, and a cluster's
lists are intervals of consecutive numbers. -/
theorem axesLinksAndClusters : Obligations.AxesLinksAndClusters :=
  ⟨fun a => ⟨val_clusterOf a, val_linkOf a, val_slotOf a, axisAt_linkOf_slotOf a⟩,
    val_clusterOfLink, mem_clusterAxes_iff, mem_clusterLinks_iff⟩

end Sys2Proof.Machine

namespace Sys2Proof.Machine

/-! What an event leaves alone (R44, R46): it writes the host registers and queues, the sessions, the notes of the capture
unit and what leaves the device. -/

theorem State.irqSet_changes (s : State) (st en vec : Word) :
    ∃ h o, s.irqSet st en vec = { s with host := h, out := o } := by
  unfold State.irqSet
  extract_lets s'
  have start : ∃ h o, s' = { s with host := h, out := o } := ⟨_, _, rfl⟩
  split
  · refine State.each_keeps (fun t => ∃ h o, t = { s with host := h, out := o }) _ (fun t v kept => ?_) _ _ start
    obtain ⟨h, o, rfl⟩ := kept
    dsimp only
    split
    · exact ⟨_, _, rfl⟩
    · exact ⟨_, _, rfl⟩
  · exact start

theorem State.queueLocal_changes (s : State) (r : EvtRec) :
    ∃ h o, s.queueLocal r = { s with host := h, out := o } := by
  unfold State.queueLocal
  split
  · obtain ⟨h, o, e⟩ := State.irqSet_changes (s.modHost fun h =>
      { h with evt := h.evt ++ [{ r with lostBefore := h.evtDropped }], evtDropped := false }) _ _ _
    exact ⟨h, o, e⟩
  · exact ⟨_, _, rfl⟩

theorem State.capEvent_changes (s : State) (kind arg : Nat) : ∃ c, s.capEvent kind arg = { s with cap := c } := by
  unfold State.capEvent State.capEventAt
  split <;> exact ⟨_, rfl⟩

theorem State.event_changes (s : State) (code inst data : Nat) :
    ∃ h k c o, s.event code inst data = { s with host := h, sec := k, cap := c, out := o } := by
  unfold State.event State.eventIf
  extract_lets r taken queued
  have hTaken : ∃ h o, taken = { s with host := h, out := o } := by
    unfold taken
    split
    · exact s.queueLocal_changes r
    · exact ⟨_, _, rfl⟩
  obtain ⟨h, o, hTaken⟩ := hTaken
  have hQueued : ∃ k, queued = { s with host := h, sec := k, out := o } := by
    unfold queued
    rw [hTaken]
    exact ⟨_, rfl⟩
  obtain ⟨k, hQueued⟩ := hQueued
  rw [hQueued]
  split
  · obtain ⟨c, e⟩ := State.capEvent_changes { s with host := h, sec := k, out := o } 6 code
    exact ⟨h, k, c, o, e⟩
  · exact ⟨h, k, _, o, rfl⟩

@[simp] theorem State.event_net (s : State) (code inst data : Nat) : (s.event code inst data).net = s.net := by
  obtain ⟨_, _, _, _, e⟩ := s.event_changes code inst data
  rw [e]

@[simp] theorem State.event_flt (s : State) (code inst data : Nat) : (s.event code inst data).flt = s.flt := by
  obtain ⟨_, _, _, _, e⟩ := s.event_changes code inst data
  rw [e]

@[simp] theorem State.event_axes (s : State) (code inst data : Nat) : (s.event code inst data).axes = s.axes := by
  obtain ⟨_, _, _, _, e⟩ := s.event_changes code inst data
  rw [e]

theorem State.event_aonN (s : State) (code inst data id : Nat) : (s.event code inst data).aonN id = s.aonN id := by
  obtain ⟨_, _, _, _, e⟩ := s.event_changes code inst data
  rw [e]
  rfl

/-! One line port changes (R349), and the rest of the networks stands. -/

@[simp] theorem State.modNetPort_axes (s : State) (port : Fin 4) (f : NetPort → NetPort) :
    (s.modNetPort port f).axes = s.axes := rfl

@[simp] theorem State.modNetPort_flt (s : State) (port : Fin 4) (f : NetPort → NetPort) :
    (s.modNetPort port f).flt = s.flt := rfl

theorem State.modNetPort_aonN (s : State) (port : Fin 4) (f : NetPort → NetPort) (id : Nat) :
    (s.modNetPort port f).aonN id = s.aonN id := rfl

theorem State.modNetPort_self (s : State) (port : Fin 4) (f : NetPort → NetPort) :
    (s.modNetPort port f).net.ports[port] = f s.net.ports[port] := vector_set_self _ _ _

theorem State.modNetPort_of_ne (s : State) {port q : Fin 4} (f : NetPort → NetPort) (h : q ≠ port) :
    (s.modNetPort port f).net.ports[q] = s.net.ports[q] :=
  (vector_set_get _ _ _ _).trans (if_neg h.symm)

/-! Frames at a port (R351, R352, R383). -/

theorem execEthFrameReceive_ignored {port : Fin 4} {fcs : Bool} {bytes : List Byte} {tm : Nat} {s : State}
    (h : fcs = false ∨ (s.adv tm).drainPorts.portOk port.val = false ∨ 2000 < bytes.length + 4) :
    execEthFrameReceive port fcs bytes tm s = .next (s.adv tm).drainPorts := by
  have ignored : ((s.adv tm).drainPorts.portOk port.val && fcs && decide (bytes.length + 4 ≤ 2000)) = false := by
    rcases h with bad | closed | long
    · simp only [bad, Bool.and_false, Bool.false_and]
    · simp only [closed, Bool.false_and]
    · simp only [Nat.not_le.mpr long, decide_false, Bool.and_false]
  simp only [execEthFrameReceive, ignored, Bool.false_eq_true, if_false]

theorem execEthFrameReceive_taken {port : Fin 4} {bytes : List Byte} {tm : Nat} {on host : Bool} {rx : Rat} {u s : State}
    (hu : u = (s.adv tm).drainPorts) (ok : u.portOk port.val = true) (short : bytes.length + 4 ≤ 2000)
    (way : u.route port (ethHead bytes) = (on, host))
    (hrx : rx = (tm : Rat) - (u.aonN (Pid.netPPhyRx port.val) : Rat) / 1000) :
    execEthFrameReceive port true bytes tm s =
      .next (if host then (if on then u.passOn port bytes rx else u).toHost port bytes rx
        else if on then u.passOn port bytes rx else u) := by
  simp only [execEthFrameReceive, ← hu, ok, short, way, ← hrx, decide_true, Bool.and_self, if_true]

/-! The link of a port (R349, R383). -/

/-- A port whose link has come, with the in-band status of its PHY. -/
def NetPort.risen (since speed : Nat) (full : Bool) (x : NetPort) : NetPort :=
  { x with link := true, linkAt := since, inband := speed, full := full, gig := speed == 3 }

/-- A port without link: its in-band status and the frames that waited are gone. -/
def NetPort.fallen (x : NetPort) : NetPort :=
  { x with link := false, gig := false, inband := 0, full := false, configErr := false, queue := [] }

theorem execPortUp_of_down {port : Fin 4} (speed : Fin 4) (full : Bool) {tm : Nat} {s : State}
    (powered : s.domainOn (10 + netOf port.val) = true) (down : (s.net.ports[port]).link = false) :
    execPortUp port speed full tm s =
      .next (if speed.val = 0 then (s.adv tm).modNetPort port (NetPort.risen (max s.nt tm) speed.val full)
        else ((s.adv tm).modNetPort port (NetPort.risen (max s.nt tm) speed.val full)).event 0x3081 0
          (port.val + b2n (speed.val == 3) * 4)) := by
  have powered' : (s.adv tm).domainOn (10 + netOf port.val) = true := powered
  have down' : ((s.adv tm).net.ports[port]).link = false := down
  simp only [execPortUp, powered', down', Bool.not_true, Bool.false_and, Bool.or_false, Bool.false_eq_true, if_false]
  rfl

theorem portUp_reports {port : Fin 4} (speed : Fin 4) (full : Bool) {tm : Nat} {s : State}
    (powered : s.domainOn (10 + netOf port.val) = true) (down : (s.net.ports[port]).link = false)
    (known : speed.val ≠ 0) :
    ∃ u : State, execPortUp port speed full tm s = .next (u.event 0x3081 0 (port.val + b2n (speed.val == 3) * 4)) ∧
      (u.net.ports[port]).link = true ∧ (u.net.ports[port]).linkAt = max s.nt tm ∧
      (u.net.ports[port]).gig = (speed.val == 3) ∧ (u.net.ports[port]).full = full ∧ u.axes = s.axes ∧
      ∀ q : Fin 4, q ≠ port → u.net.ports[q] = s.net.ports[q] := by
  refine ⟨(s.adv tm).modNetPort port (NetPort.risen (max s.nt tm) speed.val full), ?_, ?_⟩
  · rw [execPortUp_of_down speed full powered down, if_neg known]
  · rw [State.modNetPort_self]
    exact ⟨rfl, rfl, rfl, rfl, rfl, fun q other => State.modNetPort_of_ne (s.adv tm) _ other⟩

theorem execPortDown_of_up {port : Fin 4} {tm : Nat} {s : State} (up : (s.net.ports[port]).link = true)
    (enabled : s.aonN (Pid.netPEnable port.val) = 1) :
    execPortDown port tm s =
      .next ((((s.adv tm).modNetPort port NetPort.fallen).event 0x3082 0 port.val).raise 0x3001 0 []) := by
  have enabled' : (((s.adv tm).modNetPort port NetPort.fallen).event 0x3082 0 port.val).aonN
      (Pid.netPEnable port.val) = 1 := by
    rw [State.event_aonN, State.modNetPort_aonN]
    exact enabled
  refine (if_pos up).trans ?_
  exact congrArg _ (if_pos enabled')

theorem portDown_raises {port : Fin 4} {tm : Nat} {s : State} (up : (s.net.ports[port]).link = true)
    (enabled : s.aonN (Pid.netPEnable port.val) = 1) :
    ∃ u : State, execPortDown port tm s = .next (u.raise 0x3001 0 []) ∧ (u.net.ports[port]).link = false ∧
      (u.net.ports[port]).queue = [] ∧ u.flt = s.flt ∧ u.axes = s.axes := by
  refine ⟨_, execPortDown_of_up up enabled, ?_⟩
  rw [State.event_net, State.event_flt, State.event_axes, State.modNetPort_self]
  exact ⟨rfl, rfl, rfl, rfl⟩

theorem execPortDown_of_down {port : Fin 4} {tm : Nat} {s : State} (down : (s.net.ports[port]).link = false) :
    execPortDown port tm s = .next (s.adv tm) :=
  if_neg fun up => Bool.false_ne_true (down.symm.trans up)

/-- A mode that the MAC does not take: 10 Mbit/s, or a known speed in half duplex. -/
theorem execPortConfig_of_refused_mode {port : Fin 4} {tm : Nat} {s : State}
    (up : (s.net.ports[port]).link = true) (fresh : (s.net.ports[port]).configErr = false)
    (mode : (s.net.ports[port]).inband = 1 ∨ ((s.net.ports[port]).inband ≠ 0 ∧ (s.net.ports[port]).full = false)) :
    execPortConfig port tm s =
      .next (((s.adv tm).modNetPort port fun x => { x with configErr := true }).raise 0x3008 0 []) := by
  have known : (s.net.ports[port]).inband ≠ 0 := by
    rcases mode with ten | ⟨known, -⟩
    · rw [ten]; decide
    · exact known
  have bad : ((s.net.ports[port]).inband == 1 || !(s.net.ports[port]).full) = true := by
    rcases mode with ten | ⟨-, half⟩
    · rw [ten]; rfl
    · rw [half, Bool.not_false, Bool.or_true]
  refine if_pos ?_
  simp only [State.adv_net, up, fresh, known, bad, if_false, Bool.not_false, Bool.and_self]

/-! Gate cycles (R354), and the counts of ports and networks (R23, R353, R358, R368, R369). -/

theorem execGclCycleStart_at_cycle {port : Fin 4} {tm c : Nat} {u s : State} (hu : u = (s.adv tm).drainPorts)
    (hc : u.aonN (Pid.netPGclCycle port.val) = c) (on : c ≠ 0) (start : u.nt % c = 0) :
    execGclCycleStart port tm s = .next (u.modNetPort port fun x => { x with
      gclCycle := c, gcl := (List.range 16).map fun i => u.aonN (Pid.netPGcl port.val i) }).drainPorts := by
  simp only [execGclCycleStart, ← hu, hc, on, start, if_false, ne_eq, not_false_eq_true, and_self, if_true]

theorem execNetDrop_of_many {port : Fin 4} {tm : Nat} {s : State}
    (many : 100 < (within (secs 1) (max s.nt tm) (s.net.ports[port]).dropAt).length) :
    execNetDrop port tm s = .next ((s.adv tm).raise 0x3009 0 []) := congrArg _ (if_pos many)

theorem execTsqOverflow_of_many {tm : Nat} {s : State} (many : 10 < (within (secs 1) (max s.nt tm) s.net.tsqAt).length) :
    execTsqOverflow tm s = .next ((s.adv tm).raise 0x3005 0 []) := congrArg _ (if_pos many)

theorem execAuthFail_of_many {port : Fin 4} {tm : Nat} {s : State}
    (many : 10 < (within (secs 1) (max s.nt tm) (s.net.ports[port]).authAt).length) :
    execAuthFail port tm s = .next ((s.adv tm).raise 0x3004 0 []) := congrArg _ (if_pos many)

theorem execTickUnaligned_lasting {tm t0 : Nat} {s : State} (since : s.frame.unalignedFrom = some t0)
    (operates : s.pwr.state = .operate) (off : s.aligned = false) (lasted : t0 + secs 1 ≤ max s.nt tm) :
    execTickUnaligned tm s = .next ((s.adv tm).raise 0x0203 0 []) := by
  have off' : (s.adv tm).aligned = false := off
  simp only [execTickUnaligned, State.adv_frame, since, State.adv_pwr, operates, off', State.adv_nt, lasted, beq_self_eq_true,
    Bool.not_false, decide_true, Bool.and_self, if_true]

theorem execCycOneNetwork_missing {tm : Nat} {s : State} (dual : s.pN Pid.cycDual = 1)
    (missing : (s.net.copies.any fun c => c.oneNet s.frame.fc && !c.raised) = true) :
    execCycOneNetwork tm s = .next (((s.adv tm).modNet fun n => { n with
      copies := n.copies.map fun c => { c with raised := c.oneNet s.frame.fc } }).raise 0x3006 0 []) := by
  have dual' : (s.adv tm).pN Pid.cycDual = 1 := dual
  refine if_pos ?_
  simp only [dual', State.adv_net, State.adv_frame, missing, decide_true, Bool.and_self]

/-- Settles O35: each clause is one branch of its command's meaning; what the link commands report leaves the other ports,
the axes and the fault log as they were, because an event writes none of them. -/
theorem portsAndSwitch : Obligations.PortsAndSwitch := by
  unfold Obligations.PortsAndSwitch
  refine ⟨?ignored, ?toHost, ?gigUp, ?downRaises, ?downIdle, ?config, ?drop, ?gate, ?stampsGo, ?overflow, ?auth,
    ?unaligned, ?oneNetwork, ?taken, ?slowUp, ?blindUp⟩
  case ignored => exact fun _ _ _ _ _ => execEthFrameReceive_ignored
  case toHost => exact fun _ _ _ _ _ _ => execEthFrameReceive_taken
  case gigUp => exact fun _ full _ _ powered down => portUp_reports 3 full powered down (by decide)
  case downRaises => exact fun _ _ _ => portDown_raises
  case downIdle => exact fun _ _ _ => execPortDown_of_down
  case config => exact fun _ _ _ => execPortConfig_of_refused_mode
  case drop => exact fun _ _ _ => execNetDrop_of_many
  case gate => exact fun _ _ _ _ _ => execGclCycleStart_at_cycle
  case stampsGo => exact fun _ _ _ => rfl
  case overflow => exact fun _ _ => execTsqOverflow_of_many
  case auth => exact fun _ _ _ => execAuthFail_of_many
  case unaligned => exact fun _ _ _ => execTickUnaligned_lasting
  case oneNetwork => exact fun _ _ => execCycOneNetwork_missing
  case taken =>
    intro port bytes tm on host rx u s hu ok short way hrx
    exact ⟨_, execEthFrameReceive_taken hu ok short way hrx, rfl⟩
  case slowUp =>
    intro port speed full tm s powered down low high
    have slow : (speed.val == 3) = false := beq_eq_false_iff_ne.mpr (by omega)
    have reports := portUp_reports speed full (tm := tm) powered down (by omega)
    rw [slow] at reports
    exact reports
  case blindUp => exact fun _ full _ _ powered down => execPortUp_of_down 0 full powered down

end Sys2Proof.Machine

namespace Sys2Proof.Machine

/-! ## What leaves the addressed memories as they are (R39, R47, R63, R338)

Nearly every operation of the model writes no mailbox buffer, no process image bank and no word of the carafe. One
equation
per operation says so, in the order of the model's definitions, so that each follows from those of the operations it
calls;
the few operations that write a memory come after them. -/

/-- Pairs of mailbox buffers (command, response), the two process image banks with the one last taken, and the
carafe. -/
abbrev Memories := Vector (Mem × Mem) 16 × (Mem × Mem × Mem) × List (Nat × Word)

/-- The contents of the addressed memories: the mailbox buffers, the process image banks and the carafe. -/
def State.memories (s : State) : Memories :=
  (s.mbx.map fun b => (b.cmd, b.resp), (s.pi.bankA, s.pi.bankB, s.pi.prev), s.cap.carafe)

@[simp] theorem State.modHost_memories (s : State) (f : HostSt → HostSt) : (s.modHost f).memories = s.memories := (rfl)
@[simp] theorem State.modPar_memories (s : State) (f : ParSt → ParSt) : (s.modPar f).memories = s.memories := (rfl)
@[simp] theorem State.modFlt_memories (s : State) (f : FaultSt → FaultSt) : (s.modFlt f).memories = s.memories := (rfl)
@[simp] theorem State.modPwr_memories (s : State) (f : PwrSt → PwrSt) : (s.modPwr f).memories = s.memories := (rfl)
@[simp] theorem State.modSec_memories (s : State) (f : SecSt → SecSt) : (s.modSec f).memories = s.memories := (rfl)
@[simp] theorem State.modFrame_memories (s : State) (f : FrameSt → FrameSt) :
    (s.modFrame f).memories = s.memories := (rfl)
@[simp] theorem State.modTrk_memories (s : State) (f : TrkSt → TrkSt) : (s.modTrk f).memories = s.memories := (rfl)
@[simp] theorem State.modFio_memories (s : State) (f : FioSt → FioSt) : (s.modFio f).memories = s.memories := (rfl)
@[simp] theorem State.modNet_memories (s : State) (f : NetSt → NetSt) : (s.modNet f).memories = s.memories := (rfl)
@[simp] theorem State.modTwin_memories (s : State) (f : TwinSt → TwinSt) : (s.modTwin f).memories = s.memories := (rfl)
@[simp] theorem State.modSaf_memories (s : State) (f : SafSt → SafSt) : (s.modSaf f).memories = s.memories := (rfl)
@[simp] theorem State.modAge_memories (s : State) (f : AgeSt → AgeSt) : (s.modAge f).memories = s.memories := (rfl)
@[simp] theorem State.modLink_memories (s : State) (l : Fin 32) (f : LinkSt → LinkSt) :
    (s.modLink l f).memories = s.memories := (rfl)
@[simp] theorem State.modAxis_memories (s : State) (a : Fin 128) (f : Axis → Axis) :
    (s.modAxis a f).memories = s.memories := (rfl)
@[simp] theorem State.modPin_memories (s : State) (p : Fin 8) (f : PinSt → PinSt) :
    (s.modPin p f).memories = s.memories := (rfl)
@[simp] theorem State.modPort_memories (s : State) (p : Fin 4) (f : PortSt → PortSt) :
    (s.modPort p f).memories = s.memories := (rfl)
@[simp] theorem State.adv_memories (s : State) (tm : Nat) : (s.adv tm).memories = s.memories := (rfl)
@[simp] theorem State.emit_memories (s : State) (o : Out) : (s.emit o).memories = s.memories := (rfl)
@[simp] theorem State.drawNat_memories (s : State) : s.drawNat.2.memories = s.memories := (rfl)
@[simp] theorem State.drawBool_memories (s : State) : s.drawBool.2.memories = s.memories := (rfl)
@[simp] theorem State.drawRat_memories (s : State) : s.drawRat.2.memories = s.memories := (rfl)

theorem fst_of_eq {α β : Type} {p : α × β} {a : α} {b : β} (h : p = (a, b)) : p.1 = a := congrArg Prod.fst h

theorem vector_map_set_of_eq {α β : Type} {n : Nat} (g : α → β) (v : Vector α n) (i : Fin n) (x : α)
    (h : g x = g v[i]) :
    (v.set i x).map g = v.map g := by
  ext k hk
  by_cases e : i.val = k
  · subst e; simp [h]
  · simp [e]

@[simp] theorem State.modMbx_memories {f : Mbx → Mbx} (h : ∀ b, ((f b).cmd, (f b).resp) = (b.cmd, b.resp)) (s : State)
    (m : Fin 16) : (s.modMbx m f).memories = s.memories := by
  simp only [State.memories, State.modMbx_mbx, State.modMbx_pi, State.modMbx_cap]
  rw [vector_map_set_of_eq _ _ _ _ (h _)]

@[simp] theorem State.modPi_memories {f : PiSt → PiSt}
    (h : ∀ p, ((f p).bankA, (f p).bankB, (f p).prev) = (p.bankA, p.bankB, p.prev)) (s : State) :
    (s.modPi f).memories = s.memories := by
  simp only [State.memories, State.modPi, h]

@[simp] theorem State.modCap_memories {f : CapSt → CapSt} (h : ∀ c, (f c).carafe = c.carafe) (s : State) :
    (s.modCap f).memories = s.memories := by
  simp only [State.memories, State.modCap, h]

@[simp] theorem State.each_memories {α : Type} {f : State → α → State} (h : ∀ t x, (f t x).memories = t.memories)
    (s : State) (l : List α) : (s.each l f).memories = s.memories :=
  State.each_same State.memories f h l s

theorem State.foldl_memories {α : Type} {f : State → α → State} (h : ∀ t x, (f t x).memories = t.memories)
    (l : List α) (s : State) : (l.foldl f s).memories = s.memories := State.each_memories h s l

@[simp] theorem State.ite_memories {c : Prop} [Decidable c] (s t : State) :
    (if c then s else t).memories = if c then s.memories else t.memories := apply_ite _ _ _ _

/-- The memories in the state that an outcome goes on with. -/
def memoriesAfter : Host.Outcome State Fault Refusal → Option Memories
  | .next t => some t.memories
  | .fault _ | .refused _ => none

@[simp] theorem memoriesAfter_next (t : State) : memoriesAfter (.next t) = some t.memories := (rfl)
@[simp] theorem memoriesAfter_ite {c : Prop} [Decidable c] (o p : Host.Outcome State Fault Refusal) :
    memoriesAfter (if c then o else p) = if c then memoriesAfter o else memoriesAfter p := apply_ite _ _ _ _

/-- What a command comes to leaves the memories of `s`. -/
def Served.Keeps (s : State) : Served → Prop
  | .fail _ _ _ => True
  | .failed t _ | .done t _ | .wait t _ => t.memories = s.memories
theorem Served.keeps_of_memories_eq {s t : State} {r : Served} (e : t.memories = s.memories) (h : r.Keeps t) :
    r.Keeps s := by
  cases r with
  | fail st d p => trivial
  | failed u st => exact Eq.trans h e
  | done u p => exact Eq.trans h e
  | wait u w => exact Eq.trans h e
@[simp] theorem Served.keeps_fail (s : State) (a b p) : (Served.fail a b p).Keeps s := trivial
@[simp] theorem Served.keeps_failed (s t : State) (a) : (Served.failed t a).Keeps s ↔ t.memories = s.memories := Iff.rfl
@[simp] theorem Served.keeps_done (s t : State) (a) : (Served.done t a).Keeps s ↔ t.memories = s.memories := Iff.rfl
@[simp] theorem Served.keeps_wait (s t : State) (a) : (Served.wait t a).Keeps s ↔ t.memories = s.memories := Iff.rfl
@[simp] theorem Served.keeps_ite (s : State) {c : Prop} [Decidable c] (o p : Served) :
    (if c then o else p).Keeps s ↔ if c then o.Keeps s else p.Keeps s := by split <;> rfl
theorem Served.keeps_ite_of {s : State} {c : Prop} [Decidable c] {o p : Served} (ho : c → o.Keeps s)
    (hp : ¬c → p.Keeps s) :
    (if c then o else p).Keeps s := by
  split
  next h => exact ho h
  next h => exact hp h
@[simp] theorem Served.keeps_withState {s : State} {r : Served} (h : r.Keeps s) (bad : Bool) :
    (withState bad r).Keeps s := by
  unfold withState
  split
  · exact h
  · split
    · split <;> trivial
    all_goals trivial

/-! Serving a mailbox command (R49 to R55). -/

@[simp] theorem State.answer_memories (s : State) (m : Fin 16) (st d : Nat) (p : List Byte) :
    (s.answer m st d p).memories = s.memories := by
  simp [State.answer]

theorem State.settle_memories {s : State} {m : Fin 16} {r : Served} (h : r.Keeps s) :
    (s.settle m r).memories = s.memories := by
  cases r with
  | fail st d p => simp [State.settle]
  | failed t st => simpa [State.settle] using h
  | done t p => simpa [State.settle] using h
  | wait t w => simpa [State.settle] using h

@[simp] theorem State.serve_memories {s : State} {m : Fin 16} {tm op right : Nat} {hit : List Byte → Bool}
    {act : State → List Byte → Served} {busy : State → List Byte → Bool} (h : ∀ t p, (act t p).Keeps t) :
    (s.serve m tm op hit right act busy).memories = s.memories := by
  unfold State.serve
  extract_lets t pay st
  split
  · refine State.settle_memories ?_
    split
    · trivial
    · split
      · trivial
      · exact h t pay
  · rfl

@[simp] theorem State.serveCall_memories {s : State} {m : Fin 16} {tm id n : Nat} {act : State → List Byte → Served}
    {busy : State → Bool} (h : ∀ t p, (act t p).Keeps t) : (s.serveCall m tm id n act busy).memories = s.memories := by
  refine State.serve_memories fun t p => ?_
  split
  · trivial
  · exact Served.keeps_withState (h t _) _

@[simp] theorem State.serveAxis_memories {s : State} {m : Fin 16} {tm cls idx n : Nat}
    {act : Fin 128 → State → List Byte → Served} {busy : Fin 128 → State → Bool} (h : ∀ a t p, (act a t p).Keeps t) :
    (s.serveAxis m tm cls idx n act busy).memories = s.memories := by
  refine State.serve_memories fun t p => ?_
  split
  · trivial
  · exact Served.keeps_withState (h _ t _) _

/-! ### Operations of `Machine/Flags` -/

@[simp] theorem State.irqSet_memories (s : State) (st en vec : Word) :
    (s.irqSet st en vec).memories = s.memories := by
  simp [State.irqSet]

@[simp] theorem State.irq_memories (s : State) (b : Word) : (s.irq b).memories = s.memories := by
  simp [State.irq]

@[simp] theorem State.queueLocal_memories (s : State) (r : EvtRec) : (s.queueLocal r).memories = s.memories := by
  simp [State.queueLocal]

@[simp] theorem State.queueNet_memories (s : State) (r : EvtRec) (always : Bool) :
    (s.queueNet r always).memories = s.memories := (rfl)

@[simp] theorem State.capEventAt_memories (s : State) (kind arg tm : Nat) :
    (s.capEventAt kind arg tm).memories = s.memories := by
  unfold State.capEventAt
  split <;> simp

@[simp] theorem State.capEvent_memories (s : State) (kind arg : Nat) :
    (s.capEvent kind arg).memories = s.memories := by
  simp [State.capEvent]

@[simp] theorem State.eventIf_memories (s : State) (always : Bool) (code inst data : Nat) :
    (s.eventIf always code inst data).memories = s.memories := by
  simp [State.eventIf]

@[simp] theorem State.event_memories (s : State) (code inst data : Nat) :
    (s.event code inst data).memories = s.memories := by
  simp [State.event]

/-! ### Operations of `Machine/Faults` -/

@[simp] theorem State.raiseAt_memories (s : State) (code inst : Nat) (targets : List (Fin 128)) (data dflt : Nat)
    (fixed : Bool) : (s.raiseAt code inst targets data dflt fixed).memories = s.memories := by
  unfold State.raiseAt
  split
  split
  · simp
  · split
    · simp
    · extract_lets merged preempt firstAx firstCl e
      split
      extract_lets p f' f'' t u top v w
      have stored : t.memories = s.memories := rfl
      simp [w, v, u, stored]

@[simp] theorem State.raise_memories (s : State) (code inst : Nat) (targets : List (Fin 128)) (data : Nat) :
    (s.raise code inst targets data).memories = s.memories := by
  simp [State.raise]

@[simp] theorem State.raiseAx_memories (s : State) (code : Nat) (a : Fin 128) :
    (s.raiseAx code a).memories = s.memories := by
  simp [State.raiseAx]

@[simp] theorem State.clearApply_memories (s : State) : s.clearApply.memories = s.memories := by
  simp [State.clearApply]

@[simp] theorem State.linkEvent_memories (s : State) (code : Nat) (l : Fin 32) :
    (s.linkEvent code l).memories = s.memories := by
  simp [State.linkEvent]

@[simp] theorem State.leavesUp_memories (s : State) (l : Fin 32) : (s.leavesUp l).memories = s.memories := by
  simp [State.leavesUp]

@[simp] theorem State.retrainLink_memories (s : State) (l : Fin 32) : (s.retrainLink l).memories = s.memories := by
  simp [State.retrainLink]

@[simp] theorem State.linkSend_memories (s : State) (l : Fin 32) (syms : List Sym) :
    (s.linkSend l syms).memories = s.memories := (rfl)

@[simp] theorem State.cutTx_memories (s : State) (l : Fin 32) : (s.cutTx l).memories = s.memories := by
  simp [State.cutTx]

@[simp] theorem State.sendKills_memories (s : State) (l : Fin 32) (mask : BitVec 4) (n : Nat) :
    (s.sendKills l mask n).memories = s.memories := by
  simp [State.sendKills]

@[simp] theorem State.sendKill_memories (s : State) (l : Fin 32) (mask : BitVec 4) :
    (s.sendKill l mask).memories = s.memories := by
  simp [State.sendKill]

@[simp] theorem State.axesSto_memories (s : State) (as_ : List (Fin 128)) :
    (s.axesSto as_).memories = s.memories := by
  simp [State.axesSto]

@[simp] theorem State.killLinks_memories (s : State) (ls : List (Fin 32)) :
    (s.killLinks ls).memories = s.memories := by
  simp [State.killLinks]

/-! ### Operations of `Machine/Sessions` -/

@[simp] theorem State.modSession_memories (s : State) (sid : Nat) (f : Session → Session) :
    (s.modSession sid f).memories = s.memories := (rfl)

@[simp] theorem State.sendSession_memories (s : State) (x : Session) (frame : List Byte) :
    (s.sendSession x frame).memories = s.memories := (rfl)

@[simp] theorem State.lateAnswer_memories (s : State) (m id st : Nat) (pay : List Byte) :
    (s.lateAnswer m id st pay).memories = s.memories := by
  simp [State.lateAnswer]

@[simp] theorem State.varItem_memories (s : State) (kind : Nat) (f : List Nat) :
    (s.varItem kind f).memories = s.memories := by
  simp [State.varItem]

@[simp] theorem State.callDone_memories (s : State) (id status : Nat) (payload : List Byte) :
    (s.callDone id status payload).memories = s.memories := by
  unfold State.callDone
  split <;> simp

/-! ### Operations of `Machine/HostOps` -/

@[simp] theorem State.alignWatch_memories (s : State) : s.alignWatch.memories = s.memories := (rfl)

@[simp] theorem State.latchHigh_memories (s : State) (p : Path) (off : Nat) :
    (s.latchHigh p off).memories = s.memories := (rfl)

@[simp] theorem State.clearLost_memories (s : State) : s.clearLost.memories = s.memories := (rfl)

@[simp] theorem State.readWord_memories (s : State) (p : Path) (off : Nat) :
    (s.readWord p off).2.memories = s.memories := by
  simp [State.readWord]

@[simp] theorem State.readWords_memories (p : Path) (off n : Nat) (s : State) :
    (s.readWords p off n).2.memories = s.memories := by
  induction n generalizing s off with
  | zero => rfl
  | succ n ih => simp [State.readWords, ih]

@[simp] theorem State.irqClear_memories (s : State) (v : Word) : (s.irqClear v).memories = s.memories := by
  simp [State.irqClear]

@[simp] theorem State.kick_memories (s : State) : s.kick.memories = s.memories := (rfl)

@[simp] theorem State.evtPop_memories (s : State) : s.evtPop.memories = s.memories := (rfl)

@[simp] theorem State.snapshot_memories (s : State) (tick : Bool) : (s.snapshot tick).memories = s.memories := by
  simp [State.snapshot]

@[simp] theorem State.piCtrl_memories (s : State) (v : Word) : (s.piCtrl v).memories = s.memories := (rfl)

@[simp] theorem State.piHand_memories (s : State) (p : Path) : (s.piHand p).memories = s.memories := by
  simp [State.piHand]

@[simp] theorem State.piDiscard_memories (s : State) : s.piDiscard.memories = s.memories := by
  simp [State.piDiscard]

@[simp] theorem State.mbxClaim_memories (s : State) (p : Path) (m : Fin 16) :
    (s.mbxClaim p m).memories = s.memories := by
  simp [State.mbxClaim]

@[simp] theorem State.doorbell_memories (s : State) (p : Path) (m : Fin 16) :
    (s.doorbell p m).memories = s.memories := by
  simp [State.doorbell]
  split <;> simp

/-! ### Operations of `Machine/LineEncoder` -/

@[simp] theorem execLineEncoderLatch_memories (s : State) :
    memoriesAfter (execLineEncoderLatch s) = some s.memories := (rfl)

@[simp] theorem execLeEdge_memories (port : Fin 4) (a b : Bool) (tm : Nat) (s : State) :
    memoriesAfter (execLeEdge port a b tm s) = some s.memories := by
  simp [execLeEdge]

@[simp] theorem execLeZEdge_memories (port : Fin 4) (tm : Nat) (s : State) :
    memoriesAfter (execLeZEdge port tm s) = some s.memories := by
  simp [execLeZEdge]

@[simp] theorem execLeSignal_memories (port : Fin 4) (wire : Bool) (tm : Nat) (s : State) :
    memoriesAfter (execLeSignal port wire tm s) = some s.memories := by
  simp [execLeSignal]

/-! ### Operations of `Machine/ParamCheck` -/

@[simp] theorem State.freeze_memories (s : State) (cls inst : Nat) : (s.freeze cls inst).memories = s.memories := by
  refine State.each_memories (fun t x => ?_) _ _
  split <;> rfl

@[simp] theorem State.rederive_memories (s : State) (cls inst : Nat) :
    (s.rederive cls inst).memories = s.memories := (rfl)

@[simp] theorem State.spreadM_memories (old s : State) (a : Fin 128) : (old.spreadM s a).memories = s.memories := by
  simp [State.spreadM]

@[simp] theorem State.applyEntry_memories (s : State) (e : Nat × PVal) : (s.applyEntry e).memories = s.memories := by
  simp [State.applyEntry]

@[simp] theorem State.applyGroup_memories (s : State) (es : List (Nat × PVal)) :
    (s.applyGroup es).memories = s.memories := by
  simp [State.applyGroup]

/-! ### Operations of `Machine/Mailbox` -/

@[simp] theorem State.serveUnknown_memories (s : State) (m : Fin 16) : (s.serveUnknown m).memories = s.memories := by
  simp [State.serveUnknown]

@[simp] theorem State.markReady_memories (s : State) (m : Option Nat) (vals : List (Nat × PVal)) :
    (s.markReady m vals).memories = s.memories := (rfl)

@[simp] theorem State.setGroup_memories (s : State) (m : Fin 16) (es : Option (List SetEntry)) :
    (s.setGroup m es).Keeps s := by
  unfold State.setGroup
  split <;> simp

/-! ### Operations of `Machine/Feedback` -/

@[simp] theorem State.shiftPos_memories (s : State) (a : Fin 128) (d : Int) :
    (s.shiftPos a d).memories = s.memories := (rfl)

@[simp] theorem State.shiftOffset_memories (s : State) (a : Fin 128) (d : Int) :
    (s.shiftOffset a d).memories = s.memories := (rfl)

@[simp] theorem State.applySetPos_memories (s : State) (a : Fin 128) : (s.applySetPos a).memories = s.memories := by
  unfold State.applySetPos
  split <;> simp

@[simp] theorem State.feedback_memories (s : State) (a : Fin 128) (recs : List Stamped) :
    (s.feedback a recs).memories = s.memories := by
  simp [State.feedback]

@[simp] theorem State.loseFeedback_memories (s : State) (code : Nat) (a : Fin 128) :
    (s.loseFeedback code a).memories = s.memories := by
  simp [State.loseFeedback]

@[simp] theorem execFbkLost_memories (a : Fin 128) (tm : Nat) (s : State) :
    memoriesAfter (execFbkLost a tm s) = some s.memories := by
  simp [execFbkLost]

@[simp] theorem execFbkFrozen_memories (a : Fin 128) (tm : Nat) (s : State) :
    memoriesAfter (execFbkFrozen a tm s) = some s.memories := by
  simp only [execFbkFrozen]
  repeat' split
  all_goals simp

@[simp] theorem execZeroTimeout_memories (a : Fin 128) (tm : Nat) (s : State) :
    memoriesAfter (execZeroTimeout a tm s) = some s.memories := by
  simp [execZeroTimeout]

@[simp] theorem execAxFbkSetPos_memories (m : Fin 16) (tm : Nat) (s : State) :
    memoriesAfter (execAxFbkSetPos m tm s) = some s.memories := by
  simp [execAxFbkSetPos]

@[simp] theorem State.setPosTick_memories (s : State) : s.setPosTick.memories = s.memories := (rfl)

/-! ### Operations of `Machine/Files` -/

@[simp] theorem State.takeBundle_memories (s : State) (bs : List Byte) :
    (s.takeBundle bs).2.memories = s.memories := by
  simp only [State.takeBundle]
  repeat' split
  all_goals simp

@[simp] theorem State.closeWrite_memories (s : State) (f : FileName) (bs : List Byte) :
    (s.closeWrite f bs).2.memories = s.memories := by
  cases f with
  | secBundle => exact s.takeBundle_memories bs
  | capMask => exact State.modCap_memories (fun _ => by rfl) s
  | _ => rfl

/-! ### Operations of `Machine/Commands` -/

@[simp] theorem execGet_memories (m : Fin 16) (tm : Nat) (s : State) :
    memoriesAfter (execGet m tm s) = some s.memories := by
  simp [execGet]

@[simp] theorem execGetMulti_memories (m : Fin 16) (tm : Nat) (s : State) :
    memoriesAfter (execGetMulti m tm s) = some s.memories := by
  simp [execGetMulti]

@[simp] theorem execSet_memories (m : Fin 16) (tm : Nat) (s : State) :
    memoriesAfter (execSet m tm s) = some s.memories := by
  refine congrArg some (State.serve_memories fun t p => ?_)
  have kept := t.setGroup_memories m (parseEntries 1 p)
  split <;> simp_all [Served.Keeps]

@[simp] theorem execSetMulti_memories (m : Fin 16) (tm : Nat) (s : State) :
    memoriesAfter (execSetMulti m tm s) = some s.memories := by
  simp [execSetMulti]

@[simp] theorem execSubscribe_memories (m : Fin 16) (tm : Nat) (s : State) :
    memoriesAfter (execSubscribe m tm s) = some s.memories := by
  refine congrArg some (State.serve_memories fun t p => ?_)
  extract_lets n es go
  split
  · trivial
  · cases t.mbx[m].owner with
    | pcie => dsimp only; split <;> simp
    | qspi => dsimp only; split <;> simp
    | net =>
      dsimp only
      split
      · trivial
      · split <;> simp
    | free => trivial

@[simp] theorem execFileOpen_memories (m : Fin 16) (tm : Nat) (s : State) :
    memoriesAfter (execFileOpen m tm s) = some s.memories := by
  refine congrArg some (State.serve_memories fun t p => ?_)
  extract_lets n
  split
  · trivial
  · split
    · trivial
    · extract_lets opened u
      have opens (u : State) (wr : Bool) (bs : List Byte) : (opened u wr bs).Keeps u := rfl
      split
      · split
        · exact opens _ _ _
        · trivial
      · split
        · exact Served.keeps_of_memories_eq (by unfold u; split <;> rfl) (opens u _ _)
        · trivial

@[simp] theorem execFileWrite_memories (m : Fin 16) (tm : Nat) (s : State) :
    memoriesAfter (execFileWrite m tm s) = some s.memories := by
  refine congrArg some (State.serve_memories fun t p => ?_)
  split <;> simp

@[simp] theorem execFileRead_memories (m : Fin 16) (tm : Nat) (s : State) :
    memoriesAfter (execFileRead m tm s) = some s.memories := by
  refine congrArg some (State.serve_memories fun t p => ?_)
  split <;> simp

@[simp] theorem execFileClose_memories (m : Fin 16) (tm : Nat) (s : State) :
    memoriesAfter (execFileClose m tm s) = some s.memories := by
  refine congrArg some (State.serve_memories fun t p => ?_)
  split <;> simp

@[simp] theorem execEcho_memories (m : Fin 16) (tm : Nat) (s : State) :
    memoriesAfter (execEcho m tm s) = some s.memories := by
  simp [execEcho]

@[simp] theorem execSysSave_memories (m : Fin 16) (tm : Nat) (s : State) :
    memoriesAfter (execSysSave m tm s) = some s.memories := by
  simp [execSysSave]

@[simp] theorem execHello_memories (m : Fin 16) (tm : Nat) (s : State) :
    memoriesAfter (execHello m tm s) = some s.memories := by
  unfold execHello
  split
  · simp
  · refine congrArg some (State.serve_memories fun t p => ?_)
    refine Served.keeps_ite_of (fun _ => trivial) fun _ => ?_
    split
    · trivial
    · split
      · trivial
      · exact State.modMbx_memories (by simp) _ m

@[simp] theorem State.proveFailed_memories (s : State) (sid : Nat) : (s.proveFailed sid).memories = s.memories := by
  simp [State.proveFailed]

@[simp] theorem execProve_memories (m : Fin 16) (tm : Nat) (s : State) :
    memoriesAfter (execProve m tm s) = some s.memories := by
  refine congrArg some (State.serve_memories fun t p => ?_)
  split
  · trivial
  · split
    · trivial
    · split <;> simp

@[simp] theorem execEndSession_memories (m : Fin 16) (tm : Nat) (s : State) :
    memoriesAfter (execEndSession m tm s) = some s.memories := by
  refine congrArg some (State.serve_memories fun t p => ?_)
  split <;> simp

@[simp] theorem execEnrol_memories (m : Fin 16) (tm : Nat) (s : State) :
    memoriesAfter (execEnrol m tm s) = some s.memories := by
  refine congrArg some (State.serve_memories fun t p => ?_)
  split
  · trivial
  · split
    · trivial
    · rfl

/-! ### Operations of `Machine/Security` -/

@[simp] theorem State.safLog_memories (s : State) (kind result path sid old new : Nat) :
    (s.safLog kind result path sid old new).memories = s.memories := by
  simp [State.safLog]

@[simp] theorem execSecFwActivate_memories (m : Fin 16) (tm : Nat) (s : State) :
    memoriesAfter (execSecFwActivate m tm s) = some s.memories := by
  simp [execSecFwActivate]

@[simp] theorem execSecFwCommit_memories (m : Fin 16) (tm : Nat) (s : State) :
    memoriesAfter (execSecFwCommit m tm s) = some s.memories := by
  simp [execSecFwCommit]

@[simp] theorem execSecTransfer_memories (m : Fin 16) (tm : Nat) (s : State) :
    memoriesAfter (execSecTransfer m tm s) = some s.memories := by
  simp [execSecTransfer]

@[simp] theorem execSecRelease_memories (m : Fin 16) (tm : Nat) (s : State) :
    memoriesAfter (execSecRelease m tm s) = some s.memories := by
  refine congrArg some (State.serveCall_memories fun t p => ?_)
  split
  · trivial
  · extract_lets old path sid u v w x
    have released : x.memories = t.memories := by unfold x; split <;> simp [w, v, u]
    exact (State.safLog_memories ..).trans released

@[simp] theorem execSecLinekeySet_memories (m : Fin 16) (tm : Nat) (s : State) :
    memoriesAfter (execSecLinekeySet m tm s) = some s.memories := by
  simp [execSecLinekeySet]

@[simp] theorem execSecLinekeyClear_memories (m : Fin 16) (tm : Nat) (s : State) :
    memoriesAfter (execSecLinekeyClear m tm s) = some s.memories := by
  simp [execSecLinekeyClear]

@[simp] theorem State.keysDue_memories (s : State) : s.keysDue.memories = s.memories := (rfl)

@[simp] theorem execSecDebugUnlock_memories (m : Fin 16) (tm : Nat) (s : State) :
    memoriesAfter (execSecDebugUnlock m tm s) = some s.memories := by
  simp [execSecDebugUnlock]

@[simp] theorem execHelloLockoutEnd_memories (tm : Nat) (s : State) :
    memoriesAfter (execHelloLockoutEnd tm s) = some s.memories := by
  simp [execHelloLockoutEnd]
  split <;> simp

/-! ### Operations of `Machine/Egress` -/

@[simp] theorem State.pushTsq_memories (s : State) (port : Fin 4) (id stamp : Nat) :
    (s.pushTsq port id stamp).2.memories = s.memories := by
  simp [State.pushTsq]
  split <;> simp

@[simp] theorem State.takeTsq_memories (s : State) (port : Fin 4) (id : Nat) :
    (s.takeTsq port id).2.memories = s.memories := by
  simp [State.takeTsq]
  split <;> simp

@[simp] theorem State.departFrame_memories (s : State) (port : Fin 4) (f : EgFrame) (start : Nat) :
    (s.departFrame port f start).memories = s.memories := by
  unfold State.departFrame
  extract_lets k msg tx sent t stamp
  split
  · rfl
  · rfl
  · rfl
  · simp [t]
  · have pushed := t.pushTsq_memories port (tsqId msg) stamp
    split
    next ok u hu =>
    rw [hu] at pushed
    split
    · exact pushed
    · have taken := u.takeTsq_memories port (tsqId msg)
      split
      next hv => rw [hv] at taken; simp [taken, pushed, t]
      next hv => rw [hv] at taken; simp [taken, pushed, t]

@[simp] theorem State.drainPort_memories (port : Fin 4) (n : Nat) (s : State) :
    (s.drainPort port n).memories = s.memories := by
  induction n generalizing s with
  | zero => rfl
  | succ n ih =>
    unfold State.drainPort
    extract_lets p
    split
    · rfl
    · split
      · rfl
      · simp [ih]

@[simp] theorem State.drainPorts_memories (s : State) : s.drainPorts.memories = s.memories := by
  simp [State.drainPorts]

@[simp] theorem State.enqueue_memories (s : State) (port : Fin 4) (f : EgFrame) :
    (s.enqueue port f).2.memories = s.memories := by
  unfold State.enqueue
  split <;> simp

@[simp] theorem State.ethOut_memories (s : State) (port : Fin 4) (prio : Nat) (bytes : List Byte) (act : EgAct) :
    (s.ethOut port prio bytes act).memories = s.memories := by
  simp [State.ethOut]

/-! ### Operations of `Machine/NetOps` -/

@[simp] theorem State.keyFault_memories (s : State) (k : Nat) : (s.keyFault k).memories = s.memories := by
  simp [State.keyFault]

@[simp] theorem State.crepraSend_memories (s : State) (typ dst : Nat) (payload : List Byte) (ports : List Nat) :
    (s.crepraSend typ dst payload ports).memories = s.memories := by
  simp [State.crepraSend]
  split <;> simp

theorem State.takeRx_memories {s t : State} {hit : RxFrame → Bool} {f : RxFrame} (h : s.takeRx hit = some (f, t)) :
    t.memories = s.memories := by
  unfold State.takeRx at h
  split at h
  · cases h
  · cases h
    rfl

@[simp] theorem State.authErr_memories (s : State) (port : Nat) (f : Crepra) :
    (s.authErr port f).memories = s.memories := by
  simp [State.authErr]

theorem State.seqAccept_memories {s t : State} {src typ seq : Nat} (h : s.seqAccept src typ seq = some t) :
    t.memories = s.memories := by
  unfold State.seqAccept at h
  extract_lets hit ok at h
  split at h
  · cases h
    rfl
  · cases h

@[simp] theorem State.copySeen_memories (s : State) (src net : Nat) :
    (s.copySeen src net).memories = s.memories := (rfl)

@[simp] theorem State.crepraCheck_memories (s : State) (f : RxFrame) : (s.crepraCheck f).2.memories = s.memories := by
  unfold State.crepraCheck
  extract_lets c t
  split
  · simp
  · split
    · rfl
    · split
      next accepted => simp [State.seqAccept_memories accepted, t]
      next => simp [t]

/-! ### Operations of `Machine/Outputs` -/

@[simp] theorem State.cancelReturn_memories (s : State) (field : Bool) (target : Nat) :
    (s.cancelReturn field target).memories = s.memories := (rfl)

@[simp] theorem State.pulseReturn_memories (s : State) (field : Bool) (target : Nat) (lv : Bool) (tm width : Nat) :
    (s.pulseReturn field target lv tm width).memories = s.memories := by
  simp [State.pulseReturn]

@[simp] theorem State.placeStage_memories (s : State) (a : Fin 128) (lv next : Bool) (inst4 : Nat) (ret : Bool)
    (width : Nat) :
    (s.placeStage a lv next inst4 ret width).memories = s.memories := by
  simp [State.placeStage]

@[simp] theorem State.takeOut_memories (s : State) (l : Fin 32) : (s.takeOut l).2.memories = s.memories := by
  simp [State.takeOut]
  split <;> simp

@[simp] theorem State.queueField_memories (s : State) (out : Nat) (lv : Bool) (tm : Nat) (cmp ret : Bool)
    (width : Nat) :
    (s.queueField out lv tm cmp ret width).memories = s.memories := by
  simp [State.queueField]

@[simp] theorem State.returnsTick_memories (s : State) : s.returnsTick.memories = s.memories := by
  simp [State.returnsTick]

/-! ### Operations of `Machine/Contexts` -/

@[simp] theorem State.modCtx_memories (s : State) (i : Fin 256) (f : Ctx → Ctx) :
    (s.modCtx i f).memories = s.memories := (rfl)

@[simp] theorem State.modZone_memories (s : State) (z : Nat) (f : ZoneSt → ZoneSt) :
    (s.modZone z f).memories = s.memories := (rfl)

@[simp] theorem State.touch_memories (s : State) (i : Fin 256) : (s.touch i).memories = s.memories := (rfl)

@[simp] theorem State.ctxNew_memories (s : State) (i : Fin 256) (c : Ctx) :
    (s.ctxNew i c).memories = s.memories := (rfl)

@[simp] theorem State.ctxFree_memories (s : State) (i : Fin 256) (cause : Nat) :
    (s.ctxFree i cause).memories = s.memories := by
  simp [State.ctxFree]

@[simp] theorem State.ctxLost_memories (s : State) (i : Fin 256) : (s.ctxLost i).memories = s.memories := by
  simp [State.ctxLost]

@[simp] theorem State.ctxCreated_memories (s : State) (i : Fin 256) (zone : Nat) (sensor : Bool) :
    (s.ctxCreated i zone sensor).memories = s.memories := by
  simp [State.ctxCreated]

@[simp] theorem State.ctxCreate_memories (s : State) (i : Fin 256) (zone objId : Nat) (pos : Int) (len route : Nat) :
    (s.ctxCreate i zone objId pos len route).memories = s.memories := by
  simp [State.ctxCreate]

@[simp] theorem State.trkApply_memories (s : State) (m : Nat) (c : TrkCall) :
    (s.trkApply m c).memories = s.memories := by
  unfold State.trkApply
  repeat' split
  all_goals simp

@[simp] theorem State.trkTick_memories (s : State) : s.trkTick.memories = s.memories := by
  simp [State.trkTick]

@[simp] theorem State.trkDisabled_memories (s : State) : s.trkDisabled.memories = s.memories := by
  simp [State.trkDisabled]

@[simp] theorem State.trkRoutes_memories (s : State) (entry : Nat → List Byte) :
    (s.trkRoutes entry).memories = s.memories := by
  simp [State.trkRoutes]

@[simp] theorem State.trkWait_memories (s : State) (m : Fin 16) (id : Nat) (c : TrkCall) :
    (s.trkWait m id c).Keeps s := by
  simp [State.trkWait]

@[simp] theorem execTrkCreate_memories (m : Fin 16) (tm : Nat) (s : State) :
    memoriesAfter (execTrkCreate m tm s) = some s.memories := by
  simp [execTrkCreate]

@[simp] theorem execTrkDelete_memories (m : Fin 16) (tm : Nat) (s : State) :
    memoriesAfter (execTrkDelete m tm s) = some s.memories := by
  simp [execTrkDelete]

@[simp] theorem execTrkModify_memories (m : Fin 16) (tm : Nat) (s : State) :
    memoriesAfter (execTrkModify m tm s) = some s.memories := by
  simp [execTrkModify]

@[simp] theorem execTrkSetEv_memories (m : Fin 16) (tm : Nat) (s : State) :
    memoriesAfter (execTrkSetEv m tm s) = some s.memories := by
  refine congrArg some (State.serveCall_memories fun t p => ?_)
  split
  · trivial
  · split <;> simp

@[simp] theorem execTrkRead_memories (m : Fin 16) (tm : Nat) (s : State) :
    memoriesAfter (execTrkRead m tm s) = some s.memories := by
  simp [execTrkRead]

@[simp] theorem execTrkFlush_memories (m : Fin 16) (tm : Nat) (s : State) :
    memoriesAfter (execTrkFlush m tm s) = some s.memories := by
  simp [execTrkFlush]

/-! ### Operations of `Machine/SafetyOps` -/

@[simp] theorem State.setDev_memories (s : State) (d : DevState) : (s.setDev d).memories = s.memories := by
  simp [State.setDev]

@[simp] theorem State.modChan_memories (s : State) (ch : Fin 2) (f : ChanSt → ChanSt) :
    (s.modChan ch f).memories = s.memories := (rfl)

@[simp] theorem State.modGrp_memories (s : State) (ch : Fin 2) (g : Fin 16) (f : GrpSt → GrpSt) :
    (s.modGrp ch g f).memories = s.memories := (rfl)

@[simp] theorem State.soUpdate_memories (s : State) : s.soUpdate.memories = s.memories := (rfl)

@[simp] theorem State.stoAt_memories (s : State) (ch : Fin 2) (g : Fin 16) (demand : Bool) :
    (s.stoAt ch g demand).memories = s.memories := by
  simp [State.stoAt]

@[simp] theorem State.ss1At_memories (s : State) (ch : Fin 2) (g : Fin 16) (demand : Bool) :
    (s.ss1At ch g demand).memories = s.memories := by
  simp [State.ss1At]
  split <;> simp

@[simp] theorem State.stopBoth_memories (s : State) (act : Nat) (g : Fin 16) (demand : Bool) :
    (s.stopBoth act g demand).memories = s.memories := by
  simp [State.stopBoth]

@[simp] theorem State.safClear_memories (s : State) : s.safClear.memories = s.memories := (rfl)

@[simp] theorem State.endStop_memories (s : State) (g : Fin 16) : (s.endStop g).memories = s.memories := by
  simp [State.endStop]

@[simp] theorem State.safReset_memories (s : State) (gs : List (Fin 16)) (src path sid : Nat) :
    (s.safReset gs src path sid).2.memories = s.memories := by
  unfold State.safReset
  split <;> simp

@[simp] theorem State.enterDegraded_memories (s : State) : s.enterDegraded.memories = s.memories := by
  simp [State.enterDegraded]

@[simp] theorem State.enterSafe_memories (s : State) : s.enterSafe.memories = s.memories := by
  simp [State.enterSafe]

@[simp] theorem State.safFault_memories (s : State) (code inst act : Nat) (gs : List (Fin 16)) (data : Nat) :
    (s.safFault code inst act gs data).memories = s.memories := by
  simp [State.safFault]

@[simp] theorem State.autoRestart_memories (s : State) : s.autoRestart.memories = s.memories := by
  simp [State.autoRestart]

@[simp] theorem State.safDone_memories (s : State) : s.safDone.memories = s.memories := by
  simp [State.safDone]

@[simp] theorem State.safEval_memories (s : State) (ch : Fin 2) : (s.safEval ch).memories = s.memories := by
  simp [State.safEval]

/-! ### Operations of `Machine/SafetyConfig` -/

@[simp] theorem State.takeBlock_memories (s : State) (b : List (Nat × Nat)) :
    (s.takeBlock b).memories = s.memories := by
  simp [State.takeBlock]

@[simp] theorem State.safActivate_memories (s : State) : s.safActivate.memories = s.memories := by
  simp [State.safActivate]
  split <;> simp

@[simp] theorem State.safBoot_memories (s : State) : s.safBoot.memories = s.memories := by
  simp [State.safBoot]
  split <;> simp

@[simp] theorem State.serveSafety_memories {s : State} {m : Fin 16} {tm sub : Nat} {n : Option Nat}
    {act : State → List Byte → Served} (h : ∀ t p, (act t p).Keeps t) :
    (s.serveSafety m tm sub n act).memories = s.memories := by
  refine State.serve_memories fun t p => ?_
  extract_lets u
  have begun : u.memories = t.memories := rfl
  split
  · trivial
  · split
    · exact begun
    · split
      · exact begun
      · exact Served.keeps_of_memories_eq begun (h u _)

@[simp] theorem State.loginFailed_memories (s : State) (m : Fin 16) : (s.loginFailed m).memories = s.memories := by
  simp [State.loginFailed]

@[simp] theorem execLogin_memories (m : Fin 16) (tm : Nat) (s : State) :
    memoriesAfter (execLogin m tm s) = some s.memories := by
  refine congrArg some (State.serveSafety_memories fun t p => ?_)
  extract_lets n pw ok
  have opens (nopw : Bool) : (ok nopw).Keeps t := by simp [ok]
  split
  · rfl
  · split
    · trivial
    · split
      · split
        · exact opens true
        · simp
      · split
        · exact opens false
        · simp

@[simp] theorem execLogout_memories (m : Fin 16) (tm : Nat) (s : State) :
    memoriesAfter (execLogout m tm s) = some s.memories :=
  congrArg some (State.serveSafety_memories fun _ _ => rfl)

@[simp] theorem execStage_memories (m : Fin 16) (tm : Nat) (s : State) :
    memoriesAfter (execStage m tm s) = some s.memories := by
  refine congrArg some (State.serveSafety_memories fun t p => ?_)
  extract_lets n es
  split
  · rfl
  · split
    · trivial
    · rfl

@[simp] theorem execValidate_memories (m : Fin 16) (tm : Nat) (s : State) :
    memoriesAfter (execValidate m tm s) = some s.memories := by
  refine congrArg some (State.serveSafety_memories fun t p => ?_)
  split <;> rfl

@[simp] theorem execActivate_memories (m : Fin 16) (tm : Nat) (s : State) :
    memoriesAfter (execActivate m tm s) = some s.memories := by
  refine congrArg some (State.serveSafety_memories fun t p => ?_)
  split
  · rfl
  · simp

@[simp] theorem execDiscard_memories (m : Fin 16) (tm : Nat) (s : State) :
    memoriesAfter (execDiscard m tm s) = some s.memories :=
  congrArg some (State.serveSafety_memories fun _ _ => rfl)

@[simp] theorem execSetPassword_memories (m : Fin 16) (tm : Nat) (s : State) :
    memoriesAfter (execSetPassword m tm s) = some s.memories := by
  refine congrArg some (State.serveSafety_memories fun t p => ?_)
  extract_lets n pw salt
  split
  · rfl
  · exact State.safLog_memories ..

@[simp] theorem execSafetyReset_memories (m : Fin 16) (tm : Nat) (s : State) :
    memoriesAfter (execSafetyReset m tm s) = some s.memories := by
  refine congrArg some (State.serveSafety_memories fun t p => ?_)
  split
  · rfl
  · split
    · rfl
    · simp

/-! ### Operations of `Machine/PowerOps` -/

@[simp] theorem State.domOn_memories (s : State) (d : Nat) : (s.domOn d).memories = s.memories := by
  simp [State.domOn]

@[simp] theorem State.domOff_memories (s : State) (d : Nat) : (s.domOff d).memories = s.memories := (rfl)

@[simp] theorem State.sleepEvent_memories (s : State) (deep net : Bool) :
    (s.sleepEvent deep net).memories = s.memories := by
  simp [State.sleepEvent]

@[simp] theorem State.fwdOkSet_memories (s : State) : s.fwdOkSet.memories = s.memories := (rfl)

@[simp] theorem State.forwardOn_memories (s : State) : s.forwardOn.memories = s.memories := (rfl)

@[simp] theorem State.linkTrain_memories (s : State) (l : Fin 32) : (s.linkTrain l).memories = s.memories := by
  simp [State.linkTrain]
  split <;> simp

@[simp] theorem State.linksOff_memories (s : State) (c : Fin 8) : (s.linksOff c).memories = s.memories := by
  simp [State.linksOff]

@[simp] theorem State.axDomOff_memories (s : State) (c : Fin 8) : (s.axDomOff c).memories = s.memories := by
  simp [State.axDomOff]

@[simp] theorem State.setDoze_memories (s : State) (c : Fin 8) (d : DozePhase) :
    (s.setDoze c d).memories = s.memories := (rfl)

@[simp] theorem State.wakeCluster_memories (s : State) (c : Fin 8) : (s.wakeCluster c).memories = s.memories := by
  unfold State.wakeCluster
  split <;> simp

@[simp] theorem State.wakeMask_memories (s : State) (clusters : Nat) (fw : Bool) :
    (s.wakeMask clusters fw).memories = s.memories := by
  unfold State.wakeMask
  split <;> simp

@[simp] theorem State.sleepTick_memories (s : State) : s.sleepTick.memories = s.memories := by
  simp only [State.sleepTick]
  repeat' split
  all_goals simp

@[simp] theorem State.offTrack_memories (s : State) : s.offTrack.memories = s.memories := (rfl)

/-! ### Operations of `Machine/TwinOps` -/

@[simp] theorem State.twinTo_memories (s : State) (st : TwinState) : (s.twinTo st).memories = s.memories := by
  simp [State.twinTo]

@[simp] theorem State.chooseEpoch_memories (s : State) : s.chooseEpoch.memories = s.memories := (rfl)

@[simp] theorem State.startSyncing_memories (s : State) : s.startSyncing.memories = s.memories := by
  simp [State.startSyncing]

@[simp] theorem State.becomeActive_memories (s : State) : s.becomeActive.memories = s.memories := by
  have chosen : ((s.twinTo .active).chooseEpoch).memories = s.memories := by simp
  exact chosen

@[simp] theorem State.twinTick_memories (s : State) : s.twinTick.memories = s.memories := by
  simp [State.twinTick]

/-! ### Operations of `Machine/Power` -/

@[simp] theorem execSupplyValid_memories (i : Fin 16) (tm : Nat) (s : State) :
    memoriesAfter (execSupplyValid i tm s) = some s.memories := (rfl)

@[simp] theorem State.visoLost_memories (s : State) : s.visoLost.memories = s.memories := by
  simp [State.visoLost]

@[simp] theorem State.vsafLost_memories (s : State) : s.vsafLost.memories = s.memories := by
  simp [State.vsafLost]

@[simp] theorem execNresetRelease_memories (tm : Nat) (s : State) :
    memoriesAfter (execNresetRelease tm s) = some s.memories := by
  simp only [execNresetRelease]
  repeat' split
  all_goals simp

@[simp] theorem execResetOutRelease_memories (pos claim : Bool) (tm : Nat) (s : State) :
    memoriesAfter (execResetOutRelease pos claim tm s) = some s.memories := by
  simp [execResetOutRelease]

@[simp] theorem execForwardingStart_memories (tm : Nat) (s : State) :
    memoriesAfter (execForwardingStart tm s) = some s.memories := by
  simp [execForwardingStart]

@[simp] theorem execBootVerify_memories (tm : Nat) (s : State) :
    memoriesAfter (execBootVerify tm s) = some s.memories := by
  simp [execBootVerify]

@[simp] theorem State.startTicks_memories (s : State) : s.startTicks.memories = s.memories := (rfl)

@[simp] theorem State.restoreClasses_memories (s : State) (hit : Nat → Bool) :
    (s.restoreClasses hit).memories = s.memories := by
  unfold State.restoreClasses
  split <;> simp

@[simp] theorem execRistretto_memories (tm : Nat) (s : State) :
    memoriesAfter (execRistretto tm s) = some s.memories := by
  simp [execRistretto]

@[simp] theorem execPwrOperate_memories (m : Fin 16) (tm : Nat) (s : State) :
    memoriesAfter (execPwrOperate m tm s) = some s.memories := by
  refine congrArg some (State.serveCall_memories fun t p => ?_)
  split <;> simp

@[simp] theorem execPwrConfig_memories (m : Fin 16) (tm : Nat) (s : State) :
    memoriesAfter (execPwrConfig m tm s) = some s.memories := by
  refine congrArg some (State.serveCall_memories fun t p => ?_)
  split
  · trivial
  · split <;> simp

@[simp] theorem execPwrReset_memories (m : Fin 16) (tm : Nat) (s : State) :
    memoriesAfter (execPwrReset m tm s) = some s.memories := by
  simp [execPwrReset]

@[simp] theorem execPwrSleep_memories (m : Fin 16) (tm : Nat) (s : State) :
    memoriesAfter (execPwrSleep m tm s) = some s.memories := by
  simp [execPwrSleep]

@[simp] theorem execPwrWake_memories (m : Fin 16) (tm : Nat) (s : State) :
    memoriesAfter (execPwrWake m tm s) = some s.memories := by
  simp [execPwrWake]

@[simp] theorem execAutoSleep_memories (c : Fin 8) (tm : Nat) (s : State) :
    memoriesAfter (execAutoSleep c tm s) = some s.memories := by
  simp [execAutoSleep]
  split <;> simp

@[simp] theorem execDozeTrafficStop_memories (c : Fin 8) (tm : Nat) (s : State) :
    memoriesAfter (execDozeTrafficStop c tm s) = some s.memories := by
  simp [execDozeTrafficStop]
  split <;> simp

@[simp] theorem execAxDomainOff_memories (c : Fin 8) (tm : Nat) (s : State) :
    memoriesAfter (execAxDomainOff c tm s) = some s.memories := by
  simp [execAxDomainOff]
  split <;> simp

@[simp] theorem execBypassLeadEnd_memories (net : Fin 2) (tm : Nat) (s : State) :
    memoriesAfter (execBypassLeadEnd net tm s) = some s.memories := by
  simp [execBypassLeadEnd]
  split <;> simp

@[simp] theorem execBeacon_memories (l : Fin 32) (valid : Bool) (zl : BitVec 8) (tm : Nat) (s : State) :
    memoriesAfter (execBeacon l valid zl tm s) = some s.memories := by
  simp [execBeacon]

@[simp] theorem execBeaconLost_memories (l : Fin 32) (tm : Nat) (s : State) :
    memoriesAfter (execBeaconLost l tm s) = some s.memories := by
  simp [execBeaconLost]

@[simp] theorem State.percWake_memories (s : State) (clusters : Nat) (fw : Bool) :
    (s.percWake clusters fw).memories = s.memories := by
  unfold State.percWake
  split <;> simp

@[simp] theorem State.fireRules_memories (s : State) (fired : List (Fin 32 × Nat × Bool × Nat)) :
    (s.fireRules fired).memories = s.memories := by
  unfold State.fireRules
  split <;> simp

@[simp] theorem execPercolatorSample_memories (tm : Nat) (s : State) :
    memoriesAfter (execPercolatorSample tm s) = some s.memories := by
  unfold execPercolatorSample
  extract_lets u one
  have sampled (l : List (Fin 32)) (acc) : (l.foldl one acc).1.memories = acc.1.memories := by
    induction l generalizing acc with
    | nil => rfl
    | cons r l ih =>
      refine (ih _).trans ?_
      obtain ⟨t, fired⟩ := acc
      dsimp only [one]
      split <;> rfl
  split
  · rfl
  · simp [sampled, u]

@[simp] theorem execPercTimer_memories (r : Fin 32) (tm : Nat) (s : State) :
    memoriesAfter (execPercTimer r tm s) = some s.memories := by
  simp [execPercTimer]

/-! ### Operations of `Machine/Links` -/

@[simp] theorem execSyncSend_memories (l : Fin 32) (tm : Nat) (s : State) :
    memoriesAfter (execSyncSend l tm s) = some s.memories := by
  simp [execSyncSend]

@[simp] theorem execDreqSend_memories (l : Fin 32) (tm : Nat) (s : State) :
    memoriesAfter (execDreqSend l tm s) = some s.memories := by
  simp [execDreqSend]

@[simp] theorem execDrspReceive_memories (l : Fin 32) (turn tm : Nat) (s : State) :
    memoriesAfter (execDrspReceive l turn tm s) = some s.memories := by
  simp [execDrspReceive]
  split <;> simp

@[simp] theorem execTimeUnstable_memories (l : Fin 32) (tm : Nat) (s : State) :
    memoriesAfter (execTimeUnstable l tm s) = some s.memories := by
  simp [execTimeUnstable]

@[simp] theorem State.capRecord_memories (s : State) (l : Fin 32) (slot low stamp : Nat) (r : UpRec) :
    (s.capRecord l slot low stamp r).memories = s.memories := by
  simp only [State.capRecord]
  repeat' split
  all_goals simp

@[simp] theorem State.tripRecord_memories (s : State) (a : Fin 128) (cause stamp : Nat) :
    (s.tripRecord a cause stamp).memories = s.memories := by
  simp [State.tripRecord]

@[simp] theorem State.takeRecord_memories (s : State) (l : Fin 32) (t0 slot low : Nat) (r : UpRec) :
    (s.takeRecord l t0 slot low r).memories = s.memories := by
  simp only [State.takeRecord]
  repeat' split
  all_goals simp

@[simp] theorem State.statTrips_memories (s : State) (l : Fin 32) (t0 : Nat) (r : StatRec) :
    (s.statTrips l t0 r).memories = s.memories := (rfl)

@[simp] theorem State.statStuck_memories (s : State) (l : Fin 32) (r : StatRec) :
    (s.statStuck l r).memories = s.memories := by
  simp [State.statStuck]

@[simp] theorem State.statToken_memories (s : State) (l : Fin 32) (t0 : Nat) (r : StatRec) :
    (s.statToken l t0 r).memories = s.memories := by
  simp [State.statToken]

@[simp] theorem State.takeStat_memories (s : State) (l : Fin 32) (t0 : Nat) (r : StatRec) :
    (s.takeStat l t0 r).memories = s.memories := by
  simp [State.takeStat]

@[simp] theorem State.takeSrv_memories (s : State) (l : Fin 32) (msg : Nat) (b : List Byte) :
    (s.takeSrv l msg b).memories = s.memories := by
  unfold State.takeSrv
  repeat' split
  all_goals simp

@[simp] theorem State.takePiece_memories (s : State) (l : Fin 32) (t0 : Nat) (p : Piece) :
    (s.takePiece l t0 p).memories = s.memories := by
  unfold State.takePiece
  split <;> simp

@[simp] theorem execUpstreamPacket_memories (l : Fin 32) (viol : Bool) (syms : Nat) (bytes : List Byte) (tm : Nat)
    (s : State) :
    memoriesAfter (execUpstreamPacket l viol syms bytes tm s) = some s.memories := by
  simp [execUpstreamPacket]

@[simp] theorem execLinkErrors_memories (l : Fin 32) (tm : Nat) (s : State) :
    memoriesAfter (execLinkErrors l tm s) = some s.memories := by
  simp only [execLinkErrors]
  repeat' split
  all_goals simp

@[simp] theorem execLateRecords_memories (l : Fin 32) (tm : Nat) (s : State) :
    memoriesAfter (execLateRecords l tm s) = some s.memories := by
  simp only [execLateRecords]
  repeat' split
  all_goals simp

@[simp] theorem execUpOverbudget_memories (l : Fin 32) (tm : Nat) (s : State) :
    memoriesAfter (execUpOverbudget l tm s) = some s.memories := by
  simp only [execUpOverbudget]
  repeat' split
  all_goals simp

@[simp] theorem State.stageChanged_memories (s : State) (l : Fin 32) : (s.stageChanged l).memories = s.memories := by
  simp [State.stageChanged]

@[simp] theorem State.dtLimit_memories (s : State) (a : Fin 128) : (s.dtLimit a).memories = s.memories := by
  simp [State.dtLimit]

@[simp] theorem State.linkGoUp_memories (s : State) (l : Fin 32) : (s.linkGoUp l).memories = s.memories := by
  simp [State.linkGoUp]

@[simp] theorem execLinkUp_memories (l : Fin 32) (tm : Nat) (s : State) :
    memoriesAfter (execLinkUp l tm s) = some s.memories := by
  simp [execLinkUp]

@[simp] theorem State.loseLink_memories (s : State) (l : Fin 32) : (s.loseLink l).memories = s.memories := by
  simp [State.loseLink]

@[simp] theorem execLinkLost_memories (l : Fin 32) (tm : Nat) (s : State) :
    memoriesAfter (execLinkLost l tm s) = some s.memories := by
  simp [execLinkLost]

@[simp] theorem State.statWatch_memories (s : State) : s.statWatch.memories = s.memories := by
  simp [State.statWatch]

@[simp] theorem State.sendService_memories (s : State) (l : Fin 32) (msg : Nat) (pay : List Byte) :
    (s.sendService l msg pay).memories = s.memories := (rfl)

@[simp] theorem State.sendSlotCfg_memories (s : State) (l : Fin 32) (k : Fin 4) :
    (s.sendSlotCfg l k).memories = s.memories := (rfl)

@[simp] theorem State.sendDeadtime_memories (s : State) (l : Fin 32) :
    (s.sendDeadtime l).memories = s.memories := (rfl)

@[simp] theorem execServiceFrameSend_memories (l : Fin 32) (tm : Nat) (s : State) :
    memoriesAfter (execServiceFrameSend l tm s) = some s.memories := by
  simp only [execServiceFrameSend]
  repeat' split
  all_goals simp

@[simp] theorem execSlotCfgUnanswered_memories (l : Fin 32) (slot : Fin 4) (tm : Nat) (s : State) :
    memoriesAfter (execSlotCfgUnanswered l slot tm s) = some s.memories := by
  simp [execSlotCfgUnanswered]

@[simp] theorem execDeadtimeUnacked_memories (l : Fin 32) (tm : Nat) (s : State) :
    memoriesAfter (execDeadtimeUnacked l tm s) = some s.memories := by
  simp [execDeadtimeUnacked]
  split <;> simp

@[simp] theorem State.dtTick_memories (s : State) : s.dtTick.memories = s.memories := (rfl)

@[simp] theorem execDtAdapt_memories (a : Fin 128) (tm : Nat) (s : State) :
    memoriesAfter (execDtAdapt a tm s) = some s.memories := by
  simp [execDtAdapt]

@[simp] theorem execDtLimit_memories (a : Fin 128) (tm : Nat) (s : State) :
    memoriesAfter (execDtLimit a tm s) = some s.memories := by
  simp [execDtLimit]

/-! ### Operations of `Machine/Drive` -/

@[simp] theorem State.drive_memories (s : State) (a : Fin 128) (d : Demand) :
    (s.drive a d).memories = s.memories := (rfl)

/-! ### Operations of `Machine/Commutation` -/

@[simp] theorem State.modCom_memories (s : State) (a : Fin 128) (f : ComSt → ComSt) :
    (s.modCom a f).memories = s.memories := (rfl)

@[simp] theorem State.enterListen_memories (s : State) (a : Fin 128) :
    (s.enterListen a).memories = s.memories := (rfl)

@[simp] theorem State.enterAlign_memories (s : State) (a : Fin 128) : (s.enterAlign a).memories = s.memories := (rfl)

@[simp] theorem State.enterIpd_memories (s : State) (a : Fin 128) (try_ : Nat) :
    (s.enterIpd a try_).memories = s.memories := by
  simp [State.enterIpd]

@[simp] theorem State.enterRamp_memories (s : State) (a : Fin 128) (sec : Nat) :
    (s.enterRamp a sec).memories = s.memories := (rfl)

@[simp] theorem State.enterSensorless_memories (s : State) (a : Fin 128) :
    (s.enterSensorless a).memories = s.memories := (rfl)

@[simp] theorem State.enterHall_memories (s : State) (a : Fin 128) : (s.enterHall a).memories = s.memories := (rfl)

@[simp] theorem State.startSixStep_memories (s : State) (a : Fin 128) (neg : Bool) :
    (s.startSixStep a neg).memories = s.memories := by
  simp [State.startSixStep]
  split <;> simp

@[simp] theorem State.catchForward_memories (s : State) (a : Fin 128) (f : Rat) :
    (s.catchForward a f).memories = s.memories := by
  simp [State.catchForward]
  split <;> simp

@[simp] theorem execCatchListenEnd_memories (a : Fin 128) (tm : Nat) (s : State) :
    memoriesAfter (execCatchListenEnd a tm s) = some s.memories := by
  simp [execCatchListenEnd]

@[simp] theorem execBrakeOnElapsed_memories (a : Fin 128) (tm : Nat) (s : State) :
    memoriesAfter (execBrakeOnElapsed a tm s) = some s.memories := by
  simp [execBrakeOnElapsed]

@[simp] theorem execBrakeTimeout_memories (a : Fin 128) (tm : Nat) (s : State) :
    memoriesAfter (execBrakeTimeout a tm s) = some s.memories := by
  simp [execBrakeTimeout]

@[simp] theorem execIpdDone_memories (a : Fin 128) (tm : Nat) (s : State) :
    memoriesAfter (execIpdDone a tm s) = some s.memories := by
  simp only [execIpdDone]
  repeat' split
  all_goals simp

@[simp] theorem execAlignElapsed_memories (a : Fin 128) (tm : Nat) (s : State) :
    memoriesAfter (execAlignElapsed a tm s) = some s.memories := by
  simp [execAlignElapsed]

@[simp] theorem execStartZcReached_memories (a : Fin 128) (tm : Nat) (s : State) :
    memoriesAfter (execStartZcReached a tm s) = some s.memories := by
  simp [execStartZcReached]

@[simp] theorem execStartTryFail_memories (a : Fin 128) (tm : Nat) (s : State) :
    memoriesAfter (execStartTryFail a tm s) = some s.memories := by
  simp [execStartTryFail]

@[simp] theorem execStartPauseEnd_memories (a : Fin 128) (tm : Nat) (s : State) :
    memoriesAfter (execStartPauseEnd a tm s) = some s.memories := by
  simp only [execStartPauseEnd]
  repeat' split
  all_goals simp

@[simp] theorem execRotorLost_memories (a : Fin 128) (tm : Nat) (s : State) :
    memoriesAfter (execRotorLost a tm s) = some s.memories := by
  simp only [execRotorLost]
  repeat' split
  all_goals simp

@[simp] theorem execCoastStopQuiet_memories (a : Fin 128) (tm : Nat) (s : State) :
    memoriesAfter (execCoastStopQuiet a tm s) = some s.memories := by
  simp [execCoastStopQuiet]

@[simp] theorem execAxComHallLearn_memories (m : Fin 16) (tm : Nat) (s : State) :
    memoriesAfter (execAxComHallLearn m tm s) = some s.memories := by
  simp [execAxComHallLearn]

@[simp] theorem execHallLearnStep_memories (a : Fin 128) (tm : Nat) (s : State) :
    memoriesAfter (execHallLearnStep a tm s) = some s.memories := by
  simp only [execHallLearnStep]
  repeat' split
  all_goals simp

@[simp] theorem execCurrentBlind_memories (a : Fin 128) (tm : Nat) (s : State) :
    memoriesAfter (execCurrentBlind a tm s) = some s.memories := by
  simp only [execCurrentBlind]
  repeat' split
  all_goals simp

@[simp] theorem execKeRatioUpdate_memories (a : Fin 128) (tm : Nat) (s : State) :
    memoriesAfter (execKeRatioUpdate a tm s) = some s.memories := by
  simp [execKeRatioUpdate]

/-! ### Operations of `Machine/MoveQueue` -/

@[simp] theorem State.modPrf_memories (s : State) (a : Fin 128) (f : PrfSt → PrfSt) :
    (s.modPrf a f).memories = s.memories := (rfl)

@[simp] theorem execAxPrfAppend_memories (m : Fin 16) (tm : Nat) (s : State) :
    memoriesAfter (execAxPrfAppend m tm s) = some s.memories := by
  refine congrArg some (State.serve_memories fun t p => ?_)
  extract_lets a args n x ok
  split
  · trivial
  · extract_lets st
    split
    · trivial
    · refine Served.keeps_withState ?_ _
      split
      · trivial
      · simp

@[simp] theorem execAxPrfFlush_memories (m : Fin 16) (tm : Nat) (s : State) :
    memoriesAfter (execAxPrfFlush m tm s) = some s.memories := by
  simp [execAxPrfFlush]

@[simp] theorem execAxPrfResume_memories (m : Fin 16) (tm : Nat) (s : State) :
    memoriesAfter (execAxPrfResume m tm s) = some s.memories := by
  simp [execAxPrfResume]

@[simp] theorem execAxPrfPause_memories (m : Fin 16) (tm : Nat) (s : State) :
    memoriesAfter (execAxPrfPause m tm s) = some s.memories := by
  simp [execAxPrfPause]

@[simp] theorem State.flushQueue_memories (s : State) (a : Fin 128) (cause : Nat) :
    (s.flushQueue a cause).memories = s.memories := by
  simp [State.flushQueue]

@[simp] theorem State.modeStep_memories (s : State) (a : Fin 128) : (s.modeStep a).memories = s.memories := by
  simp [State.modeStep]

@[simp] theorem State.readRequests_memories (s : State) (a : Fin 128) : (s.readRequests a).memories = s.memories := by
  simp [State.readRequests]

@[simp] theorem State.events_memories (s : State) (a : Fin 128) (l : List (Nat × Nat)) :
    (s.events a l).memories = s.memories := by
  simp [State.events]

@[simp] theorem State.appendImage_memories (s : State) (a : Fin 128) : (s.appendImage a).memories = s.memories := by
  simp [State.appendImage]

@[simp] theorem execDwellEnd_memories (a : Fin 128) (tm : Nat) (s : State) :
    memoriesAfter (execDwellEnd a tm s) = some s.memories := by
  simp [execDwellEnd]
  split <;> simp

@[simp] theorem execTargetReached_memories (a : Fin 128) (tm : Nat) (s : State) :
    memoriesAfter (execTargetReached a tm s) = some s.memories := by
  simp [execTargetReached]
  split <;> simp

@[simp] theorem execSetpointLost_memories (a : Fin 128) (tm : Nat) (s : State) :
    memoriesAfter (execSetpointLost a tm s) = some s.memories := by
  simp [execSetpointLost]

/-! ### Operations of `Machine/Stepper` -/

@[simp] theorem State.modStp_memories (s : State) (a : Fin 128) (f : StpSt → StpSt) :
    (s.modStp a f).memories = s.memories := (rfl)

@[simp] theorem State.stepAdvance_memories (s : State) (a : Fin 128) :
    (s.stepAdvance a).memories = s.memories := (rfl)

@[simp] theorem State.stepStart_memories (s : State) (a : Fin 128) : (s.stepStart a).memories = s.memories := (rfl)

@[simp] theorem State.setWord_memories (s : State) (a : Fin 128) (v : Int) :
    (s.setWord a v).memories = s.memories := (rfl)

@[simp] theorem State.stepCurrents_memories (s : State) (a : Fin 128) (recs : List Stamped) :
    (s.stepCurrents a recs).1.memories = s.memories := (rfl)

@[simp] theorem State.stepTurn_memories (s : State) (a : Fin 128) : (s.stepTurn a).memories = s.memories := by
  unfold State.stepTurn
  split <;> simp

@[simp] theorem State.stepDecide_memories (s : State) (a : Fin 128) (v : Rat) :
    (s.stepDecide a v).memories = s.memories := by
  simp [State.stepDecide]

@[simp] theorem State.stepPhases_memories (s : State) (a : Fin 128) (th thR : Nat) (w i ia ib : Rat) :
    (s.stepPhases a th thR w i ia ib).1.memories = s.memories := (rfl)

@[simp] theorem State.stallWatch_memories (s : State) (a : Fin 128) (th : Nat) (w ia ib : Rat) :
    (s.stallWatch a th w ia ib).memories = s.memories := by
  simp [State.stallWatch]

@[simp] theorem State.openWatch_memories (s : State) (a : Fin 128) (i ia ib : Rat) :
    (s.openWatch a i ia ib).memories = s.memories := (rfl)

@[simp] theorem State.stepOff_memories (s : State) (a : Fin 128) (coast : Bool) :
    (s.stepOff a coast).1.memories = s.memories := (rfl)

@[simp] theorem State.stepOpen_memories (s : State) (a : Fin 128) (row3 velMode : Bool) (sp : SetP)
    (recs : List Stamped) :
    (s.stepOpen a row3 velMode sp recs).1.memories = s.memories := by
  simp [State.stepOpen]

@[simp] theorem State.stepClosed_memories (s : State) (a : Fin 128) (isp : Rat) (recs : List Stamped) :
    (s.stepClosed a isp recs).1.memories = s.memories := (rfl)

@[simp] theorem execStpHold_memories (a : Fin 128) (tm : Nat) (s : State) :
    memoriesAfter (execStpHold a tm s) = some s.memories := by
  simp [execStpHold]
  split <;> simp

@[simp] theorem execStpForced_memories (a : Fin 128) (tm : Nat) (s : State) :
    memoriesAfter (execStpForced a tm s) = some s.memories := by
  simp [execStpForced]

@[simp] theorem execStpForcedEnd_memories (a : Fin 128) (tm : Nat) (s : State) :
    memoriesAfter (execStpForcedEnd a tm s) = some s.memories := by
  simp [execStpForcedEnd]
  split <;> simp

@[simp] theorem execStpBlendEnd_memories (a : Fin 128) (tm : Nat) (s : State) :
    memoriesAfter (execStpBlendEnd a tm s) = some s.memories := by
  simp [execStpBlendEnd]
  split <;> simp

@[simp] theorem execStpAlignEnd_memories (a : Fin 128) (tm : Nat) (s : State) :
    memoriesAfter (execStpAlignEnd a tm s) = some s.memories := by
  simp [execStpAlignEnd]
  split <;> simp

@[simp] theorem execStpRate_memories (a : Fin 128) (tm : Nat) (s : State) :
    memoriesAfter (execStpRate a tm s) = some s.memories := by
  simp only [execStpRate]
  repeat' split
  all_goals simp

@[simp] theorem execStall_memories (a : Fin 128) (tm : Nat) (s : State) :
    memoriesAfter (execStall a tm s) = some s.memories := by
  simp [execStall]

@[simp] theorem execPhaseOpen_memories (a : Fin 128) (tm : Nat) (s : State) :
    memoriesAfter (execPhaseOpen a tm s) = some s.memories := by
  simp [execPhaseOpen]

/-! ### Operations of `Machine/Homing` -/

@[simp] theorem State.modHom_memories (s : State) (a : Fin 128) (f : HomSt → HomSt) :
    (s.modHom a f).memories = s.memories := (rfl)

@[simp] theorem State.goOn_memories (s : State) (a : Fin 128) (b : SetP) : (s.goOn a b).memories = s.memories := (rfl)

@[simp] theorem State.changeSpeed_memories (s : State) (a : Fin 128) (v acc dec j : Rat) :
    (s.changeSpeed a v acc dec j).memories = s.memories := (rfl)

@[simp] theorem State.homMove_memories (s : State) (a : Fin 128) (v : Rat) :
    (s.homMove a v).memories = s.memories := (rfl)

@[simp] theorem State.homArmZ_memories (s : State) (a : Fin 128) : (s.homArmZ a).memories = s.memories := (rfl)

@[simp] theorem State.homRelease_memories (s : State) (a : Fin 128) : (s.homRelease a).memories = s.memories := by
  unfold State.homRelease
  split <;> simp

@[simp] theorem State.homBegin_memories (s : State) (a : Fin 128) (b : SetP) :
    (s.homBegin a b).memories = s.memories := by
  simp [State.homBegin]
  split <;> simp

@[simp] theorem State.homFinish_memories (s : State) (a : Fin 128) : (s.homFinish a).memories = s.memories := (rfl)

@[simp] theorem State.homResolve_memories (s : State) (a : Fin 128) : (s.homResolve a).memories = s.memories := by
  simp only [State.homResolve]
  repeat' split
  all_goals simp

@[simp] theorem State.homPhase_memories (s : State) (a : Fin 128) (b : SetP) :
    (s.homPhase a b).memories = s.memories := by
  simp only [State.homPhase]
  repeat' split
  all_goals simp

@[simp] theorem State.homDrop_memories (s : State) (a : Fin 128) : (s.homDrop a).memories = s.memories := by
  simp [State.homDrop]

@[simp] theorem State.homAbort_memories (s : State) (a : Fin 128) : (s.homAbort a).memories = s.memories := by
  simp [State.homAbort]

@[simp] theorem State.homStep_memories (s : State) (a : Fin 128) (b : SetP) :
    (s.homStep a b).memories = s.memories := by
  simp [State.homStep]

@[simp] theorem State.homApply_memories (s : State) (a : Fin 128) : (s.homApply a).memories = s.memories := by
  unfold State.homApply
  split <;> simp

@[simp] theorem execAxHomStart_memories (m : Fin 16) (tm : Nat) (s : State) :
    memoriesAfter (execAxHomStart m tm s) = some s.memories := by
  simp [execAxHomStart]

@[simp] theorem execAxHomAbort_memories (m : Fin 16) (tm : Nat) (s : State) :
    memoriesAfter (execAxHomAbort m tm s) = some s.memories := by
  simp [execAxHomAbort]

@[simp] theorem execHomingStall_memories (a : Fin 128) (tm : Nat) (s : State) :
    memoriesAfter (execHomingStall a tm s) = some s.memories := by
  simp [execHomingStall]
  split <;> simp

/-! ### Operations of `Machine/Gearing` -/

@[simp] theorem State.modGea_memories (s : State) (a : Fin 128) (f : GeaSt → GeaSt) :
    (s.modGea a f).memories = s.memories := (rfl)

@[simp] theorem State.gearEnd_memories (s : State) (a : Fin 128) (cause : Nat) :
    (s.gearEnd a cause).memories = s.memories := by
  simp [State.gearEnd]

@[simp] theorem State.gearEngage_memories (s : State) (a : Fin 128) (b : SetP) :
    (s.gearEngage a b).memories = s.memories := (rfl)

@[simp] theorem State.gearRelease_memories (s : State) (a : Fin 128) :
    (s.gearRelease a).memories = s.memories := (rfl)

@[simp] theorem State.gearAdd_memories (s : State) (a : Fin 128) : (s.gearAdd a).memories = s.memories := by
  simp [State.gearAdd]

@[simp] theorem State.gearForm_memories (s : State) (a : Fin 128) (b : SetP) :
    (s.gearForm a b).1.memories = s.memories := by
  simp [State.gearForm]

@[simp] theorem State.gearStep_memories (s : State) (a : Fin 128) (b : SetP) :
    (s.gearStep a b).memories = s.memories := by
  simp [State.gearStep]

@[simp] theorem execAxGeaEngage_memories (m : Fin 16) (tm : Nat) (s : State) :
    memoriesAfter (execAxGeaEngage m tm s) = some s.memories := by
  simp [execAxGeaEngage]

@[simp] theorem execAxGeaDisengage_memories (m : Fin 16) (tm : Nat) (s : State) :
    memoriesAfter (execAxGeaDisengage m tm s) = some s.memories := by
  simp [execAxGeaDisengage]

/-! ### Operations of `Machine/FieldIo` -/

@[simp] theorem execFieldOutputChange_memories (tm : Nat) (s : State) :
    memoriesAfter (execFieldOutputChange tm s) = some s.memories := (rfl)

@[simp] theorem State.inEdge_memories (s : State) (i : Fin 40) (stamp : Nat) (resync : Bool) :
    (s.inEdge i stamp resync).memories = s.memories := by
  simp [State.inEdge]

@[simp] theorem State.edgeUsers_memories (s : State) (i : Fin 40) (stamp : Nat) :
    (s.edgeUsers i stamp).memories = s.memories := by
  simp [State.edgeUsers]

@[simp] theorem execFieldInputEdge_memories (i : Fin 40) (tm : Nat) (s : State) :
    memoriesAfter (execFieldInputEdge i tm s) = some s.memories := by
  simp only [execFieldInputEdge]
  repeat' split
  all_goals simp

@[simp] theorem State.inputsValid_memories (s : State) : s.inputsValid.memories = s.memories := by
  simp [State.inputsValid]

@[simp] theorem State.diagDone_memories (s : State) (r out steps : Nat) :
    (s.diagDone r out steps).memories = s.memories := by
  simp [State.diagDone]

@[simp] theorem State.diagAbort_memories (s : State) : s.diagAbort.memories = s.memories := by
  unfold State.diagAbort
  split <;> simp

@[simp] theorem execFioDiagTest_memories (tm : Nat) (s : State) :
    memoriesAfter (execFioDiagTest tm s) = some s.memories := by
  simp only [execFioDiagTest]
  repeat' split
  all_goals simp

@[simp] theorem execFioDiag_memories (m : Fin 16) (tm : Nat) (s : State) :
    memoriesAfter (execFioDiag m tm s) = some s.memories := by
  simp [execFioDiag]

@[simp] theorem execChannelFFrame_memories (valid : Bool) (ins : BitVec 40) (pins thermal : BitVec 16)
    (fv24 tm : Nat) (s : State) :
    memoriesAfter (execChannelFFrame valid ins pins thermal fv24 tm s) = some s.memories := by
  simp [execChannelFFrame]

@[simp] theorem execChannelFLost_memories (tm : Nat) (s : State) :
    memoriesAfter (execChannelFLost tm s) = some s.memories := by
  simp [execChannelFLost]

@[simp] theorem execDieOutputsOff_memories (tm : Nat) (s : State) :
    memoriesAfter (execDieOutputsOff tm s) = some s.memories := by
  simp [execDieOutputsOff]

@[simp] theorem execFv24Low_memories (tm : Nat) (s : State) : memoriesAfter (execFv24Low tm s) = some s.memories := by
  simp [execFv24Low]
  split <;> simp

@[simp] theorem execUvWarnEnd_memories (tm : Nat) (s : State) :
    memoriesAfter (execUvWarnEnd tm s) = some s.memories := by
  simp [execUvWarnEnd]

@[simp] theorem execFv24Off_memories (tm : Nat) (s : State) : memoriesAfter (execFv24Off tm s) = some s.memories := by
  simp [execFv24Off]

@[simp] theorem State.fieldReady_memories (s : State) : s.fieldReady.memories = s.memories := by
  simp [State.fieldReady]

@[simp] theorem execFv24Recover_memories (tm : Nat) (s : State) :
    memoriesAfter (execFv24Recover tm s) = some s.memories := by
  simp [execFv24Recover]

@[simp] theorem execCfRearmReady_memories (tm : Nat) (s : State) :
    memoriesAfter (execCfRearmReady tm s) = some s.memories := by
  simp [execCfRearmReady]

@[simp] theorem execOutputsOn_memories (tm : Nat) (s : State) :
    memoriesAfter (execOutputsOn tm s) = some s.memories := by
  simp [execOutputsOn]
  split <;> simp

@[simp] theorem execOutputFault_memories (tm : Nat) (s : State) :
    memoriesAfter (execOutputFault tm s) = some s.memories := by
  simp only [execOutputFault]
  repeat' split
  all_goals simp

@[simp] theorem execFioOutWrite_memories (m : Fin 16) (tm : Nat) (s : State) :
    memoriesAfter (execFioOutWrite m tm s) = some s.memories := by
  simp [execFioOutWrite]

@[simp] theorem execFioOutRearm_memories (m : Fin 16) (tm : Nat) (s : State) :
    memoriesAfter (execFioOutRearm m tm s) = some s.memories := by
  simp [execFioOutRearm]

@[simp] theorem State.fioWrites_memories (s : State) : s.fioWrites.memories = s.memories := by
  simp [State.fioWrites]

@[simp] theorem State.fioImage_memories (s : State) (out mask : BitVec 16) :
    (s.fioImage out mask).memories = s.memories := by
  simp [State.fioImage]

/-! ### Operations of `Machine/ProcessImage` -/

@[simp] theorem State.piSwap_memories (s : State) : s.piSwap.memories = s.memories := by
  simp [State.piSwap]

@[simp] theorem State.piMiss_memories (s : State) (late : Bool) : (s.piMiss late).memories = s.memories := by
  simp [State.piMiss]

@[simp] theorem State.takeOutput_memories (s : State) (m : Mem) (a : Fin 128) :
    (s.takeOutput m a).memories = s.memories := by
  simp [State.takeOutput]

@[simp] theorem State.piRead_memories (s : State) (swapped : Bool) : (s.piRead swapped).memories = s.memories := by
  unfold State.piRead
  split
  · rfl
  · simp

/-! ### Operations of `Machine/Switch` -/

@[simp] theorem State.passOn_memories (s : State) (port : Fin 4) (bytes : List Byte) (rx : Rat) :
    (s.passOn port bytes rx).memories = s.memories := by
  simp [State.passOn]

@[simp] theorem State.ptpOut_memories (s : State) (port : Fin 4) (msg : List Byte) (act : EgAct) :
    (s.ptpOut port msg act).memories = s.memories := by
  simp [State.ptpOut]

@[simp] theorem State.pdelayAnswer_memories (s : State) (port : Fin 4) (req : List Byte) (rx : Rat) :
    (s.pdelayAnswer port req rx).memories = s.memories := by
  simp [State.pdelayAnswer]

@[simp] theorem State.toHost_memories (s : State) (port : Fin 4) (bytes : List Byte) (rx : Rat) :
    (s.toHost port bytes rx).memories = s.memories := by
  simp [State.toHost]

@[simp] theorem execEthFrameReceive_memories (port : Fin 4) (fcsOk : Bool) (bytes : List Byte) (tm : Nat) (s : State) :
    memoriesAfter (execEthFrameReceive port fcsOk bytes tm s) = some s.memories := by
  unfold execEthFrameReceive
  extract_lets u rx
  split
  · split
    simp [u]
  · simp [u]

@[simp] theorem State.modNetPort_memories (s : State) (port : Fin 4) (f : NetPort → NetPort) :
    (s.modNetPort port f).memories = s.memories := (rfl)

@[simp] theorem execPortUp_memories (port speed : Fin 4) (full : Bool) (tm : Nat) (s : State) :
    memoriesAfter (execPortUp port speed full tm s) = some s.memories := by
  simp [execPortUp]

@[simp] theorem execPortDown_memories (port : Fin 4) (tm : Nat) (s : State) :
    memoriesAfter (execPortDown port tm s) = some s.memories := by
  simp only [execPortDown]
  repeat' split
  all_goals simp

@[simp] theorem execPortConfig_memories (port : Fin 4) (tm : Nat) (s : State) :
    memoriesAfter (execPortConfig port tm s) = some s.memories := by
  simp [execPortConfig]

@[simp] theorem execNetDrop_memories (port : Fin 4) (tm : Nat) (s : State) :
    memoriesAfter (execNetDrop port tm s) = some s.memories := by
  simp only [execNetDrop]
  repeat' split
  all_goals simp

@[simp] theorem execGclCycleStart_memories (port : Fin 4) (tm : Nat) (s : State) :
    memoriesAfter (execGclCycleStart port tm s) = some s.memories := by
  simp [execGclCycleStart]

/-! ### Operations of `Machine/Cyclic` -/

@[simp] theorem State.takeSetpoint_memories (s : State) (e : Nat × Nat × NetSp) :
    (s.takeSetpoint e).memories = s.memories := by
  simp [State.takeSetpoint]

@[simp] theorem State.takeCrepra_memories (s : State) (typ : Nat) : (s.takeCrepra typ).2.memories = s.memories := by
  unfold State.takeCrepra
  split
  · rfl
  next taken => exact (State.crepraCheck_memories _ _).trans (State.takeRx_memories taken)

@[simp] theorem execSetpoint_memories (tm : Nat) (s : State) :
    memoriesAfter (execSetpoint tm s) = some s.memories := by
  unfold execSetpoint
  extract_lets start
  have taken : (start.takeCrepra 1).2.memories = s.memories := by simp [start]
  split
  next h => rw [h] at taken; exact congrArg some taken
  next h =>
    rw [h] at taken
    extract_lets n fc u
    have counted : u.memories = s.memories := by unfold u; split <;> simpa using taken
    split
    · exact congrArg some taken
    · simpa using counted

@[simp] theorem State.takeChannel_memories (s : State) (src fc : Nat) (b : List Byte) :
    (s.takeChannel src fc b).memories = s.memories := by
  simp [State.takeChannel]

@[simp] theorem execChannelReceive_memories (tm : Nat) (s : State) :
    memoriesAfter (execChannelReceive tm s) = some s.memories := by
  unfold execChannelReceive
  extract_lets start
  have taken : (start.takeCrepra 3).2.memories = s.memories := by simp [start]
  split
  next h => rw [h] at taken; exact congrArg some taken
  next h =>
    rw [h] at taken
    extract_lets n
    split
    · exact congrArg some taken
    · simpa using taken

@[simp] theorem State.subTick_memories (s : State) : s.subTick.memories = s.memories := (rfl)

@[simp] theorem execStatusSend_memories (tm : Nat) (s : State) :
    memoriesAfter (execStatusSend tm s) = some s.memories := by
  simp [execStatusSend]

@[simp] theorem execChannelSend_memories (tm : Nat) (s : State) :
    memoriesAfter (execChannelSend tm s) = some s.memories := by
  simp [execChannelSend]

@[simp] theorem execCycOneNetwork_memories (tm : Nat) (s : State) :
    memoriesAfter (execCycOneNetwork tm s) = some s.memories := by
  simp [execCycOneNetwork]

@[simp] theorem execAuthFail_memories (port : Fin 4) (tm : Nat) (s : State) :
    memoriesAfter (execAuthFail port tm s) = some s.memories := by
  simp only [execAuthFail]
  repeat' split
  all_goals simp

@[simp] theorem execWakeFrame_memories (tm : Nat) (s : State) :
    memoriesAfter (execWakeFrame tm s) = some s.memories := by
  unfold execWakeFrame
  extract_lets start
  have started : start.memories = s.memories := by simp [start]
  split
  · rfl
  next taken => simp [State.takeRx_memories taken, started]

/-! ### Operations of `Machine/Tracking` -/

@[simp] theorem State.zoneMove_memories (s : State) (z : Nat) (d : Int) (v : Rat) (t0 : Nat) (est : Bool) :
    (s.zoneMove z d v t0 est).memories = s.memories := (rfl)

@[simp] theorem State.zoneCoast_memories (s : State) (z t0 : Nat) : (s.zoneCoast z t0).memories = s.memories := (rfl)

@[simp] theorem State.driverFault_memories (s : State) (z : Nat) (bad : Bool) :
    (s.driverFault z bad).memories = s.memories := by
  simp [State.driverFault]

@[simp] theorem State.zoneSource_memories (s : State) (z : Nat) : (s.zoneSource z).memories = s.memories := by
  unfold State.zoneSource
  split <;> simp

@[simp] theorem State.zoneCopy_memories (s : State) (z : Nat) : (s.zoneCopy z).memories = s.memories := by
  simp [State.zoneCopy]

@[simp] theorem State.zonesRun_memories (s : State) : s.zonesRun.memories = s.memories := by
  simp [State.zonesRun]

@[simp] theorem State.ctxAdvance_memories (s : State) (i : Fin 256) : (s.ctxAdvance i).memories = s.memories := by
  simp [State.ctxAdvance]

@[simp] theorem State.ctxCross_memories (n : Nat) (s : State) (i : Fin 256) :
    (State.ctxCross n s i).memories = s.memories := by
  induction n generalizing s with
  | zero => simp [State.ctxCross]
  | succ n ih => simp [State.ctxCross, ih]

@[simp] theorem State.ctxZones_memories (s : State) (i : Fin 256) : (s.ctxZones i).memories = s.memories := by
  simp [State.ctxZones]

@[simp] theorem State.sendAck_memories (s : State) (port status : Nat) (r : List Byte) :
    (s.sendAck port status r).memories = s.memories := by
  simp [State.sendAck]

@[simp] theorem State.importCtx_memories (s : State) (port : Nat) (r : List Byte) :
    (s.importCtx port r).memories = s.memories := by
  unfold State.importCtx
  split <;> simp

@[simp] theorem State.takeAck_memories (s : State) (r : List Byte) : (s.takeAck r).memories = s.memories := by
  simp [State.takeAck]

@[simp] theorem State.takeHandoff_memories (s : State) (x : Nat × Nat × List Byte) :
    (s.takeHandoff x).memories = s.memories := by
  simp [State.takeHandoff]

@[simp] theorem State.blockingEdge_memories (s : State) (z : Nat) (t : Int) :
    (s.blockingEdge z t).memories = s.memories := by
  simp only [State.blockingEdge]
  repeat' split
  all_goals simp

@[simp] theorem State.clearingEdge_memories (s : State) (z : Nat) (t : Int) :
    (s.clearingEdge z t).memories = s.memories := by
  simp [State.clearingEdge]
  split <;> simp

@[simp] theorem State.edgesRun_memories (s : State) : s.edgesRun.memories = s.memories := by
  simp [State.edgesRun]

@[simp] theorem State.missedAt_memories (s : State) (i : Fin 256) (z : Nat) :
    (s.missedAt i z).memories = s.memories := by
  simp [State.missedAt]
  split <;> simp

@[simp] theorem State.missedRun_memories (s : State) (i : Fin 256) : (s.missedRun i).memories = s.memories := by
  simp [State.missedRun]

@[simp] theorem State.modEv_memories (s : State) (i : Fin 256) (j : Fin 4) (f : CmpEv → CmpEv) :
    (s.modEv i j f).memories = s.memories := (rfl)

@[simp] theorem State.evLate_memories (s : State) (i : Fin 256) (j : Fin 4) (skipped : Bool) :
    (s.evLate i j skipped).memories = s.memories := by
  simp [State.evLate]

@[simp] theorem State.evSkip_memories (s : State) (i : Fin 256) (j : Fin 4) :
    (s.evSkip i j).memories = s.memories := (rfl)

@[simp] theorem State.evAct_memories (s : State) (i : Fin 256) (j : Fin 4) (e : CmpEv) (inst4 : Nat) :
    (s.evAct i j e inst4).1.memories = s.memories := by
  simp only [State.evAct]
  repeat' split
  all_goals simp

@[simp] theorem State.evPlace_memories (s : State) (i : Fin 256) (j : Fin 4) (inst4 : Nat) (late : Bool) :
    (s.evPlace i j inst4 late).memories = s.memories := by
  simp [State.evPlace]

@[simp] theorem State.evRun_memories (s : State) (i : Fin 256) (j : Fin 4) : (s.evRun i j).memories = s.memories := by
  simp [State.evRun]

@[simp] theorem State.handOff_memories (s : State) (i : Fin 256) : (s.handOff i).memories = s.memories := by
  simp [State.handOff]

@[simp] theorem execTrackingRun_memories (s : State) : memoriesAfter (execTrackingRun s) = some s.memories := by
  simp [execTrackingRun]

@[simp] theorem execHandoffFrame_memories (tm : Nat) (s : State) :
    memoriesAfter (execHandoffFrame tm s) = some s.memories := by
  unfold execHandoffFrame
  extract_lets start
  have started : start.memories = s.memories := by simp [start]
  split
  · rfl
  next f t taken =>
    have checked : (t.crepraCheck f).2.memories = s.memories := by simp [State.takeRx_memories taken, started]
    split
    next h =>
      rw [h] at checked
      split <;> simpa using checked

@[simp] theorem execHandoffRetry_memories (tm : Nat) (s : State) :
    memoriesAfter (execHandoffRetry tm s) = some s.memories := by
  simp [execHandoffRetry]
  split <;> simp

/-! ### Operations of `Machine/Trips` -/

@[simp] theorem State.killAxes_memories (s : State) (c : Fin 8) (hit : List (Fin 128)) :
    (s.killAxes c hit).memories = s.memories := by
  simp [State.killAxes]

@[simp] theorem State.pinLatch_memories (s : State) (p : Fin 8) (stamp : Nat) (late : Bool) :
    (s.pinLatch p stamp late).memories = s.memories := by
  simp [State.pinLatch]

@[simp] theorem execTripPinActivation_memories (p : Fin 8) (instant tm : Nat) (s : State) :
    memoriesAfter (execTripPinActivation p instant tm s) = some s.memories := by
  simp [execTripPinActivation]
  split <;> simp

@[simp] theorem execBlankWindowEnd_memories (p : Fin 8) (tm : Nat) (s : State) :
    memoriesAfter (execBlankWindowEnd p tm s) = some s.memories := by
  simp [execBlankWindowEnd]
  split <;> simp

@[simp] theorem execTripPinRelease_memories (p : Fin 8) (tm : Nat) (s : State) :
    memoriesAfter (execTripPinRelease p tm s) = some s.memories := (rfl)

@[simp] theorem execTripNoise_memories (p : Fin 8) (tm : Nat) (s : State) :
    memoriesAfter (execTripNoise p tm s) = some s.memories := by
  simp only [execTripNoise]
  repeat' split
  all_goals simp

@[simp] theorem State.stageTrip_memories (s : State) (a : Fin 128) : (s.stageTrip a).memories = s.memories := by
  simp [State.stageTrip]

@[simp] theorem execTripSequence_memories (l : Fin 32) (mask : BitVec 4) (tm : Nat) (s : State) :
    memoriesAfter (execTripSequence l mask tm s) = some s.memories := by
  simp [execTripSequence]

@[simp] theorem execKillRepeat_memories (l : Fin 32) (tm : Nat) (s : State) :
    memoriesAfter (execKillRepeat l tm s) = some s.memories := by
  simp [execKillRepeat]

@[simp] theorem execTrpClear_memories (m : Fin 16) (tm : Nat) (s : State) :
    memoriesAfter (execTrpClear m tm s) = some s.memories := by
  simp [execTrpClear]

@[simp] theorem State.trpClearDue_memories (s : State) : s.trpClearDue.memories = s.memories := (rfl)

/-! ### Operations of `Machine/Causes` -/

@[simp] theorem State.refuseClear_memories (s : State) (l : List InForce) :
    (s.refuseClear l).memories = s.memories := by
  simp [State.refuseClear]

@[simp] theorem State.clearLatches_memories (s : State) (code inst : Nat) :
    (s.clearLatches code inst).memories = s.memories := by
  simp [State.clearLatches]

@[simp] theorem State.clearFaults_memories (s : State) (code inst : Nat) (copied : Bool) :
    (s.clearFaults code inst copied).memories = s.memories := by
  simp [State.clearFaults]

@[simp] theorem execFlogClear_memories (m : Fin 16) (tm : Nat) (s : State) :
    memoriesAfter (execFlogClear m tm s) = some s.memories := by
  simp [execFlogClear]

@[simp] theorem execStopTimeout_memories (a : Fin 128) (tm : Nat) (s : State) :
    memoriesAfter (execStopTimeout a tm s) = some s.memories := by
  simp [execStopTimeout]

@[simp] theorem execL3StopEnd_memories (a : Fin 128) (tm : Nat) (s : State) :
    memoriesAfter (execL3StopEnd a tm s) = some s.memories := by
  simp [execL3StopEnd]
  split <;> simp

/-! ### Operations of `Machine/Compare` -/

@[simp] theorem State.modCmp_memories (s : State) (a : Fin 128) (u : Fin 2) (f : CmpUnit → CmpUnit) :
    (s.modCmp a u f).memories = s.memories := (rfl)

@[simp] theorem State.modLat_memories (s : State) (a : Fin 128) (n : Fin 2) (f : LatchUnit → LatchUnit) :
    (s.modLat a n f).memories = s.memories := (rfl)

@[simp] theorem State.cmpAct_memories (s : State) (a : Fin 128) (u : Fin 2) (inst4 : Nat) (late : Bool) :
    (s.cmpAct a u inst4 late).1.memories = s.memories := by
  simp only [State.cmpAct]
  repeat' split
  all_goals simp

@[simp] theorem State.cmpFire_memories (s : State) (a : Fin 128) (u : Fin 2) (inst4 : Nat) (late : Bool)
    (sg rem : Int) :
    (s.cmpFire a u inst4 late sg rem).memories = s.memories := by
  simp [State.cmpFire]

@[simp] theorem State.cmpRun_memories (s : State) (a : Fin 128) (u : Fin 2) :
    (s.cmpRun a u).memories = s.memories := by
  simp [State.cmpRun]

@[simp] theorem State.cmpTarget_memories (s : State) (a : Fin 128) (u : Fin 2) (target : Int) :
    (s.cmpTarget a u target).memories = s.memories := (rfl)

@[simp] theorem State.cmpArm_memories (s : State) (a : Fin 128) (u : Fin 2) (target : Int) :
    (s.cmpArm a u target).memories = s.memories := by
  simp [State.cmpArm]

@[simp] theorem State.cmpTick_memories (s : State) (changed : List Nat) (a : Fin 128) (u : Fin 2) :
    (s.cmpTick changed a u).memories = s.memories := by
  simp [State.cmpTick]
  split <;> simp

@[simp] theorem State.cmpTicks_memories (s : State) (changed : List Nat) :
    (s.cmpTicks changed).memories = s.memories := by
  unfold State.cmpTicks
  refine (State.each_memories (fun t a => ?_) _ _).trans rfl
  exact State.foldl_memories (fun t u => t.cmpTick_memories changed a u) _ _

@[simp] theorem State.armReq_memories (s : State) (a : Fin 128) (units : Nat) (on : Bool) :
    (s.armReq a units on).memories = s.memories := (rfl)

@[simp] theorem execAxCmpArm_memories (m : Fin 16) (tm : Nat) (s : State) :
    memoriesAfter (execAxCmpArm m tm s) = some s.memories := by
  simp [execAxCmpArm]

@[simp] theorem execAxCmpDisarm_memories (m : Fin 16) (tm : Nat) (s : State) :
    memoriesAfter (execAxCmpDisarm m tm s) = some s.memories := by
  simp [execAxCmpDisarm]

@[simp] theorem State.latchOne_memories (s : State) (a : Fin 128) (n : Fin 2) (stamp : Nat) :
    (s.latchOne a n stamp).memories = s.memories := by
  simp [State.latchOne]

@[simp] theorem State.latchWaits_memories (s : State) (a : Fin 128) (n : Fin 2) :
    (s.latchWaits a n).memories = s.memories := by
  simp [State.latchWaits]

@[simp] theorem execLatchEdge_memories (a : Fin 128) (n : Fin 2) (rising : Bool) (stamp : Nat) (s : State) :
    memoriesAfter (execLatchEdge a n rising stamp s) = some s.memories := by
  simp [execLatchEdge]

@[simp] theorem State.unitsRun_memories (s : State) (a : Fin 128) : (s.unitsRun a).memories = s.memories := by
  unfold State.unitsRun
  refine (State.foldl_memories (fun t u => t.cmpRun_memories a u) _ _).trans ?_
  exact (State.foldl_memories (fun t n => t.latchWaits_memories a n) _ _).trans rfl

/-! ### Operations of `Machine/TimeShift` -/

@[simp] theorem State.shiftInstants_memories (s : State) (d : Int) (k : Nat) :
    (s.shiftInstants d k).memories = s.memories := by
  simp only [State.memories, State.shiftInstants, Vector.map_map]
  rfl

/-! ### Operations of `Machine/NetworkTime` -/

@[simp] theorem State.modUnit_memories (s : State) (n : Fin 2) (f : UnitSt → UnitSt) :
    (s.modUnit n f).memories = s.memories := (rfl)

@[simp] theorem State.timeStep_memories (s : State) (d : Int) : (s.timeStep d).memories = s.memories := by
  unfold State.timeStep
  extract_lets nt tick k t u
  have shifted : u.memories = s.memories := s.shiftInstants_memories d k
  simp [shifted]

@[simp] theorem State.watchDiverge_memories (s : State) : s.watchDiverge.memories = s.memories := (rfl)

@[simp] theorem State.servoStep_memories (s : State) (o : Rat) (log : Int) :
    (s.servoStep o log).memories = s.memories := by
  simp [State.servoStep]

@[simp] theorem State.syncAccepted_memories (s : State) (n : Fin 2) (port : Fin 4) (rx origin : Rat) (log : Int) :
    (s.syncAccepted n port rx origin log).memories = s.memories := by
  simp [State.syncAccepted]

@[simp] theorem execPtpSync_memories (tm : Nat) (s : State) :
    memoriesAfter (execPtpSync tm s) = some s.memories := by
  unfold execPtpSync
  extract_lets start
  have started : start.memories = s.memories := by simp [start]
  split
  · rfl
  next taken => simp [State.takeRx_memories taken, started]

@[simp] theorem State.passFollow_memories (s : State) (port : Fin 4) (w : SyncWait) (f : RxFrame) :
    (s.passFollow port w f).memories = s.memories := by
  unfold State.passFollow
  extract_lets k b
  split
  · rfl
  · split
    · simp
    · have taken := s.takeTsq_memories (otherPort port) (ptpSeq b % 4096)
      split
      next h => rw [h] at taken; exact taken
      next h => rw [h] at taken; simpa using taken

@[simp] theorem execFollowUp_memories (tm : Nat) (s : State) :
    memoriesAfter (execFollowUp tm s) = some s.memories := by
  unfold execFollowUp
  extract_lets start
  have started : start.memories = s.memories := by simp [start]
  split
  · simp [started]
  next taken =>
    have kept := (State.takeRx_memories taken).trans started
    extract_lets port n b v
    split
    · simp [kept]
    · extract_lets w
      have passed : w.memories = s.memories := by simp [w, v, kept]
      split
      · simp [kept]
      · simp [passed]

@[simp] theorem execPdelayMeasure_memories (port : Fin 4) (t1 t2 t3 t4 tm : Nat) (s : State) :
    memoriesAfter (execPdelayMeasure port t1 t2 t3 t4 tm s) = some s.memories := by
  simp [execPdelayMeasure]

@[simp] theorem State.setMaster_memories (s : State) (n : Fin 2) (on : Bool) :
    (s.setMaster n on).memories = s.memories := by
  simp [State.setMaster]

@[simp] theorem execAnnounce_memories (tm : Nat) (s : State) :
    memoriesAfter (execAnnounce tm s) = some s.memories := by
  unfold execAnnounce
  extract_lets start
  have started : start.memories = s.memories := by simp [start]
  split
  · rfl
  next taken => simp [State.takeRx_memories taken, started]

@[simp] theorem execSyncLoss_memories (net : Fin 2) (tm : Nat) (s : State) :
    memoriesAfter (execSyncLoss net tm s) = some s.memories := by
  simp [execSyncLoss]

@[simp] theorem execHoldoverExpiry_memories (tm : Nat) (s : State) :
    memoriesAfter (execHoldoverExpiry tm s) = some s.memories := by
  simp [execHoldoverExpiry]
  split <;> simp

@[simp] theorem State.pickDriver_memories (s : State) : s.pickDriver.memories = s.memories := by
  simp [State.pickDriver]

@[simp] theorem execTimeDriver_memories (tm : Nat) (s : State) :
    memoriesAfter (execTimeDriver tm s) = some s.memories := by
  simp [execTimeDriver]

@[simp] theorem execTimeDivergence_memories (tm : Nat) (s : State) :
    memoriesAfter (execTimeDivergence tm s) = some s.memories := by
  simp [execTimeDivergence]
  split <;> simp

@[simp] theorem execTickUnaligned_memories (tm : Nat) (s : State) :
    memoriesAfter (execTickUnaligned tm s) = some s.memories := by
  simp [execTickUnaligned]
  split <;> simp

@[simp] theorem execTsqEntryExpire_memories (port : Fin 4) (tm : Nat) (s : State) :
    memoriesAfter (execTsqEntryExpire port tm s) = some s.memories := (rfl)

@[simp] theorem execTsqOverflow_memories (tm : Nat) (s : State) :
    memoriesAfter (execTsqOverflow tm s) = some s.memories := by
  simp only [execTsqOverflow]
  repeat' split
  all_goals simp

@[simp] theorem execMasterSync_memories (net : Fin 2) (tm : Nat) (s : State) :
    memoriesAfter (execMasterSync net tm s) = some s.memories := by
  simp [execMasterSync]

@[simp] theorem execPtpSetTime_memories (m : Fin 16) (tm : Nat) (s : State) :
    memoriesAfter (execPtpSetTime m tm s) = some s.memories := by
  simp [execPtpSetTime]

/-! ### Operations of `Machine/Commit` -/

@[simp] theorem State.commitFbk_memories (o s : State) (a : Fin 128) : (o.commitFbk s a).memories = s.memories := by
  simp [State.commitFbk]

@[simp] theorem State.commitGains_memories (o s : State) (a : Fin 128) :
    (o.commitGains s a).memories = s.memories := (rfl)

@[simp] theorem State.commitFilter_memories (o s : State) (a : Fin 128) (k : Fin 2) :
    (o.commitFilter s a k).memories = s.memories := by
  simp [State.commitFilter]

@[simp] theorem State.commitOverride_memories (o s : State) (a : Fin 128) :
    (o.commitOverride s a).memories = s.memories := by
  simp [State.commitOverride]

@[simp] theorem State.commitDt_memories (o s : State) (a : Fin 128) : (o.commitDt s a).memories = s.memories := by
  simp [State.commitDt]

@[simp] theorem State.commitAxis_memories (o s : State) (a : Fin 128) : (o.commitAxis s a).memories = s.memories := by
  simp [State.commitAxis]

@[simp] theorem State.commitSlot_memories (s : State) (l : Fin 32) (k : Fin 4) :
    (s.commitSlot l k).memories = s.memories := by
  simp [State.commitSlot]

@[simp] theorem State.commitLink_memories (o s : State) (l : Fin 32) : (o.commitLink s l).memories = s.memories := by
  simp [State.commitLink]

@[simp] theorem State.commitPin_memories (o s : State) (p : Fin 8) : (o.commitPin s p).memories = s.memories := by
  simp [State.commitPin]

@[simp] theorem State.commitPerc_memories (s : State) : s.commitPerc.memories = s.memories := by
  simp [State.commitPerc]

@[simp] theorem State.commitNet_memories (o s : State) : (o.commitNet s).memories = s.memories := by
  simp [State.commitNet]

@[simp] theorem State.commitTwin_memories (o s : State) : (o.commitTwin s).memories = s.memories := by
  simp [State.commitTwin]

@[simp] theorem State.commitDevice_memories (o s : State) : (o.commitDevice s).memories = s.memories := by
  simp [State.commitDevice]

@[simp] theorem State.commitZarm_memories (s : State) (id v : Nat) :
    (s.commitZarm id v).memories = s.memories := (rfl)

@[simp] theorem State.commitActs_memories (s : State) (es : List (Nat × PVal)) :
    (s.commitActs es).memories = s.memories := by
  simp [State.commitActs]

@[simp] theorem State.commitEffects_memories (o s : State) : (o.commitEffects s).memories = s.memories := by
  unfold State.commitEffects
  extract_lets axes links pins
  refine (State.commitDevice_memories o pins).trans ?_
  refine (State.foldl_memories (fun t p => o.commitPin_memories t p) _ _).trans ?_
  refine (State.foldl_memories (fun t l => o.commitLink_memories t l) _ _).trans ?_
  exact State.foldl_memories (fun t a => o.commitAxis_memories t a) _ _

@[simp] theorem State.commitEntries_memories (s : State) (es : List (Nat × PVal)) :
    (s.commitEntries es).memories = s.memories := by
  simp [State.commitEntries]

@[simp] theorem State.groupDone_memories (s : State) (g : Group) : (s.groupDone g).memories = s.memories := by
  unfold State.groupDone
  split <;> simp

@[simp] theorem State.groupRefused_memories (s : State) (g : Group) : (s.groupRefused g).memories = s.memories := by
  unfold State.groupRefused
  split <;> simp

@[simp] theorem State.capInputs_memories (s : State) : s.capInputs.memories = s.memories := (rfl)

@[simp] theorem State.commitTick_memories (s : State) (ok : Group → Bool) :
    (s.commitTick ok).1.memories = s.memories := by
  simp [State.commitTick]

/-! ### Operations of `Machine/TwinImage` -/

@[simp] theorem State.takeAxisItem_memories (s : State) (l : List Nat) :
    (s.takeAxisItem l).memories = s.memories := by
  simp [State.takeAxisItem]

@[simp] theorem State.newItems_memories (s : State) : s.newItems.memories = s.memories := by
  simp [State.newItems]

@[simp] theorem State.buildImage_memories (s : State) : s.buildImage.2.memories = s.memories := by
  unfold State.buildImage
  simp

@[simp] theorem State.takeCtx_memories (s : State) (i : Nat) (r : List Byte) :
    (s.takeCtx i r).memories = s.memories := (rfl)

@[simp] theorem State.takeAxisRec_memories (s : State) (a : Fin 128) (r : List Byte) :
    (s.takeAxisRec a r).memories = s.memories := (rfl)

@[simp] theorem State.takeBack_memories (s : State) (a : Fin 128) : (s.takeBack a).memories = s.memories := (rfl)

@[simp] theorem State.takeRpt_memories (s : State) (a : Fin 128) (j : Nat) (r : List Byte) :
    (s.takeRpt a j r).memories = s.memories := (rfl)

/-! ### Operations of `Machine/Ageing` -/

@[simp] theorem State.margin_memories (s : State) (kind inst : Nat) (v : Rat) :
    (s.margin kind inst v).memories = s.memories := (rfl)

@[simp] theorem State.replanned_memories (s : State) (kind inst : Nat) :
    (s.replanned kind inst).memories = s.memories := (rfl)

@[simp] theorem execDailyUpdate_memories (tm : Nat) (s : State) :
    memoriesAfter (execDailyUpdate tm s) = some s.memories := by
  simp [execDailyUpdate]

@[simp] theorem execAvsUpdate_memories (slack : Int) (tm : Nat) (s : State) :
    memoriesAfter (execAvsUpdate slack tm s) = some s.memories := by
  simp [execAvsUpdate]

@[simp] theorem execSupplyDroop_memories (mv tm : Nat) (s : State) :
    memoriesAfter (execSupplyDroop mv tm s) = some s.memories := by
  simp [execSupplyDroop]

@[simp] theorem execEyeTune_memories (l : Fin 32) (eye : Nat) (viol : Bool) (tm : Nat) (s : State) :
    memoriesAfter (execEyeTune l eye viol tm s) = some s.memories := by
  unfold execEyeTune
  extract_lets t x u v set minE low drop w due
  have noted : v.memories = s.memories := by simp [v, u, t]
  have judged : w.memories = s.memories := by simp [w, noted]
  split
  · rfl
  · split
    · exact congrArg some noted
    · split
      · split
        · exact congrArg some noted
        · split
          · simp [noted]
          · exact congrArg some noted
      · split
        · exact congrArg some judged
        · split
          · exact congrArg some judged
          · simp [judged]

@[simp] theorem execLifeFlush_memories (tm : Nat) (s : State) :
    memoriesAfter (execLifeFlush tm s) = some s.memories := by
  simp [execLifeFlush]

@[simp] theorem execDerateUpdate_memories (a : Fin 128) (tm : Nat) (s : State) :
    memoriesAfter (execDerateUpdate a tm s) = some s.memories := by
  unfold execDerateUpdate
  extract_lets t x ft fh goal rise f again first y u v
  have derated : v.memories = s.memories := by simp [v, u, t]
  split
  · rfl
  · simp [derated]

@[simp] theorem execKeScaleUpdate_memories (a : Fin 128) (tm : Nat) (s : State) :
    memoriesAfter (execKeScaleUpdate a tm s) = some s.memories := by
  simp [execKeScaleUpdate]

@[simp] theorem execEngineTestSlice_memories (ok : Bool) (tm : Nat) (s : State) :
    memoriesAfter (execEngineTestSlice ok tm s) = some s.memories := by
  simp [execEngineTestSlice]
  split <;> simp

@[simp] theorem execMicrocodeCrc_memories (c : Fin 8) (ok : Bool) (tm : Nat) (s : State) :
    memoriesAfter (execMicrocodeCrc c ok tm s) = some s.memories := by
  simp [execMicrocodeCrc]

@[simp] theorem execEngineTest_memories (c : Fin 8) (tm : Nat) (s : State) :
    memoriesAfter (execEngineTest c tm s) = some s.memories := by
  simp only [execEngineTest]
  repeat' split
  all_goals simp

@[simp] theorem execAgeClusterTest_memories (m : Fin 16) (tm : Nat) (s : State) :
    memoriesAfter (execAgeClusterTest m tm s) = some s.memories := by
  simp [execAgeClusterTest]

@[simp] theorem execClusterTestDone_memories (c : Fin 8) (fail : Bool) (item tm : Nat) (s : State) :
    memoriesAfter (execClusterTestDone c fail item tm s) = some s.memories := by
  simp [execClusterTestDone]

@[simp] theorem execAgeAxisReset_memories (m : Fin 16) (tm : Nat) (s : State) :
    memoriesAfter (execAgeAxisReset m tm s) = some s.memories := by
  simp [execAgeAxisReset]

@[simp] theorem execAgePortLoop_memories (m : Fin 16) (tm : Nat) (s : State) :
    memoriesAfter (execAgePortLoop m tm s) = some s.memories := by
  simp [execAgePortLoop]

@[simp] theorem execPortLoopDone_memories (errors sum tm : Nat) (s : State) :
    memoriesAfter (execPortLoopDone errors sum tm s) = some s.memories := by
  simp [execPortLoopDone]
  split <;> simp

@[simp] theorem execAgeFwRestart_memories (m : Fin 16) (tm : Nat) (s : State) :
    memoriesAfter (execAgeFwRestart m tm s) = some s.memories := by
  simp [execAgeFwRestart]

@[simp] theorem execServiceLeave_memories (tm : Nat) (s : State) :
    memoriesAfter (execServiceLeave tm s) = some s.memories := by
  simp only [execServiceLeave]
  repeat' split
  all_goals simp

@[simp] theorem execFwAlive_memories (tm : Nat) (s : State) : memoriesAfter (execFwAlive tm s) = some s.memories := by
  simp [execFwAlive]

/-! ### Operations of `Machine/BringUp` -/

@[simp] theorem State.restoreSet_memories (s : State) (l : List PEntry) : (s.restoreSet l).memories = s.memories := by
  simp [State.restoreSet]

@[simp] theorem State.restoreFlash_memories (s : State) : s.restoreFlash.memories = s.memories := by
  unfold State.restoreFlash
  split <;> simp

@[simp] theorem execParamRestore_memories (tm : Nat) (s : State) :
    memoriesAfter (execParamRestore tm s) = some s.memories := by
  simp [execParamRestore]

@[simp] theorem execFullService_memories (tm : Nat) (s : State) :
    memoriesAfter (execFullService tm s) = some s.memories := by
  simp [execFullService]

@[simp] theorem State.expReset_memories (s : State) (a : Fin 128) : (s.expReset a).memories = s.memories := (rfl)

@[simp] theorem State.axReady_memories (s : State) (c : Fin 8) (onAt : Nat) :
    (s.axReady c onAt).memories = s.memories := by
  simp [State.axReady]

@[simp] theorem execDomainReady_memories (i : Fin 16) (tm : Nat) (s : State) :
    memoriesAfter (execDomainReady i tm s) = some s.memories := by
  simp only [execDomainReady]
  repeat' split
  all_goals simp

@[simp] theorem State.safWake_memories (s : State) : s.safWake.memories = s.memories := by
  simp [State.safWake]
  split <;> simp

@[simp] theorem execDeepSleepExit_memories (tm : Nat) (s : State) :
    memoriesAfter (execDeepSleepExit tm s) = some s.memories := by
  simp only [execDeepSleepExit]
  repeat' split
  all_goals simp

/-! ### Operations of `Machine/Capture` -/

@[simp] theorem State.capTrigger_memories (s : State) (hit : Vector Bool 4) :
    (s.capTrigger hit).memories = s.memories := by
  simp [State.capTrigger]

@[simp] theorem State.capArmed_memories (s : State) (g : CapCfg) : (s.capArmed g).memories = s.memories := (rfl)

@[simp] theorem State.capCall_memories (s : State) (m k : Nat) : (s.capCall m k).memories = s.memories := by
  unfold State.capCall
  extract_lets c id g
  split
  · simp
  · split <;> simp
  · have stopped : (s.modCap fun c => if c.cfg.rep then { c with stopAfter := true } else
        { c.indexed with state := .stopped }).memories = s.memories :=
      State.modCap_memories (fun c => by split <;> rfl) s
    split <;> simp [stopped]

@[simp] theorem State.capTick_memories (s : State) : s.capTick.memories = s.memories := by
  simp [State.capTick]

@[simp] theorem State.capWait_memories (s : State) (m : Fin 16) (k : Nat) : (s.capWait m k).Keeps s := by
  simp [State.capWait]

@[simp] theorem execCapArm_memories (m : Fin 16) (tm : Nat) (s : State) :
    memoriesAfter (execCapArm m tm s) = some s.memories := by
  simp [execCapArm]

@[simp] theorem execCapForce_memories (m : Fin 16) (tm : Nat) (s : State) :
    memoriesAfter (execCapForce m tm s) = some s.memories := by
  simp [execCapForce]

@[simp] theorem execCapStop_memories (m : Fin 16) (tm : Nat) (s : State) :
    memoriesAfter (execCapStop m tm s) = some s.memories := by
  simp [execCapStop]

/-! ### Operations of `Machine/Datagrams` -/

@[simp] theorem State.dropIp_memories (s : State) : s.dropIp.memories = s.memories := (rfl)

theorem State.takeIp_memories {s t : State} {hit : RxFrame → Bool} {f : RxFrame} (h : s.takeIp hit = some (f, t)) :
    t.memories = s.memories :=
  (State.takeRx_memories h).trans s.dropIp_memories

@[simp] theorem execArpRequest_memories (tm : Nat) (s : State) :
    memoriesAfter (execArpRequest tm s) = some s.memories := by
  unfold execArpRequest
  extract_lets start
  have started : start.memories = s.memories := by simp [start]
  split
  · simp [started]
  next taken => simp [State.takeIp_memories taken, started]

@[simp] theorem execIcmpEcho_memories (tm : Nat) (s : State) :
    memoriesAfter (execIcmpEcho tm s) = some s.memories := by
  unfold execIcmpEcho
  extract_lets start
  have started : start.memories = s.memories := by simp [start]
  split
  · simp [started]
  next taken => simp [State.takeIp_memories taken, started]

@[simp] theorem State.udpBusy_memories (s : State) (d : Dgram) : (s.udpBusy d).memories = s.memories := (rfl)

@[simp] theorem State.udpReject_memories (s : State) : s.udpReject.memories = s.memories := (rfl)

@[simp] theorem execEventDatagramSend_memories (sid tm : Nat) (s : State) :
    memoriesAfter (execEventDatagramSend sid tm s) = some s.memories := by
  simp [execEventDatagramSend]
  split <;> simp

/-! ### Operations of `Machine/Trajectory` -/

@[simp] theorem State.acceptNet_memories (s : State) (a : Fin 128) : (s.acceptNet a).memories = s.memories := (rfl)

@[simp] theorem State.trajIdle_memories (s : State) (a : Fin 128) (b : SetP) :
    (s.trajIdle a b).memories = s.memories := by
  simp [State.trajIdle]

@[simp] theorem State.stopPlan_memories (s : State) (a : Fin 128) (limit : Bool) :
    (s.stopPlan a limit).memories = s.memories := (rfl)

@[simp] theorem State.nowPaused_memories (s : State) (a : Fin 128) : (s.nowPaused a).memories = s.memories := by
  simp [State.nowPaused]
  split <;> simp

@[simp] theorem State.stopHard_memories (s : State) (a : Fin 128) (b : SetP) :
    (s.stopHard a b).memories = s.memories := by
  simp [State.stopHard]

@[simp] theorem State.currentRamp_memories (s : State) (a : Fin 128) (b : SetP) :
    (s.currentRamp a b).memories = s.memories := by
  simp [State.currentRamp]

@[simp] theorem State.stopBegin_memories (s : State) (a : Fin 128) (limit : Bool) :
    (s.stopBegin a limit).memories = s.memories := by
  simp [State.stopBegin]

@[simp] theorem State.stopRuns_memories (s : State) (a : Fin 128) (b : SetP) :
    (s.stopRuns a b).memories = s.memories := by
  simp [State.stopRuns]

@[simp] theorem State.runOutBegin_memories (s : State) (a : Fin 128) :
    (s.runOutBegin a).memories = s.memories := (rfl)

@[simp] theorem State.restStep_memories (s : State) (a : Fin 128) (b : SetP) :
    (s.restStep a b).memories = s.memories := by
  simp [State.restStep]

@[simp] theorem State.replan_memories (s : State) (a : Fin 128) : (s.replan a).memories = s.memories := (rfl)

@[simp] theorem State.queueStep_memories (s : State) (a : Fin 128) (b : SetP) :
    (s.queueStep a b).memories = s.memories := by
  simp [State.queueStep]

@[simp] theorem State.stepOn_memories (s : State) (a : Fin 128) (b : SetP) :
    (s.stepOn a b).memories = s.memories := by
  simp [State.stepOn]

@[simp] theorem State.stopStep_memories (s : State) (a : Fin 128) (b : SetP) :
    (s.stopStep a b).memories = s.memories := by
  simp [State.stopStep]

@[simp] theorem State.profileStep_memories (s : State) (a : Fin 128) (b : SetP) :
    (s.profileStep a b).memories = s.memories := by
  simp [State.profileStep]

@[simp] theorem State.stepInput_memories (s : State) (a : Fin 128) (b : SetP) :
    (s.stepInput a b).memories = s.memories := by
  simp [State.stepInput]

@[simp] theorem State.cyclicStep_memories (s : State) (a : Fin 128) (b : SetP) :
    (s.cyclicStep a b).memories = s.memories := by
  simp [State.cyclicStep]
  split <;> simp

@[simp] theorem State.limitCheck_memories (s : State) (a : Fin 128) : (s.limitCheck a).memories = s.memories := by
  simp [State.limitCheck]
  split <;> simp

@[simp] theorem State.flushChecks_memories (s : State) (a : Fin 128) : (s.flushChecks a).memories = s.memories := by
  simp [State.flushChecks]

@[simp] theorem State.dropStream_memories (s : State) (a : Fin 128) : (s.dropStream a).memories = s.memories := by
  simp [State.dropStream]

@[simp] theorem State.rebase_memories (s : State) (a : Fin 128) : (s.rebase a).memories = s.memories := by
  simp [State.rebase]

@[simp] theorem State.trajAxis_memories (s : State) (a : Fin 128) : (s.trajAxis a).memories = s.memories := by
  simp [State.trajAxis]

@[simp] theorem State.trajCluster_memories (s : State) (c : Fin 8) : (s.trajCluster c).memories = s.memories := by
  simp [State.trajCluster]

@[simp] theorem execTrajectoryRun_memories (c : Fin 8) (s : State) :
    memoriesAfter (execTrajectoryRun c s) = some s.memories := by
  simp [execTrajectoryRun]

/-! ### Operations of `Machine/AxisState` -/

@[simp] theorem State.leaveOff_memories (s : State) (a : Fin 128) : (s.leaveOff a).memories = s.memories := (rfl)

@[simp] theorem State.beginStop_memories (s : State) (a : Fin 128) : (s.beginStop a).memories = s.memories := (rfl)

@[simp] theorem State.beginCoast_memories (s : State) (a : Fin 128) : (s.beginCoast a).memories = s.memories := (rfl)

@[simp] theorem State.enterFault_memories (s : State) (a : Fin 128) : (s.enterFault a).memories = s.memories := (rfl)

@[simp] theorem State.switchSource_memories (s : State) (a : Fin 128) : (s.switchSource a).memories = s.memories := by
  simp [State.switchSource]

@[simp] theorem State.readyStep_memories (s : State) (a : Fin 128) : (s.readyStep a).memories = s.memories := by
  simp [State.readyStep]

@[simp] theorem State.runStep_memories (s : State) (a : Fin 128) : (s.runStep a).memories = s.memories := by
  simp [State.runStep]

@[simp] theorem State.stopState_memories (s : State) (a : Fin 128) : (s.stopState a).memories = s.memories := by
  simp [State.stopState]

@[simp] theorem State.holdStep_memories (s : State) (a : Fin 128) : (s.holdStep a).memories = s.memories := by
  simp [State.holdStep]

@[simp] theorem State.faultStep_memories (s : State) (a : Fin 128) : (s.faultStep a).memories = s.memories := by
  simp [State.faultStep]

@[simp] theorem State.quietWatch_memories (s : State) (a : Fin 128) : (s.quietWatch a).memories = s.memories := (rfl)

@[simp] theorem State.axisStep_memories (s : State) (a : Fin 128) : (s.axisStep a).memories = s.memories := by
  simp [State.axisStep]
  split <;> simp

/-! ### Operations of `Machine/Engine` -/

@[simp] theorem State.injAbort_memories (s : State) (a : Fin 128) (cause : Nat) :
    (s.injAbort a cause).memories = s.memories := by
  simp [State.injAbort]

@[simp] theorem State.injWatch_memories (s : State) (a : Fin 128) : (s.injWatch a).memories = s.memories := by
  simp [State.injWatch]

@[simp] theorem State.injFrame_memories (s : State) (a : Fin 128) : (s.injFrame a).memories = s.memories := by
  simp [State.injFrame]

@[simp] theorem execAxInjStart_memories (m : Fin 16) (tm : Nat) (s : State) :
    memoriesAfter (execAxInjStart m tm s) = some s.memories := by
  simp [execAxInjStart]

@[simp] theorem execAxInjStop_memories (m : Fin 16) (tm : Nat) (s : State) :
    memoriesAfter (execAxInjStop m tm s) = some s.memories := by
  simp [execAxInjStop]

@[simp] theorem execInjDone_memories (a : Fin 128) (tm : Nat) (s : State) :
    memoriesAfter (execInjDone a tm s) = some s.memories := by
  simp [execInjDone]

@[simp] theorem State.runLoops_memories (s : State) (a : Fin 128) : (s.runLoops a).1.memories = s.memories := (rfl)

@[simp] theorem State.endLoops_memories (s : State) (a : Fin 128) (vel : Bool) (yv : Rat) :
    (s.endLoops a vel yv).memories = s.memories := (rfl)

@[simp] theorem State.idleLoops_memories (s : State) (a : Fin 128) : (s.idleLoops a).memories = s.memories := (rfl)

@[simp] theorem State.sixCurrent_memories (s : State) (a : Fin 128) (recs : List Stamped) :
    (s.sixCurrent a recs).1.memories = s.memories := (rfl)

@[simp] theorem State.sixLoop_memories (s : State) (a : Fin 128) (isp : Rat) (sec : Nat) (recs : List Stamped) :
    (s.sixLoop a isp sec recs).1.memories = s.memories := by
  simp only [State.sixLoop, State.modAxis_memories, State.sixCurrent_memories]

@[simp] theorem State.sixRun_memories (s : State) (a : Fin 128) (recs : List Stamped) :
    (s.sixRun a recs).1.memories = s.memories := (rfl)

@[simp] theorem State.sixForce_memories (s : State) (a : Fin 128) (pct : Int) (sec : Nat) (recs : List Stamped) :
    (s.sixForce a pct sec recs).1.memories = s.memories :=
  (State.modAxis_memories ..).trans (s.sixLoop_memories a _ sec recs)

@[simp] theorem State.ipdFrame_memories (s : State) (a : Fin 128) (recs : List Stamped) :
    (s.ipdFrame a recs).1.memories = s.memories := (rfl)

@[simp] theorem State.learnFrame_memories (s : State) (a : Fin 128) (k : LearnSt) (recs : List Stamped) :
    (s.learnFrame a k recs).1.memories = s.memories := by
  simp [State.learnFrame]

@[simp] theorem State.sixFrame_memories (s : State) (a : Fin 128) (recs : List Stamped) :
    (s.sixFrame a recs).1.memories = s.memories := by
  simp only [State.sixFrame]
  repeat' split
  all_goals simp

@[simp] theorem State.sixTrack_memories (s : State) (a : Fin 128) (recs : List Stamped) :
    (s.sixTrack a recs).memories = s.memories := (rfl)

@[simp] theorem State.kePairs_memories (s : State) (a : Fin 128) (recs : List Stamped) :
    (s.kePairs a recs).memories = s.memories := by
  simp only [State.kePairs]
  repeat' split
  all_goals simp

@[simp] theorem State.stepFrame_memories (s : State) (a : Fin 128) (recs : List Stamped) :
    (s.stepFrame a recs).1.memories = s.memories := by
  simp only [State.stepFrame]
  repeat' split
  all_goals simp

@[simp] theorem State.watches_memories (s : State) (a : Fin 128) : (s.watches a).memories = s.memories := (rfl)

@[simp] theorem State.friction_memories (s : State) (a : Fin 128) : (s.friction a).memories = s.memories := by
  simp [State.friction]
  split <;> simp

@[simp] theorem State.bridgeTime_memories (s : State) (a : Fin 128) : (s.bridgeTime a).memories = s.memories := by
  unfold State.bridgeTime
  split <;> simp

@[simp] theorem State.sendAxisWords_memories (s : State) (c : Fin 8) : (s.sendAxisWords c).memories = s.memories := by
  simp [State.sendAxisWords]

@[simp] theorem State.axisFront_memories (s : State) (a : Fin 128) (recs : List Stamped) :
    (s.axisFront a recs).memories = s.memories := by
  simp [State.axisFront]

@[simp] theorem State.axisBack_memories (s : State) (a : Fin 128) (recs : List Stamped) :
    (s.axisBack a recs).memories = s.memories := by
  simp [State.axisBack]
  split <;> simp

@[simp] theorem execEngineRun_memories (c : Fin 8) (ns : Nat) (s : State) :
    memoriesAfter (execEngineRun c ns s) = some s.memories := by
  simp [execEngineRun]

@[simp] theorem execAxMotSatClr_memories (m : Fin 16) (tm : Nat) (s : State) :
    memoriesAfter (execAxMotSatClr m tm s) = some s.memories := by
  simp [execAxMotSatClr]

@[simp] theorem execAxRptClear_memories (m : Fin 16) (tm : Nat) (s : State) :
    memoriesAfter (execAxRptClear m tm s) = some s.memories := by
  simp [execAxRptClear]

@[simp] theorem execFollowingError_memories (a : Fin 128) (tm : Nat) (s : State) :
    memoriesAfter (execFollowingError a tm s) = some s.memories := by
  simp [execFollowingError]
  split <;> simp

@[simp] theorem execNumericSat_memories (a : Fin 128) (tm : Nat) (s : State) :
    memoriesAfter (execNumericSat a tm s) = some s.memories := by
  simp [execNumericSat]

@[simp] theorem execVbusLow_memories (a : Fin 128) (tm : Nat) (s : State) :
    memoriesAfter (execVbusLow a tm s) = some s.memories := by
  simp only [execVbusLow]
  repeat' split
  all_goals simp

/-! ### Operations of `Machine/Schedule` -/

@[simp] theorem State.setLive_memories (s : State) (l : Fin 32) (c : Fin 4 → SlotCmd) :
    (s.setLive l c).memories = s.memories := by
  simp [State.setLive]

@[simp] theorem State.sendSchedule_memories (s : State) (l : Fin 32) : (s.sendSchedule l).memories = s.memories := by
  simp [State.sendSchedule]

@[simp] theorem State.sendRepeat_memories (s : State) (l : Fin 32) (off : Bool) :
    (s.sendRepeat l off).memories = s.memories := by
  simp [State.sendRepeat]

@[simp] theorem State.needEpoch_memories (s : State) : s.needEpoch.memories = s.memories := by
  simp [State.needEpoch]

@[simp] theorem execScheduleFrameSend_memories (c : Fin 8) (s : State) :
    memoriesAfter (execScheduleFrameSend c s) = some s.memories := by
  simp [execScheduleFrameSend]

@[simp] theorem execFrameOverrun_memories (c : Fin 8) (s : State) :
    memoriesAfter (execFrameOverrun c s) = some s.memories := by
  simp [execFrameOverrun]

@[simp] theorem execClusterOverrun_memories (c : Fin 8) (s : State) :
    memoriesAfter (execClusterOverrun c s) = some s.memories := by
  simp [execClusterOverrun]

@[simp] theorem State.overrunCleared_memories (s : State) : s.overrunCleared.memories = s.memories := (rfl)

/-! ### Operations of `Machine/Frame` -/

@[simp] theorem State.beginTick_memories (s : State) : s.beginTick.memories = s.memories := (rfl)

@[simp] theorem State.saveDone_memories (s : State) : s.saveDone.memories = s.memories := by
  unfold State.saveDone
  split <;> simp

@[simp] theorem State.bundleDone_memories (s : State) : s.bundleDone.memories = s.memories := by
  simp [State.bundleDone]

@[simp] theorem State.statClear_memories (s : State) : s.statClear.memories = s.memories := by
  simp [State.statClear]

@[simp] theorem State.replanDue_memories (s : State) : s.replanDue.memories = s.memories := (rfl)

@[simp] theorem State.enableWakes_memories (s : State) : s.enableWakes.memories = s.memories := (rfl)

/-! ### Operations of `Machine/Pcie` -/

@[simp] theorem State.cfgWrite_memories (s : State) (off : Nat) (v : Word) :
    (s.cfgWrite off v).memories = s.memories := (rfl)

/-! ### Operations of `Machine/Host` -/

@[simp] theorem State.qspiRead_memories (s : State) (off words tm : Nat) :
    (s.qspiRead off words tm).memories = s.memories := by
  simp [State.qspiRead]

@[simp] theorem execQspiRead_memories (off words tm : Nat) (s : State) :
    memoriesAfter (execQspiRead off words tm s) = some s.memories := by
  simp [execQspiRead]

@[simp] theorem execQspiQread_memories (off words tm : Nat) (s : State) :
    memoriesAfter (execQspiQread off words tm s) = some s.memories := by
  simp [execQspiQread]

@[simp] theorem execWideRegisterLowRead_memories (p : Path) (off tm : Nat) (s : State) :
    memoriesAfter (execWideRegisterLowRead p off tm s) = some s.memories := by
  simp [execWideRegisterLowRead]

@[simp] theorem execMbxClaim_memories (p : Path) (m : Fin 16) (s : State) :
    memoriesAfter (execMbxClaim p m s) = some s.memories := by
  simp [execMbxClaim]

@[simp] theorem execMbxDoorbell_memories (p : Path) (m : Fin 16) (tm : Nat) (s : State) :
    memoriesAfter (execMbxDoorbell p m tm s) = some s.memories := by
  simp [execMbxDoorbell]

@[simp] theorem execMbxTake_memories (m : Fin 16) (tm : Nat) (s : State) :
    memoriesAfter (execMbxTake m tm s) = some s.memories := by
  simp [execMbxTake]

@[simp] theorem execIrqStatusWrite_memories (v : Word) (s : State) :
    memoriesAfter (execIrqStatusWrite v s) = some s.memories := by
  simp [execIrqStatusWrite]

@[simp] theorem execIrqEnableWrite_memories (v : Word) (s : State) :
    memoriesAfter (execIrqEnableWrite v s) = some s.memories := by
  simp [execIrqEnableWrite]

@[simp] theorem execIrqVectorWrite_memories (v : Word) (s : State) :
    memoriesAfter (execIrqVectorWrite v s) = some s.memories := by
  simp [execIrqVectorWrite]

@[simp] theorem execIrqTest_memories (v : Word) (s : State) : memoriesAfter (execIrqTest v s) = some s.memories := by
  simp [execIrqTest]

@[simp] theorem execHostWdogKick_memories (tm : Nat) (s : State) :
    memoriesAfter (execHostWdogKick tm s) = some s.memories := by
  simp [execHostWdogKick]

@[simp] theorem execHostWdogExpiry_memories (tm : Nat) (s : State) :
    memoriesAfter (execHostWdogExpiry tm s) = some s.memories := by
  simp [execHostWdogExpiry]

@[simp] theorem execEvtPop_memories (s : State) : memoriesAfter (execEvtPop s) = some s.memories := by
  simp [execEvtPop]

@[simp] theorem execEvtLostRead_memories (s : State) : memoriesAfter (execEvtLostRead s) = some s.memories := by
  simp [execEvtLostRead]

@[simp] theorem execTsTake_memories (tm : Nat) (s : State) : memoriesAfter (execTsTake tm s) = some s.memories := by
  simp [execTsTake]

@[simp] theorem execTsOnTick_memories (s : State) : memoriesAfter (execTsOnTick s) = some s.memories := by
  simp [execTsOnTick]

@[simp] theorem execPiCtrlWrite_memories (p : Path) (v : Word) (s : State) :
    memoriesAfter (execPiCtrlWrite p v s) = some s.memories := by
  simp [execPiCtrlWrite]

@[simp] theorem execPiHandover_memories (p : Path) (tm : Nat) (s : State) :
    memoriesAfter (execPiHandover p tm s) = some s.memories := by
  simp [execPiHandover]

@[simp] theorem execPiTimeout_memories (s : State) : memoriesAfter (execPiTimeout s) = some s.memories := by
  simp [execPiTimeout]

/-! ### Operations of `Machine/SafetyCmds` -/

@[simp] theorem execSafetyInputSample_memories (ch : Fin 2) (sp sn : BitVec 8) (tm : Nat) (s : State) :
    memoriesAfter (execSafetyInputSample ch sp sn tm s) = some s.memories := by
  simp [execSafetyInputSample]

@[simp] theorem execDiscrepancy_memories (pair : Fin 8) (tm : Nat) (s : State) :
    memoriesAfter (execDiscrepancy pair tm s) = some s.memories := by
  simp [execDiscrepancy]

@[simp] theorem execCrossCheckSend_memories (ch : Fin 2) (tm : Nat) (s : State) :
    memoriesAfter (execCrossCheckSend ch tm s) = some s.memories := by
  simp [execCrossCheckSend]

@[simp] theorem State.adopt_memories (s : State) (ch : Fin 2) : (s.adopt ch).memories = s.memories := by
  unfold State.adopt
  extract_lets o t od
  have adopted : t.memories = s.memories := by
    refine State.each_memories (fun t g => ?_) _ _
    dsimp only
    split
    · simp
    · simp
    · rfl
  split
  · simpa using adopted
  · exact adopted

@[simp] theorem execCrossCheckReceive_memories (ch : Fin 2) (valid : Bool) (tm : Nat) (s : State) :
    memoriesAfter (execCrossCheckReceive ch valid tm s) = some s.memories := by
  simp [execCrossCheckReceive]

@[simp] theorem execXchkLost_memories (ch : Fin 2) (tm : Nat) (s : State) :
    memoriesAfter (execXchkLost ch tm s) = some s.memories := by
  simp [execXchkLost]

@[simp] theorem execChannelDisagree_memories (tm : Nat) (s : State) :
    memoriesAfter (execChannelDisagree tm s) = some s.memories := by
  simp [execChannelDisagree]

@[simp] theorem execSelftest_memories (ch : Fin 2) (tm : Nat) (s : State) :
    memoriesAfter (execSelftest ch tm s) = some s.memories := by
  simp [execSelftest]

@[simp] theorem execSs1Expiry_memories (ch : Fin 2) (g : Fin 16) (tm : Nat) (s : State) :
    memoriesAfter (execSs1Expiry ch g tm s) = some s.memories := by
  simp [execSs1Expiry]

@[simp] theorem execSlsRampEnd_memories (ch : Fin 2) (g : Fin 16) (tm : Nat) (s : State) :
    memoriesAfter (execSlsRampEnd ch g tm s) = some s.memories := by
  simp [execSlsRampEnd]
  split <;> simp

@[simp] theorem State.axisWordAt_memories (s : State) (ch : Fin 2) (a : Fin 128) (w : Nat) :
    (s.axisWordAt ch a w).memories = s.memories := by
  simp [State.axisWordAt]

@[simp] theorem execAxisWordReceive_memories (ch : Fin 2) (a : Fin 128) (word : Dword) (tm : Nat) (s : State) :
    memoriesAfter (execAxisWordReceive ch a word tm s) = some s.memories := by
  simp [execAxisWordReceive]

@[simp] theorem State.axisFault_memories (s : State) (a : Fin 128) (code act : Nat) :
    (s.axisFault a code act).memories = s.memories := by
  simp [State.axisFault]
  split <;> simp

@[simp] theorem execAxisWord_memories (a : Fin 128) (tm : Nat) (s : State) :
    memoriesAfter (execAxisWord a tm s) = some s.memories := by
  simp [execAxisWord]

@[simp] theorem execSlsViolation_memories (a : Fin 128) (tm : Nat) (s : State) :
    memoriesAfter (execSlsViolation a tm s) = some s.memories := by
  simp [execSlsViolation]

@[simp] theorem execSdiViolation_memories (a : Fin 128) (tm : Nat) (s : State) :
    memoriesAfter (execSdiViolation a tm s) = some s.memories := by
  simp [execSdiViolation]

@[simp] theorem State.telTake_memories (s : State) (ch : Fin 2) (b : List Byte) (tagged : Bool) :
    (s.telTake ch b tagged).1.memories = s.memories := by
  unfold State.telTake
  repeat' split
  all_goals simp

@[simp] theorem State.telEdge_memories (s : State) (old : ChanSt) : (s.telEdge old).memories = s.memories := by
  simp [State.telEdge]

@[simp] theorem State.telCopies_memories (s : State) (net : Nat) (full : Bool) (b : List Byte) :
    (s.telCopies net full b).1.memories = s.memories := by
  simp only [State.telCopies]
  repeat' split
  all_goals simp

@[simp] theorem State.telReport_memories (s : State) (node : Nat) : (s.telReport node).memories = s.memories := by
  simp [State.telReport]

@[simp] theorem execSafeTelegramCopy_memories (tm : Nat) (s : State) :
    memoriesAfter (execSafeTelegramCopy tm s) = some s.memories := by
  unfold execSafeTelegramCopy
  extract_lets start
  have started : start.memories = s.memories := by simp [start]
  split
  · rfl
  next f t taken =>
    extract_lets c ok u b old
    have received : u.memories = s.memories := by
      unfold u
      split <;> simp [State.takeRx_memories taken, started]
    split
    · exact congrArg some received
    · split
      next v diff h =>
      have compared : v.memories = s.memories := by
        split at h
        · rw [← fst_of_eq h]
          simpa using received
        · rw [← fst_of_eq h]
          exact received
      split
      · simpa using compared
      · split
        next w new h =>
        have heard : w.memories = s.memories := by
          split at h
          · rw [← fst_of_eq h]
            simpa using compared
          · rw [← fst_of_eq h]
            exact compared
        simp [heard]

@[simp] theorem execTelSkew_memories (tm : Nat) (s : State) :
    memoriesAfter (execTelSkew tm s) = some s.memories := (rfl)

@[simp] theorem execTelOneNet_memories (net : Fin 2) (tm : Nat) (s : State) :
    memoriesAfter (execTelOneNet net tm s) = some s.memories := by
  simp [execTelOneNet]
  split <;> simp

@[simp] theorem execTelTimeout_memories (tm : Nat) (s : State) :
    memoriesAfter (execTelTimeout tm s) = some s.memories := by
  simp [execTelTimeout]

@[simp] theorem execSoTest_memories (n ch : Fin 2) (ok conducting : Bool) (tm : Nat) (s : State) :
    memoriesAfter (execSoTest n ch ok conducting tm s) = some s.memories := by
  simp [execSoTest]

@[simp] theorem execLTemp_memories (temp : Int) (monitor : Bool) (tm : Nat) (s : State) :
    memoriesAfter (execLTemp temp monitor tm s) = some s.memories := by
  simp [execLTemp]

@[simp] theorem State.leaveDegraded_memories (s : State) : s.leaveDegraded.memories = s.memories := (rfl)

@[simp] theorem execDegradedExit_memories (tm : Nat) (s : State) :
    memoriesAfter (execDegradedExit tm s) = some s.memories := by
  simp [execDegradedExit]
  split <;> simp

@[simp] theorem execDegradedExpired_memories (tm : Nat) (s : State) :
    memoriesAfter (execDegradedExpired tm s) = some s.memories := by
  simp [execDegradedExpired]

@[simp] theorem execDegradedTimerReset_memories (tm : Nat) (s : State) :
    memoriesAfter (execDegradedTimerReset tm s) = some s.memories := by
  simp [execDegradedTimerReset]
  split <;> simp

@[simp] theorem execLoginIdleEnd_memories (tm : Nat) (s : State) :
    memoriesAfter (execLoginIdleEnd tm s) = some s.memories := (rfl)

@[simp] theorem execLoginLockoutEnd_memories (tm : Nat) (s : State) :
    memoriesAfter (execLoginLockoutEnd tm s) = some s.memories := (rfl)

/-! ### Operations of `Machine/Twin` -/

@[simp] theorem execTwinSwitch_memories (m : Fin 16) (tm : Nat) (s : State) :
    memoriesAfter (execTwinSwitch m tm s) = some s.memories := by
  simp [execTwinSwitch]

@[simp] theorem execTwinRejoin_memories (m : Fin 16) (tm : Nat) (s : State) :
    memoriesAfter (execTwinRejoin m tm s) = some s.memories := by
  simp [execTwinRejoin]

@[simp] theorem execTwinTake_memories (m : Fin 16) (tm : Nat) (s : State) :
    memoriesAfter (execTwinTake m tm s) = some s.memories := by
  simp [execTwinTake]

@[simp] theorem execTwinSnapshot_memories (tm : Nat) (s : State) :
    memoriesAfter (execTwinSnapshot tm s) = some s.memories := by
  simp only [execTwinSnapshot]
  repeat' split
  all_goals simp

@[simp] theorem execTwinBurstReceive_memories (k : Fin 2) (fc : Nat) (bytes : List Byte) (tm : Nat) (s : State) :
    memoriesAfter (execTwinBurstReceive k fc bytes tm s) = some s.memories := by
  simp [execTwinBurstReceive]

@[simp] theorem State.imageMissed_memories (s : State) (bad due : Bool) :
    (s.imageMissed bad due).memories = s.memories := (rfl)

@[simp] theorem execTwinReturnBlock_memories (k : Fin 2) (pair : Bool) (bytes : List Byte) (tm : Nat) (s : State) :
    memoriesAfter (execTwinReturnBlock k pair bytes tm s) = some s.memories := by
  simp [execTwinReturnBlock]

@[simp] theorem execPartnerLost_memories (tm : Nat) (s : State) :
    memoriesAfter (execPartnerLost tm s) = some s.memories := by
  simp [execPartnerLost]

@[simp] theorem execTwinLink_memories (k : Fin 2) (tm : Nat) (s : State) :
    memoriesAfter (execTwinLink k tm s) = some s.memories := by
  simp [execTwinLink]

@[simp] theorem execSplitEnd_memories (tm : Nat) (s : State) :
    memoriesAfter (execSplitEnd tm s) = some s.memories := by
  simp [execSplitEnd]

@[simp] theorem execTakeover_memories (tm : Nat) (s : State) :
    memoriesAfter (execTakeover tm s) = some s.memories := by
  simp only [execTakeover]
  repeat' split
  all_goals simp

@[simp] theorem execTwinStartWait_memories (tm : Nat) (s : State) :
    memoriesAfter (execTwinStartWait tm s) = some s.memories := by
  simp [execTwinStartWait]

@[simp] theorem execPairSynced_memories (tm : Nat) (s : State) :
    memoriesAfter (execPairSynced tm s) = some s.memories := by
  simp [execPairSynced]

@[simp] theorem execImageStale_memories (tm : Nat) (s : State) :
    memoriesAfter (execImageStale tm s) = some s.memories := by
  simp [execImageStale]

@[simp] theorem execLeaseSplit_memories (tm : Nat) (s : State) :
    memoriesAfter (execLeaseSplit tm s) = some s.memories := by
  simp [execLeaseSplit]

@[simp] theorem execTrkDiverged_memories (tm : Nat) (s : State) :
    memoriesAfter (execTrkDiverged tm s) = some s.memories := by
  simp [execTrkDiverged]

/-! ## What writes an addressed memory keeps it canonical (R39, R47, R63, R338). -/

theorem State.memOk.of_memories {s t : State} (h : s.memOk) (e : t.memories = s.memories) : t.memOk := by
  obtain ⟨hm, hp, hc⟩ := h
  simp only [State.memories, Prod.mk.injEq] at e
  obtain ⟨em, ⟨ea, eb, ep⟩, ec⟩ := e
  refine ⟨fun m => ?_, ?_, ?_⟩
  · have buffers : (t.mbx[m].cmd, t.mbx[m].resp) = (s.mbx[m].cmd, s.mbx[m].resp) := by
      have entry := congrArg (fun v => v[m]) em
      simpa using entry
    have kept := hm m
    simp only [Mbx.buffersOk, (Prod.mk.inj buffers).1, (Prod.mk.inj buffers).2] at kept ⊢
    exact kept
  · rw [PiSt.banksOk, ea, eb, ep]
    exact hp
  · rw [ec]
    exact hc

theorem State.memOk.modMbx {s : State} (h : s.memOk) (m : Fin 16) {f : Mbx → Mbx}
    (hf : s.mbx[m].buffersOk = true → (f s.mbx[m]).buffersOk = true) : (s.modMbx m f).memOk := by
  obtain ⟨hm, hp, hc⟩ := h
  refine ⟨fun k => ?_, hp, hc⟩
  rw [State.modMbx_mbx, vector_set_get]
  split
  · exact hf (hm m)
  · exact hm k

theorem State.memOk.modPi {s : State} (h : s.memOk) {f : PiSt → PiSt}
    (hf : s.pi.banksOk = true → (f s.pi).banksOk = true) : (s.modPi f).memOk :=
  ⟨h.1, hf h.2.1, h.2.2⟩

theorem State.memOk.modCap {s : State} (h : s.memOk) {f : CapSt → CapSt}
    (hf : wordsOk 0 (f s.cap).carafe = true) : (s.modCap f).memOk :=
  ⟨h.1, h.2.1, hf⟩

theorem State.memOk.each {α : Type} {s : State} (h : s.memOk) {f : State → α → State}
    (hf : ∀ t x, t.memOk → (f t x).memOk) (l : List α) : (s.each l f).memOk :=
  State.each_keeps State.memOk f hf l s h

theorem State.memOk_of_empty {s : State} (hm : s.mbx = Vector.replicate 16 {}) (hp : s.pi = {}) (hc : s.cap = {}) :
    s.memOk := by
  refine ⟨fun m => ?_, ?_, ?_⟩
  · rw [hm]
    simp only [Fin.getElem_fin, Vector.getElem_replicate]
    rfl
  · rw [hp]
    rfl
  · rw [hc]
    rfl

theorem Mbx.buffersOk_cleared (b : Mbx) : b.cleared.buffersOk = true := rfl

theorem Mbx.buffersOk_iff (b : Mbx) : b.buffersOk = true ↔ b.cmd.wf = true ∧ b.resp.wf = true := Bool.and_eq_true_iff

theorem PiSt.banksOk_iff (p : PiSt) :
    p.banksOk = true ↔ p.bankA.wf = true ∧ p.bankB.wf = true ∧ p.prev.wf = true := by
  rw [PiSt.banksOk, Bool.and_eq_true_iff, Bool.and_eq_true_iff, and_assoc]

/-! Sessions and mailboxes (R48, R49, R489). -/

theorem State.memOk.endSession {s : State} (h : s.memOk) (sid : Nat) : (s.endSession sid).memOk := by
  unfold State.endSession
  split
  · exact h
  · extract_lets m t u v
    have kept : v.memOk := h.of_memories (by simp [v, u, t])
    refine kept.modMbx m fun hb => ?_
    extract_lets busy
    split
    · exact hb
    · split
      · split
        · exact hb
        · exact Mbx.buffersOk_cleared _
      · exact hb

theorem State.memOk.endSessions {s : State} (h : s.memOk) : s.endSessions.memOk :=
  h.each (fun _ i ht => ht.endSession i) _

theorem State.memOk.freeMbx {s : State} (h : s.memOk) (m : Fin 16) : (s.freeMbx m).memOk :=
  (h.endSession _).modMbx m fun _ => Mbx.buffersOk_cleared _

theorem State.memOk.netAnswer {s : State} (h : s.memOk) (m : Fin 16) (frame : List Byte) :
    (s.netAnswer m frame).memOk := by
  unfold State.netAnswer
  split
  · extract_lets t u
    have sent : u.memOk := h.of_memories (by simp [u, t])
    split
    · exact sent.modMbx m fun _ => Mbx.buffersOk_cleared _
    · exact sent
  · split
    · exact h.of_memories (State.sendSession_memories ..)
    · exact h

theorem State.memOk.completeMbx {s : State} (h : s.memOk) (m : Fin 16) (frame : List Byte) (hw : Bool) :
    (s.completeMbx m frame hw).memOk := by
  unfold State.completeMbx
  extract_lets b t u
  split
  · exact h.freeMbx m
  · split
    · exact h.modMbx m fun hb => hb
    · have flipped : t.memOk := h.modMbx m fun hb => by
        rw [Mbx.buffersOk_iff] at hb ⊢
        exact ⟨hb.1, Mem.ofList_wf _⟩
      have told : u.memOk := flipped.of_memories (State.irq_memories ..)
      split
      · exact told.netAnswer m frame
      · exact told

theorem State.memOk.abortMbx {s : State} (h : s.memOk) (m : Fin 16) (status flags : Nat) (hw : Bool) :
    (s.abortMbx m status flags hw).memOk := h.completeMbx m _ hw

theorem State.memOk.abortStarted {s : State} (h : s.memOk) (m : Fin 16) (f : HostSt → HostSt) (status flags : Nat)
    (hw : Bool) : ((s.modHost f).abortMbx m status flags hw).memOk :=
  State.memOk.abortMbx (h.of_memories (State.modHost_memories ..)) m status flags hw

theorem State.memOk.restartMbx {s : State} (h : s.memOk) (m : Fin 16) : (s.restartMbx m).memOk := by
  unfold State.restartMbx
  split
  · exact h.completeMbx m _ _
  · exact h.abortStarted m _ _ _ _
  · exact h.abortMbx m _ _ _
  · exact h.abortMbx m _ _ _

theorem State.memOk.endBound {s : State} (h : s.memOk) (m : Fin 16) : (s.endBound m).memOk :=
  h.each (fun _ i ht => ht.endSession i) _

theorem State.memOk.endCred {s : State} (h : s.memOk) (c : Nat) : (s.endCred c).memOk :=
  h.each (fun _ i ht => ht.endSession i) _

theorem State.memOk.endAllDue {s : State} (h : s.memOk) : s.endAllDue.memOk := by
  unfold State.endAllDue
  split
  · exact State.memOk.endSessions (h.of_memories (State.modSec_memories ..))
  · exact h

theorem State.memOk.mbxRelease {s : State} (h : s.memOk) (p : Path) (m : Fin 16) : (s.mbxRelease p m).memOk := by
  unfold State.mbxRelease
  extract_lets b
  split
  · exact h
  · split
    · exact h.freeMbx m
    · exact h.freeMbx m
    · exact h.modMbx m fun hb => hb
    · exact h.modMbx m fun hb => hb

theorem State.memOk.netCommand {s : State} (h : s.memOk) (m : Fin 16) (frame : List Byte) :
    (s.netCommand m frame).memOk := by
  refine h.modMbx m fun hb => ?_
  rw [Mbx.buffersOk_iff] at hb ⊢
  exact ⟨Mem.ofList_wf _, hb.2⟩

/-! Register writes (R39, R41, R63). -/

theorem State.memOk.bankWrite {s : State} (h : s.memOk) (p : Path) (off : Nat) (v : Word) :
    (s.bankWrite p off v).memOk := by
  unfold State.bankWrite
  extract_lets b o
  split
  · exact h.of_memories (State.piDiscard_memories s)
  · refine h.modPi fun hp => ?_
    rw [PiSt.banksOk_iff] at hp
    obtain ⟨ha, hb, hprev⟩ := hp
    split
    · exact (PiSt.banksOk_iff _).mpr ⟨ha, Mem.puts_wf _ hb _, hprev⟩
    · exact (PiSt.banksOk_iff _).mpr ⟨Mem.puts_wf _ ha _, hb, hprev⟩

theorem State.memOk.cmdWrite {s : State} (h : s.memOk) (p : Path) (m : Fin 16) (o : Nat) (v : Word) :
    (s.cmdWrite p m o v).memOk := by
  unfold State.cmdWrite
  extract_lets b
  split
  · exact h
  · split
    · exact h.modMbx m fun hb => hb
    · refine h.modMbx m fun hb => ?_
      rw [Mbx.buffersOk_iff] at hb ⊢
      exact ⟨Mem.puts_wf _ hb.1 _, hb.2⟩

theorem State.memOk.mbxWrite {s : State} (h : s.memOk) (p : Path) (m : Fin 16) (o : Nat) (v : Word) :
    (s.mbxWrite p m o v).memOk := by
  unfold State.mbxWrite
  split
  · split
    · exact h.of_memories (State.mbxClaim_memories ..)
    · split
      · exact h.mbxRelease p m
      · exact h
  · split
    · exact h.of_memories (State.doorbell_memories ..)
    · exact h
  · exact h.modMbx m fun hb => hb
  · exact h

theorem State.memOk.writeWord {s : State} (h : s.memOk) (p : Path) (off : Nat) (v : Word) :
    (s.writeWord p off v).memOk := by
  unfold State.writeWord
  split
  · split
    case h_11 =>
      split
      · exact h.mbxWrite p _ _ v
      · exact h
    all_goals exact h.of_memories (by simp)
  · split
    · split
      · exact h.cmdWrite p _ _ v
      · exact h
    · split
      · exact h.bankWrite p off v
      · exact h

theorem State.memOk.writeWords {s : State} (h : s.memOk) (p : Path) (off : Nat) (bs : List Byte) :
    (s.writeWords p off bs).memOk := by
  fun_induction State.writeWords s p off bs with
  | case1 s off b0 b1 b2 b3 rest ih => exact ih (h.writeWord p off _)
  | case2 => exact h

theorem State.memOk.qspiWrite {s : State} (h : s.memOk) (off : Nat) (bs : List Byte) (tm : Nat) :
    (s.qspiWrite off bs tm).memOk := by
  have started : (s.adv tm).memOk := h.of_memories rfl
  unfold State.qspiWrite
  extract_lets t
  split
  · exact started.writeWords _ _ _
  · exact started

theorem State.memOk.pcieDown {s : State} (h : s.memOk) : s.pcieDown.memOk := by
  unfold State.pcieDown
  extract_lets t u
  have released : t.memOk := h.each (fun _ m ht => ht.mbxRelease .pcie m) _
  have cleared : u.memOk := released.of_memories (State.modPi_memories (fun k => by split <;> rfl) t)
  exact cleared.of_memories (State.modHost_memories ..)

/-! The process image banks (R63, R64). -/

theorem State.memOk.devWrite {s : State} (h : s.memOk) (off : Nat) (bs : List Byte) : (s.devWrite off bs).memOk := by
  refine h.modPi fun hp => ?_
  rw [PiSt.banksOk_iff] at hp
  obtain ⟨ha, hb, hprev⟩ := hp
  split
  · exact (PiSt.banksOk_iff _).mpr ⟨Mem.puts_wf _ ha _, hb, hprev⟩
  · exact (PiSt.banksOk_iff _).mpr ⟨ha, Mem.puts_wf _ hb _, hprev⟩

theorem State.memOk.piStatus {s : State} (h : s.memOk) : s.piStatus.memOk := by
  unfold State.piStatus
  extract_lets t u
  have records : t.memOk := h.each (fun _ a ht => ht.devWrite _ _) _
  have written : u.memOk := (records.devWrite _ _).devWrite _ _
  exact written.of_memories (State.modPi_memories (fun k => by split <;> rfl) u)

theorem PiSt.wf_devBank {p : PiSt} (hp : p.banksOk = true) : p.devBank.wf = true := by
  rw [PiSt.banksOk_iff] at hp
  unfold PiSt.devBank
  split
  · exact hp.1
  · exact hp.2.1

theorem State.memOk.piTick {s : State} (h : s.memOk) : s.piTick.2.memOk := by
  unfold State.piTick
  extract_lets t p
  have taken : t.memOk := h.modPi fun hp => by
    have device := PiSt.wf_devBank hp
    rw [PiSt.banksOk_iff] at hp ⊢
    exact ⟨hp.1, hp.2.1, device⟩
  refine taken.of_memories ?_
  repeat' split
  all_goals simp

/-! The carafe (R332, R338). -/

theorem CapSt.wordsOk_store {c : CapSt} (h : wordsOk 0 c.carafe = true) (stored : List (Fin 16 × List CapVal)) :
    wordsOk 0 (c.store stored).carafe = true := wordPuts_ok _ h _

theorem State.memOk.capClose {s : State} (h : s.memOk) : s.capClose.memOk := by
  unfold State.capClose
  extract_lets c g order chans stored q c' c1 first fail stop full code c2 c3 c4 t u
  have written : wordsOk 0 c'.carafe = true := CapSt.wordsOk_store h.2.2 stored
  split
  · refine h.modCap ?_
    split <;> exact written
  · have kept : wordsOk 0 c4.carafe = true := by
      unfold c4 c3
      split <;> split <;> exact written
    have held : t.memOk := h.modCap kept
    have told : u.memOk := by
      unfold u
      split
      · exact held.of_memories (by simp)
      · exact held
    split
    · exact told.of_memories (State.event_memories ..)
    · exact told
  all_goals exact h.modCap written

theorem State.memOk.capTake {s : State} (h : s.memOk) (inst : Nat) (r : CapVal × Nat) : (s.capTake inst r).memOk := by
  unfold State.capTake
  extract_lets t g got vals gap byCh c ev hit look
  have begun : t.memOk := by
    unfold t
    split
    · exact h.modCap h.2.2
    · exact h
  split
  · exact begun
  · split
    extract_lets u v
    have sampled : u.memOk := begun.of_memories (State.modCap_memories (fun _ => rfl) t)
    have judged : v.memOk := by
      unfold v
      split
      · exact sampled.of_memories (State.capTrigger_memories ..)
      · exact sampled
    split
    · exact judged.capClose
    · exact judged

/-! Resets, deep sleep and the firmware's restart. -/

theorem State.memOk_deviceReset (s : State) (cause detail : Nat) : (s.deviceReset cause detail).memOk :=
  State.memOk_of_empty rfl rfl rfl

theorem State.memOk_powerOn (s : State) : s.powerOn.memOk := State.memOk_of_empty rfl rfl rfl

theorem State.memOk_deepEntry (s : State) (net : Bool) : (s.deepEntry net).memOk := State.memOk_of_empty rfl rfl rfl

theorem State.memOk.enterService {s : State} (h : s.memOk) : s.enterService.memOk := by
  unfold State.enterService
  extract_lets was t u v w x y
  have restarted : u.memOk := (h.each (fun _ m ht => ht.restartMbx m) _).endSessions
  have selected : v.memOk := by
    unfold v
    split
    · exact restarted
    · exact restarted.of_memories (State.modSec_memories ..)
  exact selected.of_memories (by simp [y, x, w])

theorem State.memOk.restartDue {s : State} (h : s.memOk) : s.restartDue.memOk := by
  unfold State.restartDue
  split
  · exact h.enterService
  · exact h

/-! The image that an ACTIVE twin sends (R390, R394). -/

theorem State.memOk.takeItem {s : State} (h : s.memOk) (bytes : List Byte) : (s.takeItem bytes).memOk := by
  unfold State.takeItem
  split
  split
  case h_6 =>
    extract_lets key i erase o t
    have stored : t.memOk := h.of_memories (State.modSec_memories ..)
    split
    · exact stored.endCred _
    · exact stored
  all_goals exact h.of_memories (by simp)

theorem State.memOk.takeItems {s : State} (h : s.memOk) (items : List (Nat × List Byte)) :
    (s.takeItems items).memOk := by
  refine h.each (fun t x ht => ?_) _
  split
  · exact ht
  · exact (ht.takeItem _).of_memories (State.modTwin_memories ..)

theorem State.memOk.adoptImage {s : State} (h : s.memOk) (b : List Byte) : (s.adoptImage b).memOk := by
  unfold State.adoptImage
  extract_lets len fl j l1 l2 p1 p2 p3 trkOn named p4 items beyond differs s1 s2 s3 s4 s5 s6 bulk at8 s7
  have back : s1.memories = s.memories := State.each_memories State.takeBack_memories _ _
  have axes : s2.memories = s1.memories := State.foldl_memories (fun t x => t.takeAxisRec_memories ..) _ _
  have ripple : s3.memories = s2.memories := State.foldl_memories (fun t x => t.takeRpt_memories ..) _ _
  have contexts : s4.memories = s3.memories := State.foldl_memories (fun t x => t.takeCtx_memories ..) _ _
  have frame : s5.memories = s4.memories := State.modFrame_memories ..
  have applied : s6.memOk :=
    (h.of_memories (frame.trans (contexts.trans (ripple.trans (axes.trans back))))).takeItems items
  have bulkApplied : s7.memOk := by
    unfold s7
    split
    · exact applied.each (fun t x ht => ht.takeItem _) _
    · exact applied
  exact bulkApplied.of_memories (State.modTwin_memories ..)

/-! The frame tick (R21, R28, R64). -/

theorem State.withAxes_memories (s : State) (axes : Vector Axis 128) :
    ({ s with axes := axes } : State).memories = s.memories := (rfl)

theorem State.memOk.tickEffects {s : State} (h : s.memOk) (changed : List Nat) : (s.tickEffects changed).memOk := by
  unfold State.tickEffects
  extract_lets s1 s2 s3 s4 s5 s6
  have cleared : s2.memories = s.memories := by simp [s2, s1]
  have keyed : s2.replanDue.safActivate.keysDue.memories = s.memories := by simp [cleared]
  have restarted : s3.memOk := (h.of_memories keyed).endAllDue.restartDue
  have homed : s6.memories = s3.memories := by
    have moved : s5.memories = s3.memories := by simp [s5, s4]
    exact (s5.withAxes_memories _).trans moved
  have imaged : s6.piTick.2.memOk := (restarted.of_memories homed).piTick
  refine imaged.of_memories ?_
  simp

/-! ## Every command keeps the memories canonical. -/

/-- An outcome that goes on goes on with canonical memories. -/
def OutcomeMemOk (o : Host.Outcome State Fault Refusal) : Prop := ∀ t, o = .next t → t.memOk

theorem outcomeMemOk_next {t : State} (h : t.memOk) : OutcomeMemOk (.next t) := by
  rintro _ ⟨⟩
  exact h

theorem State.memOk.outcome {s : State} (h : s.memOk) {o : Host.Outcome State Fault Refusal}
    (e : memoriesAfter o = some s.memories) : OutcomeMemOk o := by
  rintro t rfl
  exact h.of_memories (Option.some.inj e)

theorem State.memOk.adv {s : State} (h : s.memOk) (tm : Nat) : (s.adv tm).memOk := h.of_memories rfl

theorem State.memOk.ite {c : Prop} [Decidable c] {s t : State} (hs : s.memOk) (ht : t.memOk) :
    (if c then s else t).memOk := by
  split
  · exact hs
  · exact ht

/-- What a command comes to has canonical memories. -/
def Served.MemOk : Served → Prop
  | .fail _ _ _ => True
  | .failed t _ | .done t _ | .wait t _ => t.memOk

theorem State.memOk.settle {s : State} (h : s.memOk) (m : Fin 16) {r : Served} (hr : r.MemOk) :
    (s.settle m r).memOk := by
  cases r with
  | fail st d p => exact h.of_memories (State.answer_memories ..)
  | failed t st => exact State.memOk.of_memories (s := t) hr (State.answer_memories ..)
  | done t p => exact State.memOk.of_memories (s := t) hr (State.answer_memories ..)
  | wait t w => exact State.memOk.modMbx (s := t) hr m fun hb => hb

theorem Served.MemOk.withState {r : Served} (h : r.MemOk) (bad : Bool) : (withState bad r).MemOk := by
  unfold Machine.withState
  split
  · exact h
  · split
    · split <;> trivial
    all_goals trivial

theorem State.memOk.serveCall {s : State} (h : s.memOk) (m : Fin 16) (tm id n : Nat) {act : State → List Byte → Served}
    {busy : State → Bool} (hact : ∀ t p, t.memOk → (act t p).MemOk) : (s.serveCall m tm id n act busy).memOk := by
  unfold State.serveCall State.serve
  extract_lets t pay st
  have started : t.memOk := h.adv tm
  split
  · refine started.settle m ?_
    split
    · trivial
    · split
      · trivial
      · dsimp only
        split
        · trivial
        · exact Served.MemOk.withState (hact t _ started) _
  · exact started

theorem execSecOperSet_memOk {s : State} (h : s.memOk) (m : Fin 16) (tm : Nat) : OutcomeMemOk
    (execSecOperSet m tm s) := by
  refine outcomeMemOk_next (h.serveCall m tm _ _ fun t p ht => ?_)
  extract_lets i r key erase o u v
  split
  · trivial
  · have stored : v.memOk := ht.of_memories (by simp [v, u])
    exact State.memOk.ite (stored.endCred i) stored

theorem execSessionIdle_memOk {s : State} (h : s.memOk) (sid tm : Nat) : OutcomeMemOk (execSessionIdle sid tm s) := by
  unfold execSessionIdle
  extract_lets t
  have started : t.memOk := h.adv tm
  split
  · exact outcomeMemOk_next started
  · exact outcomeMemOk_next ((started.endSession sid).ite started)

theorem execSupplyInvalid_memOk {s : State} (h : s.memOk) (i : Fin 16) (tm : Nat) :
    OutcomeMemOk (execSupplyInvalid i tm s) := by
  unfold execSupplyInvalid
  extract_lets t was u n
  have lost : u.memOk := h.of_memories (by simp [u, t])
  refine outcomeMemOk_next (lost.ite (u.memOk_powerOn.ite ((u.memOk_deviceReset 2 n).ite ?_)))
  refine (lost.of_memories (State.vsafLost_memories u)).ite ((lost.of_memories (State.visoLost_memories u)).ite ?_)
  exact (u.memOk_deviceReset 2 _).ite lost

theorem execPageCheckFail_memOk {s : State} (h : s.memOk) (tm : Nat) : OutcomeMemOk (execPageCheckFail tm s) := by
  unfold execPageCheckFail
  extract_lets t i
  split
  · exact outcomeMemOk_next (State.memOk_deviceReset ..)
  · exact outcomeMemOk_next (h.adv tm)

theorem execCallReset_memOk {s : State} (h : s.memOk) (tm : Nat) : OutcomeMemOk (execCallReset tm s) := by
  unfold execCallReset
  extract_lets t
  split
  · exact outcomeMemOk_next ((State.memOk_deviceReset ..).ite (h.adv tm))
  · exact outcomeMemOk_next (h.adv tm)

theorem execDeepSleepEntry_memOk {s : State} (h : s.memOk) (tm : Nat) : OutcomeMemOk (execDeepSleepEntry tm s) := by
  unfold execDeepSleepEntry
  extract_lets t
  split
  · exact outcomeMemOk_next (State.memOk_deepEntry ..)
  · exact outcomeMemOk_next (State.memOk.ite ((h.adv tm).of_memories (by simp [t])) (h.adv tm))

theorem execPiStatusUpdate_memOk {s : State} (h : s.memOk) (tm : Nat) : OutcomeMemOk (execPiStatusUpdate tm s) :=
  outcomeMemOk_next (State.memOk.ite (h.adv tm).piStatus (h.adv tm))

theorem execJunctionSample_memOk {s : State} (h : s.memOk) (tj : Int) (tm : Nat) :
    OutcomeMemOk (execJunctionSample tj tm s) := by
  unfold execJunctionSample
  extract_lets t warn hot very was u ppm beyond before v aged warned judged
  have sampled : u.memories = s.memories := by simp [u, t]
  have drifted : aged.memories = s.memories := by simp [aged, v, sampled]
  have kept : judged.memories = s.memories := by simp [judged, warned, drifted]
  exact outcomeMemOk_next (State.memOk.ite (State.memOk_deviceReset ..) (h.of_memories kept))

theorem execFwWatchdog_memOk {s : State} (h : s.memOk) (lockstep : Bool) (tm : Nat) :
    OutcomeMemOk (execFwWatchdog lockstep tm s) := by
  unfold execFwWatchdog
  extract_lets t stuck dead u l v
  split
  · exact outcomeMemOk_next (h.adv tm)
  · exact outcomeMemOk_next (State.memOk.enterService (h.of_memories (by simp [v, u, t])))

theorem execCaptureSample_memOk {s : State} (h : s.memOk) (tm : Nat) : OutcomeMemOk (execCaptureSample tm s) := by
  have started : (s.adv tm).memOk := h.adv tm
  unfold execCaptureSample
  extract_lets t c g
  split
  · exact outcomeMemOk_next started
  · split
    · exact outcomeMemOk_next ((started.capTake _ _).ite started)
    · exact outcomeMemOk_next ((started.capTake _ _).ite started)
    · exact outcomeMemOk_next (State.memOk.each (started.modCap started.2.2) (fun _ x ht => ht.capTake _ _) _)

theorem execClearDatagram_memOk {s : State} (h : s.memOk) (tm : Nat) : OutcomeMemOk (execClearDatagram tm s) := by
  unfold execClearDatagram
  extract_lets start
  have started : start.memOk := h.adv tm
  split
  · exact outcomeMemOk_next (started.of_memories (State.dropIp_memories _))
  next taken =>
    have received := started.of_memories (State.takeIp_memories taken)
    extract_lets d frame
    split
    · exact outcomeMemOk_next (received.of_memories (State.udpBusy_memories ..))
    · split
      · exact outcomeMemOk_next received
      · split
        · exact outcomeMemOk_next (received.of_memories (State.udpBusy_memories ..))
        · exact outcomeMemOk_next (State.memOk.netCommand (received.of_memories (State.modNet_memories ..)) _ _)

theorem execProtectedDatagram_memOk {s : State} (h : s.memOk) (tm : Nat) :
    OutcomeMemOk (execProtectedDatagram tm s) := by
  unfold execProtectedDatagram
  extract_lets start
  have started : start.memOk := h.adv tm
  split
  · exact outcomeMemOk_next (started.of_memories (State.dropIp_memories _))
  next taken =>
    have received := started.of_memories (State.takeIp_memories taken)
    extract_lets d
    split
    · exact outcomeMemOk_next (received.of_memories (State.udpBusy_memories ..))
    · split
      · exact outcomeMemOk_next (received.of_memories (State.udpReject_memories _))
      · extract_lets u m b seq x
        have accepted : u.memOk := received.of_memories (State.modSession_memories ..)
        have resent (y : Session) (bs : List Byte) : (u.sendSession y bs).memOk :=
          accepted.of_memories (State.sendSession_memories ..)
        split
        · exact outcomeMemOk_next (accepted.ite (resent _ _))
        · exact outcomeMemOk_next (accepted.ite (resent _ _))
        · exact outcomeMemOk_next ((resent _ _).ite (accepted.netCommand _ _))
        · exact outcomeMemOk_next (accepted.netCommand _ _)

theorem execFrameTick_memOk {s : State} (h : s.memOk) : OutcomeMemOk (execFrameTick s) := by
  unfold execFrameTick
  split
  · exact outcomeMemOk_next h
  · extract_lets t
    have begun : (t.commitTick t.mayCommit).1.memOk := h.of_memories (by simp [t])
    split
    next u es hu =>
    rw [hu] at begun
    exact outcomeMemOk_next (State.memOk.tickEffects begun _)

theorem execRegisterWrite_memOk {s : State} (h : s.memOk) (p : Path) (off : Nat) (v : Word) (tm : Nat) :
    OutcomeMemOk (execRegisterWrite p off v tm s) :=
  outcomeMemOk_next ((h.adv tm).ite (((h.adv tm).of_memories (State.cfgWrite_memories ..)).ite ((h.adv tm).writeWord
..)))

theorem execMbxAutoBusy_memOk {s : State} (h : s.memOk) (m : Fin 16) (tm : Nat) :
    OutcomeMemOk (execMbxAutoBusy m tm s) :=
  outcomeMemOk_next (((h.adv tm).abortMbx ..).ite (h.adv tm))

theorem execMbxResponse_memOk {s : State} (h : s.memOk) (m : Fin 16) (tm : Nat) :
    OutcomeMemOk (execMbxResponse m tm s) := by
  unfold execMbxResponse
  extract_lets t
  have served : t.memOk := (h.adv tm).of_memories (State.serveUnknown_memories ..)
  split
  · exact outcomeMemOk_next (((served.completeMbx m _ _).endBound m).ite served)
  · exact outcomeMemOk_next served

theorem execMbxDeadline_memOk {s : State} (h : s.memOk) (m : Fin 16) (tm : Nat) :
    OutcomeMemOk (execMbxDeadline m tm s) := by
  unfold execMbxDeadline
  extract_lets t b
  have started : t.memOk := h.adv tm
  split
  · exact outcomeMemOk_next started
  · split
    · exact outcomeMemOk_next started
    · exact outcomeMemOk_next started
    · exact outcomeMemOk_next (started.abortMbx ..)
    · split
      · exact outcomeMemOk_next (started.abortStarted ..)
      · exact outcomeMemOk_next ((started.completeMbx m _ _).endBound m)
      · exact outcomeMemOk_next (started.abortMbx ..)
      · exact outcomeMemOk_next (started.abortMbx ..)

theorem execPiBankWrite_memOk {s : State} (h : s.memOk) (p : Path) (off : Nat) (v : Word) (tm : Nat) :
    OutcomeMemOk (execPiBankWrite p off v tm s) :=
  outcomeMemOk_next (((h.adv tm).bankWrite p off v).ite (h.adv tm))

theorem execTwinImageCommit_memOk {s : State} (h : s.memOk) (tm : Nat) : OutcomeMemOk (execTwinImageCommit tm s) := by
  unfold execTwinImageCommit
  extract_lets start t due done u
  have started : t.memOk := h.of_memories (by simp [t, start])
  have done_memOk (u : State) (hu : u.memOk) : (done u).memOk := hu.of_memories (State.modTwin_memories ..)
  have missed (any b : Bool) : (t.imageMissed any b).memOk := started.of_memories (State.imageMissed_memories ..)
  split
  · exact outcomeMemOk_next (h.adv tm)
  · split
    split
    · split
      · have resigned : u.memOk := by
          unfold u
          exact State.memOk.ite (started.of_memories (by simp)) started
        exact outcomeMemOk_next (done_memOk _ (resigned.adoptImage _))
      · exact outcomeMemOk_next (done_memOk _ (missed _ _))
    · exact outcomeMemOk_next ((done_memOk _ (missed _ _)).ite (missed _ _))

/-- A command that writes no addressed memory leaves them all; the others are the ones named here. -/
theorem exec_memOk (c : Instr) {s : State} (h : s.memOk) : OutcomeMemOk (exec c s) := by
  cases c with
  | qspiWrite off bs tm => exact outcomeMemOk_next (h.qspiWrite off bs tm)
  | qspiQwrite off bs tm => exact outcomeMemOk_next (h.qspiWrite off bs tm)
  | registerWrite p off v tm => exact execRegisterWrite_memOk h p off v tm
  | pcieLinkDown tm => exact outcomeMemOk_next ((h.adv tm).pcieDown.of_memories (State.modHost_memories ..))
  | pciePerst tm => exact outcomeMemOk_next ((h.adv tm).pcieDown.of_memories (State.modHost_memories ..))
  | mbxRelease p m => exact outcomeMemOk_next ((h.mbxRelease p m).ite h)
  | mbxAutoBusy m tm => exact execMbxAutoBusy_memOk h m tm
  | mbxResponse m tm => exact execMbxResponse_memOk h m tm
  | mbxDeadline m tm => exact execMbxDeadline_memOk h m tm
  | piBankWrite p off v tm => exact execPiBankWrite_memOk h p off v tm
  | piStatusUpdate tm => exact execPiStatusUpdate_memOk h tm
  | secOperSet m tm => exact execSecOperSet_memOk h m tm
  | frameTick => exact execFrameTick_memOk h
  | captureSample tm => exact execCaptureSample_memOk h tm
  | clearDatagram tm => exact execClearDatagram_memOk h tm
  | protectedDatagram tm => exact execProtectedDatagram_memOk h tm
  | twinImageCommit tm => exact execTwinImageCommit_memOk h tm
  | deepSleepEntry tm => exact execDeepSleepEntry_memOk h tm
  | fwWatchdog lockstep tm => exact execFwWatchdog_memOk h lockstep tm
  | sessionIdle sid tm => exact execSessionIdle_memOk h sid tm
  | supplyInvalid i tm => exact execSupplyInvalid_memOk h i tm
  | nresetAssert tm => exact outcomeMemOk_next (State.memOk_deviceReset ..)
  | clockMissing tm => exact outcomeMemOk_next (State.memOk_deviceReset ..)
  | pageCheckFail tm => exact execPageCheckFail_memOk h tm
  | callReset tm => exact execCallReset_memOk h tm
  | junctionSample tj tm => exact execJunctionSample_memOk h tj tm
  | _ => exact h.outcome (by simp [exec])

/-- Settles O54: a command that writes no addressed memory leaves the buffers, banks and carafe as they are, and one
that
does writes bytes or words in place, stores a fresh list of bytes or empties the memory, each of which is canonical. -/
theorem stepKeepsMemoriesCanonical : Obligations.StepKeepsMemoriesCanonical := by
  unfold Obligations.StepKeepsMemoriesCanonical
  intro s s' h hs
  unfold step at hs
  split at hs
  · cases hs
    exact h
  next c rest _ =>
    have queued : ({ s with pending := rest } : State).memOk := h
    exact exec_memOk c queued s' hs

end Sys2Proof.Machine

namespace Sys2Proof.Machine

/-! ## Commands that are not there, and calls refused before their own conditions (R49, R52, R55). -/

theorem State.holds_of_not_executing {s : State} {m : Fin 16} (h : s.mbx[m].state ≠ .executing) (op : Nat)
    (hit : List Byte → Bool) : s.holds m op hit = false := by
  have idle : (s.mbx[m].state == .executing) = false := beq_eq_false_iff_ne.mpr h
  simp only [State.holds, idle, Bool.and_false, Bool.false_and]

theorem serveAxis_absent {s : State} {m : Fin 16} (tm cls idx n : Nat) (act : Fin 128 → State → List Byte → Served)
    (busy : Fin 128 → State → Bool) (h : ∀ hit, s.holds m 0x10 hit = false) :
    s.serveAxis m tm cls idx n act busy = s.adv tm := by
  unfold State.serveAxis
  exact serve_absent tm _ _ _ (h _)

theorem execHello_absent {s : State} {m : Fin 16} (tm : Nat) (h : s.holds m 0x40 (isSub 1) = false) :
    execHello m tm s = .next (s.adv tm) := by
  unfold execHello
  split
  · rfl
  · exact congrArg _ (serve_absent tm _ _ _ h)

/-- Settles O8: every one of these commands is served from its mailbox, and a mailbox that is not EXECUTING holds none. -/
theorem commandNotTakenHasNoEffect : Obligations.CommandNotTakenHasNoEffect := by
  unfold Obligations.CommandNotTakenHasNoEffect
  intro m tm s idle
  have absent := State.holds_of_not_executing idle
  simp only [List.forall_mem_cons]
  and_intros
  on_goal 11 => exact execHello_absent tm (absent _ _)
  on_goal -1 => exact List.forall_mem_nil _
  -- up to TRP.CLEAR
  iterate 23 exact congrArg Host.Outcome.next (serve_absent tm _ _ _ (absent _ _))
  -- AX.COM.HALL_LEARN to AX.INJ.STOP, then AX.PRF.APPEND, then AX.PRF.FLUSH to AX.GEA.DISENGAGE
  iterate 6 exact congrArg Host.Outcome.next (serveAxis_absent tm _ _ _ _ _ (absent 0x10))
  · exact congrArg Host.Outcome.next (serve_absent tm _ _ _ (absent _ _))
  iterate 7 exact congrArg Host.Outcome.next (serveAxis_absent tm _ _ _ _ _ (absent 0x10))
  -- the TRK calls, then AX.CMP.ARM and AX.CMP.DISARM, then the rest
  iterate 6 exact congrArg Host.Outcome.next (serve_absent tm _ _ _ (absent _ _))
  iterate 2 exact congrArg Host.Outcome.next (serveAxis_absent tm _ _ _ _ _ (absent 0x10))
  all_goals exact congrArg Host.Outcome.next (serve_absent tm _ _ _ (absent _ _))

/-! A call that R55 refuses before its own conditions. -/

theorem serveCall_refused {s : State} {m : Fin 16} {id st : Nat} (tm n : Nat) (act : State → List Byte → Served)
    (h : s.holds m 0x10 (fun p => fld p 0 4 = id) = true) (pre : s.preStatus m false (callRight id) = st)
    (refused : st ≠ stOk) :
    ∃ r, s.serveCall m tm id n act = (s.adv tm).answer m r 0 [] ∧
      (r = st ∨ (st = stRange ∧ (r = stUnknown ∨ r = stLocked))) := by
  unfold State.serveCall
  by_cases header : st = stRange
  · refine ⟨_, serve_header tm _ h (pre.trans header), ?_⟩
    rcases headerStatus_cases _ with range | unknown | locked
    · exact .inl (range.trans header.symm)
    · exact .inr ⟨header, .inl unknown⟩
    · exact .inr ⟨header, .inr locked⟩
  · exact ⟨st, serve_refused tm _ h pre refused header, .inl rfl⟩

/-- Settles O9: each of these calls is served as a call with its ID, and what R55 puts before a call's own conditions is
judged before the call acts. -/
theorem callRefusedBeforeItsOwnConditions : Obligations.CallRefusedBeforeItsOwnConditions := by
  unfold Obligations.CallRefusedBeforeItsOwnConditions
  intro m tm st s c id listed held pre refused
  have answered (n : Nat) (act : State → List Byte → Served) := serveCall_refused tm n act held pre refused
  simp only [List.mem_cons, Prod.mk.injEq, List.not_mem_nil, or_false] at listed
  rcases listed with
    ⟨rfl, rfl⟩ | ⟨rfl, rfl⟩ | ⟨rfl, rfl⟩ | ⟨rfl, rfl⟩ | ⟨rfl, rfl⟩ | ⟨rfl, rfl⟩ | ⟨rfl, rfl⟩ | ⟨rfl, rfl⟩ |
    ⟨rfl, rfl⟩ | ⟨rfl, rfl⟩ | ⟨rfl, rfl⟩ | ⟨rfl, rfl⟩ | ⟨rfl, rfl⟩ | ⟨rfl, rfl⟩ | ⟨rfl, rfl⟩ | ⟨rfl, rfl⟩ |
    ⟨rfl, rfl⟩ | ⟨rfl, rfl⟩ | ⟨rfl, rfl⟩ | ⟨rfl, rfl⟩ | ⟨rfl, rfl⟩ | ⟨rfl, rfl⟩ | ⟨rfl, rfl⟩ | ⟨rfl, rfl⟩ |
    ⟨rfl, rfl⟩ | ⟨rfl, rfl⟩ | ⟨rfl, rfl⟩ | ⟨rfl, rfl⟩ | ⟨rfl, rfl⟩ | ⟨rfl, rfl⟩ | ⟨rfl, rfl⟩ | ⟨rfl, rfl⟩
  all_goals
    obtain ⟨r, answer, cause⟩ := answered _ _
    exact ⟨r, congrArg Host.Outcome.next answer, cause⟩
end Sys2Proof.Machine

namespace Sys2Proof.Machine

/-! ## Interrupts and events: what they leave alone (R43, R44). -/

/-- A change of the interrupt registers sends at most messages beside it. -/
theorem State.irqSet_eq (s : State) (st en vec : Word) : ∃ o, s.irqSet st en vec =
    { s with out := o, host := { s.host with irqStatus := st, irqEnable := en, irqVector := vec } } := by
  unfold State.irqSet
  extract_lets t
  split
  · refine State.each_keeps (fun u => ∃ o, u = { t with out := o }) _ (fun u k sent => ?_) _ t ⟨_, rfl⟩
    obtain ⟨o, rfl⟩ := sent
    dsimp only
    split
    · exact ⟨_, rfl⟩
    · exact ⟨_, rfl⟩
  · exact ⟨_, rfl⟩

theorem State.irq_eq (s : State) (b : Word) : ∃ o, s.irq b =
    { s with out := o, host := { s.host with irqStatus := s.host.irqStatus ||| b } } :=
  s.irqSet_eq (s.host.irqStatus ||| b) s.host.irqEnable s.host.irqVector

theorem State.irqClear_eq (s : State) (v : Word) : ∃ o, s.irqClear v =
    { s with out := o, host := { s.host with irqStatus := s.host.irqStatus &&& ~~~v } } := by
  unfold State.irqClear
  extract_lets st t
  split
  · refine State.each_keeps (fun u => ∃ o, u = { t with out := o }) _ (fun u k sent => ?_) _ t ⟨_, rfl⟩
    obtain ⟨o, rfl⟩ := sent
    dsimp only
    split
    · exact ⟨_, rfl⟩
    · exact ⟨_, rfl⟩
  · exact ⟨_, rfl⟩

@[simp] theorem State.irq_host (s : State) (b : Word) :
    (s.irq b).host = { s.host with irqStatus := s.host.irqStatus ||| b } := by
  obtain ⟨o, e⟩ := s.irq_eq b
  rw [e]

@[simp] theorem State.irq_mbx (s : State) (b : Word) : (s.irq b).mbx = s.mbx := by
  obtain ⟨o, e⟩ := s.irq_eq b
  rw [e]

@[simp] theorem State.irq_pi (s : State) (b : Word) : (s.irq b).pi = s.pi := by
  obtain ⟨o, e⟩ := s.irq_eq b
  rw [e]

@[simp] theorem State.irq_par (s : State) (b : Word) : (s.irq b).par = s.par := by
  obtain ⟨o, e⟩ := s.irq_eq b
  rw [e]

@[simp] theorem State.irq_axes (s : State) (b : Word) : (s.irq b).axes = s.axes := by
  obtain ⟨o, e⟩ := s.irq_eq b
  rw [e]

@[simp] theorem State.irq_flt (s : State) (b : Word) : (s.irq b).flt = s.flt := by
  obtain ⟨o, e⟩ := s.irq_eq b
  rw [e]

@[simp] theorem State.irq_sec (s : State) (b : Word) : (s.irq b).sec = s.sec := by
  obtain ⟨o, e⟩ := s.irq_eq b
  rw [e]

/-! ## Reads of words (R41, R42, R43). -/

/-- A read changes the host access alone: what it latches, and the count of lost events. -/
theorem State.readWord_changes (s : State) (p : Path) (off : Nat) : ∃ h, (s.readWord p off).2 = { s with host := h } := by
  unfold State.readWord
  extract_lets v t
  have latched : ∃ h, t = { s with host := h } := by
    unfold t
    split
    · exact ⟨_, rfl⟩
    · exact ⟨_, rfl⟩
  obtain ⟨h, e⟩ := latched
  split
  · exact ⟨_, by rw [e]; rfl⟩
  · exact ⟨h, e⟩

theorem State.readWords_changes (p : Path) (n : Nat) (s : State) (off : Nat) :
    ∃ h, (s.readWords p off n).2 = { s with host := h } := by
  induction n generalizing s off with
  | zero => exact ⟨_, rfl⟩
  | succ n ih =>
    obtain ⟨h, e⟩ := s.readWord_changes p off
    obtain ⟨h', e'⟩ := ih (s.readWord p off).2 (off + 4)
    exact ⟨h', e'.trans (by rw [e])⟩

theorem State.length_readWords (p : Path) (n : Nat) (s : State) (off : Nat) : (s.readWords p off n).1.length = n := by
  induction n generalizing s off with
  | zero => rfl
  | succ n ih => exact congrArg (· + 1) (ih (s.readWord p off).2 (off + 4))

theorem State.readWord_fst_of_not_high {off : Nat} (h : isHighWord off = false) (s : State) (p : Path) :
    (s.readWord p off).1 = s.peek p off := by
  simp only [State.readWord, h, Bool.false_eq_true, if_false]

theorem State.readWord_fst_of_latched {s : State} {p : Path} {off : Nat} {hi : Word} (h : isHighWord off = true)
    (e : s.latched p off = some hi) : (s.readWord p off).1 = hi := by
  simp only [State.readWord, h, e, if_true, Option.getD_some]

theorem isHighWord_of_isLowWord {off : Nat} (h : isLowWord off = true) : isHighWord off = false := by
  simp only [isLowWord, isHighWord, Bool.or_eq_true, beq_iff_eq, Bool.or_eq_false_iff, beq_eq_false_iff_ne] at h ⊢
  omega

theorem isLowWord_of_isHighWord {off : Nat} (h : isHighWord off = true) : isLowWord off = false := by
  simp only [isLowWord, isHighWord, Bool.or_eq_true, beq_iff_eq, Bool.or_eq_false_iff, beq_eq_false_iff_ne] at h ⊢
  omega

theorem State.latched_latchHigh_self (s : State) (p : Path) (off : Nat) :
    (s.latchHigh p off).latched p (off + 4) = some (s.peek p (off + 4)) := by
  simp [State.latched, State.latchHigh]

/-- Another path's latch, and that of another register, stand behind the new one. -/
theorem State.latched_latchHigh_of_ne {p q : Path} {off o : Nat} (h : q ≠ p ∨ o ≠ off + 4) (s : State) :
    (s.latchHigh p off).latched q o = s.latched q o := by
  have other : ∀ x : Path × Nat × Word, (x.1 == q && x.2.1 == o) = true → (x.1 == p && x.2.1 == off + 4) = false := by
    rintro ⟨r, i, w⟩ hit
    simp only [Bool.and_eq_true, beq_iff_eq, Bool.and_eq_false_iff, beq_eq_false_iff_ne] at hit ⊢
    obtain ⟨rfl, rfl⟩ := hit
    exact h
  have first : (p == q && off + 4 == o) = false := by
    by_contra hit
    have := other (p, off + 4, 0) (by simpa using hit)
    simp at this
  simp only [State.latched, State.latchHigh, State.modHost_host, List.find?_cons, first, List.find?_filter]
  congr 2
  funext x
  by_cases hit : (x.1 == q && x.2.1 == o) = true
  · simp only [hit, other x hit, Bool.not_false, and_self, decide_true]
  · simp only [Bool.not_eq_true] at hit
    simp only [hit, Bool.false_eq_true, decide_false, and_false]

theorem State.latched_clearLost (s : State) (q : Path) (o : Nat) : s.clearLost.latched q o = s.latched q o := rfl

theorem State.readWord_snd (s : State) (p : Path) (off : Nat) : (s.readWord p off).2 =
    if off = 0x054 then (if isLowWord off then s.latchHigh p off else s).clearLost
    else if isLowWord off then s.latchHigh p off else s := rfl

theorem State.readWord_of_low {off : Nat} (h : isLowWord off = true) (s : State) (p : Path) :
    s.readWord p off = (s.peek p off, s.latchHigh p off) := by
  refine Prod.ext (State.readWord_fst_of_not_high (isHighWord_of_isLowWord h) s p) ?_
  have other : off ≠ 0x054 := by
    simp only [isLowWord, Bool.or_eq_true, beq_iff_eq] at h
    omega
  rw [State.readWord_snd, if_neg other, if_pos h]

theorem State.readWord_hiLatch {off : Nat} (h : isLowWord off = false) (s : State) (p : Path) :
    (s.readWord p off).2.host.hiLatch = s.host.hiLatch := by
  rw [State.readWord_snd, h]
  split <;> rfl

theorem State.readWord_latched {p q : Path} {off o : Nat} (h : q ≠ p ∨ o ≠ off + 4) (s : State) :
    (s.readWord p off).2.latched q o = s.latched q o := by
  cases low : isLowWord off with
  | true => rw [State.readWord_of_low low, State.latched_latchHigh_of_ne h]
  | false => simp only [State.latched, State.readWord_hiLatch low]

theorem execWideRegisterLowRead_of_low {p : Path} {off : Nat} (tm : Nat) {s : State} (up : s.pathUp p = true)
    (low : isLowWord off = true) : execWideRegisterLowRead p off tm s =
      .next (((s.adv tm).latchHigh p off).modHost fun h => { h with rdata := [(s.adv tm).peek p off] }) := by
  have up' : (s.adv tm).pathUp p = true := up
  simp only [execWideRegisterLowRead, up', low, Bool.and_self, if_true, State.readWord_of_low low]

theorem State.qspiRead_of_up {s : State} (up : s.pathUp .qspi = true) (off n tm : Nat) :
    s.qspiRead off n tm = ((s.adv tm).readWords .qspi off n).2.modHost fun h =>
      { h with rdata := ((s.adv tm).readWords .qspi off n).1 } := by
  have up' : (s.adv tm).pathUp .qspi = true := up
  simp only [State.qspiRead, up', if_true]

/-! ## Writes change no latched word (R42). -/

@[simp] theorem State.endSession_host (s : State) (sid : Nat) : (s.endSession sid).host = s.host := by
  unfold State.endSession
  split <;> rfl

@[simp] theorem State.freeMbx_host (s : State) (m : Fin 16) : (s.freeMbx m).host = s.host :=
  s.endSession_host _

@[simp] theorem State.mbxRelease_host (s : State) (p : Path) (m : Fin 16) : (s.mbxRelease p m).host = s.host := by
  unfold State.mbxRelease
  extract_lets b
  split
  · rfl
  · split
    · exact s.freeMbx_host m
    · exact s.freeMbx_host m
    · rfl
    · rfl

theorem State.mbxWrite_host (s : State) (p : Path) (m : Fin 16) (o : Nat) (v : Word) :
    (s.mbxWrite p m o v).host = s.host := by
  unfold State.mbxWrite
  split
  · split
    · unfold State.mbxClaim
      split <;> rfl
    · split
      · exact s.mbxRelease_host p m
      · rfl
  · split
    · unfold State.doorbell
      extract_lets b
      split
      · rfl
      · split <;> rfl
    · rfl
  · rfl
  · rfl

theorem State.irqSet_hiLatch (s : State) (st en vec : Word) : (s.irqSet st en vec).host.hiLatch = s.host.hiLatch := by
  obtain ⟨o, e⟩ := s.irqSet_eq st en vec
  rw [e]

theorem State.irqClear_hiLatch (s : State) (v : Word) : (s.irqClear v).host.hiLatch = s.host.hiLatch := by
  obtain ⟨o, e⟩ := s.irqClear_eq v
  rw [e]

theorem State.cmdWrite_host (s : State) (p : Path) (m : Fin 16) (o : Nat) (v : Word) :
    (s.cmdWrite p m o v).host = s.host := by
  unfold State.cmdWrite
  extract_lets b
  split
  · rfl
  · split <;> rfl

theorem State.bankWrite_hiLatch (s : State) (p : Path) (off : Nat) (v : Word) :
    (s.bankWrite p off v).host.hiLatch = s.host.hiLatch := by
  unfold State.bankWrite
  extract_lets b o
  split
  · simp [State.piDiscard]
  · rfl

theorem State.evtPop_hiLatch (s : State) : s.evtPop.host.hiLatch = s.host.hiLatch := by
  unfold State.evtPop
  simp only [State.modHost_host]
  split <;> rfl

theorem State.snapshot_hiLatch (s : State) (tick : Bool) : (s.snapshot tick).host.hiLatch = s.host.hiLatch := by
  simp [State.snapshot]

theorem State.writeWord_hiLatch (s : State) (p : Path) (off : Nat) (v : Word) :
    (s.writeWord p off v).host.hiLatch = s.host.hiLatch := by
  unfold State.writeWord
  split
  · split
    · exact s.irqClear_hiLatch v
    · exact s.irqSet_hiLatch ..
    · exact s.irqSet_hiLatch ..
    · exact s.irqSet_hiLatch ..
    · rfl
    · split
      · exact s.evtPop_hiLatch
      · rfl
    · rfl
    · extract_lets t
      have taken : t.host.hiLatch = s.host.hiLatch := by
        unfold t
        split
        · exact s.snapshot_hiLatch false
        · rfl
      split
      · exact taken
      · exact taken
    · rfl
    · split
      · unfold State.piHand
        split <;> rfl
      · rfl
    · split
      · rw [State.mbxWrite_host]
      · rfl
  · split
    · split
      · rw [State.cmdWrite_host]
      · rfl
    · split
      · exact s.bankWrite_hiLatch p off v
      · rfl

theorem State.writeWords_hiLatch (s : State) (p : Path) (off : Nat) (bs : List Byte) :
    (s.writeWords p off bs).host.hiLatch = s.host.hiLatch := by
  fun_induction State.writeWords s p off bs with
  | case1 s off b0 b1 b2 b3 rest ih => exact ih.trans (s.writeWord_hiLatch p off _)
  | case2 => rfl

theorem State.cfgWrite_hiLatch (s : State) (off : Nat) (v : Word) : (s.cfgWrite off v).host.hiLatch = s.host.hiLatch := by
  unfold State.cfgWrite
  simp only [State.modHost_host]
  split <;> rfl

/-- Settles O56: only a read of a low word latches, for its own path and register, and what is latched is found again
behind every other latch; a write to any register changes other parts of the host access. -/
theorem wideRegistersLatchTheirHighWord : Obligations.WideRegistersLatchTheirHighWord := by
  unfold Obligations.WideRegistersLatchTheirHighWord
  refine ⟨?lowRead, ?highRead, ?otherRead, ?alone, ?regWrite, ?qspiWrite⟩
  case lowRead =>
    intro p off tm s up low
    exact ⟨_, execWideRegisterLowRead_of_low tm up low, rfl, (s.adv tm).latched_latchHigh_self p off,
      fun q o other => State.latched_latchHigh_of_ne other (s.adv tm)⟩
  case highRead =>
    intro off tm hi s up high latched
    refine ⟨_, congrArg Host.Outcome.next (State.qspiRead_of_up up off 1 tm), ?_, ?_⟩
    · exact congrArg (· :: []) (State.readWord_fst_of_latched (s := s.adv tm) high latched)
    · exact State.readWord_hiLatch (isLowWord_of_isHighWord high) (s.adv tm) .qspi
  case otherRead => exact fun p off s low => State.readWord_hiLatch low s p
  case alone => exact fun p q off o s other => State.readWord_latched other s
  case regWrite =>
    intro p off tm v s
    refine ⟨_, rfl, ?_⟩
    split
    · rfl
    · split
      · exact State.cfgWrite_hiLatch ..
      · exact State.writeWord_hiLatch ..
  case qspiWrite =>
    intro off tm bs s
    refine ⟨_, rfl, ?_⟩
    unfold State.qspiWrite
    extract_lets t
    split
    · exact State.writeWords_hiLatch ..
    · rfl

/-- Settles O1: a read in a row begins with the read of its first word, both opcodes run the same read, and a read changes
the host access alone. -/
theorem hostReadsReturnTheirWords : Obligations.HostReadsReturnTheirWords := by
  unfold Obligations.HostReadsReturnTheirWords
  refine ⟨?first, ?same, ?quad, ?codes, ?low⟩
  case first =>
    intro off n tm s up low
    obtain ⟨h, changes⟩ := State.readWords_changes .qspi (n + 1) (s.adv tm) off
    refine ⟨_, congrArg Host.Outcome.next (State.qspiRead_of_up up off (n + 1) tm), State.length_readWords .., ?_, ?_⟩
    · exact congrArg some (State.readWord_fst_of_not_high low (s.adv tm) .qspi)
    · rw [changes]
      exact ⟨rfl, rfl, rfl⟩
  case same =>
    intro off n tm s up
    refine ⟨_, rfl, rfl, ?_⟩
    rw [State.qspiRead_of_up up]
    exact State.length_readWords ..
  case quad => exact fun off n tm s up => congrArg Host.Outcome.next (State.qspiRead_of_up up off n tm)
  case codes => exact fun _ _ _ _ _ _ => ⟨rfl, rfl, rfl, rfl⟩
  case low =>
    intro p off tm s up low
    exact ⟨_, execWideRegisterLowRead_of_low tm up low, rfl, (s.adv tm).latched_latchHigh_self p off, rfl, rfl, rfl⟩

end Sys2Proof.Machine

namespace Sys2Proof.Machine

/-! ## Writes over the wires (R39, R41, R63). -/

theorem leBytes_four (n : Nat) : leBytes 4 n = [BitVec.ofNat 8 n, BitVec.ofNat 8 (n / 256),
    BitVec.ofNat 8 (n / 256 / 256), BitVec.ofNat 8 (n / 256 / 256 / 256)] := rfl

theorem State.writeWords_word (s : State) (p : Path) (off : Nat) (v : Word) :
    s.writeWords p off (leBytes 4 v.toNat) = s.writeWord p off v := by
  rw [leBytes_four, State.writeWords, ← leBytes_four, leNat_leBytes4]
  rfl

theorem State.writeWords_of_short {part : List Byte} (h : part.length < 4) (s : State) (p : Path) (off : Nat) :
    s.writeWords p off part = s := by
  unfold State.writeWords
  split
  · simp only [List.length_cons] at h
    omega
  · rfl

theorem State.writeWords_append_part {part : List Byte} (h : part.length < 4) (s : State) (p : Path) (off : Nat)
    (bs : List Byte) (whole : bs.length % 4 = 0) : s.writeWords p off (bs ++ part) = s.writeWords p off bs := by
  fun_induction State.writeWords s p off bs with
  | case1 s off b0 b1 b2 b3 rest ih =>
    simp only [List.length_cons] at whole
    exact ih (by omega)
  | case2 bs s off words =>
    have none : bs = [] := by
      match bs, whole with
      | [], _ => rfl
      | b0 :: b1 :: b2 :: b3 :: rest, _ => exact (words b0 b1 b2 b3 rest rfl).elim
    rw [none, List.nil_append, State.writeWords_of_short h]

theorem State.qspiWrite_of_up {s : State} (up : s.pathUp .qspi = true) (off : Nat) (bs : List Byte) (tm : Nat) :
    s.qspiWrite off bs tm = (s.adv tm).writeWords .qspi off bs := by
  have up' : (s.adv tm).pathUp .qspi = true := up
  simp only [State.qspiWrite, up', if_true]

theorem execRegisterWrite_of_up {s : State} {p : Path} (up : s.pathUp p = true) {off : Nat}
    (inside : p = .qspi ∨ off < cfgBase) (v : Word) (tm : Nat) :
    execRegisterWrite p off v tm s = .next ((s.adv tm).writeWord p off v) := by
  have up' : (s.adv tm).pathUp p = true := up
  have space : (p == .pcie && decide (cfgBase ≤ off)) = false := by
    rcases inside with rfl | low
    · rfl
    · rw [decide_eq_false (Nat.not_le.mpr low), Bool.and_false]
  simp only [execRegisterWrite, up', space, Bool.not_true, Bool.false_eq_true, if_false]

theorem execRegisterWrite_config {s : State} (up : s.pathUp .pcie = true) (off : Nat) (v : Word) (tm : Nat) :
    execRegisterWrite .pcie (cfgBase + off) v tm s = .next ((s.adv tm).cfgWrite off v) := by
  have up' : (s.adv tm).pathUp .pcie = true := up
  simp only [execRegisterWrite, up', beq_self_eq_true, Nat.le_add_right, decide_true, Bool.and_self, Bool.not_true,
    Bool.false_eq_true, if_false, if_true, Nat.add_sub_cancel_left]

theorem execPiBankWrite_of_disabled {s : State} {p : Path} {off : Nat} (up : s.pathUp p = true)
    (disabled : s.pi.enable = false) (low : 0x20000 ≤ off) (high : off < 0x30000) (v : Word) (tm : Nat) :
    execPiBankWrite p off v tm s = .next ((s.adv tm).modPi fun k =>
      if decide (0x28000 ≤ off) then { k with bankB := k.bankB.puts (off % 0x8000) (leBytes 4 v.toNat) }
      else { k with bankA := k.bankA.puts (off % 0x8000) (leBytes 4 v.toNat) }) := by
  have up' : (s.adv tm).pathUp p = true := up
  have live : (s.adv tm).pi.live = false := by
    rw [PiSt.live, State.adv_pi, disabled, Bool.false_and]
  simp only [execPiBankWrite, up', low, high, and_self, decide_true, Bool.and_self, if_true, State.bankWrite, live,
    Bool.false_and, Bool.false_eq_true, if_false]

/-- Settles O2: both opcodes and the register write come to the same write of a word, and a write to a bank that is not
live is stored as it is. -/
theorem hostWritesActOnWords : Obligations.HostWritesActOnWords := by
  unfold Obligations.HostWritesActOnWords
  refine ⟨?oneWord, ?part, ?scratch, ?config, ?bank⟩
  case oneWord =>
    intro off tm v s up
    have word : s.qspiWrite off (leBytes 4 v.toNat) tm = (s.adv tm).writeWord .qspi off v :=
      (State.qspiWrite_of_up up ..).trans (State.writeWords_word ..)
    exact ⟨_, congrArg Host.Outcome.next word, congrArg Host.Outcome.next word, execRegisterWrite_of_up up (.inl rfl) v tm⟩
  case part =>
    intro off tm bs part s whole short
    refine congrArg Host.Outcome.next ?_
    unfold State.qspiWrite
    extract_lets t
    split
    · exact State.writeWords_append_part short t .qspi off bs whole
    · rfl
  case scratch => exact fun p v tm s up => execRegisterWrite_of_up up (.inr (by decide)) v tm
  case config => exact fun off tm v s up => execRegisterWrite_config up off v tm
  case bank =>
    intro p off tm v s up disabled banks low high
    rw [PiSt.banksOk_iff] at banks
    obtain ⟨bankA, bankB, -⟩ := banks
    refine ⟨_, execPiBankWrite_of_disabled up disabled low high v tm, ?_, rfl, rfl, ?_, ?_⟩
    · simp only [State.modPi_pi]
      split <;> rfl
    · intro first
      have place : off % 0x8000 = off - 0x20000 := by omega
      simp only [State.modPi_pi, decide_eq_false (Nat.not_le.mpr first), Bool.false_eq_true, if_false, place]
      exact ⟨rfl, Mem.word_puts bankA _ v⟩
    · intro second
      have place : off % 0x8000 = off - 0x28000 := by omega
      simp only [State.modPi_pi, decide_eq_true second, if_true, place]
      exact ⟨rfl, Mem.word_puts bankB _ v⟩

/-! ## The interrupt registers (R43, R44). -/

/-- With one vector granted, every bit that a cause can set belongs to it. -/
theorem irqMask_one (vec : Word) : irqMask vec 1 0 = irqBits := by
  simp only [irqMask, Nat.one_ne_zero, if_false, Nat.mod_one, beq_self_eq_true, if_true]
  decide

theorem and_eq_zero_of_or_and {a b c : Word} (h : (a ||| b) &&& c = 0) : b &&& c = 0 := by
  rw [BitVec.and_or_distrib_right] at h
  exact (BitVec.or_eq_zero_iff.mp h).2

theorem State.irq_sends {s : State} {b : Word} (on : s.host.msiOn = true) (up : s.host.pcieUp = true)
    (one : s.host.msiGranted = 1) (idle : s.host.irqStatus &&& s.host.irqEnable &&& irqBits = 0)
    (new : (s.host.irqStatus ||| b) &&& s.host.irqEnable &&& irqBits ≠ 0) : (s.irq b).out = s.out ++ [.msi 0] := by
  have was : (s.host.irqStatus &&& s.host.irqEnable &&& irqBits == 0) = true := beq_iff_eq.mpr idle
  have rises : ((s.host.irqStatus ||| b) &&& s.host.irqEnable &&& irqBits != 0) = true := bne_iff_ne.mpr new
  have one_vector : List.range 1 = [0] := rfl
  simp only [State.irq, State.irqSet, on, up, one, Bool.and_self, if_true, one_vector, State.each, List.foldl_cons,
    List.foldl_nil, irqMask_one, was, rises]
  rfl

/-- Settles O5: each write sets its own register and leaves at most messages behind; with one vector, an MSI leaves when
the enabled pending bits rise from none. -/
theorem interruptRegisters : Obligations.InterruptRegisters := by
  unfold Obligations.InterruptRegisters
  refine ⟨?status, ?enable, ?vector, ?test, ?message⟩
  case status =>
    intro v s up
    obtain ⟨o, e⟩ := s.irqClear_eq v
    exact ⟨_, congrArg Host.Outcome.next (if_pos up), by rw [e]⟩
  case enable =>
    intro v s up
    obtain ⟨o, e⟩ := s.irqSet_eq s.host.irqStatus (v &&& irqBits) s.host.irqVector
    exact ⟨_, congrArg Host.Outcome.next (if_pos up), by rw [e]⟩
  case vector =>
    intro v s up
    obtain ⟨o, e⟩ := s.irqSet_eq s.host.irqStatus s.host.irqEnable (v &&& 0xFF)
    exact ⟨_, congrArg Host.Outcome.next (if_pos up), by rw [e]⟩
  case test =>
    intro v s up
    obtain ⟨o, e⟩ := s.irq_eq (v &&& irqBits)
    exact ⟨_, congrArg Host.Outcome.next (if_pos up), by rw [e]⟩
  case message =>
    intro v s up on pcie one idle new
    refine ⟨_, congrArg Host.Outcome.next (if_pos up), State.irq_sends on pcie one ?_ fun none => new ?_⟩
    · rw [BitVec.and_assoc, BitVec.and_comm s.host.irqEnable, ← BitVec.and_assoc]
      exact idle
    · rw [BitVec.and_assoc] at none
      have raised := and_eq_zero_of_or_and none
      calc v &&& irqBits &&& s.host.irqEnable = v &&& irqBits &&& (s.host.irqEnable &&& irqBits) := by
            rw [BitVec.and_comm s.host.irqEnable, ← BitVec.and_assoc, BitVec.and_assoc v irqBits irqBits,
              BitVec.and_self]
        _ = 0 := raised

/-! ## Events, time snapshots and the host watchdog (R45, R46, R65). -/

theorem execTsTake_of_up {s : State} (up : s.hostUp = true) (tm : Nat) :
    execTsTake tm s = .next ((s.adv tm).snapshot false) := congrArg Host.Outcome.next (if_pos up)

theorem execHostWdogExpiry_of_passed {s : State} {tm : Nat} (up : s.hostUp = true) (on : s.pN Pid.hostWdogTime ≠ 0)
    (running : s.host.wdogExpired = false) (passed : s.host.wdogFrom + ms (s.pN Pid.hostWdogTime) ≤ max s.nt tm) :
    execHostWdogExpiry tm s =
      .next ((((s.adv tm).modHost fun h => { h with wdogExpired := true }).irq (irqBit 23)).raise 0x0110 0 s.maskAxes) := by
  refine if_pos ?_
  have up' : (s.adv tm).hostUp = true := up
  have on' : (s.adv tm).pN Pid.hostWdogTime ≠ 0 := on
  have passed' : s.host.wdogFrom + ms ((s.adv tm).pN Pid.hostWdogTime) ≤ (s.adv tm).nt := passed
  simp only [up', on', passed', State.adv_host, running, ne_eq, not_false_eq_true, decide_true, Bool.not_false,
    Bool.and_self]

/-- Settles O6: each access changes the parts of the host access that it names; the snapshot and the watchdog also set
their bit of IRQ_STATUS. -/
theorem eventQueueSnapshotWatchdog : Obligations.EventQueueSnapshotWatchdog := by
  unfold Obligations.EventQueueSnapshotWatchdog
  refine ⟨?pop, ?popEmpty, ?lost, ?take, ?arm, ?kick, ?expiry, ?alive⟩
  case pop =>
    intro r l s up queued
    refine congrArg Host.Outcome.next ((if_pos up).trans ?_)
    simp only [State.evtPop, State.modHost, queued]
  case popEmpty =>
    intro s up empty
    refine congrArg Host.Outcome.next ((if_pos up).trans ?_)
    simp only [State.evtPop, State.modHost, empty]
  case lost => exact fun s up => congrArg Host.Outcome.next (if_pos up)
  case take =>
    intro tm s up
    refine ⟨_, execTsTake_of_up up tm, ?_⟩
    simp only [State.snapshot, State.irq_host, State.irq_axes]
    exact ⟨rfl, rfl, rfl, rfl, rfl, rfl, rfl, rfl⟩
  case arm => exact fun s up => congrArg Host.Outcome.next (if_pos up)
  case kick => exact fun tm s up => congrArg Host.Outcome.next (if_pos up)
  case expiry =>
    intro tm s up on running passed
    refine ⟨_, execHostWdogExpiry_of_passed up on running passed, ?_⟩
    simp only [State.irq_host, State.irq_axes, State.irq_flt, State.irq_pi]
    exact ⟨rfl, rfl, rfl, rfl, rfl⟩
  case alive =>
    intro tm s runs passed
    have runs' : (s.adv tm).fwRuns = true := runs
    refine congrArg Host.Outcome.next (if_pos ?_)
    rw [runs', Bool.true_and]
    exact decide_eq_true passed

end Sys2Proof.Machine

namespace Sys2Proof.Machine

/-! ## The process image (R45, R63, R64). -/

theorem Mem.puts_append (a b : List Byte) (m : Mem) (i : Nat) :
    m.puts i (a ++ b) = (m.puts i a).puts (i + a.length) b := by
  induction a generalizing m i with
  | nil => rfl
  | cons x rest ih =>
    simp only [List.cons_append, Mem.puts, ih, List.length_cons]
    rw [Nat.add_right_comm i 1, Nat.add_assoc]

theorem Mem.word_puts_above {m : Mem} (h : m.wf = true) {i j : Nat} (above : i + 4 ≤ j) (bs : List Byte) :
    (m.puts j bs).word i = m.word i := by
  have same : Mem.gets (m.puts j bs) i 4 = Mem.gets m i 4 := by
    unfold Mem.gets
    refine List.map_congr_left fun k inside => ?_
    rw [List.mem_range] at inside
    rw [Mem.get_puts bs h, dif_neg (by omega)]
  rw [Mem.word, same, Mem.word]

theorem Mem.word_puts_append {m : Mem} (h : m.wf = true) (i : Nat) (v : Word) (bs : List Byte) :
    (m.puts i (leBytes 4 v.toNat ++ bs)).word i = v := by
  have four : (leBytes 4 v.toNat).length = 4 := rfl
  rw [Mem.puts_append, four, Mem.word_puts_above (Mem.puts_wf _ h _) (Nat.le_refl _), Mem.word_puts h]

/-- The process image with `b` as its device-facing bank. -/
def PiSt.withDevBank (k : PiSt) (b : Mem) : PiSt := if k.hostB then { k with bankA := b } else { k with bankB := b }

theorem PiSt.withDevBank_of_hostB {k : PiSt} (h : k.hostB = true) (b : Mem) : k.withDevBank b = { k with bankA := b } :=
  if_pos h

theorem PiSt.withDevBank_of_hostA {k : PiSt} (h : k.hostB = false) (b : Mem) : k.withDevBank b = { k with bankB := b } := by
  rw [PiSt.withDevBank, h, if_neg Bool.false_ne_true]

@[simp] theorem PiSt.withDevBank_hostB (k : PiSt) (b : Mem) : (k.withDevBank b).hostB = k.hostB := by
  unfold PiSt.withDevBank
  split <;> rfl

theorem PiSt.withDevBank_withDevBank (k : PiSt) (b c : Mem) : (k.withDevBank b).withDevBank c = k.withDevBank c := by
  rcases Bool.eq_false_or_eq_true k.hostB with h | h
  · simp only [PiSt.withDevBank_of_hostB, h]
  · simp only [PiSt.withDevBank_of_hostA, h]

theorem PiSt.withDevBank_devBank (k : PiSt) : k.withDevBank k.devBank = k := by
  rcases Bool.eq_false_or_eq_true k.hostB with h | h
  · rw [PiSt.withDevBank_of_hostB h, PiSt.devBank, if_pos h]
  · rw [PiSt.withDevBank_of_hostA h, PiSt.devBank, if_neg (Bool.eq_false_iff.mp h)]

theorem PiSt.devBank_withDevBank (k : PiSt) (b : Mem) : (k.withDevBank b).devBank = b := by
  rw [PiSt.devBank, PiSt.withDevBank_hostB]
  rcases Bool.eq_false_or_eq_true k.hostB with h | h
  · rw [if_pos h, PiSt.withDevBank_of_hostB h]
  · rw [h, if_neg Bool.false_ne_true, PiSt.withDevBank_of_hostA h]

theorem State.devWrite_eq (s : State) (off : Nat) (bs : List Byte) :
    s.devWrite off bs = s.modPi fun k => k.withDevBank (k.devBank.puts off bs) := by
  refine congrArg (fun k => { s with pi := k }) ?_
  rcases Bool.eq_false_or_eq_true s.pi.hostB with h | h
  · simp only [PiSt.withDevBank_of_hostB h, PiSt.devBank, if_pos h]
  · simp only [PiSt.withDevBank_of_hostA h, PiSt.devBank, h, Bool.false_eq_true, if_false]

theorem State.devWrite_withDevBank (s : State) (b : Mem) (off : Nat) (bs : List Byte) :
    (s.modPi fun k => k.withDevBank b).devWrite off bs = s.modPi fun k => k.withDevBank (b.puts off bs) := by
  rw [State.devWrite_eq]
  simp only [State.modPi, PiSt.devBank_withDevBank, PiSt.withDevBank_withDevBank]

/-- The axis records of the frame change the device-facing bank alone, and keep its canonical form. -/
theorem State.each_devWrite {s : State} (h : s.pi.banksOk = true) {α : Type} (off : α → Nat)
    (record : State → α → List Byte) (l : List α) :
    ∃ b : Mem, b.wf = true ∧
      s.each l (fun t a => t.devWrite (off a) (record t a)) = s.modPi fun k => k.withDevBank b := by
  refine State.each_keeps (fun t => ∃ b : Mem, b.wf = true ∧ t = s.modPi fun k => k.withDevBank b) _ ?step l s ?start
  case step =>
    rintro t a ⟨b, wf, rfl⟩
    exact ⟨_, Mem.puts_wf _ wf _, State.devWrite_withDevBank ..⟩
  case start =>
    refine ⟨s.pi.devBank, PiSt.wf_devBank h, ?_⟩
    simp only [State.modPi, PiSt.withDevBank_devBank]

theorem State.globalIn_begins (s : State) : ∃ rest, s.globalIn = leBytes 4 (BitVec.ofNat 32 s.fc).toNat ++ rest := by
  have count : (BitVec.ofNat 32 s.fc).toNat = s.fc := Nat.mod_eq_of_lt (Nat.mod_lt _ (by decide))
  rw [count]
  simp only [State.globalIn, List.append_assoc]
  exact ⟨_, rfl⟩

/-- The process image whose device-facing bank holds the status of the frame `fc`. -/
def PiSt.stamped (k : PiSt) (fc : Nat) : PiSt := if k.hostB then { k with fcA := fc } else { k with fcB := fc }

/-- The status of a frame changes the device-facing bank alone, which then holds the frame count at 0x6000, and notes the
frame of that bank. -/
theorem State.piStatus_eq {s : State} (h : s.pi.banksOk = true) : ∃ b : Mem, b.word 0x6000 = BitVec.ofNat 32 s.fc ∧
    s.piStatus = s.modPi fun k => (k.withDevBank b).stamped s.fc := by
  obtain ⟨b, wf, records⟩ := State.each_devWrite h (fun a : Fin 128 => 0x4000 + 0x40 * a.val) State.inRecord allAxes
  obtain ⟨rest, first⟩ := (s.modPi fun k => k.withDevBank b).globalIn_begins
  refine ⟨(b.puts 0x6000 (leBytes 4 (BitVec.ofNat 32 s.fc).toNat ++ rest)).puts 0x6020
    (s.modPi fun k => k.withDevBank (b.puts 0x6000 (leBytes 4 (BitVec.ofNat 32 s.fc).toNat ++ rest))).trackIn, ?word, ?eq⟩
  case word => rw [Mem.word_puts_above (Mem.puts_wf _ wf _) (by decide), Mem.word_puts_append wf]
  case eq =>
    simp only [State.piStatus, records, State.devWrite_withDevBank, first]
    rfl

theorem PiSt.stamped_withDevBank_of_hostB {k : PiSt} (h : k.hostB = true) (b : Mem) (fc : Nat) :
    (k.withDevBank b).stamped fc = { k with bankA := b, fcA := fc } := by
  rw [PiSt.stamped, if_pos ((k.withDevBank_hostB b).trans h), PiSt.withDevBank_of_hostB h]

theorem PiSt.stamped_withDevBank_of_hostA {k : PiSt} (h : k.hostB = false) (b : Mem) (fc : Nat) :
    (k.withDevBank b).stamped fc = { k with bankB := b, fcB := fc } := by
  rw [PiSt.stamped, if_neg (Bool.eq_false_iff.mp ((k.withDevBank_hostB b).trans h)), PiSt.withDevBank_of_hostA h]

theorem execPiStatusUpdate_of_due {s : State} {tm : Nat} (full : s.fullService = true) (ticking : s.frame.ticking = true)
    (due : s.frame.tick + 10500 ≤ max s.nt tm) (early : max s.nt tm < s.frame.tick + s.tf) :
    execPiStatusUpdate tm s = .next (s.adv tm).piStatus := by
  have full' : (s.adv tm).fullService = true := full
  have early' : (s.adv tm).nt < (s.adv tm).tickAt 1 := by
    rw [State.tickAt, Nat.one_mul]
    exact early
  refine congrArg Host.Outcome.next (if_pos ?_)
  rw [full', State.adv_frame, ticking, Bool.true_and, Bool.true_and]
  exact decide_eq_true ⟨due, early'⟩

/-- Settles O7: each access changes the fields of the process image that it names, and the status of a frame is a run of
writes to the device-facing bank. -/
theorem processImageControl : Obligations.ProcessImageControl := by
  unfold Obligations.ProcessImageControl
  refine ⟨?enables, ?control, ?handover, ?timeout, ?status⟩
  case enables =>
    intro p v s up full off on
    refine ⟨_, congrArg Host.Outcome.next (if_pos up), rfl, ?_⟩
    simp [State.piCtrl, full, off, on]
  case control => exact fun p v s up => ⟨_, congrArg Host.Outcome.next (if_pos up), rfl, rfl, rfl, rfl, rfl, rfl⟩
  case handover =>
    intro p tm s up live free writer
    have up' : (s.adv tm).pathUp p = true := up
    refine congrArg Host.Outcome.next ((if_pos up').trans (if_pos ?_))
    simp [live, free, writer]
  case timeout =>
    intro s running handshake on dry first
    refine congrArg Host.Outcome.next (if_pos ?_)
    simp [running, handshake, on, dry, first]
  case status =>
    intro tm s full ticking due early banks
    obtain ⟨b, count, written⟩ := State.piStatus_eq (s := s.adv tm) banks
    refine ⟨_, execPiStatusUpdate_of_due full ticking due early, ?_⟩
    rw [written]
    refine ⟨rfl, ?_⟩
    simp only [State.modPi_pi, State.adv_pi]
    rcases Bool.eq_false_or_eq_true s.pi.hostB with onB | onA
    · rw [PiSt.stamped_withDevBank_of_hostB onB]
      exact ⟨rfl, fun _ => ⟨rfl, rfl, count⟩, fun onA => absurd onB (Bool.eq_false_iff.mp onA)⟩
    · rw [PiSt.stamped_withDevBank_of_hostA onA]
      exact ⟨rfl, fun onB => absurd onB (Bool.eq_false_iff.mp onA), fun _ => ⟨rfl, rfl, count⟩⟩

end Sys2Proof.Machine

namespace Sys2Proof.Machine

/-! ## Owners of the mailboxes (R40, R48). -/

@[simp] theorem State.endSession_axes (s : State) (sid : Nat) : (s.endSession sid).axes = s.axes := by
  unfold State.endSession
  split <;> rfl

@[simp] theorem State.endSession_pi (s : State) (sid : Nat) : (s.endSession sid).pi = s.pi := by
  unfold State.endSession
  split <;> rfl

theorem State.session_endSession (s : State) (sid : Nat) : (s.endSession sid).session sid = none := by
  unfold State.endSession
  split
  next none => exact none
  next x found =>
    simp only [State.session, State.modMbx_sec]
    refine List.find?_eq_none.mpr fun y kept => ?_
    simp only [State.modPar, State.modSaf, State.modSec, List.mem_filter, bne_iff_ne] at kept
    simpa only [beq_iff_eq] using kept.2

@[simp] theorem State.freeMbx_axes (s : State) (m : Fin 16) : (s.freeMbx m).axes = s.axes :=
  State.endSession_axes ..

@[simp] theorem State.freeMbx_pi (s : State) (m : Fin 16) : (s.freeMbx m).pi = s.pi :=
  State.endSession_pi ..

theorem State.freeMbx_mbx (s : State) (m : Fin 16) :
    (s.freeMbx m).mbx[m] = (s.endSession s.mbx[m].session).mbx[m].cleared := by
  simp only [State.freeMbx, State.modMbx_mbx, vector_set_self]

theorem State.session_freeMbx (s : State) (m : Fin 16) : (s.freeMbx m).session s.mbx[m].session = none :=
  State.session_endSession ..

@[simp] theorem State.mbxRelease_axes (s : State) (p : Path) (m : Fin 16) : (s.mbxRelease p m).axes = s.axes := by
  unfold State.mbxRelease
  extract_lets b
  split
  · rfl
  · split
    · exact State.freeMbx_axes ..
    · exact State.freeMbx_axes ..
    · rfl
    · rfl

theorem State.mbxRelease_of_idle {s : State} {p : Path} {m : Fin 16} (own : s.mbx[m].owner = Owner.ofPath p)
    (idle : s.mbx[m].state = .idle ∨ s.mbx[m].state = .done) : s.mbxRelease p m = s.freeMbx m := by
  simp only [State.mbxRelease, Mbx.ownedBy, own, beq_self_eq_true, Bool.not_true, Bool.false_eq_true, if_false]
  rcases idle with idle | idle <;> simp only [idle]

theorem State.mbxRelease_of_busy {s : State} {p : Path} {m : Fin 16} (own : s.mbx[m].owner = Owner.ofPath p)
    (busy : s.mbx[m].state = .pending ∨ s.mbx[m].state = .executing) :
    s.mbxRelease p m = s.modMbx m fun b => { b with releasing := true } := by
  simp only [State.mbxRelease, Mbx.ownedBy, own, beq_self_eq_true, Bool.not_true, Bool.false_eq_true, if_false]
  rcases busy with busy | busy <;> simp only [busy]

theorem State.mbxRelease_of_foreign {s : State} {p : Path} {m : Fin 16} (foreign : s.mbx[m].owner ≠ Owner.ofPath p) :
    s.mbxRelease p m = s := by
  simp only [State.mbxRelease, Mbx.ownedBy, beq_eq_false_iff_ne.mpr foreign, Bool.not_false, if_true]

/-- What a release on the PCIe path may do to a mailbox: none comes to PCIe, and a release under way stays under way. -/
def Mbx.Yields (b c : Mbx) : Prop := c.owner = .pcie → b.owner = .pcie ∧ (b.releasing = true → c.releasing = true)

theorem Mbx.Yields.refl (b : Mbx) : b.Yields b := fun own => ⟨own, id⟩

theorem Mbx.Yields.trans {b c d : Mbx} (first : b.Yields c) (second : c.Yields d) : b.Yields d := fun own =>
  have ⟨own', keeps'⟩ := second own
  have ⟨own'', keeps⟩ := first own'
  ⟨own'', keeps' ∘ keeps⟩

theorem Mbx.yields_cleared (b : Mbx) : b.Yields b.cleared := fun own => nomatch own

/-- Every mailbox yields. -/
def State.Yields (s t : State) : Prop := ∀ m : Fin 16, s.mbx[m].Yields t.mbx[m]

theorem State.Yields.refl (s : State) : s.Yields s := fun _ => Mbx.Yields.refl _

theorem State.Yields.trans {s t u : State} (first : s.Yields t) (second : t.Yields u) : s.Yields u :=
  fun m => (first m).trans (second m)

theorem State.yields_modMbx {s : State} {m : Fin 16} {f : Mbx → Mbx} (h : ∀ b : Mbx, b.Yields (f b)) :
    s.Yields (s.modMbx m f) := by
  intro k
  rw [State.modMbx_mbx, vector_set_get]
  split
  next same => exact same ▸ h _
  next => exact Mbx.Yields.refl _

theorem State.yields_endSession (s : State) (sid : Nat) : s.Yields (s.endSession sid) := by
  unfold State.endSession
  split
  · exact State.Yields.refl s
  · refine State.yields_modMbx (s := s.modSec _ |>.modSaf _ |>.modPar _) fun b => ?_
    extract_lets busy
    split
    · exact Mbx.Yields.refl b
    · split
      · split
        · exact fun own => ⟨own, fun _ => rfl⟩
        · exact b.yields_cleared
      · exact fun own => ⟨own, id⟩

theorem State.yields_freeMbx (s : State) (m : Fin 16) : s.Yields (s.freeMbx m) :=
  (s.yields_endSession _).trans (State.yields_modMbx Mbx.yields_cleared)

theorem State.yields_mbxRelease (s : State) (p : Path) (m : Fin 16) : s.Yields (s.mbxRelease p m) := by
  unfold State.mbxRelease
  extract_lets b
  split
  · exact State.Yields.refl s
  · split
    · exact s.yields_freeMbx m
    · exact s.yields_freeMbx m
    · exact State.yields_modMbx fun b own => ⟨own, fun _ => rfl⟩
    · exact State.yields_modMbx fun b own => ⟨own, fun _ => rfl⟩

theorem State.releasing_mbxRelease (s : State) (m : Fin 16) (own : (s.mbxRelease .pcie m).mbx[m].owner = .pcie) :
    (s.mbxRelease .pcie m).mbx[m].releasing = true := by
  by_cases mine : s.mbx[m].owner = Owner.ofPath .pcie
  · cases state : s.mbx[m].state with
    | idle =>
      rw [State.mbxRelease_of_idle mine (.inl state), State.freeMbx_mbx] at own
      exact absurd own (by simp [Mbx.cleared])
    | done =>
      rw [State.mbxRelease_of_idle mine (.inr state), State.freeMbx_mbx] at own
      exact absurd own (by simp [Mbx.cleared])
    | pending => rw [State.mbxRelease_of_busy mine (.inl state), State.modMbx_mbx, vector_set_self]
    | executing => rw [State.mbxRelease_of_busy mine (.inr state), State.modMbx_mbx, vector_set_self]
  · rw [State.mbxRelease_of_foreign mine] at own
    exact absurd own mine

/-- Once PCIe has released each mailbox of `l`, every other keeps its owner, and of `l` PCIe holds only what it is releasing. -/
theorem State.each_mbxRelease (l : List (Fin 16)) (s : State) :
    s.Yields (s.each l fun t m => t.mbxRelease .pcie m) ∧
      ∀ m ∈ l, (s.each l fun t m => t.mbxRelease .pcie m).mbx[m].owner = .pcie →
        (s.each l fun t m => t.mbxRelease .pcie m).mbx[m].releasing = true := by
  induction l generalizing s with
  | nil => exact ⟨State.Yields.refl s, fun m none => absurd none List.not_mem_nil⟩
  | cons x rest ih =>
    obtain ⟨yields, released⟩ := ih (s.mbxRelease .pcie x)
    refine ⟨(s.yields_mbxRelease .pcie x).trans yields, fun m inside own => ?_⟩
    rcases List.mem_cons.mp inside with rfl | inside
    · obtain ⟨own', keeps⟩ := yields m own
      exact keeps (s.releasing_mbxRelease m own')
    · exact released m inside own

theorem mem_allMbx (m : Fin 16) : m ∈ allMbx := by decide +revert

/-- PCIe goes down: no mailbox is its own but those it is releasing, it does not write the process image, it has no
subscription, and the axes stay. -/
theorem State.pcieDown_leaves (s : State) : s.pcieDown.host.subsPcie = [] ∧ s.pcieDown.pi.writer ≠ 1 ∧
    s.pcieDown.axes = s.axes ∧ ∀ m : Fin 16, s.pcieDown.mbx[m].owner = .pcie → s.pcieDown.mbx[m].releasing = true := by
  unfold State.pcieDown
  extract_lets t u
  obtain ⟨yields, released⟩ := State.each_mbxRelease (allMbx.filter fun m => s.mbx[m].owner == .pcie) s
  refine ⟨rfl, ?writer, ?axes, fun m own => released m ?_ own⟩
  case writer =>
    simp only [u, State.modHost_pi, State.modPi_pi]
    split
    · exact Nat.zero_ne_one
    · assumption
  case axes => exact State.each_same State.axes _ (fun t m => t.mbxRelease_axes .pcie m) _ s
  case _ => exact List.mem_filter.mpr ⟨mem_allMbx m, beq_iff_eq.mpr (yields m own).1⟩

/-- Settles O3: a release frees an idle mailbox at once and waits for a busy one, and PCIe down is a release of each
mailbox that PCIe owns. -/
theorem mailboxOwnership : Obligations.MailboxOwnership := by
  unfold Obligations.MailboxOwnership
  refine ⟨?claim, ?ignored, ?release, ?waits, ?linkDown, ?perst⟩
  case claim =>
    intro p m s up shared free
    refine congrArg Host.Outcome.next ((if_pos up).trans (if_neg ?_))
    rw [shared, free]
    decide
  case ignored =>
    intro p m s closed
    refine congrArg Host.Outcome.next ?_
    have kept : s.mbxClaim p m = s := if_pos (by simpa using closed)
    rw [kept, ite_self]
  case release =>
    intro p m s up own idle
    refine ⟨_, congrArg Host.Outcome.next ((if_pos up).trans (State.mbxRelease_of_idle own idle)), ?_⟩
    simp only [State.freeMbx_mbx, State.session_freeMbx, State.freeMbx_axes, State.freeMbx_pi, State.freeMbx_host,
      and_self]
    exact ⟨rfl, rfl, rfl, rfl, rfl, rfl, trivial⟩
  case waits =>
    exact fun p m s up own busy => congrArg Host.Outcome.next ((if_pos up).trans (State.mbxRelease_of_busy own busy))
  case linkDown =>
    intro tm s
    obtain ⟨subs, writer, axes, released⟩ := (s.adv tm).pcieDown_leaves
    exact ⟨_, rfl, rfl, subs, writer, axes, released⟩
  case perst =>
    intro tm s
    obtain ⟨subs, writer, axes, released⟩ := (s.adv tm).pcieDown_leaves
    exact ⟨_, rfl, rfl, rfl, subs, writer, axes, released⟩

end Sys2Proof.Machine

namespace Sys2Proof.Machine

/-! ## The cycle of a mailbox command (R49, R50). -/

/-- The mailbox once its command is answered with `frame`. -/
def Mbx.answered (b : Mbx) (frame : List Byte) (hw : Bool) : Mbx :=
  { b with state := .done, resp := Mem.ofList frame, lastSeq := fld frame 0 2, autoBusy := hw, hidden := none,
           wait := .none, errCount := if fld frame 4 2 = 0 then b.errCount else count32 b.errCount }

@[simp] theorem Mbx.answered_state (b : Mbx) (frame : List Byte) (hw : Bool) : (b.answered frame hw).state = .done := (rfl)
@[simp] theorem Mbx.answered_autoBusy (b : Mbx) (frame : List Byte) (hw : Bool) : (b.answered frame hw).autoBusy = hw :=
  (rfl)
@[simp] theorem Mbx.answered_resp (b : Mbx) (frame : List Byte) (hw : Bool) :
    (b.answered frame hw).resp = Mem.ofList frame := (rfl)
@[simp] theorem Mbx.answered_lastSeq (b : Mbx) (frame : List Byte) (hw : Bool) :
    (b.answered frame hw).lastSeq = fld frame 0 2 := (rfl)

/-- The answer of a mailbox of a path that keeps it: its buffer and its state change, and its interrupt is pending. -/
theorem State.completeMbx_of_kept {s : State} {m : Fin 16} (path : s.mbx[m].owner ≠ .net)
    (kept : s.mbx[m].releasing = false) (wanted : s.mbx[m].discard = false) (frame : List Byte) (hw : Bool) :
    s.completeMbx m frame hw = (s.modMbx m fun b => b.answered frame hw).irq (irqBit m.val) := by
  simp only [State.completeMbx, kept, wanted, beq_eq_false_iff_ne.mpr path, Bool.false_eq_true, if_false]
  rfl

theorem State.completeMbx_kept {s : State} {m : Fin 16} (path : s.mbx[m].owner ≠ .net)
    (kept : s.mbx[m].releasing = false) (wanted : s.mbx[m].discard = false) (frame : List Byte) (hw : Bool) :
    (s.completeMbx m frame hw).mbx[m] = s.mbx[m].answered frame hw ∧
      (s.completeMbx m frame hw).host = { s.host with irqStatus := s.host.irqStatus ||| irqBit m.val } ∧
      (s.completeMbx m frame hw).axes = s.axes ∧ (s.completeMbx m frame hw).pi = s.pi ∧
      (s.completeMbx m frame hw).par = s.par ∧ (s.completeMbx m frame hw).sec = s.sec := by
  rw [State.completeMbx_of_kept path kept wanted, State.irq_host, State.irq_mbx, State.irq_axes, State.irq_pi,
    State.irq_par, State.irq_sec]
  exact ⟨vector_set_self .., rfl, rfl, rfl, rfl, rfl⟩

theorem State.abortMbx_of_pending {s : State} {m : Fin 16} (pending : s.mbx[m].state = .pending) (status flags : Nat)
    (hw : Bool) : s.abortMbx m status flags hw =
      s.completeMbx m (response (Mem.gets s.mbx[m].cmd 0 16) status 0 flags []) hw := by
  have waits : (s.mbx[m].state == .executing) = false := by
    rw [pending]
    rfl
  simp only [State.abortMbx, waits, Bool.false_eq_true, if_false]

theorem State.abortMbx_of_executing {s : State} {m : Fin 16} (runs : s.mbx[m].state = .executing) (status flags : Nat)
    (hw : Bool) : s.abortMbx m status flags hw = s.completeMbx m (response s.mbx[m].copy status 0 flags []) hw := by
  have runs' : (s.mbx[m].state == .executing) = true := beq_iff_eq.mpr runs
  simp only [State.abortMbx, runs', if_true]

theorem State.serveUnknown_of_answered {s : State} {m : Fin 16} {frame : List Byte} (h : s.mbx[m].hidden = some frame) :
    s.serveUnknown m = s := by
  simp only [State.serveUnknown, h, Option.isNone_some, Bool.and_false, Bool.false_and, Bool.false_eq_true, if_false]

theorem State.endBound_of_none_ending {s : State} (h : ∀ x ∈ s.sec.sessions, x.ending = false) (m : Fin 16) :
    s.endBound m = s := by
  have none : (s.sec.sessions.filter fun x => x.ending && x.mbx == m.val) = [] := by
    refine List.filter_eq_nil_iff.mpr fun x inside => ?_
    simp only [h x inside, Bool.false_and, Bool.false_eq_true, not_false_eq_true]
  rw [State.endBound, none]
  rfl

theorem execMbxDoorbell_of_idle {p : Path} {m : Fin 16} {tm : Nat} {s : State} (up : s.pathUp p = true)
    (own : s.mbx[m].owner = Owner.ofPath p) (idle : s.mbx[m].state = .idle ∨ s.mbx[m].state = .done) :
    execMbxDoorbell p m tm s = .next ((s.adv tm).modMbx m fun b =>
      { b with state := .pending, cmdCount := count32 b.cmdCount, lockWrite := false, bellIgnored := false,
               bellAt := max s.nt tm, deadlineNow := b.deadline }) := by
  have up' : (s.adv tm).pathUp p = true := up
  refine congrArg Host.Outcome.next ((if_pos up').trans ?_)
  simp only [State.doorbell, Mbx.ownedBy, State.adv_mbx, own, beq_self_eq_true, Bool.not_true, Bool.false_eq_true, if_false]
  rcases idle with idle | idle <;> simp only [idle, State.adv_nt]

theorem execMbxDoorbell_of_busy {p : Path} {m : Fin 16} {tm : Nat} {s : State} (up : s.pathUp p = true)
    (own : s.mbx[m].owner = Owner.ofPath p) (busy : s.mbx[m].state = .pending ∨ s.mbx[m].state = .executing) :
    execMbxDoorbell p m tm s = .next ((s.adv tm).modMbx m fun b => { b with bellIgnored := true }) := by
  have up' : (s.adv tm).pathUp p = true := up
  refine congrArg Host.Outcome.next ((if_pos up').trans ?_)
  simp only [State.doorbell, Mbx.ownedBy, State.adv_mbx, own, beq_self_eq_true, Bool.not_true, Bool.false_eq_true, if_false]
  rcases busy with busy | busy <;> simp only [busy]

theorem execMbxTake_of_turn {m : Fin 16} {tm : Nat} {s : State} (runs : s.fwRuns = true)
    (pending : s.mbx[m].state = .pending) (turn : s.turnOf m = true) :
    execMbxTake m tm s = .next (((((s.adv tm).modMbx m fun b =>
      { b with state := .executing, copy := Mem.gets b.cmd 0 512, hidden := none, wait := .none }).modHost fun h =>
      { h with lastTaken := m.val }).modSession s.mbx[m].session fun x =>
      { x with lastCmd := max s.nt tm }).modPwr fun p => { p with lastCmd := max s.nt tm }) := by
  have runs' : (s.adv tm).fwRuns = true := runs
  have turn' : (s.adv tm).turnOf m = true := turn
  have pending' : ((s.adv tm).mbx[m].state == .pending) = true := beq_iff_eq.mpr pending
  simp only [execMbxTake, runs', turn', pending', Bool.and_self, if_true, State.modHost_mbx, State.modMbx_mbx,
    vector_set_self]
  rfl

theorem execMbxAutoBusy_of_stopped {m : Fin 16} {tm : Nat} {s : State} (up : s.hostUp = true) (stops : s.fwRuns = false)
    (pending : s.mbx[m].state = .pending) : execMbxAutoBusy m tm s =
      .next ((s.adv tm).completeMbx m (response (Mem.gets s.mbx[m].cmd 0 16) stBusy 0 0 []) true) := by
  have up' : (s.adv tm).hostUp = true := up
  have stops' : (s.adv tm).fwRuns = false := stops
  refine congrArg Host.Outcome.next ((if_pos ?_).trans (State.abortMbx_of_pending (s := s.adv tm) pending ..))
  rw [up', stops', beq_iff_eq.mpr (show (s.adv tm).mbx[m].state = .pending from pending)]
  rfl

theorem execMbxResponse_of_hidden {m : Fin 16} {tm : Nat} {fr : List Byte} {s : State}
    (runs : s.mbx[m].state = .executing) (hidden : s.mbx[m].hidden = some fr) :
    execMbxResponse m tm s = .next (((s.adv tm).completeMbx m fr false).endBound m) := by
  have served : (s.adv tm).serveUnknown m = s.adv tm := State.serveUnknown_of_answered hidden
  have runs' : (s.mbx[m].state == .executing) = true := beq_iff_eq.mpr runs
  simp only [execMbxResponse, served, State.adv_mbx, hidden, runs', if_true]

theorem execMbxDeadline_of_pending {m : Fin 16} {tm : Nat} {s : State} (pending : s.mbx[m].state = .pending)
    (passed : s.mbx[m].bellAt + ms s.mbx[m].deadlineNow ≤ max s.nt tm) :
    execMbxDeadline m tm s =
      .next ((s.adv tm).completeMbx m (response (Mem.gets s.mbx[m].cmd 0 16) stTimeout 0 0 []) false) := by
  refine (if_neg (Nat.not_lt.mpr passed)).trans ?_
  simp only [State.adv_mbx, pending, State.abortMbx_of_pending (s := s.adv tm) pending]

theorem execMbxDeadline_of_started {m : Fin 16} {tm id : Nat} {s : State} (runs : s.mbx[m].state = .executing)
    (waits : s.mbx[m].wait = .call id) (unanswered : s.mbx[m].hidden = none)
    (passed : s.mbx[m].bellAt + ms s.mbx[m].deadlineNow ≤ max s.nt tm) :
    execMbxDeadline m tm s =
      .next (((s.adv tm).modHost fun h => { h with started := h.started ++ [id] }).completeMbx m
        (response s.mbx[m].copy stTimeout 0 8 []) false) := by
  refine (if_neg (Nat.not_lt.mpr passed)).trans ?_
  simp only [State.adv_mbx, runs, waits, unanswered]
  exact congrArg Host.Outcome.next (State.abortMbx_of_executing (s := (s.adv tm).modHost _) runs ..)

/-- Settles O4: each of the ways out of PENDING and EXECUTING is the answer of a mailbox that its path keeps. -/
theorem mailboxCommandCycle : Obligations.MailboxCommandCycle := by
  unfold Obligations.MailboxCommandCycle
  refine ⟨?bell, ?again, ?take, ?autoBusy, ?response, ?late, ?started⟩
  case bell => exact fun p m tm s up own idle => execMbxDoorbell_of_idle up own idle
  case again => exact fun p m tm s up own busy => execMbxDoorbell_of_busy up own busy
  case take => exact fun m tm s runs pending turn => ⟨_, execMbxTake_of_turn runs pending turn, rfl, rfl, rfl, rfl⟩
  case autoBusy =>
    intro m tm s up stops pending path kept wanted
    obtain ⟨box, host, axes, pi, par, -⟩ := State.completeMbx_kept (s := s.adv tm) path kept wanted
      (response (Mem.gets s.mbx[m].cmd 0 16) stBusy 0 0 []) true
    refine ⟨_, execMbxAutoBusy_of_stopped up stops pending, ?_⟩
    simp only [box, host, axes, pi, par, Mbx.answered_state, Mbx.answered_autoBusy, Mbx.answered_resp, State.adv_host,
      State.adv_axes, State.adv_pi, State.adv_par, and_self]
  case response =>
    intro m tm fr s runs hidden path kept wanted none
    obtain ⟨box, host, axes, pi, par, sec⟩ := State.completeMbx_kept (s := s.adv tm) path kept wanted fr false
    refine ⟨_, (execMbxResponse_of_hidden runs hidden).trans (congrArg Host.Outcome.next
      (State.endBound_of_none_ending (by rwa [sec]) m)), ?_⟩
    simp only [box, host, axes, pi, par, Mbx.answered_state, Mbx.answered_autoBusy, Mbx.answered_resp,
      Mbx.answered_lastSeq, State.adv_host, State.adv_axes, State.adv_pi, State.adv_par, and_self]
  case late =>
    intro m tm s pending passed path kept wanted
    obtain ⟨box, -, axes, pi, par, -⟩ := State.completeMbx_kept (s := s.adv tm) path kept wanted
      (response (Mem.gets s.mbx[m].cmd 0 16) stTimeout 0 0 []) false
    refine ⟨_, execMbxDeadline_of_pending pending passed, ?_⟩
    simp only [box, axes, pi, par, Mbx.answered_state, Mbx.answered_resp, State.adv_axes, State.adv_pi, State.adv_par,
      and_self]
  case started =>
    intro m tm id s runs waits unanswered passed path kept wanted
    obtain ⟨box, host, -⟩ := State.completeMbx_kept
      (s := (s.adv tm).modHost fun h => { h with started := h.started ++ [id] }) path kept wanted
      (response s.mbx[m].copy stTimeout 0 8 []) false
    refine ⟨_, execMbxDeadline_of_started runs waits unanswered passed, ?_⟩
    simp only [box, host, Mbx.answered_state, Mbx.answered_resp, State.modHost_host, State.adv_host, and_self]

end Sys2Proof.Machine

namespace Sys2Proof.Machine

/-! ## The state after reset (R43, R45, R47). -/

theorem State.reset_mailboxes (m : Fin 16) : State.reset.mbx[m].owner = .free ∧ State.reset.mbxReg m 0x0C = 0 ∧
    State.reset.mbxReg m 0x10 = 500 ∧ State.reset.mbxReg m 0x14 = 0 ∧ State.reset.mbxReg m 0x18 = 0 ∧
    State.reset.mbxReg m 0x1C = 0 := by
  decide +kernel +revert

/-- Settles O53: reset is one concrete state; its memories are empty, and the kernel evaluates its registers. -/
theorem resetState : Obligations.ResetState := by
  unfold Obligations.ResetState
  refine ⟨rfl, rfl, ?memories, State.reset_mailboxes, ?zeros, ?vector, ?name⟩
  case memories => exact State.memOk_of_empty rfl rfl rfl
  case zeros => decide +kernel
  case vector => rfl
  case name => rfl

end Sys2Proof.Machine

namespace Sys2Proof.Machine

/-! ## How a command that nothing is against ends. -/

theorem hidden_of_holds {s : State} {m : Fin 16} {op : Nat} {hit : List Byte → Bool} (h : s.holds m op hit = true) :
    s.mbx[m].hidden = none := by
  simp only [State.holds, Bool.and_eq_true, Option.isNone_iff_eq_none] at h
  obtain ⟨⟨⟨-, hidden⟩, -⟩, -⟩ := h
  exact hidden

theorem op_of_holds {s : State} {m : Fin 16} {op : Nat} {hit : List Byte → Bool} (h : s.holds m op hit = true) :
    s.mbx[m].op = op := by
  simp only [State.holds, Bool.and_eq_true, beq_iff_eq] at h
  obtain ⟨⟨-, op⟩, -⟩ := h
  exact op

section
variable {s t : State} {m : Fin 16} {tm op right : Nat} {hit : List Byte → Bool} {act : State → List Byte → Served}

theorem holds_of_ready (h : s.ready m op hit right = true) : s.holds m op hit = true := (ready_iff h 0).1

theorem serve_done (h : s.ready m op hit right = true) {pay : List Byte}
    (done : act (s.adv tm) s.mbx[m].payload = .done t pay) :
    s.serve m tm op hit right act = t.answer m stOk 0 pay := by
  rw [serve_ready tm act _ h rfl, done, State.settle]

theorem serve_fail (h : s.ready m op hit right = true) {st d : Nat} {pay : List Byte}
    (fail : act (s.adv tm) s.mbx[m].payload = .fail st d pay) :
    s.serve m tm op hit right act = (s.adv tm).answer m st d pay := by
  rw [serve_ready tm act _ h rfl, fail, State.settle]

theorem serve_failed (h : s.ready m op hit right = true) {st : Nat}
    (failed : act (s.adv tm) s.mbx[m].payload = .failed t st) :
    s.serve m tm op hit right act = t.answer m st 0 [] := by
  rw [serve_ready tm act _ h rfl, failed, State.settle]

theorem serve_wait (h : s.ready m op hit right = true) {w : Wait}
    (wait : act (s.adv tm) s.mbx[m].payload = .wait t w) :
    s.serve m tm op hit right act = t.modMbx m fun b => { b with wait := w } := by
  rw [serve_ready tm act _ h rfl, wait, State.settle]

end

theorem State.gotAnswer_answer (s : State) (m : Fin 16) (st : Nat) (pay : List Byte) :
    (s.answer m st 0 pay).gotAnswer m st pay := by
  simp only [State.gotAnswer, State.answer, State.modMbx_mbx, vector_set_self, and_self]

/-! ## Reads of parameters (R53, R54, R61). -/

section
variable {s : State} {m : Fin 16} {tm : Nat}

theorem execGet_of_value (ready : s.ready m 0x01 anyPay 0 = true) (len : s.mbx[m].payload.length = 4) {ty : Nat}
    {bs : List Byte} (value : (s.adv tm).getOne (bit s.mbx[m].flags 1) (fld s.mbx[m].payload 0 4) = (ty, stOk, bs)) :
    execGet m tm s =
      .next ((s.adv tm).answer m stOk 0 (leBytes 1 ty ++ leBytes 1 0 ++ leBytes 2 bs.length ++ bs)) := by
  refine congrArg Host.Outcome.next (serve_done ready ?_)
  simp only [State.adv_mbx, len, value, ne_eq, not_true_eq_false, if_false]
  rfl

theorem execGetMulti_of_header (ready : s.ready m 0x03 anyPay 0 = true) {n k : Nat} {bs : List Byte}
    (num : fld s.mbx[m].payload 0 2 = n) (low : 1 ≤ n) (high : n ≤ 64) (zero : fld s.mbx[m].payload 2 2 = 0)
    (len : s.mbx[m].payload.length = 4 + 4 * n)
    (fit : fitEntries 496 ((List.range n).map ((s.adv tm).multiEntry m)) = (bs, k)) :
    execGetMulti m tm s = .next ((s.adv tm).settle m (if k < n then .fail stFull k bs else .done (s.adv tm) bs)) := by
  have header : ¬(n < 1 ∨ 64 < n ∨ fld s.mbx[m].payload 2 2 ≠ 0 ∨ s.mbx[m].payload.length ≠ 4 + 4 * n) := by omega
  refine congrArg Host.Outcome.next ((serve_ready tm _ _ ready rfl).trans ?_)
  simp only [num, if_neg header, fit]

theorem execGetMulti_of_all (ready : s.ready m 0x03 anyPay 0 = true) {n : Nat} {bs : List Byte}
    (num : fld s.mbx[m].payload 0 2 = n) (low : 1 ≤ n) (high : n ≤ 64) (zero : fld s.mbx[m].payload 2 2 = 0)
    (len : s.mbx[m].payload.length = 4 + 4 * n)
    (fit : fitEntries 496 ((List.range n).map ((s.adv tm).multiEntry m)) = (bs, n)) :
    execGetMulti m tm s = .next ((s.adv tm).answer m stOk 0 bs) := by
  rw [execGetMulti_of_header ready num low high zero len fit, if_neg (Nat.lt_irrefl n), State.settle]

theorem execGetMulti_of_full (ready : s.ready m 0x03 anyPay 0 = true) {n k : Nat} {bs : List Byte}
    (num : fld s.mbx[m].payload 0 2 = n) (low : 1 ≤ n) (high : n ≤ 64) (zero : fld s.mbx[m].payload 2 2 = 0)
    (len : s.mbx[m].payload.length = 4 + 4 * n)
    (fit : fitEntries 496 ((List.range n).map ((s.adv tm).multiEntry m)) = (bs, k)) (full : k < n) :
    execGetMulti m tm s = .next ((s.adv tm).answer m stFull k bs) := by
  rw [execGetMulti_of_header ready num low high zero len fit, if_pos full, State.settle]

end

theorem length_padded_le (bs : List Byte) : (padded bs).length ≤ bs.length + 3 := by
  simp only [padded, padTo4, List.length_append, List.length_replicate]
  omega

theorem fitEntries_single {room : Nat} {e : List Byte} (h : e.length ≤ room) : fitEntries room [e] = (e, 1) := by
  simp only [fitEntries, if_neg (Nat.not_lt.mpr h), List.append_nil]

/-! ## Writes of parameters (R54, R58). -/

theorem State.setGroup_of_passed {s : State} {m : Fin 16} {es : List SetEntry} {i : Nat} {vals : List (Nat × PVal)}
    (drives : s.drives = true) (passed : s.judge (s.rightsOf m) (bit s.mbx[m].flags 0) es = (stOk, i, vals)) :
    s.setGroup m (some es) = .wait (s.markReady (some m.val) vals) (.group s.par.nextGroup) := by
  simp only [State.setGroup, passed, drives, withState, Bool.not_true, Bool.not_false, if_true]
  rfl

theorem State.setGroup_of_refused {s : State} {m : Fin 16} {es : List SetEntry} {i st : Nat} {vals : List (Nat × PVal)}
    (drives : s.drives = true) (refused : s.judge (s.rightsOf m) (bit s.mbx[m].flags 0) es = (st, i, vals))
    (bad : st ≠ stOk) : s.setGroup m (some es) = .fail st i := by
  have bad' : st ≠ 0 := bad
  simp only [State.setGroup, refused, drives, withState, Bool.not_true, Bool.not_false, if_true, if_pos bad']

/-- What a group leaves that has been marked ready for mailbox `m`. -/
theorem State.markReady_waits {s : State} {m : Fin 16} (unanswered : s.mbx[m].hidden = none) (tm : Nat)
    (vals : List (Nat × PVal)) {t : State} (marked : t = ((s.adv tm).markReady (some m.val) vals).modMbx m fun b =>
      { b with wait := .group s.par.nextGroup }) :
    t.par.store = s.par.store ∧ t.mbx[m].hidden = none ∧
      t.par.ready = s.par.ready ++ [⟨s.par.nextGroup, some m.val, vals, (s.adv tm).markAt⟩] ∧
      t.mbx[m].wait = .group s.par.nextGroup ∧ t.axes = s.axes := by
  subst marked
  simp only [State.modMbx_mbx, vector_set_self]
  exact ⟨rfl, unanswered, rfl, trivial, rfl⟩

theorem execSet_of_passed {s : State} {m : Fin 16} {tm i : Nat} {e : SetEntry} {vals : List (Nat × PVal)}
    (ready : s.ready m 0x02 anyPay (if keysClass (fld s.mbx[m].payload 0 4) then 16 else 1) = true)
    (drives : s.drives = true) (entry : parseEntries 1 s.mbx[m].payload = some [e])
    (passed : (s.adv tm).judge (s.rightsOf m) (bit s.mbx[m].flags 0) [e] = (stOk, i, vals)) :
    execSet m tm s = .next (((s.adv tm).markReady (some m.val) vals).modMbx m fun b =>
      { b with wait := .group s.par.nextGroup }) := by
  refine congrArg Host.Outcome.next (serve_wait ready ?_)
  simp only [entry, State.setGroup_of_passed (s := s.adv tm) drives passed]
  rfl

theorem execSetMulti_of_header {s : State} {m : Fin 16} {tm n : Nat} {es : List SetEntry}
    (ready : s.ready m 0x04 anyPay 17 = true) (num : fld s.mbx[m].payload 0 2 = n) (low : 1 ≤ n) (high : n ≤ 32)
    (zero : fld s.mbx[m].payload 2 2 = 0) (entries : parseEntries n (s.mbx[m].payload.drop 4) = some es) :
    execSetMulti m tm s = .next ((s.adv tm).settle m ((s.adv tm).setGroup m (some es))) := by
  have header : ¬(n < 1 ∨ 32 < n ∨ fld s.mbx[m].payload 2 2 ≠ 0) := by omega
  refine congrArg Host.Outcome.next ((serve_ready tm _ _ ready rfl).trans ?_)
  simp only [num, if_neg header, entries]

/-! ## Subscriptions (R53). -/

/-- The payload of a SUBSCRIBE with `n` entries of the form that the spec gives. -/
def subscribeForm (p : List Byte) (n : Nat) : Prop :=
  fld p 0 2 = n ∧ fld p 2 2 = 0 ∧ p.length = 4 + 4 * n ∧ ((subEntries p n).all fun x => decide (x.2.2 ≤ 1)) = true

theorem not_subscribeFault {p : List Byte} {n : Nat} (h : subscribeForm p n) :
    ¬(fld p 2 2 ≠ 0 ∨ p.length ≠ 4 + 4 * n ∨ (subEntries p n).any (fun x => decide (1 < x.2.2)) = true) := by
  obtain ⟨-, zero, len, flags⟩ := h
  have none : (subEntries p n).any (fun x => decide (1 < x.2.2)) = false := by
    refine List.any_eq_false.mpr fun x inside => ?_
    have flag := of_decide_eq_true (List.all_eq_true.mp flags x inside)
    simp only [decide_eq_true_eq, not_lt]
    exact flag
  simp only [zero, len, none, ne_eq, not_true_eq_false, Bool.false_eq_true, or_self, not_false_eq_true]

section
variable {s : State} {m : Fin 16} {tm n : Nat} {l : List Sub}

theorem execSubscribe_pcie (ready : s.ready m 0x20 anyPay 0 = true) (form : subscribeForm s.mbx[m].payload n)
    (own : s.mbx[m].owner = .pcie)
    (held : (subEntries s.mbx[m].payload n).foldl subStep (some s.host.subsPcie) = some l) :
    execSubscribe m tm s = .next (((s.adv tm).modHost fun h => { h with subsPcie := l }).answer m stOk 0 []) := by
  refine congrArg Host.Outcome.next (serve_done ready ?_)
  simp only [form.1, if_neg (not_subscribeFault form), State.adv_mbx, State.adv_host, own, held]

theorem execSubscribe_qspi (ready : s.ready m 0x20 anyPay 0 = true) (form : subscribeForm s.mbx[m].payload n)
    (own : s.mbx[m].owner = .qspi)
    (held : (subEntries s.mbx[m].payload n).foldl subStep (some s.host.subsQspi) = some l) :
    execSubscribe m tm s = .next (((s.adv tm).modHost fun h => { h with subsQspi := l }).answer m stOk 0 []) := by
  refine congrArg Host.Outcome.next (serve_done ready ?_)
  simp only [form.1, if_neg (not_subscribeFault form), State.adv_mbx, State.adv_host, own, held]

theorem execSubscribe_net (ready : s.ready m 0x20 anyPay 0 = true) (form : subscribeForm s.mbx[m].payload n)
    (own : s.mbx[m].owner = .net) {x : Session} (bound : s.session s.mbx[m].sid = some x)
    (held : (subEntries s.mbx[m].payload n).foldl subStep (some x.subs) = some l) :
    execSubscribe m tm s =
      .next (((s.adv tm).modSession x.id fun y => { y with subs := l }).answer m stOk 0 []) := by
  have bound' : (s.adv tm).session s.mbx[m].sid = some x := bound
  refine congrArg Host.Outcome.next (serve_done ready ?_)
  simp only [form.1, if_neg (not_subscribeFault form), State.adv_mbx, own, bound', held]

end

/-- A subscription to hold: it is held then, with every one before. -/
theorem subStep_hold {l : List Sub} (room : l.length < 64) (code inst : Nat) :
    ∃ l', subStep (some l) (code, inst, 1) = some l' ∧ (⟨code, inst⟩ : Sub) ∈ l' ∧ ∀ x ∈ l, x ∈ l' := by
  by_cases held : l.contains (⟨code, inst⟩ : Sub) = true
  · refine ⟨l, ?_, List.contains_iff_mem.mp held, fun _ => id⟩
    simp only [subStep, Option.bind_some, Nat.one_ne_zero, if_false, held, if_true]
  · refine ⟨l ++ [⟨code, inst⟩], ?_, List.mem_append_right _ (List.mem_singleton.mpr rfl),
      fun _ => List.mem_append_left _⟩
    simp only [subStep, Option.bind_some, Nat.one_ne_zero, if_false, if_neg held, if_neg (Nat.not_le.mpr room)]

/-! ## Saving (R58). -/

theorem State.varItem_twin (s : State) (kind : Nat) (f : List Nat) : ∃ w, s.varItem kind f = { s with twin := w } := by
  unfold State.varItem
  split
  · exact ⟨_, rfl⟩
  · exact ⟨s.twin, rfl⟩

/-- The committed values that the flash keeps. -/
def ParSt.flashSet (k : ParSt) : List PEntry :=
  k.store.filter fun e => match findRow e.id with
    | some (r, _) => r.flash
    | none => false

theorem mem_flashSet (k : ParSt) (e : PEntry) :
    e ∈ k.flashSet ↔ e ∈ k.store ∧ ∃ r k, findRow e.id = some (r, k) ∧ r.flash = true := by
  rw [ParSt.flashSet, List.mem_filter]
  refine and_congr_right fun _ => ?_
  split
  next r i row => simp [row]
  next row => simp [row]

theorem execSysSave_of_free {s : State} {m : Fin 16} {tm : Nat} (ready : s.callReady m 0x0100F001 0 = true)
    (free : s.par.saving = none) : execSysSave m tm s =
      .next ((((s.adv tm).modPar fun p => { p with saving := some (s.par.flashSet, some m.val) }).varItem 2 []).modMbx m
        fun b => { b with wait := .call 0x0100F001 }) := by
  have idle : (s.adv tm).par.saving.isSome = false := by
    rw [State.adv_par, free]
    rfl
  exact congrArg Host.Outcome.next (serveCall_ready tm _ _ ready idle)

/-- Settles O10: with nothing against it, each command does what its own conditions lead to. -/
theorem parameterCommandsAct : Obligations.ParameterCommandsAct := by
  unfold Obligations.ParameterCommandsAct
  refine ⟨?get, ?getOne, ?set, ?setMulti, ?refused, ?subscribeOne, ?echo, ?save, ?getMulti, ?getFull, ?pcie, ?qspi,
    ?net⟩
  case get => exact fun m tm ty bs s ready len value => execGet_of_value ready len value
  case getOne =>
    intro m tm ty bs s ready len num zero short value
    refine execGetMulti_of_all ready num (Nat.le_refl 1) (by decide) zero len ?_
    have entry : (s.adv tm).multiEntry m 0 =
        padded (leBytes 4 (fld s.mbx[m].payload 4 4) ++ leBytes 1 ty ++ leBytes 1 stOk ++ leBytes 2 bs.length ++ bs) := by
      simp only [State.multiEntry, State.adv_mbx, Nat.mul_zero, Nat.add_zero, value]
    have one : List.range 1 = [0] := rfl
    rw [one, List.map_singleton, entry]
    refine fitEntries_single ((length_padded_le _).trans ?_)
    simp only [List.length_append, leBytes, List.length_cons, List.length_nil]
    omega
  case set =>
    intro m tm i e vals s ready drives entry passed
    exact ⟨_, execSet_of_passed ready drives entry passed,
      State.markReady_waits (hidden_of_holds (holds_of_ready ready)) tm vals rfl⟩
  case setMulti =>
    intro m tm n i es vals s ready drives num low high zero entries passed
    refine ⟨_, execSetMulti_of_header ready num low high zero entries,
      State.markReady_waits (hidden_of_holds (holds_of_ready ready)) tm vals ?_⟩
    rw [State.setGroup_of_passed (s := s.adv tm) drives passed]
    rfl
  case refused =>
    intro m tm n i st es vals s ready drives num low high zero entries refused bad
    refine (execSetMulti_of_header ready num low high zero entries).trans ?_
    rw [State.setGroup_of_refused (s := s.adv tm) drives refused bad]
    rfl
  case subscribeOne =>
    intro m tm s ready len num zero flag own room
    have one : subEntries s.mbx[m].payload 1 = [(fld s.mbx[m].payload 4 2, fld s.mbx[m].payload 6 1, 1)] := by
      have entries : subEntries s.mbx[m].payload 1 =
        [(fld s.mbx[m].payload 4 2, fld s.mbx[m].payload 6 1, fld s.mbx[m].payload 7 1)] := rfl
      rw [entries, flag]
    have form : subscribeForm s.mbx[m].payload 1 := ⟨num, zero, len, by rw [one]; rfl⟩
    obtain ⟨l, held, new, old⟩ := subStep_hold room (fld s.mbx[m].payload 4 2) (fld s.mbx[m].payload 6 1)
    refine ⟨_, execSubscribe_pcie ready form own (l := l) ?_, State.gotAnswer_answer .., rfl, new, old, rfl, rfl⟩
    rw [one]
    exact held
  case echo => exact fun m tm s ready => congrArg Host.Outcome.next (serve_done ready rfl)
  case save =>
    intro m tm s ready free
    obtain ⟨w, copied⟩ := State.varItem_twin
      ((s.adv tm).modPar fun p => { p with saving := some (s.par.flashSet, some m.val) }) 2 []
    refine ⟨_, execSysSave_of_free ready free, ?_⟩
    rw [copied, State.modMbx_mbx, vector_set_self]
    exact ⟨rfl, rfl, rfl, rfl, s.par.flashSet, rfl, mem_flashSet s.par⟩
  case getMulti =>
    exact fun m tm n bs s ready num low high zero len fit => execGetMulti_of_all ready num low high zero len fit
  case getFull =>
    exact fun m tm n k bs s ready num low high zero len fit full =>
      execGetMulti_of_full ready num low high zero len fit full
  case pcie =>
    exact fun m tm n l s ready num zero len flags own held => execSubscribe_pcie ready ⟨num, zero, len, flags⟩ own held
  case qspi =>
    exact fun m tm n l s ready num zero len flags own held => execSubscribe_qspi ready ⟨num, zero, len, flags⟩ own held
  case net =>
    exact fun m tm n l x s ready num zero len flags own bound held =>
      execSubscribe_net ready ⟨num, zero, len, flags⟩ own bound held

end Sys2Proof.Machine

namespace Sys2Proof.Machine

/-! ## Files (R53). -/

section
variable {s : State} {m : Fin 16} {tm : Nat}

theorem fileIn_of_open (op : s.mbx[m].op = 0x30) :
    s.fileIn m = fileOf ((s.mbx[m].payload.drop 2).take (fld s.mbx[m].payload 1 1)) := if_pos op

theorem fileIn_of_handle (op : s.mbx[m].op ≠ 0x30) : s.fileIn m = (s.handleOf m (fld s.mbx[m].payload 0 2)).map (·.file) :=
  if_neg op

end

/-- A payload of FILE.OPEN with its name and no padding is in form. -/
theorem not_fileOpenFault {p : List Byte} (mode : fld p 0 1 ≤ 1) (short : fld p 1 1 ≤ 64)
    (len : p.length = 2 + fld p 1 1) : ¬(1 < fld p 0 1 ∨ 64 < fld p 1 1 ∨ p.length < 2 + fld p 1 1 ∨
      padTo4 (2 + fld p 1 1) < p.length - (2 + fld p 1 1) ∨ (p.drop (2 + fld p 1 1)).any (· != 0) = true) := by
  have rest : p.drop (2 + fld p 1 1) = [] := List.drop_eq_nil_of_le (by omega)
  rw [rest, List.any_nil]
  simp only [Bool.false_eq_true, or_false]
  omega

theorem take_name {p : List Byte} (len : p.length = 2 + fld p 1 1) : (p.drop 2).take (fld p 1 1) = p.drop 2 :=
  List.take_of_length_le (by rw [List.length_drop]; omega)

/-- The state with a new handle to `f`, owned by the holder of mailbox `m`. -/
def State.opened (s : State) (m : Fin 16) (f : FileName) (wr : Bool) (bs : List Byte) : State :=
  s.modPar fun k =>
    { k with nextHandle := k.nextHandle % 65536 + 1,
             files := k.files ++ [⟨k.nextHandle % 65536, s.mbx[m].owner, s.mbx[m].sid, f, wr, bs⟩] }

/-- The state once a write to `f` begins: the slot for the next firmware is empty then. -/
def State.cleaned (s : State) (f : FileName) : State :=
  if f = .secFwSlot then s.modSec fun k => { k with slots := k.slots.set k.other {}, closedOk := false } else s

theorem State.cleaned_sec (s : State) (f : FileName) : ∃ k, s.cleaned f = { s with sec := k } ∧
    (f = .secFwSlot → k.closedOk = false) := by
  unfold State.cleaned
  split
  next slot => exact ⟨_, rfl, fun _ => rfl⟩
  next other => exact ⟨s.sec, rfl, fun slot => absurd slot other⟩

section
variable {s : State} {m : Fin 16} {tm : Nat}

theorem execFileOpen_read (ready : s.ready m 0x30 anyPay 0 = true) (mode : fld s.mbx[m].payload 0 1 = 0)
    (short : fld s.mbx[m].payload 1 1 ≤ 64) (len : s.mbx[m].payload.length = 2 + fld s.mbx[m].payload 1 1) {f : FileName}
    (named : fileOf (s.mbx[m].payload.drop 2) = some f) {bs : List Byte} (holds : (s.adv tm).fileBytes f = some bs) :
    execFileOpen m tm s = .next (((s.adv tm).opened m f false bs).answer m stOk 0
      (leBytes 2 (s.par.nextHandle % 65536) ++ leBytes 2 0 ++ leBytes 4 bs.length)) := by
  have reads : ¬ fld s.mbx[m].payload 0 1 = 1 := by omega
  unfold execFileOpen
  extract_lets f' wr
  have right : (if wr then (f'.map FileName.right).getD 1 else 0) = 0 := if_neg reads
  rw [right]
  refine congrArg Host.Outcome.next (serve_done ready ?_)
  simp only [if_neg (not_fileOpenFault (by omega) short len), take_name len, named, if_pos mode, holds]
  rfl

theorem execFileOpen_write (mode : fld s.mbx[m].payload 0 1 = 1) {f : FileName} (named : s.fileIn m = some f)
    (ready : s.ready m 0x30 anyPay f.right = true) (short : fld s.mbx[m].payload 1 1 ≤ 64)
    (len : s.mbx[m].payload.length = 2 + fld s.mbx[m].payload 1 1) (writable : (s.adv tm).writable f = true) :
    execFileOpen m tm s = .next ((((s.adv tm).cleaned f).opened m f true []).answer m stOk 0
      (leBytes 2 (s.par.nextHandle % 65536) ++ leBytes 2 0 ++ leBytes 4 0)) := by
  have name : fileOf ((s.mbx[m].payload.drop 2).take (fld s.mbx[m].payload 1 1)) = some f :=
    (fileIn_of_open (op_of_holds (holds_of_ready ready))).symm.trans named
  have writes : ¬ fld s.mbx[m].payload 0 1 = 0 := by omega
  unfold execFileOpen
  extract_lets f' wr
  have right : (if wr then (f'.map FileName.right).getD 1 else 0) = f.right := by
    rw [if_pos mode, show f' = some f from named]
    rfl
  rw [right]
  refine congrArg Host.Outcome.next (serve_done ready ?_)
  simp only [if_neg (not_fileOpenFault (Nat.le_of_eq mode) short len), name, if_neg writes, writable, if_true]
  unfold State.opened State.cleaned
  split <;> rfl

theorem execFileWrite_of_end {h : FileHandle} (held : s.handleOf m (fld s.mbx[m].payload 0 2) = some h)
    (ready : s.ready m 0x31 anyPay h.file.right = true) (writes : h.writing = true) (len : 8 ≤ s.mbx[m].payload.length)
    (zero : fld s.mbx[m].payload 2 2 = 0) (place : fld s.mbx[m].payload 4 4 = h.data.length) :
    execFileWrite m tm s = .next (((s.adv tm).modPar fun k => { k with files := k.files.map fun x =>
      if x.handle = h.handle then { x with data := x.data ++ s.mbx[m].payload.drop 8 } else x }).answer m stOk 0 []) := by
  have op : s.mbx[m].op ≠ 0x30 := by
    rw [op_of_holds (holds_of_ready ready)]
    decide
  have held' : (s.adv tm).handleOf m (fld s.mbx[m].payload 0 2) = some h := held
  have right : ((s.fileIn m).map FileName.right).getD 1 = h.file.right := by
    rw [fileIn_of_handle op, held]
    rfl
  have form : ¬(s.mbx[m].payload.length < 8 ∨ fld s.mbx[m].payload 2 2 ≠ 0 ∨
      fld s.mbx[m].payload 4 4 ≠ h.data.length) := by omega
  unfold execFileWrite
  rw [right]
  refine congrArg Host.Outcome.next (serve_done ready ?_)
  simp only [held', if_neg form, writes, Bool.not_true, Bool.false_eq_true, if_false]

theorem execFileRead_of_open {h : FileHandle} (held : s.handleOf m (fld s.mbx[m].payload 0 2) = some h)
    (ready : s.ready m 0x32 anyPay 0 = true) (reads : h.writing = false) (len : s.mbx[m].payload.length = 8)
    (short : fld s.mbx[m].payload 2 2 ≤ 488) : execFileRead m tm s = .next ((s.adv tm).answer m stOk 0
      ((h.data.drop (fld s.mbx[m].payload 4 4)).take (fld s.mbx[m].payload 2 2))) := by
  have held' : (s.adv tm).handleOf m (fld s.mbx[m].payload 0 2) = some h := held
  have form : ¬(s.mbx[m].payload.length ≠ 8 ∨ 488 < fld s.mbx[m].payload 2 2) := by omega
  refine congrArg Host.Outcome.next (serve_done ready ?_)
  simp only [held', if_neg form, reads, Bool.false_eq_true, if_false]

/-- The state without the handle `h`. -/
def State.withoutHandle (s : State) (h : FileHandle) : State :=
  s.modPar fun k => { k with files := k.files.filter fun x => x.handle != h.handle }

theorem State.handle_ne_of_withoutHandle (s : State) (h : FileHandle) :
    ∀ x ∈ (s.withoutHandle h).par.files, x.handle ≠ h.handle := by
  intro x kept
  simp only [State.withoutHandle, State.modPar_par, List.mem_filter, bne_iff_ne] at kept
  exact kept.2

theorem execFileClose_read {h : FileHandle} (held : s.handleOf m (fld s.mbx[m].payload 0 2) = some h)
    (ready : s.ready m 0x33 anyPay 0 = true) (reads : h.writing = false) (len : s.mbx[m].payload.length = 4)
    (zero : fld s.mbx[m].payload 2 2 = 0) :
    execFileClose m tm s = .next (((s.adv tm).withoutHandle h).answer m stOk 0 []) := by
  have held' : (s.adv tm).handleOf m (fld s.mbx[m].payload 0 2) = some h := held
  have form : ¬(s.mbx[m].payload.length ≠ 4 ∨ fld s.mbx[m].payload 2 2 ≠ 0) := by omega
  refine congrArg Host.Outcome.next (serve_done ready ?_)
  simp only [held', if_neg form, reads, Bool.false_eq_true, if_false]
  rfl

theorem execFileClose_write {h : FileHandle} (held : s.handleOf m (fld s.mbx[m].payload 0 2) = some h)
    (ready : s.ready m 0x33 anyPay 0 = true) (writes : h.writing = true) (len : s.mbx[m].payload.length = 4)
    (zero : fld s.mbx[m].payload 2 2 = 0) {st : Nat} {u : State}
    (closed : ((s.adv tm).withoutHandle h).closeWrite h.file h.data = (st, u)) :
    execFileClose m tm s = .next (u.answer m st 0 []) := by
  have held' : (s.adv tm).handleOf m (fld s.mbx[m].payload 0 2) = some h := held
  have form : ¬(s.mbx[m].payload.length ≠ 4 ∨ fld s.mbx[m].payload 2 2 ≠ 0) := by omega
  rw [State.withoutHandle] at closed
  refine congrArg Host.Outcome.next ((serve_ready tm _ _ ready rfl).trans ?_)
  simp only [held', if_neg form, writes, if_true, closed]
  split
  next good => rw [State.settle, ← good]
  next => rfl

end

/-- Settles O11: the payload is in form and the handle is the holder's, so each command comes to its last branch. -/
theorem fileCommandsAct : Obligations.FileCommandsAct := by
  unfold Obligations.FileCommandsAct
  refine ⟨?openRead, ?write, ?read, ?closeRead, ?openWrite, ?closeWrite⟩
  case openRead =>
    intro m tm f bs s ready mode short len named holds
    exact ⟨_, execFileOpen_read ready mode short len named holds, State.gotAnswer_answer .., rfl, rfl, rfl⟩
  case write =>
    intro m tm h s held ready writes len zero place
    exact ⟨_, execFileWrite_of_end held ready writes len zero place, State.gotAnswer_answer .., rfl, rfl⟩
  case read => exact fun m tm h s held ready reads len short => execFileRead_of_open held ready reads len short
  case closeRead =>
    intro m tm h s held ready reads len zero
    exact ⟨_, execFileClose_read held ready reads len zero, State.gotAnswer_answer ..,
      State.handle_ne_of_withoutHandle _ h, rfl, rfl⟩
  case openWrite =>
    intro m tm f s mode named ready short len writable
    refine ⟨_, execFileOpen_write mode named ready short len writable, State.gotAnswer_answer .., ?_⟩
    obtain ⟨k, clean, slot⟩ := (s.adv tm).cleaned_sec f
    rw [clean]
    exact ⟨rfl, slot, rfl, rfl⟩
  case closeWrite =>
    exact fun m tm st h u s held ready writes len zero closed => execFileClose_write held ready writes len zero closed

end Sys2Proof.Machine

namespace Sys2Proof.Machine

/-! ## One link changes, and what a sending leaves alone (R69, R77). -/

theorem State.modLink_self (s : State) (l : Fin 32) (f : LinkSt → LinkSt) : (s.modLink l f).links[l] = f s.links[l] :=
  vector_set_self _ _ _

theorem State.modLink_of_ne (s : State) {l k : Fin 32} (f : LinkSt → LinkSt) (h : k ≠ l) :
    (s.modLink l f).links[k] = s.links[k] :=
  (vector_set_get _ _ _ _).trans (if_neg h.symm)

theorem State.modLink_congr {s : State} {l : Fin 32} {f g : LinkSt → LinkSt} (same : f s.links[l] = g s.links[l]) :
    s.modLink l f = s.modLink l g := by
  rw [State.modLink, State.modLink, same]

theorem State.txAt_of_idle {s : State} {l : Fin 32} (idle : s.links[l].txEnd ≤ s.nt) : s.txAt l = s.nt :=
  Nat.max_eq_left idle

@[simp] theorem State.linkSend_axes (s : State) (l : Fin 32) (syms : List Sym) : (s.linkSend l syms).axes = s.axes :=
  rfl

@[simp] theorem State.linkSend_flt (s : State) (l : Fin 32) (syms : List Sym) : (s.linkSend l syms).flt = s.flt := rfl

theorem State.linkSend_out (s : State) (l : Fin 32) (syms : List Sym) :
    (s.linkSend l syms).out = s.out ++ [.link l.val ((s.txAt l - s.links[l].txEnd + 12) / 25) syms] := rfl

theorem State.linkSend_tx (s : State) (l : Fin 32) (syms : List Sym) :
    (s.linkSend l syms).links[l].tx = syms := by
  rw [State.linkSend, State.emit_links, State.modLink_self]

theorem State.linkSend_txFrom (s : State) (l : Fin 32) (syms : List Sym) :
    (s.linkSend l syms).links[l].txFrom = s.txAt l := by
  rw [State.linkSend, State.emit_links, State.modLink_self]

theorem State.linkSend_slotCfg (s : State) (l : Fin 32) (syms : List Sym) :
    (s.linkSend l syms).links[l].slotCfg = s.links[l].slotCfg := by
  rw [State.linkSend, State.emit_links, State.modLink_self]

/-! ## Device time in a SYNC (R71, R73). -/

/-- A parameter in force depends on a link only through its stage's DT_MIN, an input of derivations (R57). -/
theorem State.pget_modLink {s : State} {l : Fin 32} {f : LinkSt → LinkSt}
    (kept : (f s.links[l]).dtMinIn = s.links[l].dtMinIn) (id : Nat) : (s.modLink l f).pget id = s.pget id := by
  have stage (a : Nat) : (s.modLink l f).stageDtMinIn a = s.stageDtMinIn a := by
    unfold State.stageDtMinIn
    by_cases h : linkOf (axisNo a) = l
    · subst h
      rw [State.modLink_self, kept]
    · rw [State.modLink_of_ne s f h]
  have derived (cls a idx dflt : Nat) : (s.modLink l f).derive cls a idx dflt = s.derive cls a idx dflt := by
    simp only [State.derive, stage]
    rfl
  simp only [State.pget, State.fltCoef, State.fltDerived, State.fltVal, derived]
  rfl

theorem State.linkDelay_modLink {s : State} {l : Fin 32} {f : LinkSt → LinkSt}
    (stage : (f s.links[l]).dtMinIn = s.links[l].dtMinIn) (trips : (f s.links[l]).rts = s.links[l].rts) :
    (s.modLink l f).linkDelay l = s.linkDelay l := by
  unfold State.linkDelay State.pI
  rw [State.modLink_self, trips, State.pget_modLink stage]

theorem roundEven_natCast (n : Nat) : roundEven (n : Rat) = n := by
  have floor : (n : Rat).floor = n := mod_cast Rat.floor_intCast n
  simp [roundEven, floor]

theorem length_leBytes : ∀ n x : Nat, (leBytes n x).length = n
  | 0, _ => rfl
  | n + 1, x => congrArg (· + 1) (length_leBytes n (x / 256))

theorem State.length_syncBytes (s : State) (l : Fin 32) (t : Nat) : (s.syncBytes l t).length = 14 := by
  simp only [State.syncBytes, List.length_append, length_leBytes]

/-- A whole arrival time leaves the byte of its fraction 0 (R71). -/
theorem State.take_syncBytes_of_whole {s : State} {l : Fin 32} {t n : Nat}
    (whole : (t : Rat) + s.linkDelay l / 1000 = n) :
    (s.syncBytes l t).take 9 = leBytes 8 n ++ leBytes 1 0 := by
  have scaled : roundEven (((t : Rat) + s.linkDelay l / 1000) * 256) = ((n * 256 : Nat) : Int) := by
    rw [whole, ← roundEven_natCast (n * 256)]
    push_cast
    rfl
  have time : n * 256 / 256 = n := Nat.mul_div_cancel n (by decide)
  have fraction : n * 256 % 256 = 0 := Nat.mul_mod_left n 256
  rw [State.syncBytes, scaled, Int.toNat_natCast]
  simp only [time, fraction, List.append_assoc]
  rw [← List.append_assoc, List.take_left' (by simp only [List.length_append, length_leBytes])]

section
variable {l : Fin 32} {tm : Nat} {s : State}

theorem execSyncSend_at_instant {u : State} (on : s.linkTx l = true) (due : s.frame.tick + 1000 ≤ max s.nt tm)
    (early : max s.nt tm < s.frame.tick + 1025) (fresh : s.links[l].syncTick ≠ some s.frame.tick)
    (hu : u = (s.adv tm).modLink l fun x => { x with syncTick := some s.frame.tick }) :
    execSyncSend l tm s = .next (u.linkSend l (.k symSync :: (u.syncBytes l (u.txAt l)).map .d)) := by
  have sending : ((s.adv tm).linkTx l && (s.adv tm).atSymbol (us 1) &&
      (s.adv tm).links[l].syncTick != some (s.adv tm).frame.tick) = true := by
    have on' : (s.adv tm).linkTx l = true := on
    have symbol : (s.adv tm).atSymbol (us 1) = true := decide_eq_true ⟨due, early⟩
    rw [on', symbol, State.adv_links, State.adv_frame, bne_iff_ne.mpr fresh]
    rfl
  subst hu
  exact if_pos sending

theorem execDreqSend_at_instant (on : s.linkTx l = true) (due : s.frame.tick + 2000 ≤ max s.nt tm)
    (early : max s.nt tm < s.frame.tick + 2025) (fresh : s.links[l].dreqTick ≠ some s.frame.tick)
    (idle : s.links[l].txEnd ≤ max s.nt tm) :
    execDreqSend l tm s = .next (((s.adv tm).modLink l fun x =>
      { x with t1 := some (max s.nt tm), dreqTick := some s.frame.tick }).linkSend l [.k symDreq]) := by
  have sending : ((s.adv tm).linkTx l && (s.adv tm).atSymbol (us 2) &&
      (s.adv tm).links[l].dreqTick != some (s.adv tm).frame.tick) = true := by
    have on' : (s.adv tm).linkTx l = true := on
    have symbol : (s.adv tm).atSymbol (us 2) = true := decide_eq_true ⟨due, early⟩
    rw [on', symbol, State.adv_links, State.adv_frame, bne_iff_ne.mpr fresh]
    rfl
  have now : (s.adv tm).txAt l = max s.nt tm := State.txAt_of_idle (s := s.adv tm) idle
  refine (if_pos sending).trans ?_
  rw [now]
  rfl

theorem execDrspReceive_answered {turn t1 : Nat} (sent : s.links[l].t1 = some t1) (on : s.linkOn l = true)
    (turned : turn ≠ 0) : execDrspReceive l turn tm s =
      .next ((s.adv tm).modLink l fun x => x.roundTrip t1 (max s.nt tm) turn) := by
  have on' : (s.adv tm).linkOn l = true := on
  simp only [execDrspReceive, State.adv_links, sent, on', bne_iff_ne.mpr turned, State.adv_nt, Bool.and_self, if_true]

theorem execUpstreamPacket_bad {viol : Bool} {syms : Nat} {bytes : List Byte} (on : s.linkOn l = true)
    (bad : viol = true ∨ linkCrc (bytes.take (bytes.length - 2)) ≠ fld bytes (bytes.length - 2) 2) :
    execUpstreamPacket l viol syms bytes tm s = .next ((s.adv tm).modLink l (·.badPacket (max s.nt tm))) := by
  have on' : (s.adv tm).linkOn l = true := on
  have discarded : (viol || decide (bytes.length < 3) ||
      linkCrc (bytes.take (bytes.length - 2)) != fld bytes (bytes.length - 2) 2) = true := by
    rcases bad with viol | crc
    · rw [viol, Bool.true_or, Bool.true_or]
    · rw [bne_iff_ne.mpr crc, Bool.or_true]
  simp only [execUpstreamPacket, on', discarded, State.adv_nt, Bool.not_true, Bool.false_eq_true, if_false, if_true]

theorem execUpstreamPacket_good {syms : Nat} {bytes : List Byte} (on : s.linkOn l = true) (long : 3 ≤ bytes.length)
    (crc : linkCrc (bytes.take (bytes.length - 2)) = fld bytes (bytes.length - 2) 2) :
    execUpstreamPacket l false syms bytes tm s =
      .next (State.each ((s.adv tm).modLink l fun x => x.countSyms ((s.adv tm).periodTick (fld bytes 0 1 / 64)) syms)
        (parsePieces bytes.length ((bytes.take (bytes.length - 2)).drop 1))
        fun t p => t.takePiece l ((s.adv tm).periodTick (fld bytes 0 1 / 64)) p) := by
  have on' : (s.adv tm).linkOn l = true := on
  have taken : (false || decide (bytes.length < 3) ||
      linkCrc (bytes.take (bytes.length - 2)) != fld bytes (bytes.length - 2) 2) = false := by
    rw [Bool.false_or, decide_eq_false (Nat.not_lt.mpr long), crc, bne_self_eq_false, Bool.false_or]
  simp only [execUpstreamPacket, on', taken, Bool.not_true, Bool.false_eq_true, if_false]

end

/-! The round trip of a link (R75). -/

theorem LinkSt.roundTrip_of_taken {x : LinkSt} {t1 t4 turn : Nat} {rt : Int}
    (trip : rt = 4 * ((t4 : Int) - (t1 : Int)) - (turn : Int))
    (near : x.rts = [] ∨ rabs ((rt : Rat) - meanInt x.rts) ≤ 16) :
    x.roundTrip t1 t4 turn = { x with rts := pushN 16 rt x.rts, discards := 0, t1 := none } := by
  subst trip
  refine if_pos ?_
  rcases near with first | near
  · rw [first, List.isEmpty_nil, Bool.true_or]
  · rw [decide_eq_true near, Bool.or_true]

theorem LinkSt.roundTrip_of_far {x : LinkSt} {t1 t4 turn : Nat} {rt : Int}
    (trip : rt = 4 * ((t4 : Int) - (t1 : Int)) - (turn : Int)) (later : x.rts ≠ [])
    (far : 16 < rabs ((rt : Rat) - meanInt x.rts)) :
    x.roundTrip t1 t4 turn = { x with discards := x.discards + 1, t1 := none } := by
  subst trip
  refine if_neg ?_
  rw [List.isEmpty_eq_false_iff.mpr later, decide_eq_false (not_le.mpr far)]
  exact Bool.false_ne_true

/-- Settles O28: SYNC and DREQ leave in their one symbol slot of the frame, a whole arrival time is carried as it is, and
a round trip is kept when it is the first or near the mean. -/
theorem linkTimeAndPackets : Obligations.LinkTimeAndPackets := by
  unfold Obligations.LinkTimeAndPackets
  refine ⟨?sync, ?dreq, ?send, ?firstTrip, ?farTrip, ?bad, ?good, ?nearTrip⟩
  case sync =>
    intro l tm s on due early fresh idle
    refine ⟨_, execSyncSend_at_instant on due early fresh rfl, State.length_syncBytes _ _ _, fun n whole _ => ?_⟩
    apply State.take_syncBytes_of_whole
    rw [State.txAt_of_idle (by rw [State.modLink_self]; exact idle)]
    exact (congrArg (fun d : Rat => ((max s.nt tm : Nat) : Rat) + d / 1000)
      (State.linkDelay_modLink (s := s.adv tm) rfl rfl)).trans whole
  case dreq => exact fun _ _ _ => execDreqSend_at_instant
  case send =>
    intro l syms s idle
    rw [State.linkSend_tx, State.linkSend_txFrom, State.linkSend_out, State.txAt_of_idle idle]
    exact ⟨rfl, rfl, rfl⟩
  case firstTrip =>
    intro l turn t1 tm s sent on turned first
    have one : ∀ rt : Int, pushN 16 rt s.links[l].rts = [rt] := fun rt => by rw [first]; rfl
    rw [← one]
    exact (execDrspReceive_answered sent on turned).trans
      (congrArg _ (State.modLink_congr (LinkSt.roundTrip_of_taken rfl (.inl first))))
  case farTrip =>
    intro l turn t1 tm s sent on turned later far
    exact (execDrspReceive_answered sent on turned).trans
      (congrArg _ (State.modLink_congr (LinkSt.roundTrip_of_far rfl later far)))
  case bad => exact fun _ _ _ _ _ _ => execUpstreamPacket_bad
  case good => exact fun _ _ _ _ _ => execUpstreamPacket_good
  case nearTrip =>
    intro l turn t1 tm s sent on turned near
    exact (execDrspReceive_answered sent on turned).trans
      (congrArg _ (State.modLink_congr (LinkSt.roundTrip_of_taken rfl (.inr near))))

end Sys2Proof.Machine

namespace Sys2Proof.Machine

/-! ## A link goes UP and is lost (R99, R100). -/

@[simp] theorem State.event_links (s : State) (code inst data : Nat) : (s.event code inst data).links = s.links := by
  obtain ⟨_, _, _, _, e⟩ := s.event_changes code inst data
  rw [e]

theorem State.linkIsUp_iff (s : State) (l : Fin 32) :
    s.linkIsUp l = true ↔ s.linkOn l = true ∧ s.links[l].state = .up := by
  rw [State.linkIsUp, Bool.and_eq_true, beq_iff_eq]

@[simp] theorem State.leavesUp_links (s : State) (l : Fin 32) : (s.leavesUp l).links = s.links := by
  unfold State.leavesUp State.linkEvent
  split
  · exact State.event_links _ _ _ _
  · rfl

@[simp] theorem State.leavesUp_flt (s : State) (l : Fin 32) : (s.leavesUp l).flt = s.flt := by
  unfold State.leavesUp State.linkEvent
  split
  · exact State.event_flt _ _ _ _
  · rfl

@[simp] theorem State.leavesUp_axes (s : State) (l : Fin 32) : (s.leavesUp l).axes = s.axes := by
  unfold State.leavesUp State.linkEvent
  split
  · exact State.event_axes _ _ _ _
  · rfl

@[simp] theorem State.retrainLink_flt (s : State) (l : Fin 32) : (s.retrainLink l).flt = s.flt := State.leavesUp_flt s l

@[simp] theorem State.retrainLink_axes (s : State) (l : Fin 32) : (s.retrainLink l).axes = s.axes :=
  State.leavesUp_axes s l

theorem State.retrainLink_self (s : State) (l : Fin 32) :
    (s.retrainLink l).links[l] = { s.links[l] with
      state := .retrain, capNew := false, rts := [], t1 := none, stat := none, dtAcked := false } := by
  rw [State.retrainLink, State.modLink_self, State.leavesUp_links]

theorem State.retrainLink_of_ne (s : State) {l k : Fin 32} (h : k ≠ l) :
    (s.retrainLink l).links[k] = s.links[k] := by
  rw [State.retrainLink, State.modLink_of_ne _ _ h, State.leavesUp_links]

section
variable {l : Fin 32} {tm : Nat} {s : State}

theorem execLinkUp_of_ready (ready : s.linkReady l = true) :
    execLinkUp l tm s = .next ((s.adv tm).linkGoUp l) := by
  have ready' : (s.adv tm).linkReady l = true := ready
  simp only [execLinkUp, ready', if_true]

theorem execLinkUp_of_unready (unready : s.linkReady l = false) : execLinkUp l tm s = .next (s.adv tm) := by
  have unready' : (s.adv tm).linkReady l = false := unready
  simp only [execLinkUp, unready', Bool.false_eq_true, if_false]

theorem execLinkLost_stays (up : s.linkIsUp l = true) (stays : s.resignsFor l = false) :
    execLinkLost l tm s = .next (((s.adv tm).retrainLink l).raise 0x2001 l.val (linkAxes l)) := by
  have up' : (s.adv tm).linkIsUp l = true := up
  have stays' : (s.adv tm).resignsFor l = false := stays
  simp only [execLinkLost, up', if_true, State.loseLink, stays', Bool.false_eq_true, if_false]

theorem execLinkLost_resigns (up : s.linkIsUp l = true) (resigns : s.resignsFor l = true) :
    execLinkLost l tm s = .next ((((s.adv tm).retrainLink l).modTwin fun k => { k with resign := true }).raiseAt
      0x2001 l.val (linkAxes l) 0 1 true) := by
  have up' : (s.adv tm).linkIsUp l = true := up
  have resigns' : (s.adv tm).resignsFor l = true := resigns
  simp only [execLinkLost, up', if_true, State.loseLink, resigns']

/-! ## Counts of a link that raise a fault (R75, R106, R544). -/

theorem execTimeUnstable_of_cause (on : s.linkOn l = true)
    (cause : 8 ≤ s.links[l].discards ∨
      s.links[l].state = .up ∧ ∃ r : StatRec, s.links[l].stat = some r ∧ r.timeLock = false) :
    execTimeUnstable l tm s = .next ((s.adv tm).raise 0x2004 l.val (linkAxes l)) := by
  have unstable : ((s.adv tm).linkOn l && (decide (8 ≤ s.links[l].discards) ||
      (s.links[l].state == .up && s.links[l].stat.any fun r => !r.timeLock))) = true := by
    have on' : (s.adv tm).linkOn l = true := on
    rcases cause with many | ⟨up, r, stat, unlocked⟩
    · rw [on', decide_eq_true many]
      rfl
    · rw [on', up, stat, Option.any_some, unlocked, Bool.or_comm]
      rfl
  exact congrArg _ (if_pos unstable)

theorem execLinkErrors_of_many (many : 16 < (within (secs 1) (max s.nt tm) s.links[l].crcAt).length) :
    execLinkErrors l tm s = .next ((s.adv tm).raise 0x2002 l.val (linkAxes l)) := congrArg _ (if_pos many)

theorem execLateRecords_of_many (many : 10 < (within (secs 1) (max s.nt tm) s.links[l].lateAt).length) :
    execLateRecords l tm s = .next ((s.adv tm).raise 0x2006 l.val (linkAxes l)) := congrArg _ (if_pos many)

theorem execUpOverbudget_of_run (run : 100 ≤ s.links[l].dropRun) :
    execUpOverbudget l tm s = .next ((s.adv tm).raise 0x2005 l.val (linkAxes l)) := congrArg _ (if_pos run)

/-! ## SLOT_CFG and DEADTIME without their answer (R118, R119, R544). -/

/-- The slot's configuration was refused, or its third sending stays unanswered for 3 frames (R544). -/
def SlotCfgSt.Failed (c : SlotCfgSt) (tick tf : Nat) : Prop :=
  c.refused = true ∨ c.ok = false ∧ c.due = false ∧ 3 ≤ c.sent ∧ c.sentTick + 3 * tf ≤ tick

theorem slotCfgUnanswered_raises {k : Fin 4} (up : s.linkIsUp l = true) (fresh : s.links[l].slotCfg[k].raised = false)
    (failed : s.links[l].slotCfg[k].Failed s.frame.tick s.tf) :
    ∃ u : State, execSlotCfgUnanswered l k tm s = .next (u.raise 0x2003 l.val (linkAxes l)) ∧
      u.links[l].slotCfg[k].raised = true ∧ u.flt = s.flt ∧ u.axes = s.axes := by
  have due : ((s.adv tm).linkIsUp l && !s.links[l].slotCfg[k].raised && (s.links[l].slotCfg[k].refused ||
      (!s.links[l].slotCfg[k].ok && !s.links[l].slotCfg[k].due && decide (3 ≤ s.links[l].slotCfg[k].sent) &&
        decide (s.links[l].slotCfg[k].sentTick + 3 * (s.adv tm).tf ≤ s.frame.tick)))) = true := by
    have up' : (s.adv tm).linkIsUp l = true := up
    rcases failed with refused | ⟨unanswered, idle, thrice, lasted⟩
    · rw [up', fresh, refused]
      rfl
    · have lasted' : s.links[l].slotCfg[k].sentTick + 3 * (s.adv tm).tf ≤ s.frame.tick := lasted
      rw [up', fresh, unanswered, idle, decide_eq_true thrice, decide_eq_true lasted', Bool.or_comm]
      rfl
  refine ⟨_, if_pos due, ?_, rfl, rfl⟩
  rw [State.modLink_self]
  exact congrArg SlotCfgSt.raised (vector_set_self _ _ _)

/-- A DEADTIME whose frame is past and that has no answer (R119). -/
theorem execDeadtimeUnacked_beyond {msg : DtMsg} {u : State} (sent : s.links[l].dtMsg = some msg)
    (up : s.linkIsUp l = true) (present : s.frameAhead msg.fc = false)
    (past : msg.fc ≠ s.frame.fc ∨ s.frame.tick + 1500 < max s.nt tm) (open_ : msg.answered = false)
    (idle : msg.due = false) (hu : u = (s.adv tm).modLink l fun x =>
      { x with dtMsg := some { msg with stale := true, due := true }, dtUnanswered := s.links[l].dtUnanswered + 1 }) :
    execDeadtimeUnacked l tm s =
      .next (if 2 ≤ s.links[l].dtUnanswered + 1 then u.raise 0x1021 l.val (linkAxes l) else u) := by
  have up' : (s.adv tm).linkIsUp l = true := up
  have present' : (s.adv tm).frameAhead msg.fc = false := present
  simp only [execDeadtimeUnacked, State.adv_links, sent, up', present', State.adv_frame, State.adv_nt, past,
    open_, idle, hu, decide_true, Bool.not_false, Bool.and_self, if_true]

end

/-! ## Dead times (R118, R119). -/

theorem State.modAxis_self (s : State) (a : Fin 128) (f : Axis → Axis) : (s.modAxis a f).axes[a] = f s.axes[a] :=
  vector_set_self _ _ _

theorem State.modAxis_of_ne (s : State) {a b : Fin 128} (f : Axis → Axis) (h : b ≠ a) :
    (s.modAxis a f).axes[b] = s.axes[b] :=
  (vector_set_get _ _ _ _).trans (if_neg h.symm)

theorem dtAdapt_adapts {a : Fin 128} {tm : Nat} {s : State} (up : s.linkIsUp (linkOf a) = true)
    (auto : s.pN (Pid.axPwmDtMode a.val) = 0) (due : s.axes[a].pwm.adaptTick + 16 * s.tf ≤ s.frame.tick) :
    ∃ t, execDtAdapt a tm s = .next t ∧ t.axes[a].pwm.adaptTick = s.frame.tick ∧ t.flt = s.flt ∧
      (∀ b : Fin 128, b ≠ a → t.axes[b] = s.axes[b]) ∧ t.axes[a].pwm.hb = s.axes[a].pwm.hb.map fun h =>
        h.adapt (s.pN (Pid.axPwmDtMargin a.val)) (s.pN (Pid.axPwmDtMax a.val)) (s.dtBound a.val) := by
  have adapting : ((s.adv tm).linkIsUp (linkOf a) && decide ((s.adv tm).pN (Pid.axPwmDtMode a.val) = 0) &&
      decide (s.axes[a].pwm.adaptTick + 16 * (s.adv tm).tf ≤ s.frame.tick)) = true := by
    have up' : (s.adv tm).linkIsUp (linkOf a) = true := up
    have auto' : (s.adv tm).pN (Pid.axPwmDtMode a.val) = 0 := auto
    have due' : s.axes[a].pwm.adaptTick + 16 * (s.adv tm).tf ≤ s.frame.tick := due
    rw [up', decide_eq_true auto', decide_eq_true due']
    rfl
  refine ⟨_, if_pos adapting, ?_, rfl, fun b other => State.modAxis_of_ne (s.adv tm) _ other, ?_⟩
  · rw [State.modAxis_self]
    rfl
  · rw [State.modAxis_self]
    rfl

theorem execDtLimit_of_run {a : Fin 128} {tm : Nat} {s : State}
    (run : (s.axes[a].pwm.hb.toList.any fun h => decide (16 ≤ h.overRun)) = true) :
    execDtLimit a tm s = .next ((s.adv tm).raise 0x1020 a.val [a]) := congrArg _ (if_pos run)

/-- Settles O29: a lost link leaves everything but itself, the host's queues and the twin's resignation as it was, and
each of the other causes is the one condition of its command. -/
theorem linkStateAndFaults : Obligations.LinkStateAndFaults := by
  unfold Obligations.LinkStateAndFaults
  refine ⟨?up, ?notReady, ?lost, ?resigned, ?discards, ?unlocked, ?errors, ?late, ?overbudget, ?refused, ?firstMiss,
    ?secondMiss, ?adapt, ?limit, ?unanswered⟩
  case up => exact fun _ _ _ => execLinkUp_of_ready
  case notReady => exact fun _ _ _ => execLinkUp_of_unready
  case lost =>
    intro l tm s up stays
    refine ⟨_, execLinkLost_stays up stays, ?_⟩
    rw [State.retrainLink_self, State.retrainLink_flt, State.retrainLink_axes]
    exact ⟨rfl, rfl, rfl, rfl, rfl, rfl, fun k other => State.retrainLink_of_ne _ other⟩
  case resigned =>
    intro l tm s up resigns
    refine ⟨_, execLinkLost_resigns up resigns, rfl, ?_⟩
    rw [State.modTwin_links, State.retrainLink_self, State.modTwin_flt, State.retrainLink_flt, State.modTwin_axes,
      State.retrainLink_axes]
    exact ⟨rfl, rfl, rfl⟩
  case discards => exact fun _ _ _ on many => execTimeUnstable_of_cause on (.inl many)
  case unlocked => exact fun _ _ r _ on up stat open_ => execTimeUnstable_of_cause on (.inr ⟨up, r, stat, open_⟩)
  case errors => exact fun _ _ _ => execLinkErrors_of_many
  case late => exact fun _ _ _ => execLateRecords_of_many
  case overbudget => exact fun _ _ _ => execUpOverbudget_of_run
  case refused => exact fun _ _ _ _ up fresh refused => slotCfgUnanswered_raises up fresh (.inl refused)
  case firstMiss =>
    intro l tm msg s sent up present past open_ idle none
    have missed := execDeadtimeUnacked_beyond sent up present past open_ idle rfl
    rw [none] at missed
    exact missed
  case secondMiss =>
    intro l tm msg s sent up present past open_ idle one
    have missed := execDeadtimeUnacked_beyond sent up present past open_ idle rfl
    rw [one] at missed
    exact missed
  case adapt => exact fun _ _ _ => dtAdapt_adapts
  case limit => exact fun _ _ _ => execDtLimit_of_run
  case unanswered =>
    exact fun _ _ _ _ up fresh open_ idle thrice lasted =>
      slotCfgUnanswered_raises up fresh (.inr ⟨open_, idle, thrice, lasted⟩)

end Sys2Proof.Machine

namespace Sys2Proof.Machine

/-! ## The service window of a link (R77, R83, R388, R544). -/

theorem execServiceFrameSend_outside {l : Fin 32} {tm : Nat} {s : State}
    (outside : (s.adv tm).txAt l < s.frame.tick + 13500 ∨ s.frame.tick + s.tf - 3000 < (s.adv tm).txAt l) :
    execServiceFrameSend l tm s = .next (s.adv tm) := by
  have window : decide ((s.adv tm).frame.tick + 13500 ≤ (s.adv tm).txAt l ∧
      (s.adv tm).txAt l ≤ (s.adv tm).frame.tick + (s.adv tm).tf - 3000) = false := by
    have outside' : (s.adv tm).txAt l < (s.adv tm).frame.tick + 13500 ∨
      (s.adv tm).frame.tick + (s.adv tm).tf - 3000 < (s.adv tm).txAt l := outside
    refine decide_eq_false fun inside => ?_
    omega
  simp only [execServiceFrameSend, window, Bool.and_false, Bool.not_false, if_true]

theorem execServiceFrameSend_known {l : Fin 32} {tm : Nat} {s : State} (down : s.links[l].state ≠ .up)
    (known : s.links[l].capNew = true) : execServiceFrameSend l tm s = .next (s.adv tm) := by
  simp only [execServiceFrameSend, State.adv_links, bne_iff_ne.mpr down, known, if_true, ite_self]

section
variable {l : Fin 32} {tm : Nat} {s : State} (on : s.linkTx l = true)
  (opened : s.frame.tick + 13500 ≤ (s.adv tm).txAt l) (lasts : (s.adv tm).txAt l ≤ s.frame.tick + s.tf - 3000)
include on opened lasts

theorem serviceWindow_open : (!((s.adv tm).linkTx l && decide ((s.adv tm).frame.tick + 13500 ≤ (s.adv tm).txAt l ∧
    (s.adv tm).txAt l ≤ (s.adv tm).frame.tick + (s.adv tm).tf - 3000))) = false := by
  have on' : (s.adv tm).linkTx l = true := on
  have opened' : (s.adv tm).frame.tick + 13500 ≤ (s.adv tm).txAt l := opened
  have lasts' : (s.adv tm).txAt l ≤ (s.adv tm).frame.tick + (s.adv tm).tf - 3000 := lasts
  rw [on', decide_eq_true ⟨opened', lasts'⟩]
  rfl

theorem execServiceFrameSend_unknown (down : s.links[l].state ≠ .up) (unknown : s.links[l].capNew = false) :
    execServiceFrameSend l tm s = .next ((s.adv tm).sendService l 0x01 []) := by
  simp only [execServiceFrameSend, serviceWindow_open on opened lasts, State.adv_links,
    bne_iff_ne.mpr down, unknown, Bool.false_eq_true, if_false, if_true]

section
variable (up : s.links[l].state = .up) (drives : s.drives = true)
include up drives

theorem execServiceFrameSend_slotCfg {k : Nat}
    (wanted : ((List.range 4).find? fun k =>
      (s.links[l].slotCfg[fin 4 (by decide) k]).wants s.frame.tick s.tf) = some k) :
    execServiceFrameSend l tm s = .next ((s.adv tm).sendSlotCfg l (fin 4 (by decide) k)) := by
  have drives' : (s.adv tm).drives = true := drives
  have wanted' : ((List.range 4).find? fun k =>
      (s.links[l].slotCfg[fin 4 (by decide) k]).wants (s.adv tm).frame.tick (s.adv tm).tf) = some k := wanted
  simp only [execServiceFrameSend, serviceWindow_open on opened lasts, State.adv_links, up, drives',
    wanted', bne_self_eq_false, Bool.not_true, Bool.false_eq_true, if_false]

section
variable (unwanted : ((List.range 4).find? fun k =>
  (s.links[l].slotCfg[fin 4 (by decide) k]).wants s.frame.tick s.tf) = none)
include unwanted

/-- With no SLOT_CFG to send, a DEADTIME that is due goes, and else the DOZE of a link whose axes are all OFF. -/
theorem execServiceFrameSend_rest : execServiceFrameSend l tm s =
    if (s.adv tm).dtDue l then .next ((s.adv tm).sendDeadtime l)
    else if s.links[l].dozeSent && !s.links[l].dozeAns && (linkAxes l).all fun a => s.axes[a].state == .off then
      .next ((s.adv tm).sendService l 0x04 (leBytes 1 s.links[l].beaconMs))
    else .next (s.adv tm) := by
  have drives' : (s.adv tm).drives = true := drives
  have unwanted' : ((List.range 4).find? fun k =>
      (s.links[l].slotCfg[fin 4 (by decide) k]).wants (s.adv tm).frame.tick (s.adv tm).tf) = none := unwanted
  simp only [execServiceFrameSend, serviceWindow_open on opened lasts, State.adv_links, up, drives', unwanted',
    bne_self_eq_false, Bool.not_true, Bool.false_eq_true, if_false]
  rfl

theorem execServiceFrameSend_deadtime (due : (s.adv tm).dtDue l = true) :
    execServiceFrameSend l tm s = .next ((s.adv tm).sendDeadtime l) :=
  (execServiceFrameSend_rest on opened lasts up drives unwanted).trans (if_pos due)

theorem execServiceFrameSend_doze (idle : (s.adv tm).dtDue l = false) (sent : s.links[l].dozeSent = true)
    (open_ : s.links[l].dozeAns = false) (off : ((linkAxes l).all fun a => s.axes[a].state == .off) = true) :
    execServiceFrameSend l tm s = .next ((s.adv tm).sendService l 0x04 (leBytes 1 s.links[l].beaconMs)) := by
  rw [execServiceFrameSend_rest on opened lasts up drives unwanted, idle, sent, open_, off]
  rfl

end
end
end

/-- What sending a slot's configuration changes in the link and leaves in the machine. -/
theorem State.sendSlotCfg_changes (s : State) (l : Fin 32) (k : Fin 4) :
    (s.sendSlotCfg l k).links[l].slotCfg[k] = { s.links[l].slotCfg[k] with
      content := s.slotCfgBytes l k, sent := s.links[l].slotCfg[k].sent + 1, sentTick := s.frame.tick, due := false } ∧
    (s.sendSlotCfg l k).axes = s.axes ∧ (s.sendSlotCfg l k).flt = s.flt := by
  refine ⟨?_, rfl, rfl⟩
  rw [State.sendSlotCfg, State.sendService, State.linkSend_slotCfg, State.modLink_self]
  exact vector_set_self _ _ _

/-- Settles O30: outside the window and on a trained link of known capabilities nothing goes; else the first of
SLOT_CFG, DEADTIME and DOZE that is due. -/
theorem serviceFramesOfALink : Obligations.ServiceFramesOfALink := by
  unfold Obligations.ServiceFramesOfALink
  refine ⟨?unknown, ?firstSlot, ?outside, ?slotCfg, ?deadtime, ?doze, ?known⟩
  case unknown => exact fun _ _ _ => execServiceFrameSend_unknown
  case firstSlot =>
    intro l tm s on opened lasts up drives due
    have first : ((List.range 4).find? fun k =>
        (s.links[l].slotCfg[fin 4 (by decide) k]).wants s.frame.tick s.tf) = some 0 := by
      have wants : (s.links[l].slotCfg[(0 : Fin 4)]).wants s.frame.tick s.tf = true := by
        have due' : (s.links[l].slotCfg[(0 : Fin 4)]).due = true := due
        rw [SlotCfgSt.wants, due', Bool.true_or]
      exact List.find?_cons_of_pos wants
    obtain ⟨cfg, axes, flt⟩ := (s.adv tm).sendSlotCfg_changes l 0
    refine ⟨_, execServiceFrameSend_slotCfg on opened lasts up drives first, ?_⟩
    exact ⟨congrArg SlotCfgSt.due cfg, congrArg SlotCfgSt.sent cfg, congrArg SlotCfgSt.content cfg, axes, flt⟩
  case outside => exact fun _ _ _ => execServiceFrameSend_outside
  case slotCfg =>
    exact fun _ _ _ _ on opened lasts up drives => execServiceFrameSend_slotCfg on opened lasts up drives
  case deadtime => exact fun _ _ _ => execServiceFrameSend_deadtime
  case doze => exact fun _ _ _ => execServiceFrameSend_doze
  case known => exact fun _ _ _ _ down known => execServiceFrameSend_known down known

end Sys2Proof.Machine

namespace Sys2Proof.Machine

/-! ## Blanking windows do not depend on the pins (R126). -/

/-- The state at another time, with other trip pins and another power state. -/
def State.withPins (s : State) (nt : Nat) (pins : Vector PinSt 8) (pwr : PwrSt) : State :=
  { s with nt := nt, pins := pins, pwr := pwr }

section
variable (s : State) (nt : Nat) (pins : Vector PinSt 8) (pwr : PwrSt)

theorem State.withPins_pN (id : Nat) : (s.withPins nt pins pwr).pN id = s.pN id := rfl

theorem State.withPins_dtBound (a : Nat) (v : Int) : (s.withPins nt pins pwr).dtBound a v = s.dtBound a v := by
  simp only [State.dtBound, State.withPins_pN]
  rfl

theorem State.withPins_dtNow (a : Fin 128) (j : Fin 4) : (s.withPins nt pins pwr).dtNow a j = s.dtNow a j := by
  simp only [State.dtNow, State.dtWant, State.withPins_dtBound, State.withPins_pN]
  rfl

theorem State.withPins_axisWindows (a : Fin 128) (ext tm : Nat) :
    (s.withPins nt pins pwr).axisWindows a ext tm = s.axisWindows a ext tm := by
  have tc : (s.withPins nt pins pwr).tc a.val = s.tc a.val := rfl
  have mOf : (s.withPins nt pins pwr).mOf a.val = s.mOf a.val := rfl
  simp only [State.axisWindows, tc, mOf, State.withPins_dtNow]
  rfl

theorem State.withPins_blankEnd (p : Fin 8) (tm : Nat) :
    (s.withPins nt pins pwr).blankEnd p tm = s.blankEnd p tm := by
  have windows : (s.withPins nt pins pwr).pinWindows p tm = s.pinWindows p tm := by
    simp only [State.pinWindows, State.withPins_axisWindows, State.withPins_pN]
    rfl
  simp only [State.blankEnd, windows]

end

theorem State.adv_blankEnd (s : State) (tm : Nat) (p : Fin 8) (inst : Nat) :
    (s.adv tm).blankEnd p inst = s.blankEnd p inst := s.withPins_blankEnd _ s.pins s.pwr p inst

/-! ## One trip pin changes (R124 to R127). -/

theorem State.modPin_self (s : State) (p : Fin 8) (f : PinSt → PinSt) : (s.modPin p f).pins[p] = f s.pins[p] :=
  vector_set_self _ _ _

/-- A pin whose filter has accepted its activation (R124, R125). -/
def State.pinActive (s : State) (p : Fin 8) (inst : Nat) : State :=
  (s.modPin p fun x => { x with active := true, activeFrom := inst }).modPwr fun k =>
    { k with aonTrip := k.aonTrip ||| (1#8 <<< p.val) }

theorem State.pinActive_self (s : State) (p : Fin 8) (inst : Nat) :
    (s.pinActive p inst).pins[p] = { s.pins[p] with active := true, activeFrom := inst } :=
  s.modPin_self p fun x => { x with active := true, activeFrom := inst }

theorem State.pinActive_blankEnd (s : State) (p : Fin 8) (inst : Nat) (q : Fin 8) (tm : Nat) :
    (s.pinActive p inst).blankEnd q tm = s.blankEnd q tm := s.withPins_blankEnd s.nt _ _ q tm

/-- A pin that latches (R125). -/
def State.pinTaken (s : State) (p : Fin 8) (stamp : Nat) (late : Bool) : State :=
  s.modPin p fun x => { x with latched := true, stamp := stamp, late := late, refused := false, waiting := none }

theorem State.pinTaken_self (s : State) (p : Fin 8) (stamp : Nat) (late : Bool) : (s.pinTaken p stamp late).pins[p] =
    { s.pins[p] with latched := true, stamp := stamp, late := late, refused := false, waiting := none } :=
  s.modPin_self p fun x => { x with latched := true, stamp := stamp, late := late, refused := false, waiting := none }

theorem State.pinLatch_of_free {s u : State} {p : Fin 8} {stamp : Nat} {late : Bool}
    (free : s.pins[p].latched = false) (hu : u = s.pinTaken p stamp late) :
    s.pinLatch p stamp late =
      ((u.raise 0x2101 p.val (u.pinAxes p)).capEventAt 4 p.val stamp).killAxes p (u.pinAxes p) := by
  subst hu
  simp only [State.pinLatch, free, Bool.false_eq_true, if_false, State.pinTaken]

theorem State.pinLatch_of_latched {s : State} {p : Fin 8} {stamp : Nat} {late : Bool}
    (held : s.pins[p].latched = true) :
    s.pinLatch p stamp late = s.modPin p fun x => { x with count := count32 x.count, waiting := none } := if_pos held

section
variable {p : Fin 8} {inst tm : Nat} {s : State}

/-! A pin that its filter accepts (R124 to R126). -/

section
variable (accepted : inst + s.pN (Pid.trpPFilter p.val) ≤ max s.nt tm)
include accepted

theorem not_filtering : ¬ max s.nt tm < inst + (s.adv tm).pN (Pid.trpPFilter p.val) := Nat.not_lt.mpr accepted

theorem execTripPinActivation_unused (unused : s.pinUsed p = false) :
    execTripPinActivation p inst tm s = .next ((s.adv tm).pinActive p inst) := by
  have unused' : ((s.adv tm).pinActive p inst).pinUsed p = false := unused
  unfold State.pinActive at unused' ⊢
  simp only [execTripPinActivation, State.adv_nt, if_neg (not_filtering accepted), unused', Bool.not_false, if_true]

theorem execTripPinActivation_unblanked (used : s.pinUsed p = true) (free : s.blankEnd p inst = none) :
    execTripPinActivation p inst tm s = .next (((s.adv tm).pinActive p inst).pinLatch p inst false) := by
  have used' : ((s.adv tm).pinActive p inst).pinUsed p = true := used
  have free' : ((s.adv tm).pinActive p inst).blankEnd p inst = none := by
    rw [State.pinActive_blankEnd, State.adv_blankEnd, free]
  unfold State.pinActive at used' free' ⊢
  simp only [execTripPinActivation, State.adv_nt, if_neg (not_filtering accepted), used', free',
    Bool.not_true, Bool.false_eq_true, if_false]

theorem execTripPinActivation_blanked {e : Nat} (used : s.pinUsed p = true) (blanked : s.blankEnd p inst = some e) :
    execTripPinActivation p inst tm s = .next (if e ≤ max s.nt tm then ((s.adv tm).pinActive p inst).pinLatch p e true
      else ((s.adv tm).pinActive p inst).modPin p fun x => { x with waiting := some inst }) := by
  have used' : ((s.adv tm).pinActive p inst).pinUsed p = true := used
  have blanked' : ((s.adv tm).pinActive p inst).blankEnd p inst = some e := by
    rw [State.pinActive_blankEnd, State.adv_blankEnd, blanked]
  unfold State.pinActive at used' blanked' ⊢
  simp only [execTripPinActivation, if_neg (not_filtering accepted), used', blanked', State.modPwr_nt, State.modPin_nt,
    State.adv_nt, Bool.not_true, Bool.false_eq_true, if_false]
  rfl

end

/-- A latch at `stamp` of a pin just accepted raises 0x2101 and kills the pin's axes (R125). -/
theorem pinActive_latches {stamp : Nat} {late : Bool} (free : s.pins[p].latched = false) :
    ∃ u : State, ((s.adv tm).pinActive p inst).pinLatch p stamp late =
        ((u.raise 0x2101 p.val (u.pinAxes p)).capEventAt 4 p.val stamp).killAxes p (u.pinAxes p) ∧
      u.pins[p].latched = true ∧ u.pins[p].stamp = stamp ∧ u.pins[p].active = true ∧ u.pins[p].late = late ∧
      u.flt = s.flt ∧ u.axes = s.axes := by
  have free' : ((s.adv tm).pinActive p inst).pins[p].latched = false := by
    rw [State.pinActive_self]
    exact free
  refine ⟨_, State.pinLatch_of_free free' rfl, ?_⟩
  rw [State.pinTaken_self, State.pinActive_self]
  exact ⟨rfl, rfl, rfl, rfl, rfl, rfl⟩

theorem pinActive_counts {stamp : Nat} {late : Bool} {t : State} (held : s.pins[p].latched = true)
    (ht : t = ((s.adv tm).pinActive p inst).pinLatch p stamp late) :
    t.pins[p].count = count32 s.pins[p].count ∧ t.pins[p].latched = true ∧ t.pins[p].stamp = s.pins[p].stamp ∧
      t.flt = s.flt ∧ t.axes = s.axes := by
  have held' : ((s.adv tm).pinActive p inst).pins[p].latched = true := by
    rw [State.pinActive_self]
    exact held
  rw [ht, State.pinLatch_of_latched held', State.modPin_self, State.pinActive_self]
  exact ⟨rfl, held, rfl, rfl, rfl⟩

theorem pinActive_waits {t : State}
    (ht : t = ((s.adv tm).pinActive p inst).modPin p fun x => { x with waiting := some inst }) :
    t.pins[p].waiting = some inst ∧ t.pins[p].active = true ∧ t.pins[p].latched = s.pins[p].latched ∧
      t.flt = s.flt ∧ t.axes = s.axes := by
  rw [ht, State.modPin_self, State.pinActive_self]
  exact ⟨rfl, rfl, rfl, rfl, rfl⟩

/-! An activation that ends before its filter accepts it (R126). -/

theorem execTripPinActivation_filtered (short : max s.nt tm < inst + s.pN (Pid.trpPFilter p.val)) :
    execTripPinActivation p inst tm s =
      .next (if s.pinUsed p && (s.blankEnd p inst).isSome then (s.adv tm).modPin p (·.ignore (max s.nt tm))
        else s.adv tm) := by
  have used : (s.adv tm).pinUsed p = s.pinUsed p := rfl
  have filter : (s.adv tm).pN (Pid.trpPFilter p.val) = s.pN (Pid.trpPFilter p.val) := rfl
  simp only [execTripPinActivation, filter, State.adv_nt, short, if_true, used, State.adv_blankEnd]

theorem execBlankWindowEnd_over {e : Nat} (used : s.pinUsed p = true) (waits : s.pins[p].waiting = some inst)
    (active : s.pins[p].active = true) (blanked : s.blankEnd p inst = some e) (past : e ≤ max s.nt tm) :
    execBlankWindowEnd p tm s = .next ((s.adv tm).pinLatch p e true) := by
  have used' : (s.adv tm).pinUsed p = true := used
  simp only [execBlankWindowEnd, State.adv_pins, waits, used', active, State.adv_blankEnd, blanked, Option.getD_some,
    State.adv_nt, past, decide_true, Bool.and_self, if_true]

theorem tripPinRelease_inactive (active : s.pins[p].active = true) :
    ∃ t, execTripPinRelease p tm s = .next t ∧ t.pins[p].active = false ∧ t.pins[p].latched = s.pins[p].latched ∧
      t.flt = s.flt := by
  refine ⟨_, rfl, ?_⟩
  rw [State.modPin_self, State.adv_pins]
  simp only [active, if_true]
  split <;> exact ⟨rfl, rfl, rfl⟩

theorem execTripNoise_of_many (many : 100 < (within (secs 1) (max s.nt tm) s.pins[p].ignoredAt).length) :
    execTripNoise p tm s = .next ((s.adv tm).raise 0x2103 p.val (clusterAxes p)) := congrArg _ (if_pos many)

end

/-! ## TRIP sequences and kills (R89, R92, R127). -/

section
variable {l : Fin 32} {tm : Nat} {s : State}

theorem execTripSequence_on {mask : BitVec 4} (on : s.linkOn l = true) :
    execTripSequence l mask tm s = .next ((s.adv tm).each ((List.range 4).filter fun k => mask.getLsbD k)
      fun t k => t.stageTrip (axisAt l k)) := by
  have on' : (s.adv tm).linkOn l = true := on
  simp only [execTripSequence, on', Bool.not_true, Bool.false_eq_true, if_false]

theorem execTripSequence_off {mask : BitVec 4} (off : s.linkOn l = false) :
    execTripSequence l mask tm s = .next (s.adv tm) := by
  have off' : (s.adv tm).linkOn l = false := off
  simp only [execTripSequence, off', Bool.not_false, if_true]

theorem State.cutTx_of_idle (idle : s.links[l].txEnd ≤ s.nt) : s.cutTx l = s := by
  simp only [State.cutTx, decide_eq_false (Nat.not_lt.mpr idle), Bool.false_and, Bool.false_eq_true, if_false]

/-- On an idle pair the first of the kill sequences leaves at once (R89). -/
theorem State.sendKills_of_idle (mask : BitVec 4) (n : Nat) (idle : s.links[l].txEnd ≤ s.nt) :
    (s.sendKills l mask n).links[l].tx = (List.replicate n (killSeq mask)).flatten ∧
    (s.sendKills l mask n).links[l].txFrom = s.nt ∧
    (s.sendKills l mask n).links[l].killAt = s.nt + 25 * (2 * (n - 1)) ∧
    (s.sendKills l mask n).out = s.out ++
      [.link l.val ((s.nt - s.links[l].txEnd + 12) / 25) (List.replicate n (killSeq mask)).flatten] := by
  rw [State.sendKills, State.cutTx_of_idle idle, State.modLink_self, State.modLink_out, State.linkSend_tx,
    State.linkSend_txFrom, State.linkSend_out, State.txAt_of_idle idle]
  exact ⟨rfl, rfl, rfl, rfl⟩

theorem execKillRepeat_due (on : s.linkOn l = true) (cause : (s.adv tm).killMask l ≠ 0)
    (due : s.links[l].killAt + 1000 ≤ max s.nt tm) (idle : s.links[l].txEnd ≤ max s.nt tm) :
    execKillRepeat l tm s = .next ((s.adv tm).sendKills l ((s.adv tm).killMask l) 1) := by
  have on' : (s.adv tm).linkOn l = true := on
  simp only [execKillRepeat, on', bne_iff_ne.mpr cause, State.adv_links, State.adv_nt, us, due, idle, decide_true,
    Bool.and_self, if_true]

theorem execKillRepeat_of_no_cause (none : (s.adv tm).killMask l = 0) : execKillRepeat l tm s = .next (s.adv tm) := by
  simp only [execKillRepeat, none, bne_self_eq_false, Bool.and_false, Bool.false_and, Bool.false_eq_true, if_false]

theorem stageTrip_latches {a : Fin 128} (free : s.axes[a].pwm.trip = false) :
    ∃ u : State, s.stageTrip a = (u.raise 0x2102 a.val (s.spread a)).killAxes (clusterOf a) (s.spread a) ∧
      u.axes[a].pwm.trip = true ∧ u.axes[a].pwm.tripStamp = s.nt ∧ u.flt = s.flt ∧
      ∀ b : Fin 128, b ≠ a → u.axes[b] = s.axes[b] := by
  refine ⟨_, rfl, ?_⟩
  rw [State.modAxis_self]
  simp only [free, Bool.false_eq_true, if_false]
  exact ⟨trivial, trivial, rfl, fun b other => State.modAxis_of_ne s _ other⟩

end

/-- Settles O31: an accepted activation latches, counts or waits as the blanking window and the latch say, one that is
filtered out counts inside a window alone, and an idle pair takes a kill at once. -/
theorem tripPinsAndSequences : Obligations.TripPinsAndSequences := by
  unfold Obligations.TripPinsAndSequences
  refine ⟨?latch, ?again, ?ignored, ?waits, ?windowEnd, ?noise, ?sequence, ?sequenceOff, ?stage, ?killAgain, ?kill,
    ?killOver, ?release, ?late, ?unused, ?filtered⟩
  case latch =>
    intro p inst tm s accepted used free unlatched
    obtain ⟨u, latch, facts⟩ := pinActive_latches (tm := tm) (inst := inst) (stamp := inst) (late := false) unlatched
    exact ⟨u, (execTripPinActivation_unblanked accepted used free).trans (congrArg _ latch), facts⟩
  case again =>
    intro p inst tm s accepted used free held
    exact ⟨_, execTripPinActivation_unblanked accepted used free, pinActive_counts held rfl⟩
  case ignored =>
    intro p inst tm e s short used blanked
    have ignored : (s.pinUsed p && (s.blankEnd p inst).isSome) = true := by
      rw [used, blanked]
      rfl
    refine ⟨_, (execTripPinActivation_filtered short).trans (congrArg _ (if_pos ignored)), ?_⟩
    rw [State.modPin_self]
    exact ⟨rfl, rfl, rfl, rfl, rfl⟩
  case waits =>
    intro p inst tm e s accepted used blanked inside
    exact ⟨_, (execTripPinActivation_blanked accepted used blanked).trans
      (congrArg _ (if_neg (Nat.not_le.mpr inside))), pinActive_waits rfl⟩
  case windowEnd => exact fun _ _ _ _ _ => execBlankWindowEnd_over
  case noise => exact fun _ _ _ => execTripNoise_of_many
  case sequence => exact fun _ _ _ _ => execTripSequence_on
  case sequenceOff => exact fun _ _ _ _ => execTripSequence_off
  case stage => exact fun _ _ => stageTrip_latches
  case killAgain =>
    intro l tm s on cause due idle
    obtain ⟨tx, txFrom, killAt, out⟩ := State.sendKills_of_idle (s := s.adv tm) ((s.adv tm).killMask l) 1 idle
    refine ⟨_, execKillRepeat_due on cause due idle, killAt, txFrom, tx, ?_⟩
    rw [out, tx]
    rfl
  case kill =>
    intro l mask s on idle
    rw [State.sendKill, if_pos on]
    exact (State.sendKills_of_idle mask 4 idle).1.trans rfl
  case killOver => exact fun _ _ _ => execKillRepeat_of_no_cause
  case release => exact fun _ _ _ => tripPinRelease_inactive
  case late =>
    intro p inst tm e s accepted used blanked past unlatched
    obtain ⟨u, latch, facts⟩ := pinActive_latches (tm := tm) (inst := inst) (stamp := e) (late := true) unlatched
    exact ⟨u, (execTripPinActivation_blanked accepted used blanked).trans
      (congrArg _ ((if_pos past).trans latch)), facts⟩
  case unused =>
    intro p inst tm s accepted unused
    refine ⟨_, execTripPinActivation_unused accepted unused, ?_⟩
    rw [State.pinActive_self]
    exact ⟨rfl, rfl, rfl, rfl⟩
  case filtered =>
    intro p inst tm s short outside
    refine (execTripPinActivation_filtered short).trans (congrArg _ (if_neg ?_))
    rcases outside with unused | free
    · rw [unused]
      exact Bool.false_ne_true
    · rw [free, Option.isSome_none, Bool.and_false]
      exact Bool.false_ne_true

end Sys2Proof.Machine

namespace Sys2Proof.Machine

/-! ## A commit that changes no parameter, on links not in use (R28, R58, R544). -/

/-- Every link is down and no slot of it has been sent its configuration. -/
def State.LinksUnused (s : State) : Prop :=
  ∀ l : Fin 32, s.links[l].state = .down ∧ ∀ k : Fin 4, s.links[l].slotCfg[k].sent = 0

/-- The parameters stand as they are and count as restored. -/
def State.restoredAsIs (s : State) : State := s.modPar fun p => { p with restored := true }

theorem State.changed_restoredAsIs (s : State) (id : Nat) : s.changed s.restoredAsIs id = false :=
  bne_self_eq_false (s.pget id)

theorem State.linkIsUp_of_unused {s : State} (unused : s.LinksUnused) (l : Fin 32) : s.linkIsUp l = false := by
  rw [State.linkIsUp, (unused l).1]
  exact Bool.and_false _

theorem State.commitFbk_restoredAsIs (s : State) (a : Fin 128) : s.commitFbk s.restoredAsIs a = s.restoredAsIs := by
  have none : (fbkFormatIds a.val).any (s.changed s.restoredAsIs) = false :=
    List.any_eq_false.mpr fun id _ => Bool.eq_false_iff.mp (s.changed_restoredAsIs id)
  simp only [State.commitFbk, none, State.changed_restoredAsIs, Bool.false_eq_true, if_false]

theorem State.commitOverride_restoredAsIs (s : State) (a : Fin 128) :
    s.commitOverride s.restoredAsIs a = s.restoredAsIs := by
  simp only [State.commitOverride, State.changed_restoredAsIs, Bool.or_self, Bool.false_eq_true, if_false]

theorem State.commitDt_restoredAsIs {s : State} (unused : s.LinksUnused) (a : Fin 128) :
    s.commitDt s.restoredAsIs a = s.restoredAsIs := by
  have down : s.restoredAsIs.linkIsUp (linkOf a) = false := State.linkIsUp_of_unused (s := s.restoredAsIs) unused _
  simp only [State.commitDt, State.changed_restoredAsIs, State.dtLimit, down, Bool.false_and, Bool.false_eq_true,
    if_false]

theorem State.modAxis_of_same {s : State} {a : Fin 128} {f : Axis → Axis} (same : f s.axes[a] = s.axes[a]) :
    s.modAxis a f = s := by
  have axes : s.axes.set a.val s.axes[a] = s.axes := Vector.set_getElem_self _
  rw [State.modAxis, same, axes]

theorem State.commitGains_restoredAsIs (s : State) (a : Fin 128) :
    s.commitGains s.restoredAsIs a = s.restoredAsIs := by
  have pF (id : Nat) : s.restoredAsIs.pF id = s.pF id := rfl
  unfold State.commitGains
  extract_lets st v0 v1 xv c0 c1 xi
  have velocity : xv = st.velXv := if_pos (by simp only [v0, v1, pF, beq_self_eq_true, Bool.true_or])
  have current : xi = st.xi := if_pos (by simp only [c0, c1, pF, beq_self_eq_true, Bool.true_or])
  rw [velocity, current]
  exact State.modAxis_of_same rfl

theorem State.commitFilter_restoredAsIs (s : State) (a : Fin 128) (k : Fin 2) :
    s.commitFilter s.restoredAsIs a k = s.restoredAsIs := if_pos (beq_self_eq_true _)

theorem State.commitAxis_restoredAsIs {s : State} (unused : s.LinksUnused) (a : Fin 128) :
    s.commitAxis s.restoredAsIs a = s.restoredAsIs := by
  simp only [State.commitAxis, State.commitFbk_restoredAsIs, State.commitOverride_restoredAsIs,
    State.commitDt_restoredAsIs unused, State.commitGains_restoredAsIs, State.commitFilter_restoredAsIs]

theorem State.commitSlot_of_unused {s : State} (unused : s.LinksUnused) (l : Fin 32) (k : Fin 4) :
    s.commitSlot l k = s := by
  simp only [State.commitSlot, (unused l).2 k, bne_self_eq_false, Bool.false_and, Bool.false_eq_true, if_false]

theorem State.commitLink_restoredAsIs {s : State} (unused : s.LinksUnused) (l : Fin 32) :
    s.commitLink s.restoredAsIs l = s.restoredAsIs := by
  simp only [State.commitLink, State.changed_restoredAsIs, Bool.not_false, if_true]
  exact List.foldl_fixed' (State.commitSlot_of_unused (s := s.restoredAsIs) unused l) _

theorem State.commitPin_restoredAsIs (s : State) (p : Fin 8) : s.commitPin s.restoredAsIs p = s.restoredAsIs := by
  simp only [State.commitPin, State.changed_restoredAsIs, Bool.or_self, Bool.false_and, Bool.false_eq_true, if_false]

/-- The Percolator's copy of its rules is no input of a parameter. -/
theorem State.pget_commitPerc (s : State) (id : Nat) : s.commitPerc.pget id = s.pget id := by
  refine (State.each_same (fun t => t.pget id) _ (fun t r => ?_) _ _).trans rfl
  dsimp only
  split <;> rfl

theorem State.changed_commitPerc (s : State) (id : Nat) : s.changed s.restoredAsIs.commitPerc id = false := by
  rw [State.changed, State.pget_commitPerc]
  exact s.changed_restoredAsIs id

theorem State.commitDevice_restoredAsIs (s : State) : s.commitDevice s.restoredAsIs = s.restoredAsIs.commitPerc := by
  have ports : ((List.range 4).any fun p => s.changed s.restoredAsIs.commitPerc (Pid.netPEnable p)) = false :=
    List.any_eq_false.mpr fun p _ => Bool.eq_false_iff.mp (s.changed_commitPerc (Pid.netPEnable p))
  have net : s.commitNet s.restoredAsIs.commitPerc = s.restoredAsIs.commitPerc :=
    if_neg (Bool.eq_false_iff.mp ports)
  simp only [State.commitDevice, State.changed_restoredAsIs, net, State.commitTwin, State.changed_commitPerc,
    Bool.false_and, Bool.not_false, Bool.false_eq_true, if_false, if_true]

theorem State.commitEffects_restoredAsIs {s : State} (unused : s.LinksUnused) :
    s.commitEffects s.restoredAsIs = s.restoredAsIs.commitPerc := by
  rw [State.commitEffects, List.foldl_fixed' (State.commitAxis_restoredAsIs unused),
    List.foldl_fixed' (State.commitLink_restoredAsIs unused), List.foldl_fixed' s.commitPin_restoredAsIs,
    State.commitDevice_restoredAsIs]

/-! ## What the exit from deep sleep keeps and starts (R427, R457, R464). -/

/-- What says whether and how the exit takes the safety configuration: the variant, the channels, the device state. -/
def State.safetyStanding (s : State) : Bool × SafSt × DevState := (s.ib, s.saf, s.pwr.state)

theorem State.commitPerc_safetyStanding (s : State) : s.commitPerc.safetyStanding = s.safetyStanding := by
  refine (State.each_same State.safetyStanding _ (fun t r => ?_) _ _).trans rfl
  dsimp only
  split <;> rfl

theorem State.restoreSet_nil_safetyStanding {s : State} (unused : s.LinksUnused) :
    (s.restoreSet []).safetyStanding = s.safetyStanding := by
  have committed : (s.commitEffects s.restoredAsIs).safetyStanding = s.safetyStanding := by
    rw [State.commitEffects_restoredAsIs unused, State.commitPerc_safetyStanding]
    rfl
  refine (State.each_same State.safetyStanding _ (fun t a => ?_) _ _).trans committed
  dsimp only
  split <;> rfl

@[simp] theorem State.irq_pwr (s : State) (b : Word) : (s.irq b).pwr = s.pwr := by
  obtain ⟨o, e⟩ := s.irq_eq b
  rw [e]

@[simp] theorem State.event_pwr (s : State) (code inst data : Nat) : (s.event code inst data).pwr = s.pwr := by
  obtain ⟨_, _, _, _, e⟩ := s.event_changes code inst data
  rw [e]

theorem State.setDev_state (s : State) (d : DevState) : (s.setDev d).pwr.state = d := by
  rw [State.setDev, State.event_pwr, State.irq_pwr]
  rfl

theorem State.restoreFlash_of_none {s : State} (empty : s.par.flash = none) : s.restoreFlash = s.restoreSet [] := by
  simp only [State.restoreFlash, empty]

theorem State.enterSafe_state (s : State) : s.enterSafe.pwr.state = .safe := by
  unfold State.enterSafe
  split
  · rename_i safe
    exact eq_of_beq safe
  · simp only [State.safLog, State.modSaf_pwr, State.setDev_state]

/-- A NK9128-IB whose safety block fails its CRC ends in SAFE (R457). -/
theorem State.safWake_of_bad_block {s : State} {b : List (Nat × Nat)} (ib : s.ib = true)
    (block : s.saf.flash = some b) (bad : s.saf.flashGood = false) : s.safWake.pwr.state = .safe := by
  simp only [State.safWake, ib, block, bad, Bool.not_true, Bool.false_eq_true, if_false]
  exact State.enterSafe_state _

theorem State.each_nil {α : Type} (s : State) (f : State → α → State) : s.each [] f = s := rfl

theorem State.domOn_nt (s : State) (d : Nat) : (s.domOn d).nt = s.nt := by
  unfold State.domOn
  split <;> rfl

theorem State.domOn_retention (s : State) (d : Nat) : (s.domOn d).pwr.retention = s.pwr.retention := by
  unfold State.domOn
  split <;> rfl

theorem execDeepSleepExit_of_none_kept {t0 cl tm : Nat} {was : DevState} {u s : State}
    (waking : s.pwr.deep = .waking t0 cl was) (due : t0 + ms 8 ≤ max s.nt tm) (on : s.domainOn 8 = true)
    (kept : s.pwr.retention = none) (hu : u = (((s.adv tm).each [9, 12, 13, 15] State.domOn).modPwr fun p =>
      { p with deep := .awake, retention := none, state := was, lastCmd := max s.nt tm })) :
    execDeepSleepExit tm s = .next (u.startTicks.restoreFlash.safWake.each
      (allClusters.filter fun c => bit cl c.val) State.wakeCluster) := by
  have on' : (s.adv tm).domainOn 8 = true := on
  have time : ((s.adv tm).each [9, 12, 13, 15] State.domOn).nt = max s.nt tm :=
    State.each_same State.nt State.domOn State.domOn_nt _ _
  have none : ((s.adv tm).each [9, 12, 13, 15] State.domOn).pwr.retention = none :=
    (State.each_same (fun t => t.pwr.retention) State.domOn State.domOn_retention _ _).trans kept
  subst hu
  simp only [execDeepSleepExit, State.adv_pwr, waking, State.adv_nt, due, on', and_self, if_true, none, time]

/-- A NK9128-IB 8 ms after its wake, CORE on, with nothing in the retention store, no parameters in flash and a safety
block in flash that fails its CRC. -/
def wakingWithBadBlock : State :=
  { State.reset with
    ib := true
    pwr := { State.reset.pwr with domains := 1#16 <<< 8, deep := .waking 0 0 .operate }
    saf := { State.reset.saf with flash := some [], flashGood := false } }

/-- `wakingWithBadBlock` awake, before the ticks and the parameters. -/
def awakeWithBadBlock : State :=
  ((wakingWithBadBlock.adv (ms 8)).each [9, 12, 13, 15] State.domOn).modPwr fun p =>
    { p with deep := .awake, retention := none, state := .operate, lastCmd := max wakingWithBadBlock.nt (ms 8) }

theorem awakeWithBadBlock_linksUnused : awakeWithBadBlock.startTicks.LinksUnused := by
  unfold State.LinksUnused
  decide +kernel

theorem awakeWithBadBlock_restored :
    awakeWithBadBlock.startTicks.restoreFlash.safetyStanding = (true, wakingWithBadBlock.saf, .operate) := by
  have empty : awakeWithBadBlock.startTicks.par.flash = none := by decide +kernel
  have standing : awakeWithBadBlock.startTicks.safetyStanding = (true, wakingWithBadBlock.saf, .operate) := by
    decide +kernel
  rw [State.restoreFlash_of_none empty, State.restoreSet_nil_safetyStanding awakeWithBadBlock_linksUnused, standing]

/-- Refutes O47: with nothing kept in the retention store, the exit from deep sleep also takes the safety block of a
NK9128-IB's flash, which the clause for that case leaves out; with a bad block the device ends in SAFE. -/
theorem not_sleepSteps : ¬ Obligations.SleepSteps := by
  unfold Obligations.SleepSteps
  rintro ⟨-, -, -, -, -, flashExit, -⟩
  have waking : wakingWithBadBlock.pwr.deep = .waking 0 0 .operate := rfl
  have due : 0 + ms 8 ≤ max wakingWithBadBlock.nt (ms 8) := by decide
  have on : wakingWithBadBlock.domainOn 8 = true := by decide
  have claimed := flashExit 0 0 (ms 8) .operate awakeWithBadBlock wakingWithBadBlock waking due on rfl rfl
  have actual : exec (.deepSleepExit (ms 8)) wakingWithBadBlock = _ :=
    execDeepSleepExit_of_none_kept (u := awakeWithBadBlock) waking due on rfl rfl
  have nobody : (allClusters.filter fun c => bit 0 c.val) = [] := by decide
  rw [nobody, State.each_nil] at claimed actual
  have same : awakeWithBadBlock.startTicks.restoreFlash = awakeWithBadBlock.startTicks.restoreFlash.safWake :=
    Host.Outcome.next.inj (claimed.symm.trans actual)
  obtain ⟨ib, rest⟩ := Prod.mk.inj awakeWithBadBlock_restored
  obtain ⟨saf, operate⟩ := Prod.mk.inj rest
  have safe := State.safWake_of_bad_block ib (congrArg SafSt.flash saf) (congrArg SafSt.flashGood saf)
  rw [← same, operate] at safe
  cases safe

end Sys2Proof.Machine

namespace Sys2Proof.Machine

/-! ## Device calls: TRP.CLEAR, FIO, PTP.SET_TIME, TWIN and FLOG.CLEAR. -/

/-! How a call that nothing is against ends. -/

section
variable {s t : State} {m : Fin 16} {tm id n : Nat} {act : State → List Byte → Served} {busy : State → Bool}

theorem serveCall_done (h : s.callReady m id n = true) (idle : busy (s.adv tm) = false) {pay : List Byte}
    (done : act (s.adv tm) (callArgs s.mbx[m].payload) = .done t pay) :
    s.serveCall m tm id n act busy = t.answer m stOk 0 pay := by
  rw [serveCall_ready tm act busy h idle, done, State.settle]

theorem serveCall_fail (h : s.callReady m id n = true) (idle : busy (s.adv tm) = false) {st d : Nat} {pay : List Byte}
    (fail : act (s.adv tm) (callArgs s.mbx[m].payload) = .fail st d pay) :
    s.serveCall m tm id n act busy = (s.adv tm).answer m st d pay := by
  rw [serveCall_ready tm act busy h idle, fail, State.settle]

theorem serveCall_failed (h : s.callReady m id n = true) (idle : busy (s.adv tm) = false) {st : Nat}
    (failed : act (s.adv tm) (callArgs s.mbx[m].payload) = .failed t st) :
    s.serveCall m tm id n act busy = t.answer m st 0 [] := by
  rw [serveCall_ready tm act busy h idle, failed, State.settle]

theorem serveCall_wait (h : s.callReady m id n = true) (idle : busy (s.adv tm) = false) {w : Wait}
    (wait : act (s.adv tm) (callArgs s.mbx[m].payload) = .wait t w) :
    s.serveCall m tm id n act busy = t.modMbx m fun b => { b with wait := w } := by
  rw [serveCall_ready tm act busy h idle, wait, State.settle]

theorem hidden_of_callReady (h : s.callReady m id n = true) : s.mbx[m].hidden = none := by
  simp only [State.callReady, Bool.and_eq_true] at h
  obtain ⟨⟨ready, -⟩, -⟩ := h
  exact hidden_of_holds (holds_of_ready ready)

end

/-! TRP.CLEAR (R129). -/

/-- A change that may be made twice, repeated over a list of indices, is made where the list names the index. -/
theorem State.each_change {ι α : Type} [DecidableEq ι] (get : State → ι → α) (change : State → ι → State) {f : α → α}
    (one : ∀ t c i, get (change t c) i = if c = i then f (get t i) else get t i) (twice : ∀ x, f (f x) = f x) (i : ι) :
    ∀ (l : List ι) (s : State), get (s.each l change) i = if i ∈ l then f (get s i) else get s i
  | [], s => (if_neg List.not_mem_nil).symm
  | c :: rest, s => by
    have step : get (s.each (c :: rest) change) i = _ := State.each_change get change one twice i rest (change s c)
    rw [step, one]
    by_cases hit : c = i
    · simp only [hit, twice, if_true, ite_self, List.mem_cons_self]
    · simp only [hit, if_false, List.mem_cons, Ne.symm hit, false_or]

/-- A pin latch that TRP.CLEAR clears at the next tick. -/
def PinSt.clearAtTick (x : PinSt) : PinSt := { x with clearReq := true }

/-- A pin latch whose clear TRP.CLEAR refuses. -/
def PinSt.clearRefused (x : PinSt) : PinSt := { x with refused := true }

/-- A stage-trip latch that TRP.CLEAR clears at the next tick. -/
def PwmSt.clearAtTick (x : PwmSt) : PwmSt := { x with clearReq := true }

/-- A stage-trip latch whose clear TRP.CLEAR refuses. -/
def PwmSt.clearRefused (x : PwmSt) : PwmSt := { x with tripRefused := true }

theorem PinSt.clearAtTick_twice (x : PinSt) : x.clearAtTick.clearAtTick = x.clearAtTick := rfl

theorem PinSt.clearRefused_twice (x : PinSt) : x.clearRefused.clearRefused = x.clearRefused := rfl

theorem PwmSt.clearAtTick_twice (x : PwmSt) : x.clearAtTick.clearAtTick = x.clearAtTick := rfl

theorem PwmSt.clearRefused_twice (x : PwmSt) : x.clearRefused.clearRefused = x.clearRefused := rfl

/-- The latches that TRP.CLEAR marks: a change of the named pins and one of the named stage latches. -/
def State.markTrips (s : State) (f : PinSt → PinSt) (g : PwmSt → PwmSt) (pins : List (Fin 8)) (axes : List (Fin 128)) :
    State :=
  (s.each pins fun u c => u.modPin c f).each axes fun u a => u.modAxis a fun x => { x with pwm := g x.pwm }

section
variable {f : PinSt → PinSt} {g : PwmSt → PwmSt} (s : State) (pins : List (Fin 8)) (axes : List (Fin 128))

theorem State.markTrips_pwr : (s.markTrips f g pins axes).pwr = s.pwr :=
  (State.each_same State.pwr _ (fun _ _ => State.modAxis_pwr _ _ _) axes _).trans
    (State.each_same State.pwr _ (fun _ _ => State.modPin_pwr _ _ _) pins s)

theorem State.markTrips_pin (twice : ∀ x, f (f x) = f x) (p : Fin 8) :
    (s.markTrips f g pins axes).pins[p] = if p ∈ pins then f s.pins[p] else s.pins[p] := by
  have others : (s.markTrips f g pins axes).pins = (s.each pins fun u c => u.modPin c f).pins :=
    State.each_same State.pins _ (fun _ _ => State.modAxis_pins _ _ _) axes _
  rw [others]
  refine State.each_change (fun t c => t.pins[c]) _ (fun t c i => ?_) twice p pins s
  refine (vector_set_get ..).trans (ite_congr rfl (fun hit => ?_) fun _ => rfl)
  rw [hit]

theorem State.markTrips_pwm (twice : ∀ x, g (g x) = g x) (a : Fin 128) :
    (s.markTrips f g pins axes).axes[a].pwm = if a ∈ axes then g s.axes[a].pwm else s.axes[a].pwm := by
  have others : (s.each pins fun u c => u.modPin c f).axes = s.axes :=
    State.each_same State.axes _ (fun _ _ => State.modPin_axes _ _ _) pins s
  rw [← others]
  refine State.each_change (fun t c => t.axes[c].pwm) _ (fun t c i => ?_) twice a axes _
  refine (congrArg Axis.pwm (vector_set_get ..)).trans ((apply_ite Axis.pwm ..).trans ?_)
  refine ite_congr rfl (fun hit => ?_) fun _ => rfl
  rw [hit]

/-- What the change of a pin leaves of it, the call leaves of every pin. -/
theorem State.markTrips_pin_same {β : Type} (field : PinSt → β) (twice : ∀ x, f (f x) = f x)
    (same : ∀ x, field (f x) = field x) (p : Fin 8) : field (s.markTrips f g pins axes).pins[p] = field s.pins[p] := by
  rw [s.markTrips_pin pins axes twice p]
  split
  · exact same _
  · rfl

/-- What the change of a stage latch leaves of it, the call leaves of every axis's. -/
theorem State.markTrips_pwm_same {β : Type} (field : PwmSt → β) (twice : ∀ x, g (g x) = g x)
    (same : ∀ x, field (g x) = field x) (a : Fin 128) :
    field (s.markTrips f g pins axes).axes[a].pwm = field s.axes[a].pwm := by
  rw [s.markTrips_pwm pins axes twice a]
  split
  · exact same _
  · rfl

end

section
variable {m : Fin 16} {tm : Nat} {s : State} {named : List (Fin 8) × List (Fin 128)}

theorem execTrpClear_of_free (ready : s.callReady m 0x2100F001 20 = true) (reserved : s.arg m 1 3 = 0)
    (names : (s.adv tm).clearNamed (callArgs s.mbx[m].payload) = named)
    (free : (named.1.any (s.adv tm).pinHeld || named.2.any (s.adv tm).stageHeld) = false) :
    execTrpClear m tm s =
      .next (((s.adv tm).markTrips PinSt.clearAtTick PwmSt.clearAtTick named.1 named.2).answer m stOk 0 []) := by
  refine congrArg Host.Outcome.next (serveCall_done ready rfl ?_)
  simp only [names, free, Bool.false_eq_true, if_false]
  exact if_neg (not_not.mpr reserved)

theorem execTrpClear_of_held (ready : s.callReady m 0x2100F001 20 = true) (reserved : s.arg m 1 3 = 0)
    (names : (s.adv tm).clearNamed (callArgs s.mbx[m].payload) = named)
    (held : (named.1.any (s.adv tm).pinHeld || named.2.any (s.adv tm).stageHeld) = true) :
    execTrpClear m tm s = .next (((s.adv tm).markTrips PinSt.clearRefused PwmSt.clearRefused
      (named.1.filter (s.adv tm).pinHeld) (named.2.filter (s.adv tm).stageHeld)).answer m stCause 0 []) := by
  refine congrArg Host.Outcome.next (serveCall_failed ready rfl ?_)
  simp only [names, held, if_true]
  exact if_neg (not_not.mpr reserved)

end

/-! FIO.DIAG (R322). -/

/-- The diagnosis that a call starts: every permitted output is a candidate. -/
def State.newDiag (s : State) (allow : BitVec 16) : DiagSt :=
  { allow := allow, cand := allow, held := s.fio.cmd, since := s.nextAct }

theorem execFioDiag_of_idle {m : Fin 16} {tm : Nat} {s : State} (ready : s.callReady m 0x6000F003 4 = true)
    (idle : s.fio.diag = none) (named : BitVec.ofNat 16 (s.arg m 0 2) ≠ 0) (reserved : s.arg m 2 2 = 0)
    (warn : s.fio.uvWarn = false) (off : s.fio.uvOff = false) (common : s.fio.common = true)
    (link : s.fio.cfLost = false) :
    execFioDiag m tm s = .next (((s.adv tm).modFio fun f =>
      { f with diag := some (((s.adv tm).newDiag (BitVec.ofNat 16 (s.arg m 0 2))).next (s.adv tm).nextAct) }).modMbx m
        fun b => { b with wait := .call 0x6000F003 }) := by
  have free : (s.adv tm).fio.diag.isSome = false := congrArg Option.isSome idle
  refine congrArg Host.Outcome.next (serveCall_wait ready free ?_)
  simp only [State.adv_fio, warn, off, common, link, Bool.or_false, Bool.not_true, Bool.false_eq_true, if_false]
  exact if_neg (not_or.mpr ⟨named, not_not.mpr reserved⟩)

/-! PTP.SET_TIME (R366). -/

@[simp] theorem State.event_nt (s : State) (code inst data : Nat) : (s.event code inst data).nt = s.nt := by
  obtain ⟨_, _, _, _, e⟩ := s.event_changes code inst data
  rw [e]

theorem State.timeStep_nt (s : State) (d : Int) : (s.timeStep d).nt = moved d s.nt :=
  State.event_nt _ _ _ _

theorem State.timeStep_axes (s : State) (d : Int) : (s.timeStep d).axes = s.axes.map (Axis.shift d) :=
  State.event_axes _ _ _ _

theorem execPtpSetTime_of_master {m : Fin 16} {tm : Nat} {s : State} (ready : s.callReady m 0x3100F001 8 = true)
    (allowed : s.stepAllowed = true) (master : (s.net.units[fin 2 (by decide) s.net.driver]).state = .master) :
    execPtpSetTime m tm s =
      .next (((s.adv tm).timeStep ((s.arg m 0 8 : Int) - (max s.nt tm : Nat))).answer m stOk 0 []) := by
  have may : (s.adv tm).stepAllowed = true := allowed
  refine congrArg Host.Outcome.next (serveCall_done ready rfl (if_neg ?_))
  simp only [State.adv_net, master, may, bne_self_eq_false, Bool.not_true, Bool.or_self, Bool.false_eq_true,
    not_false_eq_true]

theorem execPtpSetTime_of_not_master {m : Fin 16} {tm : Nat} {s : State} (ready : s.callReady m 0x3100F001 8 = true)
    (against : (s.net.units[fin 2 (by decide) s.net.driver]).state ≠ .master ∨ s.stepAllowed = false) :
    execPtpSetTime m tm s = .next ((s.adv tm).answer m stState 0 []) := by
  refine congrArg Host.Outcome.next (serveCall_fail ready rfl (if_pos (Bool.or_eq_true_iff.mpr ?_)))
  exact against.imp bne_iff_ne.mpr fun barred => (Bool.not_eq_true' _).mpr barred

/-- A step by the distance to an instant ends at it. -/
theorem moved_to (n t : Nat) : moved ((n : Int) - (t : Int)) t = n := by
  simp only [moved]
  omega

/-! TWIN.REJOIN and TWIN.TAKE (R387). -/

@[simp] theorem State.event_twin (s : State) (code inst data : Nat) : (s.event code inst data).twin = s.twin := by
  obtain ⟨_, _, _, _, e⟩ := s.event_changes code inst data
  rw [e]

@[simp] theorem State.irq_twin (s : State) (b : Word) : (s.irq b).twin = s.twin := by
  obtain ⟨o, e⟩ := s.irq_eq b
  rw [e]

theorem State.twinTo_state (s : State) (d : TwinState) : (s.twinTo d).twin.state = d := by
  unfold State.twinTo
  split
  next same => exact beq_iff_eq.mp same
  next => simp only [State.event_twin, State.irq_twin, State.modTwin_twin]

theorem State.startSyncing_state (s : State) : s.startSyncing.twin.state = .syncing := s.twinTo_state .syncing

theorem State.becomeActive_state (s : State) : s.becomeActive.twin.state = .active := s.twinTo_state .active

/-! FLOG.CLEAR (R445). -/

theorem clearHit_wild (c i : Nat) : clearHit 0xFFFF 0xFF c i = true := rfl

theorem clearHit_exact {code inst c i : Nat} (exactCode : code ≠ 0xFFFF) (exactInst : inst ≠ 0xFF) :
    clearHit code inst c i = true ↔ c = code ∧ i = inst := by
  simp only [clearHit, beq_eq_false_iff_ne.mpr exactCode, beq_eq_false_iff_ne.mpr exactInst, Bool.false_or,
    Bool.and_eq_true, beq_iff_eq]

theorem State.refuseClear_nil (s : State) : s.refuseClear [] = s := rfl

/-- With no cause on, a clear marks what it matches, and empties latches marked PRE_RESET. -/
theorem State.clearFaults_of_no_cause {s : State} {code inst : Nat} (gone : s.clearOn code inst = []) (copied : Bool) :
    s.clearFaults code inst copied = (s.modFlt fun f =>
      { f with inForce := f.inForce.map fun x =>
          if (clearHit code inst x.code x.inst && x.code / 256 != 0x70 && !s.causeOn x.code x.inst) = true then
            { x with clearing := true, copied := copied } else x }).clearLatches code inst := by
  simp only [State.clearFaults, gone, List.isEmpty_nil, Bool.not_true, Bool.and_false, Bool.false_eq_true, if_false,
    State.refuseClear_nil]

theorem State.clearOn_of_all_off {s : State} (off : ∀ x ∈ s.flt.inForce, s.causeOn x.code x.inst = false)
    (code inst : Nat) : s.clearOn code inst = [] :=
  List.filter_eq_nil_iff.mpr fun x inForce => by
    simp only [off x inForce, Bool.and_false, Bool.false_eq_true, not_false_eq_true]

/-- With no cause on and no safety code in force, a clear of every fault marks them all. -/
theorem State.clearFaults_all {s : State} (ordinary : ∀ x ∈ s.flt.inForce, x.code / 256 ≠ 0x70)
    (off : ∀ x ∈ s.flt.inForce, s.causeOn x.code x.inst = false) :
    s.clearFaults 0xFFFF 0xFF false = (s.modFlt fun f =>
      { f with inForce := f.inForce.map fun x => { x with clearing := true, copied := false } }).clearLatches
        0xFFFF 0xFF := by
  have marked : (s.flt.inForce.map fun x =>
      if (clearHit 0xFFFF 0xFF x.code x.inst && x.code / 256 != 0x70 && !s.causeOn x.code x.inst) = true then
        { x with clearing := true, copied := false } else x) =
      s.flt.inForce.map fun x => { x with clearing := true, copied := false } := by
    refine List.map_congr_left fun x inForce => if_pos ?_
    simp only [clearHit_wild, bne_iff_ne.mpr (ordinary x inForce), off x inForce, Bool.not_false, Bool.and_self]
  rw [State.clearFaults_of_no_cause (State.clearOn_of_all_off off _ _)]
  simp only [State.modFlt, marked]

/-- The faults in force that a clear counts: they match, are not being cleared, and are no safety faults. -/
def FaultSt.clearable (f : FaultSt) (code inst : Nat) : List InForce :=
  (f.inForce.filter fun x => clearHit code inst x.code x.inst && !x.clearing).filter fun x => x.code / 256 != 0x70

theorem FaultSt.clearable_all {f : FaultSt} (ordinary : ∀ x ∈ f.inForce, x.code / 256 ≠ 0x70)
    (fresh : ∀ x ∈ f.inForce, x.clearing = false) : f.clearable 0xFFFF 0xFF = f.inForce := by
  have counted : (f.inForce.filter fun x => clearHit 0xFFFF 0xFF x.code x.inst && !x.clearing) = f.inForce :=
    List.filter_eq_self.mpr fun x inForce => by
      simp only [clearHit_wild, fresh x inForce, Bool.not_false, Bool.and_self]
  rw [FaultSt.clearable, counted]
  exact List.filter_eq_self.mpr fun x inForce => bne_iff_ne.mpr (ordinary x inForce)

/-- An exact clear of an ordinary code matches ordinary faults alone. -/
theorem FaultSt.not_safety_of_matched {f : FaultSt} {code inst : Nat} (exactCode : code ≠ 0xFFFF)
    (exactInst : inst ≠ 0xFF) (ordinary : code / 256 ≠ 0x70) :
    ∀ x ∈ f.inForce.filter fun x => clearHit code inst x.code x.inst && !x.clearing, x.code / 256 ≠ 0x70 := by
  intro x matched
  rw [List.mem_filter, Bool.and_eq_true, clearHit_exact exactCode exactInst] at matched
  obtain ⟨-, ⟨rfl, -⟩, -⟩ := matched
  exact ordinary

theorem FaultSt.clearable_exact {f : FaultSt} {code inst : Nat} (exactCode : code ≠ 0xFFFF) (exactInst : inst ≠ 0xFF)
    (ordinary : code / 256 ≠ 0x70) :
    f.clearable code inst = f.inForce.filter fun x => clearHit code inst x.code x.inst && !x.clearing :=
  List.filter_eq_self.mpr fun x matched =>
    bne_iff_ne.mpr (FaultSt.not_safety_of_matched exactCode exactInst ordinary x matched)

section
variable {m : Fin 16} {tm code inst : Nat} {s : State}

theorem execFlogClear_of_no_cause (ready : s.callReady m 0xF000F001 4 = true) (reserved : s.arg m 3 1 = 0)
    (isCode : s.arg m 0 2 = code) (isInst : s.arg m 2 1 = inst)
    (ordinary : code ≠ 0xFFFF → inst ≠ 0xFF → code / 256 ≠ 0x70) (gone : (s.adv tm).clearOn code inst = []) :
    execFlogClear m tm s = .next ((((s.adv tm).clearFaults code inst false).varItem 10 [code, inst]).answer m stOk 0
      (leBytes 2 (s.flt.clearable code inst).length ++ leBytes 2 0)) := by
  have isCode' : fld (callArgs s.mbx[m].payload) 0 2 = code := isCode
  have isInst' : fld (callArgs s.mbx[m].payload) 2 1 = inst := isInst
  have passed : (decide (code ≠ 0xFFFF ∧ inst ≠ 0xFF) &&
      (s.flt.inForce.filter fun x => clearHit code inst x.code x.inst && !x.clearing).any fun x =>
        x.code / 256 == 0x70) = false := by
    rw [Bool.and_eq_false_imp, decide_eq_true_iff]
    rintro ⟨exactCode, exactInst⟩
    exact List.any_eq_false.mpr fun x matched =>
      mt beq_iff_eq.mp (FaultSt.not_safety_of_matched exactCode exactInst (ordinary exactCode exactInst) x matched)
  refine congrArg Host.Outcome.next (serveCall_done ready rfl ?_)
  simp only [isCode', isInst', State.adv_flt, passed, gone, List.isEmpty_nil, Bool.not_true, Bool.and_false,
    Bool.false_eq_true, if_false, List.length_nil, Nat.sub_zero]
  exact if_neg (not_not.mpr reserved)

theorem execFlogClear_of_safety {x : InForce} (ready : s.callReady m 0xF000F001 4 = true) (reserved : s.arg m 3 1 = 0)
    (isCode : s.arg m 0 2 = x.code) (isInst : s.arg m 2 1 = x.inst) (exactCode : x.code ≠ 0xFFFF)
    (exactInst : x.inst ≠ 0xFF) (inForce : x ∈ s.flt.inForce) (fresh : x.clearing = false)
    (safety : x.code / 256 = 0x70) : execFlogClear m tm s = .next ((s.adv tm).answer m stState 0 []) := by
  have isCode' : fld (callArgs s.mbx[m].payload) 0 2 = x.code := isCode
  have isInst' : fld (callArgs s.mbx[m].payload) 2 1 = x.inst := isInst
  have hit : clearHit x.code x.inst x.code x.inst = true := (clearHit_exact exactCode exactInst).mpr ⟨rfl, rfl⟩
  have matched : (s.flt.inForce.filter fun y => clearHit x.code x.inst y.code y.inst && !y.clearing).any
      (fun y => y.code / 256 == 0x70) = true :=
    List.any_eq_true.mpr ⟨x, List.mem_filter.mpr ⟨inForce, by rw [hit, fresh]; rfl⟩, beq_iff_eq.mpr safety⟩
  refine congrArg Host.Outcome.next (serveCall_fail ready rfl ?_)
  simp only [isCode', isInst', State.adv_flt, matched, exactCode, exactInst, ne_eq, not_false_eq_true, and_self,
    decide_true, Bool.and_self, if_true]
  exact if_neg (not_not.mpr reserved)

end

/-- Settles O17: nothing is against each of these calls, so it comes to the branch of its own that its premises name. -/
theorem deviceCallsAct : Obligations.DeviceCallsAct := by
  unfold Obligations.DeviceCallsAct
  refine ⟨?trips, ?heldTrip, ?write, ?maskedWrite, ?rearm, ?diag, ?setTime, ?noSetTime, ?switch, ?rejoin, ?take,
    ?clearAll, ?clearSafety, ?clearOne⟩
  case trips =>
    intro m tm s ready reserved pinsFree stagesFree
    refine ⟨_, execTrpClear_of_free ready reserved rfl (Bool.or_eq_false_iff.mpr ⟨pinsFree, stagesFree⟩),
      State.gotAnswer_answer .., State.markTrips_pwr .., ?_, ?_,
      State.markTrips_pin_same _ _ _ PinSt.latched PinSt.clearAtTick_twice fun _ => rfl,
      State.markTrips_pwm_same _ _ _ PwmSt.trip PwmSt.clearAtTick_twice fun _ => rfl⟩
    · intro p named
      exact congrArg PinSt.clearReq ((State.markTrips_pin _ _ _ PinSt.clearAtTick_twice p).trans (if_pos named))
    · intro a named
      exact congrArg PwmSt.clearReq ((State.markTrips_pwm _ _ _ PwmSt.clearAtTick_twice a).trans (if_pos named))
  case heldTrip =>
    intro m tm p s ready reserved named held
    refine ⟨_, execTrpClear_of_held ready reserved rfl (Bool.or_eq_true_iff.mpr (.inl ?_)),
      State.gotAnswer_answer .., ?_,
      State.markTrips_pin_same _ _ _ PinSt.clearReq PinSt.clearRefused_twice fun _ => rfl,
      State.markTrips_pwm_same _ _ _ PwmSt.clearReq PwmSt.clearRefused_twice fun _ => rfl⟩
    · exact List.any_eq_true.mpr ⟨p, named, held⟩
    · exact congrArg PinSt.refused ((State.markTrips_pin _ _ _ PinSt.clearRefused_twice p).trans
        (if_pos (List.mem_filter.mpr ⟨named, held⟩)))
  case write =>
    intro m tm s ready free
    exact congrArg Host.Outcome.next (serveCall_done ready rfl (if_neg (mt bne_iff_ne.mp (not_not.mpr free))))
  case maskedWrite =>
    intro m tm s ready masked
    exact congrArg Host.Outcome.next (serveCall_fail ready rfl (if_pos (bne_iff_ne.mpr masked)))
  case rearm =>
    intro m tm s ready may link
    refine congrArg Host.Outcome.next (serveCall_done ready rfl (if_neg ?_))
    simp only [State.adv_fio, may, link, Bool.not_true, Bool.or_self, Bool.false_eq_true, not_false_eq_true]
  case diag =>
    intro m tm s ready idle named reserved warn off common link
    refine ⟨_, _, execFioDiag_of_idle ready idle named reserved warn off common link, rfl, rfl, rfl, rfl, ?hidden,
      ?wait, rfl⟩
    case hidden => exact (congrArg Mbx.hidden (vector_set_self _ _ _)).trans (hidden_of_callReady ready)
    case wait => exact congrArg Mbx.wait (vector_set_self _ _ _)
  case setTime =>
    intro m tm s ready allowed master
    exact ⟨_, execPtpSetTime_of_master ready allowed master, State.gotAnswer_answer ..,
      (State.timeStep_nt _ _).trans (moved_to _ _), State.timeStep_axes _ _⟩
  case noSetTime => exact fun m tm s ready against => execPtpSetTime_of_not_master ready against
  case switch =>
    intro m tm s ready active standby run
    refine congrArg Host.Outcome.next (serveCall_done ready rfl (if_pos ?_))
    simp only [State.adv_twin, active, standby, run, beq_self_eq_true, decide_true, Bool.and_self]
  case rejoin =>
    intro m tm s ready isolated
    exact ⟨_, congrArg Host.Outcome.next (serveCall_done ready rfl (if_pos (beq_iff_eq.mpr isolated))),
      State.startSyncing_state _, State.gotAnswer_answer ..⟩
  case take =>
    intro m tm s ready syncing
    exact ⟨_, congrArg Host.Outcome.next (serveCall_done ready rfl (if_pos (beq_iff_eq.mpr syncing))),
      State.becomeActive_state _, State.gotAnswer_answer ..⟩
  case clearAll =>
    intro m tm s ready reserved isCode isInst gone
    simp only [forall_and] at gone
    obtain ⟨ordinary, fresh, off⟩ := gone
    have cleared := execFlogClear_of_no_cause ready reserved isCode isInst (fun wild => absurd rfl wild)
      (State.clearOn_of_all_off (s := s.adv tm) off _ _)
    rw [State.clearFaults_all (s := s.adv tm) ordinary off, FaultSt.clearable_all ordinary fresh] at cleared
    exact cleared
  case clearSafety =>
    intro m tm x s ready reserved isCode isInst exactCode exactInst inForce fresh safety
    exact execFlogClear_of_safety ready reserved isCode isInst exactCode exactInst inForce fresh safety
  case clearOne =>
    intro m tm code inst s ready reserved isCode isInst exactCode exactInst ordinary gone
    have cleared := execFlogClear_of_no_cause ready reserved isCode isInst (fun _ _ => ordinary) gone
    rw [FaultSt.clearable_exact exactCode exactInst ordinary] at cleared
    exact cleared

end Sys2Proof.Machine

namespace Sys2Proof.Machine

/-! ## Axis calls that check the axis (R136, R218, R227, R230, R241, R246). -/

/-! What device time leaves as it was. -/

@[simp] theorem State.adv_pN (s : State) (tm id : Nat) : (s.adv tm).pN id = s.pN id := (rfl)

@[simp] theorem State.adv_motType (s : State) (tm a : Nat) : (s.adv tm).motType a = s.motType a := (rfl)

@[simp] theorem State.adv_inPhase (s : State) (tm : Nat) (a : Fin 128) (ph : ComPhase) :
    (s.adv tm).inPhase a ph = s.inPhase a ph := (rfl)

@[simp] theorem State.answer_axes (s : State) (m : Fin 16) (st d : Nat) (pay : List Byte) :
    (s.answer m st d pay).axes = s.axes := rfl

/-! What stands before an axis call's own conditions, in its parts, and how a call that passes it ends. -/

section
variable {s t : State} {m : Fin 16} {a : Fin 128} {tm cls idx n : Nat}

theorem axisId_of_axisReady (h : s.axisReady m a cls idx n = true) :
    fld s.mbx[m].payload 0 4 = cls * 2 ^ 24 + a.val * 2 ^ 16 + idx := by
  simp only [State.axisReady, State.ready, State.holds, Bool.and_eq_true, decide_eq_true_eq] at h
  obtain ⟨⟨⟨⟨-, hit⟩, -⟩, -⟩, -⟩ := h
  exact hit

theorem axisNo_of_axisReady (small : idx < 65536) (h : s.axisReady m a cls idx n = true) :
    axisNo (idInst (fld s.mbx[m].payload 0 4)) = a := by
  obtain ⟨-, -, inst⟩ := axis_id small (axisId_of_axisReady h)
  rw [inst, axisNo_val]

theorem length_of_axisReady (h : s.axisReady m a cls idx n = true) : s.mbx[m].payload.length = 4 + n := by
  simp only [State.axisReady, Bool.and_eq_true, beq_iff_eq] at h
  obtain ⟨⟨-, length⟩, -⟩ := h
  exact length

/-- A standby refuses every axis call (R389), so a device that refuses none drives its axes. -/
theorem drives_of_axisReady (axisClass : cls ≠ 0xB0) (h : s.axisReady m a cls idx n = true) : s.drives = true := by
  simp only [State.axisReady, Bool.and_eq_true] at h
  obtain ⟨-, taken⟩ := h
  have isClass : idClass (cls * 2 ^ 24) = cls := by
    simp only [idClass]
    omega
  simp only [State.standbyRefuses, isClass, bne_iff_ne.mpr axisClass, Bool.and_true, Bool.not_not] at taken
  exact taken

/-- The command that the mailbox holds is the call of this class and index, whatever its number of arguments. -/
theorem ready_of_axisReady (small : idx < 65536) (h : s.axisReady m a cls idx n = true) :
    s.ready m 0x10 (fun p => idClass (fld p 0 4) = cls && idIndex (fld p 0 4) = idx &&
      decide (idInst (fld p 0 4) < 128)) 1 = true := by
  obtain ⟨isClass, isIndex, isInst⟩ := axis_id small (axisId_of_axisReady h)
  simp only [State.axisReady, State.ready, State.holds, Bool.and_eq_true, decide_eq_true_eq] at h ⊢
  obtain ⟨⟨⟨⟨held, -⟩, free⟩, -⟩, -⟩ := h
  exact ⟨⟨held, ⟨isClass, isIndex⟩, isInst ▸ a.isLt⟩, free⟩

variable {act : Fin 128 → State → List Byte → Served}

theorem serveAxis_done (small : idx < 65536) (h : s.axisReady m a cls idx n = true) {pay : List Byte}
    (done : act a (s.adv tm) (callArgs s.mbx[m].payload) = .done t pay) :
    s.serveAxis m tm cls idx n act = t.answer m stOk 0 pay := by
  rw [serveAxis_ready tm small act _ h rfl, done, State.settle]

theorem serveAxis_fail (small : idx < 65536) (h : s.axisReady m a cls idx n = true) {st d : Nat} {pay : List Byte}
    (fail : act a (s.adv tm) (callArgs s.mbx[m].payload) = .fail st d pay) :
    s.serveAxis m tm cls idx n act = (s.adv tm).answer m st d pay := by
  rw [serveAxis_ready tm small act _ h rfl, fail, State.settle]

theorem serveAxis_wait (small : idx < 65536) (h : s.axisReady m a cls idx n = true) {w : Wait}
    (wait : act a (s.adv tm) (callArgs s.mbx[m].payload) = .wait t w) :
    s.serveAxis m tm cls idx n act = t.modMbx m fun b => { b with wait := w } := by
  rw [serveAxis_ready tm small act _ h rfl, wait, State.settle]

end

section
variable {m : Fin 16} {tm : Nat} {a : Fin 128} {s : State}

/-! AX.COM.HALL_LEARN (R136). -/

/-- What AX.COM.HALL_LEARN answers with STATE. -/
def State.learnBarred (s : State) (a : Fin 128) : Bool :=
  s.axes[a].state != .ready || decide (s.motType a.val ≠ 1) || s.axes[a].com.learn.isSome

theorem execAxComHallLearn_of_free (call : s.axisReady m a 0x11 0xF001 0 = true) (free : s.learnBarred a = false) :
    execAxComHallLearn m tm s = .next (((s.adv tm).modCom a fun c =>
      { c with learn := some { n := 0, stepFrom := max s.nt tm } }).modMbx m fun b =>
        { b with wait := .call (0x1100F001 + a.val * 0x10000) }) := by
  refine congrArg Host.Outcome.next (serveAxis_wait (by decide) call (if_neg ?_))
  exact Bool.eq_false_iff.mp free

theorem execAxComHallLearn_of_barred (call : s.axisReady m a 0x11 0xF001 0 = true) (barred : s.learnBarred a = true) :
    execAxComHallLearn m tm s = .next ((s.adv tm).answer m stState 0 []) := by
  refine congrArg Host.Outcome.next (serveAxis_fail (by decide) call (if_pos ?_))
  exact barred

/-! AX.INJ.START (R218). -/

/-- The injection that a call starts: the parameters of the axis, from the beginning. -/
def State.newInjection (s : State) (a : Fin 128) (e : EngSt) : EngSt :=
  { e with
    inj := .running, injCause := 0, injPoint := s.pN (Pid.axInjPoint a.val), injShape := s.pN (Pid.axInjShape a.val)
    injAmp := s.pF (Pid.axInjAmp a.val), injTime := s.pN (Pid.axInjTime a.val)
    injF0 := s.pF (Pid.axInjF0 a.val), injF1 := s.pF (Pid.axInjF1 a.val), injN := s.pN (Pid.axInjPrbsN a.val)
    injHold := s.pN (Pid.axInjPrbsHold a.val), injFrames := 0, injPhase := 0
    prbs := 2 ^ s.pN (Pid.axInjPrbsN a.val) - 1, injS := 0, injAccept := s.nt }

/-- What AX.INJ.START answers with STATE. -/
def State.injBarred (s : State) (a : Fin 128) : Bool :=
  s.axes[a].eng.inj == .running || (s.axes[a].state != .run && s.axes[a].state != .hold) ||
    s.injBypassed a (s.pN (Pid.axInjPoint a.val)) || s.reducedAt a

theorem State.injBarred_of_fitting (idle : s.axes[a].eng.inj ≠ .running)
    (moves : s.axes[a].state = .run ∨ s.axes[a].state = .hold)
    (acts : s.injBypassed a (s.pN (Pid.axInjPoint a.val)) = false) (full : s.reducedAt a = false) :
    s.injBarred a = false := by
  have moves' : (s.axes[a].state != .run && s.axes[a].state != .hold) = false := by
    rcases moves with run | hold
    · rw [run, bne_self_eq_false, Bool.false_and]
    · rw [hold, bne_self_eq_false, Bool.and_false]
  rw [State.injBarred, beq_eq_false_iff_ne.mpr idle, moves', acts, full]
  rfl

theorem State.adv_injBarred (tm : Nat) : (s.adv tm).injBarred a = s.injBarred a := by
  simp only [State.injBarred, State.injBypassed, State.reducedAt, State.adv_pN, State.adv_motType, State.adv_axes,
    State.adv_frame]
  rfl

theorem execAxInjStart_of_free (call : s.axisReady m a 0x17 0xF001 0 = true) (free : s.injBarred a = false) :
    execAxInjStart m tm s = .next (((s.adv tm).modAxis a fun x =>
      { x with eng := (s.adv tm).newInjection a x.eng }).answer m stOk 0 []) := by
  refine congrArg Host.Outcome.next (serveAxis_done (by decide) call (if_neg ?_))
  exact Bool.eq_false_iff.mp ((State.adv_injBarred tm).trans free)

theorem execAxInjStart_of_barred (call : s.axisReady m a 0x17 0xF001 0 = true) (barred : s.injBarred a = true) :
    execAxInjStart m tm s = .next ((s.adv tm).answer m stState 0 []) := by
  refine congrArg Host.Outcome.next (serveAxis_fail (by decide) call (if_pos ?_))
  exact (State.adv_injBarred tm).trans barred

/-! AX.PRF.APPEND (R230). -/

/-- Entries that pass every check are appended all together, or none of them where they do not fit into the queue. -/
theorem execAxPrfAppend_of_parsed {n : Nat} {es : List QEntry} (call : s.axisReady m a 0x18 0xF001 (4 + 28 * n) = true)
    (count : s.arg m 0 1 = n) (reserved : s.arg m 1 3 = 0) (nonempty : 1 ≤ n) (few : n ≤ 8)
    (parsed : (s.adv tm).parseQueue a n s.axes[a].prf.nextId ((callArgs s.mbx[m].payload).drop 4) = some es)
    (checked : (s.adv tm).appendCheck a es = stOk) :
    execAxPrfAppend m tm s = .next ((s.adv tm).settle m (
      if 8 < s.axes[a].prf.queue.length + n then .fail stFull
      else .done ((s.adv tm).modPrf a fun y =>
          { y with queue := y.queue ++ es, nextId := (y.nextId + n) % 65536, reached := false, inWinFrom := none })
        (leBytes 2 s.axes[a].prf.nextId ++ leBytes 1 (8 - (s.axes[a].prf.queue.length + n))))) := by
  have count' : fld (callArgs s.mbx[m].payload) 0 1 = n := count
  have reserved' : fld (callArgs s.mbx[m].payload) 1 3 = 0 := reserved
  have length : s.mbx[m].payload.length = 8 + 28 * n := by
    rw [length_of_axisReady call]
    omega
  have drives : (s.adv tm).drives = true := drives_of_axisReady (by decide) call
  refine congrArg Host.Outcome.next ((serve_ready tm _ _ (ready_of_axisReady (by decide) call) rfl).trans
    (congrArg _ ?_))
  simp only [axisNo_of_axisReady (by decide) call, count', reserved', length, nonempty, few, and_self, decide_true,
    Bool.and_self, if_true, State.adv_axes, parsed, checked, drives, withState]
  rfl

/-! AX.HOM.START (R227, R241). -/

/-- The homing switch is a field input of a bank that is not in continuous mode (R241). -/
def State.homSwitchBarred (s : State) (a : Fin 128) : Bool :=
  s.pN (Pid.axHomSwSrc a.val) != 0 && s.pN (Pid.fioBMode ((s.pN (Pid.axHomSwSrc a.val) - 1) / 8)) != 0

/-- What AX.HOM.START answers with STATE. -/
def State.homBarred (s : State) (a : Fin 128) : Bool :=
  decide (s.axes[a].prf.mode ≠ 4) || !s.axes[a].prf.queue.isEmpty || s.axes[a].state != .hold ||
    s.homSwitchBarred a || decide (s.axes[a].hom.phase ≠ 0) || decide (s.axes[a].gea.stat ≠ 0) ||
    (decide (s.pN (Pid.axFbkSource a.val) = 0) && decide (s.pN (Pid.axHomMethod a.val) ≠ 0))

theorem State.homSwitchBarred_eq_false
    (switch : s.pN (Pid.axHomSwSrc a.val) = 0 ∨ s.pN (Pid.fioBMode ((s.pN (Pid.axHomSwSrc a.val) - 1) / 8)) = 0) :
    s.homSwitchBarred a = false := by
  rw [State.homSwitchBarred, Bool.and_eq_false_iff, bne_eq_false_iff_eq, bne_eq_false_iff_eq]
  exact switch

theorem State.homBarred_of_mode_or_motion
    (against : s.axes[a].prf.mode ≠ 4 ∨ s.axes[a].state ≠ .hold ∨ s.axes[a].prf.queue ≠ []) :
    s.homBarred a = true := by
  simp only [State.homBarred, Bool.or_eq_true, decide_eq_true_eq, Bool.not_eq_true', List.isEmpty_eq_false_iff,
    bne_iff_ne]
  tauto

theorem State.adv_homBarred (tm : Nat) : (s.adv tm).homBarred a = s.homBarred a := by
  simp only [State.homBarred, State.homSwitchBarred, State.adv_pN, State.adv_axes]
  rfl

theorem execAxHomStart_of_free (call : s.axisReady m a 0x19 0xF001 0 = true) (free : s.homBarred a = false) :
    execAxHomStart m tm s = .next (((s.adv tm).modHom a fun h => { h with startReq := true }).answer m stOk 0 []) := by
  refine congrArg Host.Outcome.next (serveAxis_done (by decide) call (if_neg ?_))
  exact Bool.eq_false_iff.mp ((State.adv_homBarred tm).trans free)

theorem execAxHomStart_of_barred (call : s.axisReady m a 0x19 0xF001 0 = true) (barred : s.homBarred a = true) :
    execAxHomStart m tm s = .next ((s.adv tm).answer m stState 0 []) := by
  refine congrArg Host.Outcome.next (serveAxis_fail (by decide) call (if_pos ?_))
  exact (State.adv_homBarred tm).trans barred

/-! AX.GEA.ENGAGE (R227, R245, R246). -/

/-- The chain of masters closes on itself or is too long with this axis in it. -/
def State.gearChainBad (s : State) (a : Fin 128) : Bool :=
  (s.gearChain a 6 a).2 || decide (4 < (s.gearChain a 6 a).1 + s.gearBelow 5 a)

/-- What AX.GEA.ENGAGE answers with STATE. -/
def State.gearBarred (s : State) (a : Fin 128) : Bool :=
  decide (s.axes[a].prf.mode ≠ 4) || !s.axes[a].prf.queue.isEmpty || s.axes[a].state != .hold ||
    decide (s.axes[a].hom.phase ≠ 0) || s.axes[a].hom.startReq || decide (s.axes[a].gea.stat ≠ 0) ||
    decide (s.pN (Pid.axFbkSource a.val) = 0)

theorem State.adv_gearChain (tm : Nat) : ∀ (n : Nat) (b : Fin 128), (s.adv tm).gearChain a n b = s.gearChain a n b
  | 0, _ => rfl
  | n + 1, b => by
    simp only [State.gearChain, State.adv_pN, State.adv_axes, State.adv_gearChain tm n]

theorem State.adv_gearBelow (tm : Nat) : ∀ (n : Nat) (b : Fin 128), (s.adv tm).gearBelow n b = s.gearBelow n b
  | 0, _ => rfl
  | n + 1, b => by
    simp only [State.gearBelow, State.adv_pN, State.adv_axes, State.adv_gearBelow tm n]
    rfl

theorem State.adv_gearChainBad (tm : Nat) : (s.adv tm).gearChainBad a = s.gearChainBad a := by
  simp only [State.gearChainBad, State.adv_gearChain, State.adv_gearBelow]

theorem State.adv_gearBarred (tm : Nat) : (s.adv tm).gearBarred a = s.gearBarred a := by
  simp only [State.gearBarred, State.adv_pN, State.adv_axes]
  rfl

theorem execAxGeaEngage_of_free (call : s.axisReady m a 0x1A 0xF001 0 = true) (chain : s.gearChainBad a = false)
    (free : s.gearBarred a = false) :
    execAxGeaEngage m tm s = .next (((s.adv tm).modGea a fun g => { g with engReq := true }).answer m stOk 0 []) := by
  refine congrArg Host.Outcome.next (serveAxis_done (by decide) call ((if_neg ?_).trans (if_neg ?_)))
  · exact Bool.eq_false_iff.mp ((State.adv_gearChainBad tm).trans chain)
  · exact Bool.eq_false_iff.mp ((State.adv_gearBarred tm).trans free)

theorem execAxGeaEngage_of_chain (call : s.axisReady m a 0x1A 0xF001 0 = true) (bad : s.gearChainBad a = true) :
    execAxGeaEngage m tm s = .next ((s.adv tm).answer m stRange 0 []) := by
  refine congrArg Host.Outcome.next (serveAxis_fail (by decide) call (if_pos ?_))
  exact (State.adv_gearChainBad tm).trans bad

end

/-- Settles O15: nothing is against each of these calls, so it comes to the branch of its own that its premises name. -/
theorem axisCallsThatCheckTheAxis : Obligations.AxisCallsThatCheckTheAxis := by
  unfold Obligations.AxisCallsThatCheckTheAxis
  refine ⟨?learn, ?noLearn, ?inject, ?injecting, ?append, ?appendFull, ?home, ?noHome, ?engage, ?badChain⟩
  case learn =>
    intro m tm a s call ready bldc idle
    refine execAxComHallLearn_of_free call ?_
    rw [State.learnBarred, ready, bldc, idle]
    rfl
  case noLearn =>
    intro m tm a s call notReady
    refine execAxComHallLearn_of_barred call ?_
    rw [State.learnBarred, bne_iff_ne.mpr notReady, Bool.true_or, Bool.true_or]
  case inject =>
    intro m tm a s call idle moves acts full
    refine ⟨_, execAxInjStart_of_free call (State.injBarred_of_fitting idle moves acts full),
      State.gotAnswer_answer .., ?_⟩
    rw [State.answer_axes, State.modAxis_self]
    exact ⟨rfl, State.adv_pN .., State.adv_pN .., rfl, State.adv_pN .., congrArg (2 ^ · - 1) (State.adv_pN ..), rfl,
      fun b other => State.modAxis_of_ne _ _ other⟩
  case injecting =>
    intro m tm a s call running
    refine execAxInjStart_of_barred call ?_
    rw [State.injBarred, beq_iff_eq.mpr running, Bool.true_or, Bool.true_or, Bool.true_or]
  case append =>
    intro m tm n a es s call count reserved nonempty fits parsed checked
    refine (execAxPrfAppend_of_parsed call count reserved nonempty (by omega) parsed checked).trans ?_
    rw [if_neg (not_lt.mpr fits)]
    rfl
  case appendFull =>
    intro m tm n a es s call count reserved nonempty few exceeds parsed checked
    refine (execAxPrfAppend_of_parsed call count reserved nonempty few parsed checked).trans ?_
    rw [if_pos exceeds]
    rfl
  case home =>
    intro m tm a s call mode empty hold switch idle ungeared source
    refine execAxHomStart_of_free call ?_
    have source' : (decide (s.pN (Pid.axFbkSource a.val) = 0) && decide (s.pN (Pid.axHomMethod a.val) ≠ 0)) = false :=
      Bool.and_eq_false_iff.mpr (source.imp decide_eq_false fun direct => decide_eq_false (not_not.mpr direct))
    rw [State.homBarred, mode, empty, hold, State.homSwitchBarred_eq_false switch, idle, ungeared, source']
    rfl
  case noHome =>
    exact fun m tm a s call against => execAxHomStart_of_barred call (State.homBarred_of_mode_or_motion against)
  case engage =>
    intro m tm a s call open_ short mode empty hold idle unasked ungeared source
    refine execAxGeaEngage_of_free call ?chain ?free
    case chain => exact Bool.or_eq_false_iff.mpr ⟨open_, decide_eq_false (not_lt.mpr short)⟩
    case free =>
      rw [State.gearBarred, mode, empty, hold, idle, unasked, ungeared, decide_eq_false source]
      rfl
  case badChain =>
    intro m tm a s call bad
    exact execAxGeaEngage_of_chain call (Bool.or_eq_true_iff.mpr (bad.imp_right decide_eq_true))

end Sys2Proof.Machine

namespace Sys2Proof.Machine

/-! ## The start of a sensorless axis (R146 to R152). -/

@[simp] theorem State.adv_slPct (s : State) (tm : Nat) (a : Fin 128) (pct : Nat) :
    (s.adv tm).slPct a pct = s.slPct a pct := (rfl)

@[simp] theorem State.adv_fRated (s : State) (tm a : Nat) : (s.adv tm).fRated a = s.fRated a := (rfl)

/-! A change of the commutation state of an axis. -/

section
variable (s : State) (a : Fin 128) (f : ComSt → ComSt)

theorem State.modCom_axis : (s.modCom a f).axes[a] = { s.axes[a] with com := f s.axes[a].com } := s.modAxis_self a _

theorem State.modCom_self : (s.modCom a f).axes[a].com = f s.axes[a].com := congrArg Axis.com (s.modCom_axis a f)

theorem State.modCom_state : (s.modCom a f).axes[a].state = s.axes[a].state := by
  rw [State.modCom_axis]

theorem State.modCom_pN (id : Nat) : (s.modCom a f).pN id = s.pN id := (rfl)

theorem State.modCom_slPct (b : Fin 128) (pct : Nat) : (s.modCom a f).slPct b pct = s.slPct b pct := (rfl)

theorem State.modCom_of_ne {b : Fin 128} (other : b ≠ a) : (s.modCom a f).axes[b] = s.axes[b] :=
  s.modAxis_of_ne _ other

end

section
variable {a : Fin 128} {tm : Nat} {s : State}

theorem execCatchListenEnd_unheard (listening : s.inPhase a .listen = true) (unheard : s.axes[a].com.heard = [])
    (quiet : s.axes[a].com.listenFrom + ms (s.pN (Pid.axComCatchQuiet a.val)) ≤ max s.nt tm) :
    execCatchListenEnd a tm s = .next (((s.adv tm).modCom a fun c => { c with catchSpeed := 0 }).enterIpd a 1) := by
  have few : ¬ 3 ≤ ([] : List Crossing).length := by decide
  simp only [execCatchListenEnd, State.adv_inPhase, State.adv_pN, State.adv_axes, State.adv_nt, unheard, listening,
    List.reverse_nil, quiet, few, decide_true, decide_false,
    Bool.false_and, Bool.or_true, Bool.not_true, Bool.not_false, Bool.or_self, Bool.false_eq_true, if_true, if_false]

/-- What follows when three crossings have been heard (R147): the rotor is caught when it turns fast enough along the
request, braked when it turns fast enough against it, and else started from rest. -/
def State.afterListen (s : State) (a : Fin 128) (now : Nat) (f pct sg : Rat) (along : Bool) (u : State) : State :=
  if along && decide (100 * s.slPct a (s.pN (Pid.axComCatchMin a.val)) ≤ pct) then
    (u.catchForward a f).event 0x1101 a.val (ofSigned 32 (roundAway (sg * 100)))
  else if !along && decide (100 * s.slPct a (s.pN (Pid.axComBrakeMin a.val)) ≤ pct) then
    u.modCom a fun c => { c.coast .brake with brakeFrom := now }
  else u.enterIpd a 1

theorem execCatchListenEnd_heard {f pct sg : Rat} (listening : s.inPhase a .listen = true)
    (three : 3 ≤ s.axes[a].com.heard.length)
    (long : s.axes[a].com.listenFrom + ms (s.pN (Pid.axComCatchListen a.val)) ≤ max s.nt tm)
    (hf : hz60 (meanNat (heard60 s.axes[a].com.heard)) = f)
    (hpct : (if s.fRated a.val = 0 then 0 else 100 * f / s.fRated a.val) = pct)
    (hsg : (if heardForward s.axes[a].com.heard then pct else -pct) = sg) :
    execCatchListenEnd a tm s = .next (s.afterListen a (max s.nt tm) f pct sg
      (heardForward s.axes[a].com.heard != s.axes[a].com.neg)
      ((s.adv tm).modCom a fun c => { c with catchSpeed := sg })) := by
  subst hf hpct hsg
  simp only [execCatchListenEnd, State.adv_inPhase, State.adv_pN, State.adv_axes, State.adv_nt, listening, three, long,
    decide_true, Bool.and_self, Bool.true_or, Bool.not_true, Bool.or_self, Bool.false_eq_true, if_false,
    State.afterListen, State.modCom_slPct, State.modCom_pN, State.adv_slPct, State.adv_fRated]
  rfl

section
variable {now : Nat} {f pct sg : Rat} {u : State}

theorem State.afterListen_caught (fast : 100 * s.slPct a (s.pN (Pid.axComCatchMin a.val)) ≤ pct) :
    s.afterListen a now f pct sg true u =
      (u.catchForward a f).event 0x1101 a.val (ofSigned 32 (roundAway (sg * 100))) := by
  simp only [State.afterListen, fast, decide_true, Bool.and_self, if_true]

theorem State.afterListen_braked (fast : 100 * s.slPct a (s.pN (Pid.axComBrakeMin a.val)) ≤ pct) :
    s.afterListen a now f pct sg false u = u.modCom a fun c => { c.coast .brake with brakeFrom := now } := by
  simp only [State.afterListen, fast, decide_true, Bool.false_and, Bool.not_false, Bool.and_self, Bool.false_eq_true,
    if_true, if_false]

/-- Too slow in its direction, the rotor is started from rest. -/
theorem State.afterListen_slow {along : Bool}
    (slow : pct < 100 * s.slPct a (s.pN (if along then Pid.axComCatchMin a.val else Pid.axComBrakeMin a.val))) :
    s.afterListen a now f pct sg along u = u.enterIpd a 1 := by
  simp only [State.afterListen]
  cases along with
  | true =>
    have slow' : ¬ 100 * s.slPct a (s.pN (Pid.axComCatchMin a.val)) ≤ pct := not_le.mpr slow
    simp only [slow', decide_false, Bool.and_false, Bool.not_true, Bool.false_and, Bool.false_eq_true, if_false]
  | false =>
    have slow' : ¬ 100 * s.slPct a (s.pN (Pid.axComBrakeMin a.val)) ≤ pct := not_le.mpr slow
    simp only [slow', decide_false, Bool.and_false, Bool.false_and, Bool.false_eq_true, if_false]

end

theorem execBrakeOnElapsed_due (braking : s.inPhase a .brake = true)
    (due : s.axes[a].com.brakeFrom + ms (s.pN (Pid.axComBrakeOn a.val)) ≤ max s.nt tm) :
    execBrakeOnElapsed a tm s = .next (((s.adv tm).modCom a fun c =>
      { c with brakeTotal := c.brakeTotal + (max s.nt tm - c.brakeFrom) }).enterListen a) := by
  simp only [execBrakeOnElapsed, State.adv_inPhase, State.adv_pN, State.adv_axes, State.adv_nt, braking, due,
    decide_true, Bool.and_self, if_true]

theorem execBrakeTimeout_long (braking : s.inPhase a .brake = true)
    (long : ms (s.pN (Pid.axComBrakeTmax a.val)) < s.axes[a].com.brakeTotal + (max s.nt tm - s.axes[a].com.brakeFrom)) :
    execBrakeTimeout a tm s = .next ((s.adv tm).raise 0x1032 a.val [a]) := by
  simp only [execBrakeTimeout, State.adv_inPhase, State.adv_pN, State.adv_axes, State.adv_nt, braking, long,
    decide_true, Bool.and_self, if_true, State.raiseAx]

/-- The largest test pulse leads the opposite one by the margin (R150). -/
def State.ipdClear (s : State) (a : Fin 128) : Bool :=
  decide ((s.pN (Pid.axComIpdMargin a.val) : Rat) / 100 * s.axes[a].com.ipdI[fin 6 (by decide) s.axes[a].com.ipdMax] ≤
    s.axes[a].com.ipdI[fin 6 (by decide) s.axes[a].com.ipdMax] -
      s.axes[a].com.ipdI[fin 6 (by decide) (s.axes[a].com.ipdMax + 3)])

theorem execIpdDone_tested (testing : s.inPhase a .ipd = true) (all : 18 ≤ s.axes[a].com.ipdFrame) :
    execIpdDone a tm s = .next (
      if s.ipdClear a then
        ((s.adv tm).modCom a fun c => { c with ipdResult := s.axes[a].com.ipdMax + b2n (s.ipdClear a) * 8 }).enterRamp a
          (s.axes[a].com.startFrom s.axes[a].com.ipdMax)
      else
        ((s.adv tm).modCom a fun c => { c with ipdResult := s.axes[a].com.ipdMax + b2n (s.ipdClear a) * 8 }).enterAlign
          a) := by
  simp only [execIpdDone, State.adv_inPhase, State.adv_pN, State.adv_axes, testing, not_lt.mpr all, decide_false,
    Bool.not_true, Bool.or_self, Bool.false_eq_true, if_false, State.ipdClear]
  rfl

theorem execAlignElapsed_due (aligning : s.inPhase a .align = true)
    (due : s.axes[a].com.alignFrom + ms (s.pN (Pid.axComAlignT a.val)) ≤ max s.nt tm) :
    execAlignElapsed a tm s =
      .next ((s.adv tm).enterRamp a (s.axes[a].com.startFrom (s.pN (Pid.axComStartSector a.val)))) := by
  simp only [execAlignElapsed, State.adv_inPhase, State.adv_pN, State.adv_axes, State.adv_nt, aligning, due,
    decide_true, Bool.and_self, if_true]

theorem execStartZcReached_enough (ramping : s.inPhase a .ramp = true)
    (enough : s.pN (Pid.axComStartZc a.val) ≤ s.axes[a].com.rampZc) :
    execStartZcReached a tm s = .next (((s.adv tm).enterSensorless a).event 0x1102 a.val
      (s.axes[a].com.startTry + s.axes[a].com.ipdResult * 256)) := by
  simp only [execStartZcReached, State.adv_inPhase, State.adv_pN, State.adv_axes, ramping, enough, decide_true,
    Bool.and_self, if_true]

theorem execStartTryFail_failed (ramping : s.inPhase a .ramp = true)
    (failed : s.axes[a].com.tryFailed (s.pN (Pid.axComStartWin a.val)) (max s.nt tm) = true) :
    execStartTryFail a tm s =
      .next ((s.adv tm).modCom a fun c => { c.coast .pause with pauseFrom := max s.nt tm }) := by
  simp only [execStartTryFail, State.adv_inPhase, State.adv_pN, State.adv_axes, State.adv_nt, ramping, failed,
    Bool.and_self, if_true]

/-- The pause is over (R146): the next try, or the fault after the last. -/
theorem execStartPauseEnd_due (pausing : s.inPhase a .pause = true)
    (due : s.axes[a].com.pauseFrom + ms 50 ≤ max s.nt tm) :
    execStartPauseEnd a tm s = .next (if s.axes[a].com.startTry < 3 then
      (s.adv tm).enterIpd a (s.axes[a].com.startTry + 1) else (s.adv tm).raise 0x1031 a.val [a]) :=
  congrArg Host.Outcome.next (if_pos (Bool.and_eq_true_iff.mpr ⟨pausing, decide_eq_true due⟩))

end

/-- Settles O22: each event finds its phase and its condition, so it comes to the branch that its premises name. -/
theorem sensorlessStartPhases : Obligations.SensorlessStartPhases := by
  unfold Obligations.SensorlessStartPhases
  refine ⟨?unheard, ?brakeOn, ?brakeLong, ?ipdClear, ?ipdUnclear, ?align, ?ramped, ?tryFailed, ?nextTry, ?lastTry,
    ?heard⟩
  case unheard => exact fun a tm s listening unheard quiet => execCatchListenEnd_unheard listening unheard quiet
  case brakeOn => exact fun a tm s braking due => execBrakeOnElapsed_due braking due
  case brakeLong => exact fun a tm s braking long => execBrakeTimeout_long braking long
  case ipdClear =>
    rintro a tm _ s testing all rfl clear
    have lead : s.ipdClear a = true := decide_eq_true clear
    refine (execIpdDone_tested testing all).trans ?_
    rw [lead]
    rfl
  case ipdUnclear =>
    rintro a tm _ s testing all rfl unclear
    have noLead : s.ipdClear a = false := decide_eq_false (not_le.mpr unclear)
    refine (execIpdDone_tested testing all).trans ?_
    rw [noLead]
    rfl
  case align => exact fun a tm s aligning due => execAlignElapsed_due aligning due
  case ramped => exact fun a tm s ramping enough => execStartZcReached_enough ramping enough
  case tryFailed =>
    intro a tm s ramping failed
    exact ⟨_, execStartTryFail_failed ramping failed, congrArg ComSt.phase (State.modCom_self ..),
      congrArg ComSt.pauseFrom (State.modCom_self ..), State.modCom_state ..,
      fun b other => State.modCom_of_ne _ _ _ other⟩
  case nextTry =>
    exact fun a tm s pausing due left =>
      (execStartPauseEnd_due pausing due).trans (congrArg Host.Outcome.next (if_pos left))
  case lastTry =>
    exact fun a tm s pausing due none =>
      (execStartPauseEnd_due pausing due).trans (congrArg Host.Outcome.next (if_neg (not_lt.mpr none)))
  case heard =>
    intro a tm f pct sg s listening three long hf hpct hsg
    have ended := execCatchListenEnd_heard listening three long hf hpct hsg
    refine ⟨_, rfl, fun turns fast => ?caught, fun turns fast => ?braked, fun turns slow => ?slow,
      fun turns slow => ?slowAgainst⟩
    case caught =>
      rw [bne_iff_ne.mpr turns, State.afterListen_caught fast] at ended
      exact ended
    case braked =>
      rw [turns, bne_self_eq_false, State.afterListen_braked fast] at ended
      exact ended
    case slow =>
      rw [bne_iff_ne.mpr turns, State.afterListen_slow (along := true) slow] at ended
      exact ended
    case slowAgainst =>
      rw [turns, bne_self_eq_false, State.afterListen_slow (along := false) slow] at ended
      exact ended

end Sys2Proof.Machine

namespace Sys2Proof.Machine

/-! ## Commutation events (R136, R138, R146, R153, R156, R157). -/

section
variable {a : Fin 128} {tm : Nat} {s : State}

/-! A rotor lost while it runs without sensors (R153). -/

/-- No rotor is lost: the axis does not run without sensors, or too few crossings are missing or far from their
prediction. -/
def State.rotorKept (s : State) (a : Fin 128) : Bool :=
  !s.inPhase a .sensorless || s.axes[a].state != .run ||
    !(decide (2 ≤ s.axes[a].com.missRun) || decide (3 ≤ s.axes[a].com.offRun))

/-- The re-catches of the last second (R153). -/
def State.recatches (s : State) (a : Fin 128) (now : Nat) : List Nat := within (secs 1) now s.axes[a].com.recatchAt

theorem State.rotorKept_eq_false (sensorless : s.inPhase a .sensorless = true) (run : s.axes[a].state = .run)
    (lost : 2 ≤ s.axes[a].com.missRun ∨ 3 ≤ s.axes[a].com.offRun) : s.rotorKept a = false := by
  have lost' : (decide (2 ≤ s.axes[a].com.missRun) || decide (3 ≤ s.axes[a].com.offRun)) = true :=
    Bool.or_eq_true_iff.mpr (lost.imp decide_eq_true decide_eq_true)
  rw [State.rotorKept, sensorless, run, lost', bne_self_eq_false]
  rfl

theorem State.adv_rotorKept (s : State) (tm : Nat) (a : Fin 128) : (s.adv tm).rotorKept a = s.rotorKept a := (rfl)

theorem State.adv_not_rotorKept (lost : s.rotorKept a = false) : ¬ (s.adv tm).rotorKept a = true :=
  Bool.eq_false_iff.mp ((State.adv_rotorKept s tm a).trans lost)

theorem execRotorLost_to_hall (lost : s.rotorKept a = false) (hall : s.pN (Pid.axComSource a.val) = 2) :
    execRotorLost a tm s = .next ((((s.adv tm).raise 0x1036 a.val [a]).enterHall a).modAxis a fun x =>
      { x with eng := { x.eng with coastNext := true } }) :=
  (if_neg (State.adv_not_rotorKept lost)).trans (if_pos ((State.adv_pN ..).trans hall))

theorem execRotorLost_too_often (lost : s.rotorKept a = false) (noHall : s.pN (Pid.axComSource a.val) ≠ 2)
    (often : 3 ≤ (s.recatches a (max s.nt tm)).length) :
    execRotorLost a tm s = .next ((s.adv tm).raise 0x1034 a.val [a]) :=
  ((if_neg (State.adv_not_rotorKept lost)).trans (if_neg ((State.adv_pN ..).trans_ne noHall))).trans (if_pos often)

theorem execRotorLost_recatch (lost : s.rotorKept a = false) (noHall : s.pN (Pid.axComSource a.val) ≠ 2)
    (seldom : (s.recatches a (max s.nt tm)).length < 3) :
    execRotorLost a tm s = .next ((((s.adv tm).modCom a fun c => { c with
      recatchAt := max s.nt tm :: s.recatches a (max s.nt tm), recatch := count32 c.recatch,
      brakeTotal := 0 }).enterListen a).event 0x1103 a.val
        ((s.recatches a (max s.nt tm)).length + 1 + b2n (!decide (2 ≤ s.axes[a].com.missRun)) * 256)) :=
  ((if_neg (State.adv_not_rotorKept lost)).trans (if_neg ((State.adv_pN ..).trans_ne noHall))).trans
    (if_neg (not_le.mpr seldom))

/-! COAST_STOP ends (R146). -/

/-- The axis at the end of COAST_STOP: READY or OFF, or in FAULT with its stop done. -/
def Axis.coastOver (x : Axis) : Axis :=
  { x with
    com := x.com.coast .none
    state := if x.state == .stop || x.state == .run then (if x.enable then .ready else .off) else x.state
    eng := { x.eng with st := x.eng.st.rest }
    rea := { x.rea with stopDone := true, coasted := x.rea.coasted || x.state == .fault } }

theorem execCoastStopQuiet_due (stopping : s.inPhase a .coastStop = true)
    (due : max s.axes[a].com.coastFrom (s.axes[a].com.zcAt.getD 0) + ms (s.pN (Pid.axComCatchQuiet a.val)) ≤
      max s.nt tm) :
    execCoastStopQuiet a tm s = .next ((s.adv tm).modAxis a Axis.coastOver) := by
  simp only [execCoastStopQuiet, State.adv_inPhase, State.adv_pN, State.adv_axes, State.adv_nt, stopping, due,
    decide_true, Bool.and_self, if_true]
  rfl

theorem Axis.coastOver_state_of_stop {x : Axis} (stop : x.state = .stop) :
    x.coastOver.state = if x.enable then .ready else .off := by
  rw [Axis.coastOver, stop]
  rfl

theorem Axis.coastOver_state_of_fault {x : Axis} (fault : x.state = .fault) : x.coastOver.state = .fault := by
  rw [Axis.coastOver, fault]
  rfl

/-! The steps of HALL_LEARN (R136). -/

section
variable {k : LearnSt}

/-- An axis that has left READY ends the call with STATE: the model's choice (log 143), R136 is silent on it. -/
theorem execHallLearnStep_of_left (learning : s.axes[a].com.learn = some k) (left : s.axes[a].state ≠ .ready) :
    execHallLearnStep a tm s = .next (((s.adv tm).modCom a fun c => { c with learn := none }).callDone
      (0x1100F001 + a.val * 0x10000) stState []) := by
  simp only [execHallLearnStep, State.adv_axes, learning, bne_iff_ne.mpr left, if_true]

theorem execHallLearnStep_of_few (learning : s.axes[a].com.learn = some k) (ready : s.axes[a].state = .ready)
    (due : k.stepFrom + ms (s.pN (Pid.axComAlignT a.val)) ≤ max s.nt tm) (few : k.n < 5) :
    execHallLearnStep a tm s = .next ((s.adv tm).modCom a fun c => { c with
      learn := some { n := k.n + 1, stepFrom := max s.nt tm, seen := k.seen ++ [s.axes[a].com.hallState] } }) := by
  simp only [execHallLearnStep, State.adv_pN, State.adv_axes, State.adv_nt, learning, ready, bne_self_eq_false,
    Bool.false_eq_true, not_lt.mpr due, few, if_true, if_false]

theorem execHallLearnStep_of_last {map res : Nat} (learning : s.axes[a].com.learn = some k)
    (ready : s.axes[a].state = .ready) (due : k.stepFrom + ms (s.pN (Pid.axComAlignT a.val)) ≤ max s.nt tm)
    (last : 5 ≤ k.n)
    (result : learnResult (s.pN (Pid.axComHallMap a.val)) (k.seen ++ [s.axes[a].com.hallState]) = (map, res))
    {u : State} (hu : u = (s.adv tm).modCom a fun c => { c.coast .none with learn := none }) :
    execHallLearnStep a tm s = .next ((if res = 0 then u.markReady none [(Pid.axComHallMap a.val, .num map)]
      else u).callDone (0x1100F001 + a.val * 0x10000) stOk (leBytes 4 map ++ leBytes 1 res)) := by
  simp only [execHallLearnStep, State.adv_pN, State.adv_axes, State.adv_nt, learning, ready, bne_self_eq_false,
    Bool.false_eq_true, not_lt.mpr due, not_lt.mpr last, result, hu, if_false]

end

/-! Current samples (R138) and the induced-voltage ratio (R156, R157). -/

theorem execCurrentBlind_of_run (run : 400 ≤ s.axes[a].com.blindRun) :
    execCurrentBlind a tm s = .next ((s.adv tm).raise 0x1037 a.val [a]) := congrArg Host.Outcome.next (if_pos run)

/-- The window of the check begins again. -/
def ComSt.keCleared (c : ComSt) (now : Nat) : ComSt := { c with keSum := 0, keN := 0, keFrom := now }

/-- A mean of 100 pairs becomes the ratio, and goes to the ageing monitors (R156, R157). -/
def State.keTaken (s : State) (a : Fin 128) (r : Rat) : State :=
  (s.modCom a fun c => { c.keCleared s.nt with keRatio := r }).modAge fun g => { g with
    axes := g.axes.set a { s.age.axes[a] with keSum := s.age.axes[a].keSum + r, keN := s.age.axes[a].keN + 1 } }

theorem State.keTaken_com (r : Rat) :
    (s.keTaken a r).axes[a].com = { s.axes[a].com.keCleared s.nt with keRatio := r } :=
  s.modCom_self a fun c => { c.keCleared s.nt with keRatio := r }

theorem State.keTaken_age (r : Rat) : (s.keTaken a r).age.axes[a] =
    { s.age.axes[a] with keSum := s.age.axes[a].keSum + r, keN := s.age.axes[a].keN + 1 } := vector_set_self ..

theorem execKeRatioUpdate_of_few (due : s.axes[a].com.keFrom + ms 200 ≤ max s.nt tm) (few : s.axes[a].com.keN < 100) :
    execKeRatioUpdate a tm s = .next ((s.adv tm).modCom a fun c => c.keCleared (max s.nt tm)) :=
  (if_neg (not_lt.mpr due)).trans (if_pos few)

theorem execKeRatioUpdate_of_many {r : Rat} (due : s.axes[a].com.keFrom + ms 200 ≤ max s.nt tm)
    (many : 100 ≤ s.axes[a].com.keN) (mean : s.axes[a].com.keSum / (s.axes[a].com.keN : Rat) = r) {u v : State}
    (hu : u = (s.adv tm).keTaken a r)
    (hv : v = if r < 85 / 100 ∨ 115 / 100 < r then u.raise 0x1040 a.val [a] else u) :
    execKeRatioUpdate a tm s = .next (if r < 70 / 100 ∨ 130 / 100 < r then v.raise 0x1041 a.val [a] else v) := by
  subst mean hu hv
  refine ((if_neg (not_lt.mpr due)).trans (if_neg (not_lt.mpr many))).trans ?_
  simp only [Bool.or_eq_true, decide_eq_true_eq]
  rfl

end

/-- Settles O23: each event finds its condition, so it comes to the branch that its premises name. -/
theorem commutationEvents : Obligations.CommutationEvents := by
  unfold Obligations.CommutationEvents
  refine ⟨?missing, ?toHall, ?tooOften, ?coastStop, ?coastFault, ?learnStep, ?learnFails, ?blind, ?keFew, ?keGood,
    ?keFault, ?offPrediction, ?learnt, ?learnLeft, ?keWarning⟩
  case missing =>
    intro a tm s sensorless run miss noHall seldom
    have caught := execRotorLost_recatch (State.rotorKept_eq_false sensorless run (.inl miss)) noHall seldom
    rw [decide_eq_true miss] at caught
    exact caught
  case toHall =>
    exact fun a tm s sensorless run lost hall =>
      execRotorLost_to_hall (State.rotorKept_eq_false sensorless run lost) hall
  case tooOften =>
    exact fun a tm s sensorless run lost noHall often =>
      execRotorLost_too_often (State.rotorKept_eq_false sensorless run lost) noHall often
  case coastStop =>
    intro a tm s stopping stop due
    refine ⟨_, execCoastStopQuiet_due stopping due, ?_⟩
    rw [State.modAxis_self]
    exact ⟨Axis.coastOver_state_of_stop stop, rfl, fun b other => State.modAxis_of_ne (s.adv tm) _ other⟩
  case coastFault =>
    intro a tm s stopping fault due
    refine ⟨_, execCoastStopQuiet_due stopping due, ?_⟩
    rw [State.modAxis_self]
    exact ⟨Axis.coastOver_state_of_fault fault, rfl, rfl⟩
  case learnStep => exact fun a tm k s learning ready few due => execHallLearnStep_of_few learning ready due few
  case learnFails =>
    intro a tm map res k s learning ready last due result failed
    have ended := execHallLearnStep_of_last learning ready due last result rfl
    rw [if_neg failed] at ended
    exact ⟨_, ended, congrArg ComSt.learn (State.modCom_self ..), rfl, rfl⟩
  case blind => exact fun a tm s run => execCurrentBlind_of_run run
  case keFew => exact fun a tm s due few => execKeRatioUpdate_of_few due few
  case keGood =>
    intro a tm r s due many mean low high
    have judged := execKeRatioUpdate_of_many due many mean rfl rfl
    have noWarning : ¬ (r < 85 / 100 ∨ 115 / 100 < r) := not_or.mpr ⟨not_lt.mpr low, not_lt.mpr high⟩
    have noFault : ¬ (r < 70 / 100 ∨ 130 / 100 < r) := by
      rw [not_or, not_lt, not_lt]
      constructor <;> linarith
    rw [if_neg noWarning, if_neg noFault] at judged
    exact ⟨_, judged, congrArg ComSt.keRatio (State.keTaken_com r), congrArg ComSt.keN (State.keTaken_com r), rfl,
      congrArg AgeAx.keSum (State.keTaken_age r), congrArg AgeAx.keN (State.keTaken_age r)⟩
  case keFault =>
    intro a tm r s due many mean fault
    have judged := execKeRatioUpdate_of_many due many mean rfl rfl
    have warning : r < 85 / 100 ∨ 115 / 100 < r :=
      fault.imp (fun low => low.trans (by norm_num)) fun high => lt_trans (by norm_num) high
    rw [if_pos warning, if_pos fault] at judged
    exact ⟨_, judged, congrArg ComSt.keRatio (State.keTaken_com r), rfl⟩
  case offPrediction =>
    intro a tm s sensorless run noMiss off noHall seldom
    have caught := execRotorLost_recatch (State.rotorKept_eq_false sensorless run (.inr off)) noHall seldom
    rw [decide_eq_false (not_le.mpr noMiss)] at caught
    exact caught
  case learnt =>
    exact fun a tm map k s learning ready last due result =>
      execHallLearnStep_of_last learning ready due last result rfl
  case learnLeft => exact fun a tm k s learning left => execHallLearnStep_of_left learning left
  case keWarning =>
    intro a tm r s due many mean low high warning
    have judged := execKeRatioUpdate_of_many due many mean rfl rfl
    rw [if_pos warning, if_neg (not_or.mpr ⟨not_lt.mpr low, not_lt.mpr high⟩)] at judged
    exact ⟨_, judged, congrArg ComSt.keRatio (State.keTaken_com r), rfl⟩

end Sys2Proof.Machine

namespace Sys2Proof.Machine

/-! ## Axis calls whose effect waits for the tick (R190, R200, R215, R218, R237, R238, R240, R244, R247, R302). -/

@[simp] theorem State.adv_fbkLost (s : State) (tm : Nat) (a : Fin 128) : (s.adv tm).fbkLost a = s.fbkLost a := (rfl)

section
variable {m : Fin 16} {tm : Nat} {a : Fin 128} {s : State}

/-- AX.FBK.SET_POS (R190): the position waits while the feedback is neither lost nor estimated. -/
theorem execAxFbkSetPos_of_sure (call : s.axisReady m a 0x1C 0xF001 8 = true) (kept : s.fbkLost a = false)
    (measured : s.axes[a].fbk.estimated = false) :
    execAxFbkSetPos m tm s = .next (((s.adv tm).modAxis a fun x =>
      { x with fbk := { x.fbk with setPos := some (toSigned 64 (s.arg m 0 8)) } }).answer m stOk 0 []) := by
  refine congrArg Host.Outcome.next (serveAxis_done (by decide) call ((if_neg ?lost).trans (if_neg ?estimated)))
  case lost => exact Bool.eq_false_iff.mp ((State.adv_fbkLost ..).trans kept)
  case estimated => exact Bool.eq_false_iff.mp measured

/-! AX.PRF.PAUSE (R154, R237). -/

/-- A pause asks for HOLD (R237), which a BLDC axis that runs without sensors cannot enter (R154). -/
def State.pauseBarred (s : State) (a : Fin 128) : Bool :=
  decide (s.motType a.val = 1) && decide (s.pN (Pid.axComSource a.val) = 1)

theorem State.pauseBarred_eq_false (able : s.motType a.val ≠ 1 ∨ s.pN (Pid.axComSource a.val) ≠ 1) :
    s.pauseBarred a = false :=
  Bool.and_eq_false_iff.mpr (able.imp decide_eq_false decide_eq_false)

theorem State.adv_pauseBarred (s : State) (tm : Nat) (a : Fin 128) : (s.adv tm).pauseBarred a = s.pauseBarred a := by
  rw [State.pauseBarred, State.adv_motType, State.adv_pN, State.pauseBarred]

theorem execAxPrfPause_of_free (call : s.axisReady m a 0x18 0xF004 0 = true) (free : s.pauseBarred a = false) :
    execAxPrfPause m tm s = .next (((s.adv tm).modPrf a fun y =>
      { y with pauseReq := true, reached := false, inWinFrom := none }).answer m stOk 0 []) := by
  refine congrArg Host.Outcome.next (serveAxis_done (by decide) call (if_neg ?_))
  exact Bool.eq_false_iff.mp ((State.adv_pauseBarred ..).trans free)

theorem execAxPrfPause_of_barred (call : s.axisReady m a 0x18 0xF004 0 = true) (barred : s.pauseBarred a = true) :
    execAxPrfPause m tm s = .next ((s.adv tm).answer m stState 0 []) := by
  refine congrArg Host.Outcome.next (serveAxis_fail (by decide) call (if_pos ?_))
  exact (State.adv_pauseBarred ..).trans barred

/-! The ends that are asked for: AX.HOM.ABORT (R244) and AX.GEA.DISENGAGE (R247). -/

/-- Neither under way nor requested: there is nothing to end. -/
theorem idle_eq_false {n : Nat} {req : Bool} (begun : n ≠ 0 ∨ req = true) : ¬ (decide (n = 0) && !req) = true := by
  rw [Bool.and_eq_true, decide_eq_true_eq, Bool.not_eq_true', not_and_or, Bool.not_eq_false]
  exact begun

theorem execAxHomAbort_of_begun (call : s.axisReady m a 0x19 0xF002 0 = true)
    (begun : s.axes[a].hom.phase ≠ 0 ∨ s.axes[a].hom.startReq = true) :
    execAxHomAbort m tm s = .next (((s.adv tm).modHom a fun h => { h with abortReq := true }).answer m stOk 0 []) :=
  congrArg Host.Outcome.next (serveAxis_done (by decide) call (if_neg (idle_eq_false begun)))

theorem execAxGeaDisengage_of_begun (call : s.axisReady m a 0x1A 0xF002 0 = true)
    (begun : s.axes[a].gea.stat ≠ 0 ∨ s.axes[a].gea.engReq = true) :
    execAxGeaDisengage m tm s = .next (((s.adv tm).modGea a fun g => { g with disReq := true }).answer m stOk 0 []) :=
  congrArg Host.Outcome.next (serveAxis_done (by decide) call (if_neg (idle_eq_false begun)))

/-! AX.CMP.ARM and AX.CMP.DISARM (R300, R302). -/

section
variable (s : State) (a : Fin 128) (units : Nat) (on : Bool)

theorem State.armReq_cmp (u : Fin 2) : (s.armReq a units on).axes[a].cmp[u].armReq =
    if bit units u.val then some on else s.axes[a].cmp[u].armReq := by
  rw [State.armReq, State.modAxis_self, Fin.getElem_fin, Vector.getElem_ofFn]

theorem State.armReq_lat (n : Fin 2) : (s.armReq a units on).axes[a].lat[n].armReq =
    if bit units (2 + n.val) then some on else s.axes[a].lat[n].armReq := by
  rw [State.armReq, State.modAxis_self, Fin.getElem_fin, Vector.getElem_ofFn]

theorem State.armReq_prf : (s.armReq a units on).axes[a].prf = s.axes[a].prf := by
  rw [State.armReq, State.modAxis_self]

theorem State.armReq_of_ne {b : Fin 128} (other : b ≠ a) : (s.armReq a units on).axes[b] = s.axes[b] :=
  s.modAxis_of_ne _ other

end

theorem execAxCmpArm_of_units (call : s.axisReady m a 0x1E 0xF001 1 = true) (units : s.arg m 0 1 < 16) :
    execAxCmpArm m tm s = .next (((s.adv tm).armReq a (s.arg m 0 1) true).answer m stOk 0 []) :=
  congrArg Host.Outcome.next (serveAxis_done (by decide) call (if_neg (not_le.mpr units)))

theorem execAxCmpDisarm_of_units (call : s.axisReady m a 0x1E 0xF002 1 = true) (units : s.arg m 0 1 < 16) :
    execAxCmpDisarm m tm s = .next (((s.adv tm).armReq a (s.arg m 0 1) false).answer m stOk 0 []) :=
  congrArg Host.Outcome.next (serveAxis_done (by decide) call (if_neg (not_le.mpr units)))

end

/-- Settles O14: nothing is against these calls. Those without a condition of their own put their request at once, and
the others come to the branch that their premises name. -/
theorem axisRequestsWaitForTheTick : Obligations.AxisRequestsWaitForTheTick := by
  unfold Obligations.AxisRequestsWaitForTheTick
  refine ⟨?satClr, ?rptClear, ?setPos, ?flush, ?resume, ?pause, ?noPause, ?homAbort, ?disengage, ?injStop, ?arm,
    ?disarm⟩
  case satClr => exact fun m tm a s call => congrArg Host.Outcome.next (serveAxis_done (by decide) call rfl)
  case rptClear => exact fun m tm a s call => congrArg Host.Outcome.next (serveAxis_done (by decide) call rfl)
  case setPos => exact fun m tm a s call kept measured => execAxFbkSetPos_of_sure call kept measured
  case flush => exact fun m tm a s call => congrArg Host.Outcome.next (serveAxis_done (by decide) call rfl)
  case resume => exact fun m tm a s call => congrArg Host.Outcome.next (serveAxis_done (by decide) call rfl)
  case pause => exact fun m tm a s call able => execAxPrfPause_of_free call (State.pauseBarred_eq_false able)
  case noPause =>
    exact fun m tm a s call bldc sensorless =>
      execAxPrfPause_of_barred call (Bool.and_eq_true_iff.mpr ⟨decide_eq_true bldc, decide_eq_true sensorless⟩)
  case homAbort => exact fun m tm a s call begun => execAxHomAbort_of_begun call begun
  case disengage => exact fun m tm a s call begun => execAxGeaDisengage_of_begun call begun
  case injStop => exact fun m tm a s call => congrArg Host.Outcome.next (serveAxis_done (by decide) call rfl)
  case arm =>
    exact fun m tm a s call units => ⟨_, execAxCmpArm_of_units call units, State.gotAnswer_answer ..,
      State.armReq_cmp (s.adv tm) a _ _, State.armReq_lat (s.adv tm) a _ _,
      fun b other => State.armReq_of_ne (s.adv tm) a _ _ other, State.armReq_prf (s.adv tm) a _ _⟩
  case disarm =>
    exact fun m tm a s call units => ⟨_, execAxCmpDisarm_of_units call units, State.gotAnswer_answer ..,
      State.armReq_cmp (s.adv tm) a _ _, State.armReq_lat (s.adv tm) a _ _,
      fun b other => State.armReq_of_ne (s.adv tm) a _ _ other, State.armReq_prf (s.adv tm) a _ _⟩

end Sys2Proof.Machine

namespace Sys2Proof.Machine

/-! ## The supervision of an axis (R180, R183, R184, R199, R202, R206, R218, R252, R260, R272, R273, R435, R438). -/

section
variable {a : Fin 128} {tm : Nat} {s : State}

/-! Feedback (R180, R183, R184). -/

theorem execFbkLost_of_cause (nonzero : s.axes[a].fbk.cause ≠ 0) (known : s.axes[a].fbk.cause ≤ 6)
    (holds : (s.adv tm).lossCause a s.axes[a].fbk = s.axes[a].fbk.cause) :
    execFbkLost a tm s = .next ((s.adv tm).loseFeedback 0x1050 a) := by
  simp only [execFbkLost, State.adv_axes, Nat.one_le_iff_ne_zero.mpr nonzero, known, holds, beq_self_eq_true,
    decide_true, Bool.and_self, if_true]

theorem execFbkFrozen_of_frozen (frozen : s.axes[a].fbk.frozen = true) :
    execFbkFrozen a tm s = .next ((s.adv tm).loseFeedback 0x1051 a) := congrArg Host.Outcome.next (if_pos frozen)

theorem execZeroTimeout_of_edges (source : s.pN (Pid.axFbkSource a.val) = 1 ∨ s.pN (Pid.axFbkSource a.val) = 2 ∨
      s.pN (Pid.axFbkSource a.val) = 6) :
    execZeroTimeout a tm s = .next ((s.adv tm).modAxis a fun x => { x with
      fbk := x.fbk.withV (x.fbk.edgeV.timeout (max s.nt tm) (ms (s.pN (Pid.axFbkZeroTimeout a.val)))) }) := by
  simp only [execZeroTimeout, State.adv_pN, State.adv_nt, source, if_true]

/-! The cluster engine (R199, R202, R206, R218). -/

theorem execFollowingError_of_long {t0 : Nat} (since : s.axes[a].eng.feFrom = some t0)
    (long : t0 + ms (s.pN (Pid.axPosFeTime a.val)) ≤ max s.nt tm) :
    execFollowingError a tm s = .next ((s.adv tm).raise 0x1060 a.val [a]) := by
  simp only [execFollowingError, State.adv_axes, State.adv_pN, State.adv_nt, since, long, if_true, State.raiseAx]

theorem execNumericSat_of_run (run : (s.axes[a].eng.satRun.toList.any fun n => decide (64 ≤ n)) = true) :
    execNumericSat a tm s = .next ((s.adv tm).raise 0x1061 a.val [a]) := congrArg Host.Outcome.next (if_pos run)

theorem execVbusLow_of_run (run : 10 ≤ s.axes[a].eng.vbusLow) :
    execVbusLow a tm s = .next ((s.adv tm).raise 0x1062 a.val [a]) := congrArg Host.Outcome.next (if_pos run)

theorem execInjDone_of_elapsed (running : s.axes[a].eng.inj = .running)
    (elapsed : ms s.axes[a].eng.injTime ≤ s.axes[a].eng.injFrames * s.tf) :
    execInjDone a tm s = .next (((s.adv tm).modAxis a fun x =>
      { x with eng := { x.eng with inj := .done, injS := 0 } }).event 0x1701 a.val s.axes[a].eng.injFrames) :=
  congrArg Host.Outcome.next (if_pos (Bool.and_eq_true_iff.mpr ⟨beq_iff_eq.mpr running, decide_eq_true elapsed⟩))

/-! Cyclic set-points (R252). -/

theorem execSetpointLost_of_run (mode : 1 ≤ s.axes[a].prf.mode) (cyclic : s.axes[a].prf.mode ≤ 3)
    (unmasked : s.inMask a.val = false) (active : s.axes[a].active = true)
    (run : s.pN (Pid.axPrfIpoTmax a.val) ≤ s.axes[a].prf.ipo.run) :
    execSetpointLost a tm s = .next ((s.adv tm).raise 0x1073 a.val [a]) := by
  have unmasked' : (s.adv tm).inMask a.val = false := unmasked
  simp only [execSetpointLost, State.adv_axes, State.adv_pN, mode, cyclic, unmasked', active, run, decide_true,
    Bool.not_false, Bool.and_self, if_true, State.raiseAx]

/-! Steppers (R260, R272, R273). -/

theorem execStpRate_of_run (run : 100 ≤ s.axes[a].stp.clampRun) :
    execStpRate a tm s = .next ((s.adv tm).raise 0x1080 a.val [a]) := congrArg Host.Outcome.next (if_pos run)

/-- A stall shows in one of two ways (R272): the angle is off in 3 frames in a row, or the induced voltage has been low
for 20 ms. -/
theorem execStall_of_active (active : s.axes[a].active = true) (stalled : 3 ≤ s.axes[a].stp.stallRun ∨
      ∃ t0, s.axes[a].stp.stallFrom = some t0 ∧ t0 + ms 20 ≤ max s.nt tm) :
    execStall a tm s = .next (((s.adv tm).raise 0x1081 a.val [a]).modAxis a fun x =>
      { x with fbk := { x.fbk with unref := true } }) := by
  rcases stalled with run | ⟨t0, since, long⟩
  · simp only [execStall, State.adv_axes, active, run, decide_true, Bool.true_or, Bool.and_self, if_true, State.raiseAx]
  · simp only [execStall, State.adv_axes, State.adv_nt, active, since, long, decide_true, Bool.or_true, Bool.and_self,
      if_true, State.raiseAx]

theorem execPhaseOpen_of_candidate (candidate : s.axes[a].stp.candA = true ∨ s.axes[a].stp.candB = true) :
    execPhaseOpen a tm s = .next (((s.adv tm).raise 0x1082 a.val [a]).modStp a fun p =>
      { p with openA := p.openA || p.candA, openB := p.openB || p.candB }) :=
  congrArg Host.Outcome.next (if_pos (Bool.or_eq_true_iff.mpr candidate))

/-! Stops (R435, R438). -/

theorem execStopTimeout_of_long (stops : s.axes[a].stopRuns = true)
    (long : s.axes[a].rea.stopFrom + ms (s.pN (Pid.axReaStopTmax a.val)) ≤ max s.nt tm) :
    execStopTimeout a tm s = .next ((s.adv tm).raise 0x1090 a.val [a]) := by
  simp only [execStopTimeout, State.adv_axes, State.adv_pN, State.adv_nt, stops, long, decide_true, Bool.and_self,
    if_true, State.raiseAx]

theorem execL3StopEnd_of_quiet {t0 : Nat} (quiet : s.axes[a].rea.quietFrom = some t0)
    (long : t0 + ms 10 ≤ max s.nt tm) :
    execL3StopEnd a tm s =
      .next ((s.adv tm).modAxis a fun x => { x with rea := { x.rea with stopDone := true } }) := by
  simp only [execL3StopEnd, State.adv_axes, State.adv_nt, quiet, long, if_true]

end

/-- Settles O24: each event finds its condition in the state, so it comes to the branch that its premises name. -/
theorem axisSupervision : Obligations.AxisSupervision := by
  unfold Obligations.AxisSupervision
  refine ⟨?lost, ?frozen, ?zero, ?following, ?saturated, ?bus, ?injected, ?setpoint, ?rate, ?stallRun, ?phase,
    ?stopTimeout, ?stopEnd, ?stallWeak⟩
  case lost => exact fun a tm s nonzero known holds => execFbkLost_of_cause nonzero known holds
  case frozen => exact fun a tm s frozen => execFbkFrozen_of_frozen frozen
  case zero => exact fun a tm s source => execZeroTimeout_of_edges source
  case following => exact fun a tm t0 s since long => execFollowingError_of_long since long
  case saturated => exact fun a tm s run => execNumericSat_of_run run
  case bus => exact fun a tm s run => execVbusLow_of_run run
  case injected => exact fun a tm s running elapsed => execInjDone_of_elapsed running elapsed
  case setpoint =>
    exact fun a tm s mode cyclic unmasked active run => execSetpointLost_of_run mode cyclic unmasked active run
  case rate => exact fun a tm s run => execStpRate_of_run run
  case stallRun => exact fun a tm s active run => execStall_of_active active (.inl run)
  case phase => exact fun a tm s candidate => execPhaseOpen_of_candidate candidate
  case stopTimeout => exact fun a tm s stops long => execStopTimeout_of_long stops long
  case stopEnd => exact fun a tm t0 s quiet long => execL3StopEnd_of_quiet quiet long
  case stallWeak => exact fun a tm t0 s active since long => execStall_of_active active (.inr ⟨t0, since, long⟩)

end Sys2Proof.Machine

namespace Sys2Proof.Machine

/-! ## Line encoder ports (R162, R172, R173, R174). -/

section
variable {p : Fin 4} {tm : Nat} {s : State}

theorem execLeEdge_of_on (on : s.domainOn 12 = true) (a b : Bool) :
    execLeEdge p a b tm s = .next ((s.adv tm).modPort p fun _ => (s.adv tm).leEdge p a b) :=
  congrArg Host.Outcome.next (if_pos on)

/-- What lets a rising Z latch the count (R172): the domain runs, the port counts quadrature, and it holds no latch that
was armed to come once. -/
def State.zLatches (s : State) (p : Fin 4) : Bool :=
  s.domainOn 12 && decide (s.pN (Pid.lePMode p.val) = 1) && !s.ports[p].zarmed

theorem State.adv_zLatches (s : State) (tm : Nat) (p : Fin 4) : (s.adv tm).zLatches p = s.zLatches p := (rfl)

theorem execLeZEdge_eq : execLeZEdge p tm s = .next (if s.zLatches p then
    (s.adv tm).modPort p fun x =>
      { x with zlatch := x.count, zstamp := max s.nt tm, znew := true, zarmed := x.zarm, zarm := false }
    else s.adv tm) := by
  rw [← State.adv_zLatches s tm p]
  rfl

theorem State.zLatches_of_counting (on : s.domainOn 12 = true) (quadrature : s.pN (Pid.lePMode p.val) = 1)
    (unheld : s.ports[p].zarmed = false) : s.zLatches p = true := by
  rw [State.zLatches, on, quadrature, unheld]
  rfl

theorem State.zLatches_of_held (held : s.ports[p].zarmed = true) : s.zLatches p = false := by
  rw [State.zLatches, held, Bool.not_true, Bool.and_false]

theorem execLeSignal_eq (wire : Bool) {u : State} (hu : u = (s.adv tm).modPort p fun x => { x with wire := wire }) :
    execLeSignal p wire tm s = .next (if u.leBad p then u.raise 0x4060 p.val [] else u) := by
  subst hu
  rfl

end

/-- Settles O32: a port latches at the instant that the frame fixes, and each event of a port comes to the branch that
its premises name. -/
theorem lineEncoderEvents : Obligations.LineEncoderEvents := by
  unfold Obligations.LineEncoderEvents
  refine ⟨?latch, ?edge, ?zLatched, ?zHeld, ?bad, ?good⟩
  case latch => exact fun s => rfl
  case edge => exact fun p a b tm s on => execLeEdge_of_on on a b
  case zLatched =>
    exact fun p tm s on quadrature unheld =>
      execLeZEdge_eq.trans (congrArg Host.Outcome.next (if_pos (State.zLatches_of_counting on quadrature unheld)))
  case zHeld =>
    exact fun p tm s held => execLeZEdge_eq.trans
      (congrArg Host.Outcome.next (if_neg (Bool.eq_false_iff.mp (State.zLatches_of_held held))))
  case bad =>
    exact fun p wire tm u s hu bad => (execLeSignal_eq wire hu).trans (congrArg Host.Outcome.next (if_pos bad))
  case good =>
    exact fun p wire tm u s hu good =>
      (execLeSignal_eq wire hu).trans (congrArg Host.Outcome.next (if_neg (Bool.eq_false_iff.mp good)))

end Sys2Proof.Machine

namespace Sys2Proof.Machine

/-! ## The timed events of moves, homing and steppers (R232, R235, R242, R264, R267, R268, R269). -/

section
variable {a : Fin 128} {tm t0 : Nat} {s : State}

/-! Moves (R232, R235) and homing (R242). -/

theorem execDwellEnd_of_due (dwell : s.axes[a].prf.dwellUntil = some t0) (due : t0 ≤ max s.nt tm)
    (running : s.axes[a].prf.running = true) (unstopped : s.axes[a].prf.stopRow = 0) :
    execDwellEnd a tm s = .next (((s.adv tm).modPrf a fun _ =>
      (s.axes[a].prf.endEntry s.axes[a].prf.next.pos).1).events a
        (s.axes[a].prf.endEntry s.axes[a].prf.next.pos).2) := by
  have notBefore : ¬ max s.nt tm < t0 := not_lt.mpr due
  simp only [execDwellEnd, State.adv_axes, State.adv_nt, dwell, notBefore, running, unstopped, decide_false,
    Bool.not_true, Bool.or_self, ne_eq, not_true_eq_false, Bool.false_eq_true, if_false]

theorem execTargetReached_of_stayed (inWindow : s.axes[a].prf.inWinFrom = some t0)
    (done : s.axes[a].prf.allDone = true) (stayed : t0 + ms (s.pN (Pid.axPrfWindowT a.val)) ≤ max s.nt tm) :
    execTargetReached a tm s = .next ((s.adv tm).modPrf a fun p => { p with reached := true }) := by
  simp only [execTargetReached, State.adv_axes, State.adv_pN, State.adv_nt, inWindow, done, stayed, decide_true,
    Bool.and_self, if_true]

theorem execHomingStall_of_push (stalled : s.axes[a].hom.stallFrom = some t0) (push : s.axes[a].hom.phase = 4)
    (long : t0 + ms (s.pN (Pid.axHomStopT a.val)) ≤ max s.nt tm) :
    execHomingStall a tm s = .next ((s.adv tm).modHom a fun h => { h with
      phase := 5, snap := true, stallFrom := none, refWait := some (t0 + ms (s.pN (Pid.axHomStopT a.val))) }) := by
  simp only [execHomingStall, State.adv_axes, State.adv_pN, State.adv_nt, stalled, push, long, decide_true,
    Bool.and_self, if_true]

/-! Steppers (R264, R267, R268, R269). -/

theorem execStpHold_of_still (still : s.axes[a].stp.zeroFrom = some t0) (unheld : s.axes[a].stp.holdFrom = none)
    (long : t0 + ms (s.pN (Pid.axStpHoldT a.val)) ≤ max s.nt tm) :
    execStpHold a tm s = .next ((s.adv tm).modStp a fun p => { p with holdFrom := some (max s.nt tm) }) := by
  simp only [execStpHold, State.adv_axes, State.adv_pN, State.adv_nt, still, unheld, long, Option.isNone_none,
    decide_true, Bool.and_self, if_true]

theorem execStpForced_of_run (voltage : s.axes[a].stp.volt = true) (run : 4 ≤ s.axes[a].stp.overRun) :
    execStpForced a tm s = .next (((s.adv tm).modStp a fun p => { p with
      volt := false, blend := none, turn := none, forced := some (max s.nt tm), changeAt := some (max s.nt tm)
      }).event 0x1B01 a.val 256) :=
  congrArg Host.Outcome.next (if_pos (Bool.and_eq_true_iff.mpr ⟨voltage, decide_eq_true run⟩))

theorem execStpForcedEnd_of_elapsed (forced : s.axes[a].stp.forced = some t0) (elapsed : t0 + secs 1 ≤ max s.nt tm) :
    execStpForcedEnd a tm s = .next ((s.adv tm).modStp a fun p => { p with forced := none }) := by
  simp only [execStpForcedEnd, State.adv_axes, State.adv_nt, forced, elapsed, if_true]

theorem execStpBlendEnd_of_frames {j : Nat} (blend : s.axes[a].stp.blend = some j)
    (frames : s.pN (Pid.axStpBlendN a.val) ≤ j) :
    execStpBlendEnd a tm s = .next (((s.adv tm).modAxis a fun x => { x with
      stp := { x.stp with blend := none, volt := true },
      eng := { x.eng with st := { x.eng.st with xi := Vector.replicate 2 0 } } }).event 0x1B01 a.val 1) := by
  simp only [execStpBlendEnd, State.adv_axes, State.adv_pN, blend, frames, if_true]

theorem execStpAlignEnd_of_elapsed (aligning : s.axes[a].stp.alignFrom = some t0)
    (elapsed : t0 + ms 200 ≤ max s.nt tm) :
    execStpAlignEnd a tm s = .next (((s.adv tm).modStp a fun p => { p with
      alignFrom := none, aligned := true, fbkOfs := (1024 - (s.adv tm).fbkAngle a 0) % 1024 }).event
        0x1B02 a.val ((1024 - (s.adv tm).fbkAngle a 0) % 1024)) := by
  simp only [execStpAlignEnd, State.adv_axes, State.adv_nt, aligning, elapsed, if_true]

end

/-- Settles O25: each event finds its time or its count passed, so it comes to the branch that its premises name. -/
theorem moveHomingAndStepperEvents : Obligations.MoveHomingAndStepperEvents := by
  unfold Obligations.MoveHomingAndStepperEvents
  refine ⟨?dwell, ?reached, ?homing, ?hold, ?forced, ?forcedEnd, ?blendEnd, ?alignEnd⟩
  case dwell =>
    exact fun a tm t0 s dwell due running unstopped =>
      ⟨_, _, rfl, execDwellEnd_of_due dwell due running unstopped⟩
  case reached => exact fun a tm t0 s inWindow done stayed => execTargetReached_of_stayed inWindow done stayed
  case homing => exact fun a tm t0 s stalled push long => execHomingStall_of_push stalled push long
  case hold => exact fun a tm t0 s still unheld long => execStpHold_of_still still unheld long
  case forced => exact fun a tm s voltage run => execStpForced_of_run voltage run
  case forcedEnd => exact fun a tm t0 s forced elapsed => execStpForcedEnd_of_elapsed forced elapsed
  case blendEnd => exact fun a tm j s blend frames => execStpBlendEnd_of_frames blend frames
  case alignEnd => exact fun a tm t0 s aligning elapsed => execStpAlignEnd_of_elapsed aligning elapsed

end Sys2Proof.Machine

namespace Sys2Proof.Machine

/-! ## Tracking and capture calls that wait for their commit (R282, R292, R337, R339). -/

section
variable {s : State} {m : Fin 16} {tm : Nat}

theorem State.trkWait_of_on (on : s.trkOn = true) (m : Fin 16) (id : Nat) (c : TrkCall) :
    s.trkWait m id c = .wait (s.modTrk fun k => { k with calls := k.calls ++ [(m.val, c)] }) (.call id) := by
  rw [State.trkWait, on, Bool.not_true, if_neg Bool.false_ne_true]

theorem State.trkWait_of_off (off : s.trkOn = false) (m : Fin 16) (id : Nat) (c : TrkCall) :
    s.trkWait m id c = .fail stState := by
  rw [State.trkWait, off, Bool.not_false, if_pos rfl]

theorem State.capWait_of_on (on : s.domainOn 13 = true) (m : Fin 16) (k : Nat) :
    s.capWait m k = .wait (s.modCap fun c => { c with calls := c.calls ++ [(k, m.val)] }) (.call (0x5000F000 + k)) := by
  rw [State.capWait, on, Bool.not_true, if_neg Bool.false_ne_true]

/-- What a tracking call that its arguments leave to the unit comes to. -/
theorem serveTrkCall_of_on {id n : Nat} {act : State → List Byte → Served} {c : TrkCall}
    (call : s.callReady m id n = true) (on : s.trkOn = true)
    (taken : act (s.adv tm) (callArgs s.mbx[m].payload) = (s.adv tm).trkWait m id c) :
    s.serveCall m tm id n act =
      ((s.adv tm).modTrk fun k => { k with calls := k.calls ++ [(m.val, c)] }).modMbx m
        fun b => { b with wait := .call id } :=
  serveCall_wait call rfl (taken.trans (State.trkWait_of_on (s := s.adv tm) on ..))

/-! Calls whose arguments are in range. -/

theorem execTrkCreate_of_zone (call : s.callReady m 0x4000F001 20 = true) (on : s.trkOn = true)
    (reserved : s.arg m 1 3 = 0) (used : s.zoneUsed (s.arg m 0 1) = true) :
    execTrkCreate m tm s = .next (((s.adv tm).modTrk fun k => { k with calls := k.calls ++
      [(m.val, .create (s.arg m 0 1) (s.arg m 4 4) (toSigned 32 (s.arg m 8 4)) (s.arg m 12 4) (s.arg m 16 4))]
      }).modMbx m fun b => { b with wait := .call 0x4000F001 }) := by
  have inRange : ¬(s.arg m 1 3 ≠ 0 ∨ (!s.zoneUsed (s.arg m 0 1)) = true) := by
    rw [used]
    exact not_or.mpr ⟨not_not.mpr reserved, Bool.false_ne_true⟩
  exact congrArg Host.Outcome.next (serveTrkCall_of_on call on (if_neg inRange))

theorem execTrkModify_of_mask (call : s.callReady m 0x4000F003 16 = true) (on : s.trkOn = true)
    (mask : s.arg m 2 1 < 8) (reserved : s.arg m 3 1 = 0) :
    execTrkModify m tm s = .next (((s.adv tm).modTrk fun k => { k with calls := k.calls ++
      [(m.val, .modify (s.arg m 0 1) (s.arg m 1 1) (s.arg m 2 1) (s.arg m 4 4) (s.arg m 8 4) (s.arg m 12 4))]
      }).modMbx m fun b => { b with wait := .call 0x4000F003 }) := by
  have inRange : ¬(8 ≤ s.arg m 2 1 ∨ s.arg m 3 1 ≠ 0) := not_or.mpr ⟨not_le.mpr mask, not_not.mpr reserved⟩
  exact congrArg Host.Outcome.next (serveTrkCall_of_on call on (if_neg inRange))

theorem execTrkSetEv_of_event {e : CmpEv} (call : s.callReady m 0x4000F004 12 = true) (on : s.trkOn = true)
    (index : s.arg m 2 1 < 4) (reserved : s.arg m 3 1 = 0)
    (event : s.parseEv ((callArgs s.mbx[m].payload).drop 4) = some e) :
    execTrkSetEv m tm s = .next (((s.adv tm).modTrk fun k => { k with calls := k.calls ++
      [(m.val, .setEv (s.arg m 0 1) (s.arg m 1 1) (s.arg m 2 1) e)] }).modMbx m
      fun b => { b with wait := .call 0x4000F004 }) := by
  have inRange : ¬(4 ≤ s.arg m 2 1 ∨ s.arg m 3 1 ≠ 0) := not_or.mpr ⟨not_le.mpr index, not_not.mpr reserved⟩
  have parsed : (s.adv tm).parseEv ((callArgs s.mbx[m].payload).drop 4) = some e := event
  refine congrArg Host.Outcome.next (serveTrkCall_of_on call on ((if_neg inRange).trans ?_))
  rw [parsed]
  rfl

theorem execTrkRead_of_reserved (call : s.callReady m 0x4000F005 4 = true) (reserved : s.arg m 1 3 = 0) :
    execTrkRead m tm s = .next ((s.adv tm).answer m stOk 0 (s.trk.ctx[ctxNo (s.arg m 0 1)]).record) :=
  congrArg Host.Outcome.next (serveCall_done call rfl (if_neg (not_not.mpr reserved)))

/-- A unit that does not work refuses even a TRK.FLUSH: the model's reading (log 90). -/
theorem execTrkFlush_of_off (call : s.callReady m 0x4000F006 0 = true) (off : s.trkOn = false) :
    execTrkFlush m tm s = .next ((s.adv tm).answer m stState 0 []) :=
  congrArg Host.Outcome.next (serveCall_fail call rfl (State.trkWait_of_off (s := s.adv tm) off ..))

/-- What a capture call comes to, whichever of the three it is. -/
theorem serveCapCall_of_on {k : Nat} (call : s.callReady m (0x5000F000 + k) 0 = true) (on : s.domainOn 13 = true) :
    (s.serveCall m tm (0x5000F000 + k) 0 fun t _ => t.capWait m k) =
      ((s.adv tm).modCap fun c => { c with calls := c.calls ++ [(k, m.val)] }).modMbx m
        fun b => { b with wait := .call (0x5000F000 + k) } :=
  serveCall_wait call rfl (State.capWait_of_on (s := s.adv tm) on ..)

end

/-- Settles O16: nothing is against these calls and their arguments are in range, so each comes to its unit, which takes
it while it works. -/
theorem callsThatWaitForTheirCommit : Obligations.CallsThatWaitForTheirCommit := by
  unfold Obligations.CallsThatWaitForTheirCommit
  refine ⟨?create, ?delete, ?modify, ?setEv, ?flush, ?noFlush, ?read, ?arm, ?force, ?stop⟩
  case create => exact fun m tm s call on reserved used => execTrkCreate_of_zone call on reserved used
  case delete => exact fun m tm s call on => congrArg Host.Outcome.next (serveTrkCall_of_on call on rfl)
  case modify => exact fun m tm s call on mask reserved => execTrkModify_of_mask call on mask reserved
  case setEv => exact fun m tm e s call on index reserved event => execTrkSetEv_of_event call on index reserved event
  case flush => exact fun m tm s call on => congrArg Host.Outcome.next (serveTrkCall_of_on call on rfl)
  case noFlush => exact fun m tm s call off => execTrkFlush_of_off call off
  case read => exact fun m tm s call reserved => execTrkRead_of_reserved call reserved
  case arm => exact fun m tm s call on => congrArg Host.Outcome.next (serveCapCall_of_on (k := 1) call on)
  case force => exact fun m tm s call on => congrArg Host.Outcome.next (serveCapCall_of_on (k := 2) call on)
  case stop => exact fun m tm s call on => congrArg Host.Outcome.next (serveCapCall_of_on (k := 3) call on)

end Sys2Proof.Machine

namespace Sys2Proof.Machine

/-! ## Contexts and the calls applied to them (R281, R282, R284, R308). -/

@[simp] theorem State.event_trk (s : State) (code inst data : Nat) : (s.event code inst data).trk = s.trk := by
  obtain ⟨_, _, _, _, e⟩ := s.event_changes code inst data
  rw [e]

@[simp] theorem State.touch_ctx (s : State) (i : Fin 256) : (s.touch i).trk.ctx = s.trk.ctx := rfl

@[simp] theorem State.modCtx_ctx (s : State) (i : Fin 256) (f : Ctx → Ctx) :
    (s.modCtx i f).trk.ctx = s.trk.ctx.set i (f s.trk.ctx[i]) := rfl

/-- Whatever its cause, a freed context keeps its generation alone. -/
theorem State.ctxFree_ctx (s : State) (i : Fin 256) (cause : Nat) :
    (s.ctxFree i cause).trk.ctx = s.trk.ctx.set i { gen := s.trk.ctx[i].gen } := by
  rw [State.ctxFree, State.event_trk, State.modCtx_ctx]
  split <;> rfl

/-- The context that a call creates (R281, R282): on a path, in the next generation, not yet advanced by a run. -/
def State.ctxOfCall (s : State) (i : Fin 256) (zone objId : Nat) (pos : Int) (len route : Nat) : Ctx :=
  { state := .active, zone := zone, objId := objId, pos := um pos, len := len, route := BitVec.ofNat 32 route
    vel := satSigned 32 (roundEven (s.zoneSt zone).v), gen := (s.trk.ctx[i].gen + 1) % 256, fresh := true }

theorem State.ctxCreate_ctx (s : State) (i : Fin 256) (zone objId : Nat) (pos : Int) (len route : Nat) :
    (s.ctxCreate i zone objId pos len route).trk.ctx =
      s.trk.ctx.set i (s.ctxOfCall i zone objId pos len route) := by
  rw [State.ctxCreate, State.ctxCreated, State.event_trk, State.ctxNew, State.modCtx_ctx, State.touch_ctx]
  rfl

/-! The context that a creation takes (R282); that it is the lowest FREE one is the model's choice (log 89). -/

theorem ctxNo_val (i : Fin 256) : ctxNo i.val = i := Fin.ext (Nat.mod_eq_of_lt i.isLt)

theorem State.freeSlot_of_full {s : State} (full : ∀ i : Fin 256, s.trk.ctx[i].state ≠ .free) : s.freeSlot = none :=
  List.find?_eq_none.mpr fun i _ free => full i (beq_iff_eq.mp free)

theorem State.freeSlot_of_lowest {s : State} {i : Fin 256} (free : s.trk.ctx[i].state = .free)
    (lowest : ∀ j : Fin 256, j < i → s.trk.ctx[j].state ≠ .free) : s.freeSlot = some i := by
  have found : (List.range 256).find? ((fun j => s.trk.ctx[j].state == .free) ∘ ctxNo) = some i.val := by
    refine List.find?_range_eq_some.mpr ⟨?free, List.mem_range.mpr i.isLt, fun j below => ?taken⟩
    case free =>
      rw [Function.comp_apply, ctxNo_val]
      exact beq_iff_eq.mpr free
    case taken =>
      have taken := lowest ⟨j, below.trans i.isLt⟩ below
      rw [← ctxNo_val ⟨j, below.trans i.isLt⟩] at taken
      rw [Function.comp_apply, beq_false_of_ne taken, Bool.not_false]
  rw [State.freeSlot, allCtx, List.find?_map, found, Option.map_some, ctxNo_val]

/-! Each call where it is applied (R282). -/

section
variable {s : State} (m : Nat)

theorem State.trkApply_delete_of_unnamed {i gen : Nat} (unnamed : s.ctxNamed i gen = false) :
    s.trkApply m (.delete i gen) = s.lateAnswer m 0x4000F002 stState [] :=
  if_neg (Bool.eq_false_iff.mp unnamed)

theorem State.trkApply_delete_of_named {i gen : Nat} (named : s.ctxNamed i gen = true) :
    s.trkApply m (.delete i gen) = (s.ctxFree (ctxNo i) 1).lateAnswer m 0x4000F002 stOk [] :=
  if_pos named

/-- A MODIFY whose mask names the length alone. -/
theorem State.trkApply_modify_len {i gen mask : Nat} (named : s.ctxNamed i gen = true) (noObj : bit mask 0 = false)
    (noRoute : bit mask 1 = false) (newLen : bit mask 2 = true) (objId route len : Nat) :
    s.trkApply m (.modify i gen mask objId route len) =
      ((s.modCtx (ctxNo i) fun x => { x with len := len }).touch (ctxNo i)).lateAnswer m 0x4000F003 stOk [] := by
  simp only [State.trkApply, named, noObj, noRoute, newLen, Bool.false_eq_true, if_true, if_false]

theorem State.trkApply_create_of_full (full : s.freeSlot = none) (zone objId : Nat) (pos : Int) (len route : Nat) :
    s.trkApply m (.create zone objId pos len route) = s.lateAnswer m 0x4000F001 stFull [] := by
  simp only [State.trkApply, full]

/-- The answer to a creation names the context and its new generation. -/
theorem State.trkApply_create_of_slot {i : Fin 256} (slot : s.freeSlot = some i) (zone objId : Nat) (pos : Int)
    (len route : Nat) :
    s.trkApply m (.create zone objId pos len route) = (s.ctxCreate i zone objId pos len route).lateAnswer m 0x4000F001
      stOk (leBytes 1 i.val ++ leBytes 1 ((s.trk.ctx[i].gen + 1) % 256)) := by
  simp only [State.trkApply, slot, State.ctxCreate_ctx, vector_set_self]
  rfl

end

/-- Settles O26: the run's steps stand in its definition, and a call applied in it changes the one entry that its
context is. -/
theorem trackingCallsAreApplied : Obligations.TrackingCallsAreApplied := by
  unfold Obligations.TrackingCallsAreApplied
  refine ⟨?run, ?noDelete, ?delete, ?modify, ?full, ?create⟩
  case run =>
    intro s on ticking
    have runs : ¬(!s.trkOn || !s.frame.ticking) = true := by
      rw [on, ticking]
      exact Bool.false_ne_true
    exact ⟨_, _, _, _, if_neg runs, rfl, rfl, rfl, rfl⟩
  case noDelete => exact fun m i gen s unnamed => State.trkApply_delete_of_unnamed m unnamed
  case delete =>
    intro m i gen s named
    refine ⟨_, State.trkApply_delete_of_named m named, ?_⟩
    rw [State.ctxFree_ctx, vector_set_self]
    exact ⟨rfl, rfl, fun j other => (vector_set_get ..).trans (if_neg other.symm)⟩
  case modify =>
    intro m i gen mask objId route len s named noObj noRoute newLen
    refine ⟨_, State.trkApply_modify_len m named noObj noRoute newLen objId route len, ?_⟩
    rw [State.touch_ctx, State.modCtx_ctx, vector_set_self]
    exact ⟨rfl, fun j other => (vector_set_get ..).trans (if_neg other.symm)⟩
  case full =>
    exact fun m zone objId len route pos s full =>
      State.trkApply_create_of_full m (State.freeSlot_of_full full) zone objId pos len route
  case create =>
    intro m zone objId len route pos i s free lowest
    refine ⟨_, State.trkApply_create_of_slot m (State.freeSlot_of_lowest free lowest) zone objId pos len route, ?_⟩
    rw [State.ctxCreate_ctx, vector_set_self]
    exact ⟨rfl, rfl, rfl, rfl, rfl, rfl, fun j other => (vector_set_get ..).trans (if_neg other.symm)⟩

end Sys2Proof.Machine

namespace Sys2Proof.Machine

/-! ## Latch edges (R301). -/

section
variable {s : State} {a : Fin 128} {n : Fin 2} {rising : Bool}

/-- The unit has no source, or takes edges of the other direction alone. -/
def State.latchIgnores (s : State) (a : Fin 128) (n : Fin 2) (rising : Bool) : Bool :=
  decide (s.pN (Pid.axCmpLSrc a.val n.val) = 0) || (decide (s.pN (Pid.axCmpLEdge a.val n.val) = 0) && !rising) ||
    (decide (s.pN (Pid.axCmpLEdge a.val n.val) = 1) && rising)

theorem State.latchIgnores_iff : s.latchIgnores a n rising = true ↔ s.pN (Pid.axCmpLSrc a.val n.val) = 0 ∨
    (s.pN (Pid.axCmpLEdge a.val n.val) = 0 ∧ rising = false) ∨
    (s.pN (Pid.axCmpLEdge a.val n.val) = 1 ∧ rising = true) := by
  simp only [State.latchIgnores, Bool.or_eq_true, Bool.and_eq_true, decide_eq_true_eq, Bool.not_eq_true', or_assoc]

theorem State.latchIgnores_of_taken (source : s.pN (Pid.axCmpLSrc a.val n.val) ≠ 0)
    (up : s.pN (Pid.axCmpLEdge a.val n.val) = 0 → rising = true)
    (down : s.pN (Pid.axCmpLEdge a.val n.val) = 1 → rising = false) : s.latchIgnores a n rising = false := by
  refine Bool.eq_false_iff.mpr fun ignored => ?_
  obtain unsourced | ⟨rises, falling⟩ | ⟨falls, risen⟩ := State.latchIgnores_iff.mp ignored
  · exact source unsourced
  · exact Bool.false_ne_true (falling.symm.trans (up rises))
  · exact Bool.false_ne_true ((down falls).symm.trans risen)

/-- An edge at a unit's source is counted and waits for the positions around its stamp. -/
def State.latchCounted (s : State) (a : Fin 128) (n : Fin 2) (stamp : Nat) : State :=
  s.modLat a n fun q => { q with count := count32 q.count, waits := q.waits ++ [stamp] }

theorem execLatchEdge_of_ignored (ignored : s.latchIgnores a n rising = true) (stamp : Nat) :
    execLatchEdge a n rising stamp s = .next s :=
  if_pos (Bool.or_eq_true_iff.mpr (.inl ignored))

theorem execLatchEdge_of_taken (taken : s.latchIgnores a n rising = false) (on : s.axOn (clusterOf a) = true)
    (stamp : Nat) :
    execLatchEdge a n rising stamp s = .next ((s.latchCounted a n stamp).latchWaits a n) := by
  refine if_neg (Bool.eq_false_iff.mp (Bool.or_eq_false_iff.mpr ⟨taken, ?_⟩))
  rw [on, Bool.not_true]

theorem State.modLat_self (f : LatchUnit → LatchUnit) :
    (s.modLat a n f).axes[a].lat[n] = f s.axes[a].lat[n] := by
  rw [State.modLat, State.modAxis_self, vector_set_self]

theorem State.modLat_fbk (f : LatchUnit → LatchUnit) : (s.modLat a n f).axes[a].fbk = s.axes[a].fbk := by
  rw [State.modLat, State.modAxis_self]

theorem State.modLat_of_ne (f : LatchUnit → LatchUnit) {b : Fin 128} (other : b ≠ a) :
    (s.modLat a n f).axes[b] = s.axes[b] :=
  s.modAxis_of_ne _ other

theorem State.latchCounted_early {stamp : Nat} (early : ∀ t ∈ s.axes[a].lat[n].waits, s.axes[a].fbk.posAt ≤ t)
    (late : s.axes[a].fbk.posAt ≤ stamp) :
    ∀ t ∈ (s.latchCounted a n stamp).axes[a].lat[n].waits, (s.latchCounted a n stamp).axes[a].fbk.posAt ≤ t := by
  rw [State.latchCounted, State.modLat_self, State.modLat_fbk]
  exact List.forall_mem_append.mpr ⟨early, List.forall_mem_singleton.mpr late⟩

/-- Edges none of which lies before the latest position all go on waiting. -/
theorem State.latchWaits_of_early (early : ∀ t ∈ s.axes[a].lat[n].waits, s.axes[a].fbk.posAt ≤ t) :
    s.latchWaits a n = s.modLat a n fun q =>
      { q with waits := q.waits.filter fun t => decide (s.axes[a].fbk.posAt ≤ t) } := by
  have noneDue : (s.axes[a].lat[n].waits.filter fun t => decide (t < s.axes[a].fbk.posAt)) = [] :=
    List.filter_eq_nil_iff.mpr fun t waits due => absurd (early t waits) (not_le.mpr (of_decide_eq_true due))
  rw [State.latchWaits, noneDue]
  rfl

theorem State.latchWaits_axes_of_early (early : ∀ t ∈ s.axes[a].lat[n].waits, s.axes[a].fbk.posAt ≤ t) :
    (s.latchWaits a n).axes[a].lat[n] = s.axes[a].lat[n] ∧
      ∀ b : Fin 128, b ≠ a → (s.latchWaits a n).axes[b] = s.axes[b] := by
  rw [State.latchWaits_of_early early]
  refine ⟨?_, fun b other => State.modLat_of_ne _ other⟩
  rw [State.modLat_self, List.filter_eq_self.mpr fun t waits => decide_eq_true (early t waits)]

end

/-! ## Hand-offs between nodes (R305, R374). -/

section
variable {tm : Nat} {s : State}

theorem execHandoffFrame_of_good {f : RxFrame} {c : Crepra} {u v : State}
    (frame : (s.adv tm).takeRx ((s.adv tm).isCrepra 5) = some (f, u)) (good : u.crepraCheck f = (some c, v))
    (drives : v.drives = true) (on : v.trkOn = true) :
    execHandoffFrame tm s = .next (v.modTrk fun k => { k with inbox := k.inbox ++ [(f.port, f.tm, c.payload)] }) := by
  simp only [execHandoffFrame, frame, good, drives, on, Bool.and_self, if_true]

/-- At an instant, a hand-off has gone without its ACK for HO_TIMEOUT. -/
def State.overdue (s : State) (tm : Nat) (h : HandOff) : Bool :=
  decide (h.sentAt + ms (s.pN Pid.trkHoTimeout) ≤ max s.nt tm)

/-- A waiting hand-off counts one more try, from the present instant. -/
def State.resent (s : State) (h : HandOff) : State :=
  s.modTrk fun k =>
    { k with out := k.out.map fun x => if x == h then { x with tries := x.tries + 1, sentAt := s.nt } else x }

theorem execHandoffRetry_eq {h : HandOff} (first : s.trk.out.find? (s.overdue tm) = some h) :
    execHandoffRetry tm s = if h.tries < s.pN Pid.trkHoRetry then
        .next (((s.adv tm).resent h).crepraSend 5 0xFFFE h.rcd (((s.adv tm).resent h).sendPorts
          (decide (s.pN (Pid.topoZPeer h.zone) = 1)) (!decide (s.pN (Pid.topoZPeer h.zone) = 1))))
      else .next (((s.adv tm).modTrk fun k => { k with out := k.out.filter fun x => x != h }).raise 0x4004 0 []) := by
  have first' : ((s.adv tm).trk.out.find? fun h =>
      decide (h.sentAt + ms ((s.adv tm).pN Pid.trkHoTimeout) ≤ (s.adv tm).nt)) = some h := first
  simp only [execHandoffRetry, first']
  rfl

end

/-- Settles O27: an edge or a frame comes to the branch that its premises name, a latch unit with no edge before the
latest position keeps its waiting edges, and a hand-off is sent again or given up by its tries. -/
theorem latchesAndHandoffs : Obligations.LatchesAndHandoffs := by
  unfold Obligations.LatchesAndHandoffs
  refine ⟨?edge, ?waits, ?frame, ?again, ?givenUp, ?ignored⟩
  case edge =>
    exact fun a n rising stamp s source up down on =>
      execLatchEdge_of_taken (State.latchIgnores_of_taken source up down) on stamp
  case waits =>
    intro a n rising stamp s source up down on early late
    refine ⟨_, execLatchEdge_of_taken (State.latchIgnores_of_taken source up down) on stamp, ?_⟩
    obtain ⟨unit, others⟩ := State.latchWaits_axes_of_early (State.latchCounted_early early late)
    rw [unit, State.latchCounted, State.modLat_self]
    exact ⟨rfl, rfl, rfl, fun b other => (others b other).trans (State.modLat_of_ne _ other)⟩
  case frame => exact fun tm f c u v s frame good drives on => execHandoffFrame_of_good frame good drives on
  case again =>
    exact fun tm h s first left => ⟨_, (execHandoffRetry_eq first).trans (if_pos left), rfl, rfl, rfl⟩
  case givenUp =>
    exact fun tm h s first spent => (execHandoffRetry_eq first).trans (if_neg (not_lt.mpr spent))
  case ignored =>
    exact fun a n rising stamp s ignored => execLatchEdge_of_ignored (State.latchIgnores_iff.mpr ignored) stamp

end Sys2Proof.Machine

namespace Sys2Proof.Machine

/-! ## Channel F and the field supply (R310, R317, R318, R320, R321). -/

section
variable {tm t0 : Nat} {s : State}

/-- The controller side after 10 µs without a valid frame (R310): inputs INVALID, and no restore of outputs on its way. -/
def FioSt.channelLost (f : FioSt) : FioSt :=
  { f with cfLost := true, invalid := true, goodFrom := none, lowFrom := none, highFrom := none,
           rearmReady := false, restoreAt := none }

/-- Outputs off and inputs INVALID: FV24 is below 16.0 V (R318). -/
def FioSt.supplyOff (f : FioSt) (nt : Nat) : FioSt := { f.offAll nt with uvOff := true, invalid := true }

/-- Each output that is not held takes its latest command at the instant `t` of the restore (R320). -/
def FioSt.restored (f : FioSt) (t : Nat) : FioSt :=
  let f := { f with outOff := false, rearmReady := false, restoreAt := none, dieOff := false }
  f.command (outMask (allOuts.filter fun i => !f.held i)) f.latest t

theorem execChannelFLost_of_silent (up : s.fio.cfLost = false) (silent : s.fio.lastUp + us 10 ≤ max s.nt tm) :
    execChannelFLost tm s = .next (((s.adv tm).modFio FioSt.channelLost).raise 0x6004 0 []).diagAbort := by
  simp only [execChannelFLost, State.adv_fio, State.adv_nt, up, silent, Bool.not_false, decide_true, Bool.and_self,
    if_true]
  rfl

theorem execDieOutputsOff_of_silent (on : s.fio.dieOff = false) (silent : s.fio.lastDown + us 100 ≤ max s.nt tm) :
    execDieOutputsOff tm s =
      .next ((s.adv tm).modFio fun f => { f.offAll (max s.nt tm) with dieOff := true }) := by
  simp only [execDieOutputsOff, State.adv_fio, State.adv_nt, on, silent, Bool.not_false, decide_true, Bool.and_self,
    if_true]

theorem execFv24Low_of_long (low : s.fio.lowFrom = some t0) (unwarned : s.fio.uvWarn = false)
    (long : t0 + us 100 ≤ max s.nt tm) :
    execFv24Low tm s = .next (((s.adv tm).modFio fun f =>
      ({ f with uvWarn := true } : FioSt).setCommon (max s.nt tm)).raise 0x6001 0 []).diagAbort := by
  simp only [execFv24Low, State.adv_fio, State.adv_nt, low, unwarned, long, Bool.not_false, decide_true,
    Bool.and_self, if_true]

theorem execFv24Off_of_low (on : s.fio.uvOff = false) (up : s.fio.cfLost = false)
    (good : s.fio.goodFrom.isSome = true) (low : s.fio.fv24 < 1600) :
    execFv24Off tm s = .next (((s.adv tm).modFio fun f => f.supplyOff (max s.nt tm)).raise 0x6002 0 []).diagAbort := by
  simp only [execFv24Off, FioSt.supplyOff, State.adv_fio, State.adv_nt, on, up, good, low, Bool.not_false, decide_true,
    Bool.and_self, if_true]

theorem execUvWarnEnd_of_high (warned : s.fio.uvWarn = true) (high : 1850 < s.fio.fv24) :
    execUvWarnEnd tm s = .next ((s.adv tm).modFio fun f =>
      ({ f with uvWarn := false } : FioSt).setCommon (max s.nt tm)) :=
  congrArg Host.Outcome.next (if_pos (Bool.and_eq_true_iff.mpr ⟨warned, decide_eq_true high⟩))

theorem heldFor10ms_of_long {nt : Nat} {from? : Option Nat} (since : from? = some t0) (long : t0 + ms 10 ≤ nt) :
    heldFor10ms nt from? = true := by
  rw [heldFor10ms, since, Option.any_some, decide_eq_true_eq]
  exact long

theorem execFv24Recover_of_long (off : s.fio.uvOff = true) (up : s.fio.cfLost = false)
    (high : heldFor10ms (max s.nt tm) s.fio.highFrom = true) :
    execFv24Recover tm s = .next (s.adv tm).fieldReady := by
  simp only [execFv24Recover, State.adv_fio, State.adv_nt, off, up, high, Bool.not_false, Bool.and_self, if_true]

theorem execCfRearmReady_of_long (invalid : s.fio.invalid = true) (on : s.fio.uvOff = false)
    (up : s.fio.cfLost = false) (good : heldFor10ms (max s.nt tm) s.fio.goodFrom = true)
    (high : heldFor10ms (max s.nt tm) s.fio.highFrom = true) :
    execCfRearmReady tm s = .next (s.adv tm).fieldReady := by
  simp only [execCfRearmReady, State.adv_fio, State.adv_nt, invalid, on, up, good, high, Bool.true_or, Bool.not_false,
    Bool.and_self, if_true]

theorem execOutputsOn_of_due {auto : Bool} (restore : s.fio.restoreAt = some (t0, auto)) (due : t0 ≤ max s.nt tm) :
    execOutputsOn tm s = .next (((s.adv tm).modFio fun f => f.restored t0).event 0x6082 0 (b2n auto)) := by
  simp only [execOutputsOn, State.adv_fio, State.adv_nt, restore, due, if_true]
  rfl

theorem execOutputFault_of_rise (rise : s.fio.rise = true) :
    execOutputFault tm s = .next (((s.adv tm).modFio fun f => { f with rise := false }).raise 0x6003 0 []) :=
  congrArg Host.Outcome.next (if_pos rise)

end

/-! ## Accepted edges and timed changes (R313, R315, R318). -/

theorem execFieldInputEdge_of_accepted {i : Fin 40} {stamp tm : Nat} {s : State}
    (accepted : (s.adv tm).accepted i = some stamp) :
    execFieldInputEdge i tm s = .next
      (if s.fio.invalid then s.adv tm else ((s.adv tm).inEdge i stamp false).edgeUsers i stamp) := by
  simp only [execFieldInputEdge, accepted]
  rfl

/-- The changes whose instants have come, in the order in which they take effect (R315). -/
def FioSt.dueChanges (f : FioSt) (nt : Nat) : List FoutChange :=
  (f.changes.filter fun c => decide (c.tm ≤ nt)).foldl (fun l c => insertChange c l) []

/-- Timed changes take effect, and those whose instants have not come stay. -/
def FioSt.takeChanges (f : FioSt) (due : List FoutChange) (nt : Nat) : FioSt :=
  (due.foldl FioSt.change { f with changes := f.changes.filter fun c => decide (nt < c.tm) }).diagApply nt

theorem execFieldOutputChange_eq (tm : Nat) (s : State) :
    execFieldOutputChange tm s = .next ((s.adv tm).modFio fun f =>
      f.takeChanges (f.dueChanges (max s.nt tm)) (max s.nt tm)) := (rfl)

theorem FioSt.takeChanges_of_later {f : FioSt} {nt : Nat} (later : ∀ c ∈ f.changes, nt < c.tm) :
    f.takeChanges (f.dueChanges nt) nt = f.diagApply nt := by
  have noneDue : (f.changes.filter fun c => decide (c.tm ≤ nt)) = [] :=
    List.filter_eq_nil_iff.mpr fun c mem due => absurd (later c mem) (not_lt.mpr (of_decide_eq_true due))
  have allStay : (f.changes.filter fun c => decide (nt < c.tm)) = f.changes :=
    List.filter_eq_self.mpr fun c mem => decide_eq_true (later c mem)
  rw [FioSt.takeChanges, FioSt.dueChanges, noneDue, allStay]
  rfl

/-! ## The halves of a diagnosis test (R322). -/

theorem FioSt.diagApply_diag_of_none {f : FioSt} (idle : f.diag = none) (nt : Nat) :
    (f.diagApply nt).diag = none := by
  simp only [FioSt.diagApply, idle]
  split
  · split
    · split <;> rfl
    · exact idle
  · exact idle

theorem State.adv_aonN (s : State) (tm id : Nat) : (s.adv tm).aonN id = s.aonN id := (rfl)

theorem State.modFio_aonN (s : State) (f : FioSt → FioSt) (id : Nat) : (s.modFio f).aonN id = s.aonN id := (rfl)

section
variable {tm : Nat} {d : DiagSt} {s : State}

/-- The commands of the present half have reached the die at the instant of the event. -/
def State.diagApplied (s : State) (tm : Nat) : State := (s.adv tm).modFio fun f => f.diagApply (max s.nt tm)

theorem execFioDiagTest_of_idle (idle : (s.fio.diagApply (max s.nt tm)).diag = none) :
    execFioDiagTest tm s = .next (s.diagApplied tm) := by
  simp only [execFioDiagTest, State.modFio_fio, State.adv_fio, State.adv_nt, idle]
  rfl

variable (running : (s.fio.diagApply (max s.nt tm)).diag = some d)
include running

/-- The commands of the half are not out yet, or T_STEP has not passed since. -/
theorem execFioDiagTest_of_early
    (early : d.applied = false ∨ max s.nt tm < d.since + ms (s.aonN Pid.fioDiagTStep)) :
    execFioDiagTest tm s = .next (s.diagApplied tm) := by
  have waits : (!d.applied || decide (max s.nt tm < d.since + ms (s.aonN Pid.fioDiagTStep))) = true := by
    simpa only [Bool.or_eq_true, Bool.not_eq_true', decide_eq_true_eq] using early
  simp only [execFioDiagTest, State.modFio_fio, State.adv_fio, State.adv_nt, running]
  exact if_pos waits

variable (applied : d.applied = true) (elapsed : ¬ max s.nt tm < d.since + ms (s.aonN Pid.fioDiagTStep))
include applied elapsed

/-- T_STEP after the outputs were inverted, the common bit decides; the OUTPUT of an inconclusive test is free. -/
theorem execFioDiagTest_of_inverted (inverted : d.inverted = true) :
    execFioDiagTest tm s = .next ((s.diagApplied tm).drawNat.2.modFio fun f =>
      { f with diag := some (d.judge (!f.common) (s.diagApplied tm).drawNat.1 (s.adv tm).nextAct) }) := by
  simp only [execFioDiagTest, State.modFio_fio, State.modFio_nt, State.modFio_aonN, State.adv_fio, State.adv_nt,
    State.adv_aonN, running, applied, elapsed, inverted, decide_false, Bool.not_true, Bool.or_self,
    Bool.false_eq_true, if_false, if_true]
  rfl

theorem execFioDiagTest_of_undecided (restored : d.inverted = false) (undecided : d.result = none) :
    execFioDiagTest tm s =
      .next ((s.diagApplied tm).modFio fun f => { f with diag := some (d.next (s.adv tm).nextAct) }) := by
  simp only [execFioDiagTest, State.modFio_fio, State.modFio_nt, State.modFio_aonN, State.adv_fio, State.adv_nt,
    State.adv_aonN, running, applied, elapsed, restored, undecided, decide_false, Bool.not_true, Bool.or_self,
    Bool.false_eq_true, if_false]
  rfl

theorem execFioDiagTest_of_decided {r out : Nat} (restored : d.inverted = false)
    (decided : d.result = some (r, out)) :
    execFioDiagTest tm s = .next ((((s.diagApplied tm).modFio fun f =>
      { f with diagBack := some (max s.nt tm, d.allow) }).diagDone r out d.steps).modFio fun f =>
        f.diagApply (max s.nt tm)) := by
  simp only [execFioDiagTest, State.modFio_fio, State.modFio_nt, State.modFio_aonN, State.adv_fio, State.adv_nt,
    State.adv_aonN, running, applied, elapsed, restored, decided, decide_false, Bool.not_true, Bool.or_self,
    Bool.false_eq_true, if_false]
  rfl

end

/-- Settles O33: each event finds its condition in the field I/O state, so it comes to the branch that its premises
name; what device time and the update of the field I/O leave alone is as it was. -/
theorem fieldIoEvents : Obligations.FieldIoEvents := by
  unfold Obligations.FieldIoEvents
  refine ⟨?badFrame, ?frame, ?lost, ?dieOff, ?edge, ?noEdge, ?laterChanges, ?low, ?off, ?recover, ?rearm, ?restore,
    ?warnEnd, ?fault, ?idle, ?judged, ?changes, ?early, ?nextTest, ?ended⟩
  case badFrame => exact fun ins pins thermal v tm s => rfl
  case frame => exact fun ins pins thermal v tm s => rfl
  case lost =>
    exact fun tm s up silent => ⟨_, execChannelFLost_of_silent up silent, rfl, rfl, rfl, rfl⟩
  case dieOff => exact fun tm s on silent => execDieOutputsOff_of_silent on silent
  case edge =>
    exact fun i stamp tm s accepted valid => (execFieldInputEdge_of_accepted accepted).trans
      (congrArg Host.Outcome.next (if_neg (Bool.eq_false_iff.mp valid)))
  case noEdge =>
    exact fun i stamp tm s accepted invalid => (execFieldInputEdge_of_accepted accepted).trans
      (congrArg Host.Outcome.next (if_pos invalid))
  case laterChanges =>
    exact fun tm s => ⟨_, execFieldOutputChange_eq tm s, rfl, fun later => FioSt.takeChanges_of_later later⟩
  case low => exact fun tm t0 s low unwarned long => ⟨_, execFv24Low_of_long low unwarned long, rfl, rfl⟩
  case off => exact fun tm s on up good low => ⟨_, execFv24Off_of_low on up good low, rfl, rfl⟩
  case recover =>
    exact fun tm t0 s off up high long => execFv24Recover_of_long off up (heldFor10ms_of_long high long)
  case rearm =>
    exact fun tm t0 t1 s invalid on up good high longGood longHigh => execCfRearmReady_of_long invalid on up
      (heldFor10ms_of_long good longGood) (heldFor10ms_of_long high longHigh)
  case restore =>
    exact fun tm t0 auto s restore due => ⟨_, execOutputsOn_of_due restore due, rfl, rfl, rfl, rfl⟩
  case warnEnd => exact fun tm s warned high => execUvWarnEnd_of_high warned high
  case fault => exact fun tm s rise => execOutputFault_of_rise rise
  case idle => exact fun tm s idle => execFioDiagTest_of_idle (FioSt.diagApply_diag_of_none idle _)
  case judged =>
    exact fun tm d s running applied inverted elapsed =>
      ⟨_, _, execFioDiagTest_of_inverted running applied (not_lt.mpr elapsed) inverted, rfl, rfl, rfl⟩
  case changes =>
    rintro tm _ s rfl
    exact execFieldOutputChange_eq tm s
  case early => exact fun tm d s running early => execFioDiagTest_of_early running early
  case nextTest =>
    exact fun tm d s running applied restored elapsed undecided =>
      execFioDiagTest_of_undecided running applied (not_lt.mpr elapsed) restored undecided
  case ended =>
    exact fun tm r out d s running applied restored elapsed decided =>
      execFioDiagTest_of_decided running applied (not_lt.mpr elapsed) restored decided

end Sys2Proof.Machine

namespace Sys2Proof.Machine

/-! ## Source samples of the capture unit (R329). -/

section
variable {tm : Nat} {s : State}

/-- Nothing is to be sampled: the domain is off, or no run is armed and none begins by itself (R339). -/
def State.captureIdle (s : State) : Bool :=
  !s.domainOn 13 || !(s.cap.armed || (s.cap.state == .done && s.cap.cfg.rep && !s.cap.stopAfter))

theorem State.captureIdle_of_off (off : s.domainOn 13 = false) : s.captureIdle = true := by
  rw [State.captureIdle, off, Bool.not_false, Bool.true_or]

theorem State.captureIdle_of_armed (on : s.domainOn 13 = true) (armed : s.cap.armed = true) :
    s.captureIdle = false := by
  rw [State.captureIdle, on, armed, Bool.true_or, Bool.not_true, Bool.or_self]

/-- The instant of the next source sample in timer mode (R329). -/
def CapSt.timerAt (c : CapSt) : Nat := c.armTick + 14000 + c.n * c.cfg.period

theorem execCaptureSample_of_idle (idle : s.captureIdle = true) :
    execCaptureSample tm s = .next (s.adv tm) :=
  if_pos idle

section
variable (live : s.captureIdle = false)
include live

theorem execCaptureSample_of_frameMode (frame : s.cap.cfg.mode = 0) :
    execCaptureSample tm s = .next
      (if s.frame.tick + 9500 ≤ max s.nt tm ∧ (s.cap.n = 0 ∨ s.cap.lastAt < s.frame.tick) then
        (s.adv tm).capTake s.frame.tick (.nan, 0) else s.adv tm) := by
  refine (if_neg (Bool.eq_false_iff.mp live)).trans ?_
  rw [State.adv_cap, frame]
  rfl

theorem execCaptureSample_of_timerMode (timer : s.cap.cfg.mode = 1) :
    execCaptureSample tm s = .next
      (if s.cap.timerAt ≤ max s.nt tm then (s.adv tm).capTake s.cap.timerAt (.nan, 0) else s.adv tm) := by
  refine (if_neg (Bool.eq_false_iff.mp live)).trans ?_
  rw [State.adv_cap, timer]
  rfl

theorem execCaptureSample_of_recordMode (record : 2 ≤ s.cap.cfg.mode) :
    execCaptureSample tm s = .next (State.each ((s.adv tm).modCap fun c => { c with recs := [] }) s.cap.recs
      fun t x => t.capTake x.1 (x.2.1, x.2.2)) := by
  refine (if_neg (Bool.eq_false_iff.mp live)).trans ?_
  obtain ⟨k, mode⟩ := Nat.exists_eq_add_of_le' record
  rw [State.adv_cap, mode]
  rfl

end

end

/-- Settles O34: with the domain off the event changes nothing, and on an armed run it comes to its sampling mode's
branch, whose instant the premises decide. -/
theorem captureSamples : Obligations.CaptureSamples := by
  unfold Obligations.CaptureSamples
  refine ⟨?frameDue, ?frameDone, ?timer, ?off, ?record⟩
  case frameDue =>
    exact fun tm s on armed mode due first =>
      (execCaptureSample_of_frameMode (State.captureIdle_of_armed on armed) mode).trans
        (congrArg Host.Outcome.next (if_pos ⟨due, first⟩))
  case frameDone =>
    intro tm s on armed mode sampled done
    have taken : ¬(s.cap.n = 0 ∨ s.cap.lastAt < s.frame.tick) := not_or.mpr ⟨sampled, not_lt.mpr done⟩
    exact (execCaptureSample_of_frameMode (State.captureIdle_of_armed on armed) mode).trans
      (congrArg Host.Outcome.next (if_neg fun both => taken both.2))
  case timer =>
    exact fun tm s on armed mode due =>
      (execCaptureSample_of_timerMode (State.captureIdle_of_armed on armed) mode).trans
        (congrArg Host.Outcome.next (if_pos due))
  case off => exact fun tm s off => execCaptureSample_of_idle (State.captureIdle_of_off off)
  case record =>
    exact fun tm s on armed mode => execCaptureSample_of_recordMode (State.captureIdle_of_armed on armed) mode

end Sys2Proof.Machine

namespace Sys2Proof.Machine

/-! ## A peer delay measured after the port has shut (R360, R512). -/

theorem execPdelayMeasure_of_shut {port : Fin 4} {tm : Nat} {s : State} (t1 t2 t3 t4 : Nat)
    (shut : (s.adv tm).portOk port.val = false) : execPdelayMeasure port t1 t2 t3 t4 tm s = .next (s.adv tm) :=
  if_neg (Bool.eq_false_iff.mp shut)

/-- A device whose ports pass frames, with a test loop on port 0 that began at instant 0 (R512). -/
def loopStarting : State :=
  { State.reset with
    pwr := { State.reset.pwr with domains := 1#16 <<< 10, forwarding := true }
    net := { State.reset.net with ports := Vector.replicate 4 { link := true, full := true, inband := 2, looped := true } }
    age := { State.reset.age with loop := some ⟨0, 1, 0, 0⟩ } }

theorem loopStarting_open : loopStarting.portOk 0 = true := by decide +kernel

/-- NET.BYPASS_LEAD later, the port is shut. -/
theorem loopStarting_shuts : (loopStarting.adv (secs 1)).portOk 0 = false := by decide +kernel

/-- Refutes O36: the clause of the peer delay asks for an open port at the state's own instant, and a port whose test
loop has begun shuts NET.BYPASS_LEAD later. A measurement after that is none, so it keeps the delay, whatever its
stamps say. -/
theorem not_timeUnits : ¬ Obligations.TimeUnits := by
  unfold Obligations.TimeUnits
  rintro ⟨-, -, -, pdelay, -⟩
  have actual (t3 : Nat) : exec (.pdelayMeasure 0 0 0 t3 0 (secs 1)) loopStarting = _ :=
    execPdelayMeasure_of_shut (port := 0) 0 0 t3 0 loopStarting_shuts
  have delay (t3 : Nat) := congrArg (fun t : State => (t.net.ports[(0 : Fin 4)]).pdelay)
    (Host.Outcome.next.inj ((pdelay 0 0 0 t3 0 (secs 1) loopStarting loopStarting_open).symm.trans (actual t3)))
  simp only [State.modNetPort_self] at delay
  have early := delay 0
  have late := delay 1
  rw [← late] at early
  push_cast at early
  linarith

end Sys2Proof.Machine

namespace Sys2Proof.Machine

/-! ## Cyclic frames (R351, R368 to R375). -/

section
variable {tm n : Nat} {c : Crepra} {u s : State}

theorem State.takeSetpoint_nt (s : State) (e : Nat × Nat × NetSp) : (s.takeSetpoint e).nt = s.nt := by
  unfold State.takeSetpoint
  dsimp only
  split <;> rfl

/-- The entries of a frame are taken at the frame's own instant (R370). -/
theorem State.each_takeSetpoint (fc : Nat) (bs : Nat → List Byte) : ∀ (l : List Nat) (s : State),
    (s.each l fun t i => t.takeSetpoint (setpointEntry fc t.nt (bs i))) =
      s.each l fun t i => t.takeSetpoint (setpointEntry fc s.nt (bs i))
  | [], _ => rfl
  | i :: rest, s => by
    have later := State.each_takeSetpoint fc bs rest (s.takeSetpoint (setpointEntry fc s.nt (bs i)))
    rw [State.takeSetpoint_nt] at later
    exact later

theorem execSetpoint_of_taken (taken : (s.adv tm).takeCrepra 1 = (some c, u)) (num : fld c.payload 4 1 = n)
    (low : 1 ≤ n) (high : n ≤ 64) (len : c.payload.length = 8 + 24 * n) {v : State}
    (hv : v = if u.isLate (fld c.payload 0 4) = true then u.modNet fun k => { k with late := count32 k.late } else u) :
    execSetpoint tm s = .next (v.each (List.range n) fun t i =>
      t.takeSetpoint (setpointEntry (fld c.payload 0 4) v.nt (c.payload.drop (8 + 24 * i)))) := by
  have form : ¬(n = 0 ∨ 64 < n ∨ c.payload.length ≠ 8 + 24 * n) := by omega
  simp only [execSetpoint, taken, num, if_neg form, ← hv]
  rw [State.each_takeSetpoint]

theorem execChannelReceive_of_taken (taken : (s.adv tm).takeCrepra 3 = (some c, u)) (num : fld c.payload 4 1 = n)
    (len : c.payload.length = 8 + 20 * n) : execChannelReceive tm s = .next (u.each (List.range n) fun t i =>
      t.takeChannel c.src (fld c.payload 0 4) (c.payload.drop (8 + 20 * i))) := by
  simp only [execChannelReceive, taken, num, len, ne_eq, not_true_eq_false, if_false]

theorem execChannelReceive_of_malformed (taken : (s.adv tm).takeCrepra 3 = (some c, u))
    (len : c.payload.length ≠ 8 + 20 * fld c.payload 4 1) : execChannelReceive tm s = .next u := by
  simp only [execChannelReceive, taken, if_pos len]

/-- A WAKE frame that is in form and without a tag is kept for the Percolator's next sample, any other is dropped
(R375). -/
theorem execWakeFrame_of_taken {f : RxFrame} (taken : (s.adv tm).takeRx ((s.adv tm).isCrepra 6) = some (f, u))
    (hc : c = crepraOf (ethHead f.bytes).body) :
    execWakeFrame tm s = .next (if c.ver = 1 ∧ c.key = 0xFF ∧ c.payload.length = 2 then
      u.modPwr fun p => { p with wakeFrames := p.wakeFrames ++ [(fld c.payload 0 1, fld c.payload 1 1)] } else u) := by
  subst hc
  simp only [execWakeFrame, taken]

end

/-! STATUS and CHANNEL frames leave in their frames (R371, R372). -/

/-- The state as the STATUS of its frame leaves. -/
def State.statusMarked (s : State) : State := s.modNet fun n => { n with statFc := some s.fc }

/-- A STATUS frame that carries these axes leaves. -/
def State.sendStatus (s : State) (l : List (Fin 128)) (dst : Nat) (ports : List Nat) : State :=
  s.crepraSend 2 dst (s.statusPayload l) ports

section
variable {tm d : Nat} {s : State}

theorem execStatusSend_of_due (div : s.pN Pid.cycStatDiv = d) (on : d ≠ 0) (turn : s.fc % d = 0)
    (due : (s.adv tm).sendDue s.net.statFc = true) :
    execStatusSend tm s = .next (if 64 < s.statusAxes.length then
      ((s.adv tm).statusMarked.sendStatus (s.statusAxes.take 64) (s.pN Pid.cycStatDst) (s.sendPorts true true)).sendStatus
        (s.statusAxes.drop 64) (s.pN Pid.cycStatDst) (s.sendPorts true true)
      else (s.adv tm).statusMarked.sendStatus (s.statusAxes.take 64) (s.pN Pid.cycStatDst) (s.sendPorts true true)) := by
  have sends : ((s.adv tm).sendDue (s.adv tm).net.statFc && (s.adv tm).pN Pid.cycStatDiv != 0 &&
      (s.adv tm).fc % (s.adv tm).pN Pid.cycStatDiv == 0) = true := by
    have turn' : (s.adv tm).fc % d = 0 := turn
    rw [State.adv_net, due, State.adv_pN, div, bne_iff_ne.mpr on, beq_iff_eq.mpr turn']
    rfl
  exact if_pos sends

theorem execStatusSend_of_off (off : s.pN Pid.cycStatDiv = 0) : execStatusSend tm s = .next (s.adv tm) := by
  have off' : (s.adv tm).pN Pid.cycStatDiv = 0 := off
  simp only [execStatusSend, off', bne_self_eq_false, Bool.and_false, Bool.false_and, Bool.false_eq_true, if_false]

theorem execChannelSend_of_due {l : List Nat} {u : State} (hu : u = (s.adv tm).modNet fun n => { n with chanFc := some s.fc })
    (due : (s.adv tm).sendDue s.net.chanFc = true) (some_ : l ≠ [])
    (published : ((List.range 16).filter fun c => s.pN (Pid.cycPubC c) / 2 ^ 24 != 0) = l) :
    execChannelSend tm s = .next (u.crepraSend 3 0xFFFF (leBytes 4 ((s.fc + s.pN Pid.cycPubLead) % 2 ^ 32) ++
      leBytes 1 l.length ++ leBytes 3 0 ++ l.flatMap u.channelEntry) (u.sendPorts true true)) := by
  have sends : ((s.adv tm).sendDue s.net.chanFc && !l.isEmpty) = true := by
    rw [due, List.isEmpty_eq_false_iff.mpr some_]
    rfl
  subst hu
  simp only [execChannelSend, State.adv_pN, published, State.adv_net, sends, if_true]
  rfl

end

/-- Settles O37: each frame comes to the branch that its premises name; the entries of a SETPOINT are taken at one
instant, because taking one leaves the device time. -/
theorem cyclicFrames : Obligations.CyclicFrames := by
  unfold Obligations.CyclicFrames
  refine ⟨?inTime, ?late, ?channel, ?malformed, ?status, ?off, ?publish, ?wake, ?tagged, ?twoFrames⟩
  case inTime =>
    intro tm n c u s taken num low high len inTime
    exact execSetpoint_of_taken taken num low high len (if_neg (Bool.eq_false_iff.mp inTime)).symm
  case late =>
    intro tm n c u v s taken num low high len late hv
    exact execSetpoint_of_taken taken num low high len (hv.trans (if_pos late).symm)
  case channel => exact fun _ _ _ _ _ => execChannelReceive_of_taken
  case malformed => exact fun _ _ _ _ => execChannelReceive_of_malformed
  case status =>
    rintro tm d _ s rfl div on turn due short
    refine (execStatusSend_of_due div on turn due).trans (congrArg _ ?_)
    rw [if_neg (Nat.not_lt.mpr short), List.take_of_length_le short]
    rfl
  case off => exact fun _ _ => execStatusSend_of_off
  case publish => exact fun _ _ _ _ => execChannelSend_of_due
  case wake =>
    intro tm f c u s taken hc ver key len
    exact (execWakeFrame_of_taken taken hc).trans (congrArg _ (if_pos ⟨ver, key, len⟩))
  case tagged =>
    intro tm f c u s taken hc key
    exact (execWakeFrame_of_taken taken hc).trans (congrArg _ (if_neg fun form => key form.2.1))
  case twoFrames =>
    rintro tm d _ _ s rfl div on turn due long rfl
    exact (execStatusSend_of_due div on turn due).trans (congrArg _ (if_pos long))

end Sys2Proof.Machine

namespace Sys2Proof.Machine

/-! ## Datagrams (R376, R378, R379). -/

section
variable {tm n : Nat} {f : RxFrame} {u s : State}

theorem execArpRequest_of_taken {h : EthHead} (taken : (s.adv tm).takeIp (s.adv tm).isArp = some (f, u))
    (hh : h = ethHead f.bytes) (hn : n = netOf f.port) :
    execArpRequest tm s = .next (u.ethOut (fin 4 (by decide) f.port) (u.ownPrio 12) (ethPad (u.ownHead n h.src 12 0x0806 ++
      (h.body.take 6 ++ beBytes 2 2 ++ beBytes 6 (u.mac n) ++ beBytes 4 (u.ipAddr n) ++ (h.body.drop 8).take 10)))
        .plain) := by
  subst hh hn
  simp only [execArpRequest, taken]

theorem execArpRequest_of_none (none : (s.adv tm).takeIp (s.adv tm).isArp = none) :
    execArpRequest tm s = .next (s.adv tm).dropIp := by
  simp only [execArpRequest, none]

theorem execIcmpEcho_of_taken {h : EthHead} {icmp ip : List Byte}
    (taken : (s.adv tm).takeIp (s.adv tm).isEcho = some (f, u)) (hh : h = ethHead f.bytes) (hn : n = netOf f.port)
    (hicmp : icmp = leBytes 4 0 ++ (ip4Of h.body).data.drop 4)
    (hip : ip = beBytes 2 0x4500 ++ beBytes 2 (20 + icmp.length) ++ beBytes 4 0 ++ beBytes 2 0x4001 ++ beBytes 2 0 ++
      beBytes 4 (u.ipAddr n) ++ beBytes 4 (ip4Of h.body).src)
    (len : (patchAt icmp 2 (beBytes 2 (inetSum icmp))).length = icmp.length) :
    execIcmpEcho tm s = .next (u.ethOut (fin 4 (by decide) f.port) (u.ownPrio 12) (ethPad (u.ownHead n h.src 12 0x0800 ++
      patchAt ip 10 (beBytes 2 (inetSum ip)) ++ patchAt icmp 2 (beBytes 2 (inetSum icmp)))) .plain) := by
  subst hh hn
  simp only [execIcmpEcho, taken, ← hicmp, len, ← hip]

/-! Clear datagrams (R378). -/

theorem execClearDatagram_of_form {d : Dgram} (taken : (s.adv tm).takeIp ((s.adv tm).isDgram 0) = some (f, u))
    (hd : d = dgramOf f) (runs : u.fwRuns = true) (mbx : fld d.bytes 2 1 = 0xFF) (session : fld d.bytes 4 4 = 0)
    (fresh : u.clearRuns d (fld (d.bytes.drop 16) 0 2) = false) {found : Option (Fin 16)}
    (free : (allMbx.find? fun m => u.netOnly m && (u.mbx[m]).owner == .free) = found) :
    execClearDatagram tm s = .next (match found with
      | some m => State.netCommand (u.modNet fun n =>
          { n with clear := n.clear ++ [(m.val, d.net, d.mac, d.ip, d.port)] }) m (d.bytes.drop 16)
      | none => u.udpBusy d) := by
  subst hd
  simp only [execClearDatagram, taken, runs, mbx, session, fresh, free, Bool.not_true, Bool.false_eq_true, if_false,
    ne_eq, not_true_eq_false, or_self]
  cases found <;> rfl

/-! Protected datagrams (R379). -/

theorem execProtectedDatagram_of_bad (taken : (s.adv tm).takeIp ((s.adv tm).isDgram 1) = some (f, u))
    (runs : u.fwRuns = true) (bad : u.openDgram (dgramOf f) = none) :
    execProtectedDatagram tm s = .next u.udpReject := by
  simp only [execProtectedDatagram, taken, runs, bad, Bool.not_true, Bool.false_eq_true, if_false]

theorem State.openDgram_of_fresh {d : Dgram} {x : Session} (known : u.session (fld d.bytes 4 4) = some x)
    (net : x.owner = .net) (mbx : x.mbx = fld d.bytes 2 1) (fresh : x.fresh (fld d.bytes 8 8) = true) :
    u.openDgram d = (Config.gcmOpen (x.keys.take 32) (leBytes 4 x.id ++ leBytes 8 (fld d.bytes 8 8)) (d.bytes.take 16)
      (d.bytes.drop 16)).map fun frame => (x, frame) := by
  simp only [State.openDgram, known, net, mbx, fresh, bne_self_eq_false, Bool.not_true, Bool.or_self,
    Bool.false_eq_true, if_false]

theorem execProtectedDatagram_of_new {d : Dgram} {x : Session} {frame : List Byte} {v : State}
    (taken : (s.adv tm).takeIp ((s.adv tm).isDgram 1) = some (f, u)) (hd : d = dgramOf f) (runs : u.fwRuns = true)
    (opened : u.openDgram d = some (x, frame))
    (hv : v = (u.modSession x.id fun y => { y.accept (fld d.bytes 8 8) with
      net := d.net, peerMac := d.mac, peerIp := d.ip, peerPort := d.port }))
    (idle : (v.mbx[fin 16 (by decide) x.mbx]).state = .idle) :
    execProtectedDatagram tm s = .next (v.netCommand (fin 16 (by decide) x.mbx) frame) := by
  subst hd
  simp only [execProtectedDatagram, taken, runs, opened, ← hv, idle, Bool.not_true, Bool.false_eq_true, if_false]

end

/-! Event datagrams (R379). -/

/-- A session whose first 30 waiting records have left (R379). -/
def Session.evtsSent (y : Session) (now : Nat) : Session :=
  { y with evts := y.evts.drop 30, evtFrom := now, evtSeq := (y.evtSeq + 1) % 65536 }

/-- The event datagram of a session: its first 30 waiting records. -/
def Session.evtFrame (x : Session) : List Byte :=
  response (leBytes 2 x.evtSeq ++ leBytes 2 0x20 ++ leBytes 4 0 ++ leBytes 4 x.id) 0 0 4
    ((x.evts.take 30).flatMap EvtRec.bytes)

section
variable {sid tm : Nat} {x : Session} {s : State}

theorem execEventDatagramSend_of_due (known : s.session sid = some x) (net : x.owner = .net) (proved : x.proved = true)
    (waits : x.evts ≠ []) (due : 30 ≤ x.evts.length ∨ x.evtFrom + ms (s.pN Pid.netEvtPeriod) ≤ max s.nt tm) :
    execEventDatagramSend sid tm s = .next (State.sendSession
      ((s.adv tm).modSession sid fun y => y.evtsSent (max s.nt tm)) x x.evtFrame) := by
  have known' : (s.adv tm).session sid = some x := known
  have due' : (decide (30 ≤ x.evts.length) || decide (x.evtFrom + ms (s.pN Pid.netEvtPeriod) ≤ max s.nt tm)) = true := by
    simpa only [Bool.or_eq_true, decide_eq_true_eq] using due
  simp only [execEventDatagramSend, known', net, proved, List.isEmpty_eq_false_iff.mpr waits, State.adv_pN, State.adv_nt, due',
    beq_self_eq_true, Bool.not_false, Bool.and_self, if_true]
  rfl

theorem execEventDatagramSend_of_no_record (known : s.session sid = some x) (none : x.evts = []) :
    execEventDatagramSend sid tm s = .next (s.adv tm) := by
  have known' : (s.adv tm).session sid = some x := known
  simp only [execEventDatagramSend, known', none, List.isEmpty_nil, Bool.not_true, Bool.and_false, Bool.false_and,
    Bool.false_eq_true, if_false]

end

/-- Settles O38: each packet comes to the branch that its premises name; what a protected datagram comes to hangs on
whether the cipher opens it. -/
theorem datagrams : Obligations.Datagrams := by
  unfold Obligations.Datagrams
  refine ⟨?arp, ?noArp, ?echo, ?clear, ?clearBusy, ?bad, ?opened, ?thirty, ?noRecord, ?period⟩
  case arp => exact fun _ _ _ _ _ _ => execArpRequest_of_taken
  case noArp => exact fun _ _ => execArpRequest_of_none
  case echo => exact fun _ _ _ _ _ _ _ _ => execIcmpEcho_of_taken
  case clear =>
    exact fun _ _ _ _ _ _ taken hd runs mbx session fresh free =>
      execClearDatagram_of_form taken hd runs mbx session fresh free
  case clearBusy =>
    intro tm f u s taken runs mbx session fresh held
    refine execClearDatagram_of_form taken rfl runs mbx session fresh (List.find?_eq_none.mpr fun m _ free => ?_)
    rw [Bool.and_eq_true, beq_iff_eq] at free
    exact (held m).elim (fun closed => Bool.false_ne_true (closed.symm.trans free.1)) (absurd free.2)
  case bad => exact fun _ _ _ _ => execProtectedDatagram_of_bad
  case opened =>
    intro tm f d x u v s taken hd runs known net mbx fresh hv idle
    have opens := State.openDgram_of_fresh known net mbx fresh
    cases opened : Config.gcmOpen (x.keys.take 32) (leBytes 4 x.id ++ leBytes 8 (fld d.bytes 8 8)) (d.bytes.take 16)
        (d.bytes.drop 16) with
    | none =>
      rw [opened, Option.map_none, hd] at opens
      exact ⟨_, execProtectedDatagram_of_bad taken runs opens, fun _ => rfl, fun _ none => nomatch none⟩
    | some frame =>
      rw [opened, Option.map_some] at opens
      refine ⟨_, execProtectedDatagram_of_new taken hd runs opens hv idle, nofun, fun frame' same => ?_⟩
      rw [Option.some.inj same]
  case thirty =>
    intro sid tm x s known net proved thirty
    have waits : x.evts ≠ [] := List.ne_nil_of_length_pos (by omega)
    exact execEventDatagramSend_of_due known net proved waits (.inl thirty)
  case noRecord => exact fun _ _ _ _ => execEventDatagramSend_of_no_record
  case period =>
    exact fun _ _ _ _ known net proved waits due => execEventDatagramSend_of_due known net proved waits (.inr due)

end Sys2Proof.Machine

namespace Sys2Proof.Machine

/-! ## What a report leaves alone (R44, R46): a cause in IRQ_STATUS, an event, a note for the capture unit.

A report writes the host's queues and flags, the events of the network sessions, the notes of the capture unit and what
leaves the device. It takes no flag back and leaves the time of the last FW_ALIVE. -/

/-- `t` is `s` with something reported. -/
structure State.Reported (s t : State) : Prop where
  eq : t = { s with host := t.host, sec := { s.sec with sessions := t.sec.sessions }, cap := t.cap, out := t.out }
  alive : t.host.fwAliveAt = s.host.fwAliveAt
  flags : ∀ i, s.host.irqStatus.getLsbD i = true → t.host.irqStatus.getLsbD i = true

theorem State.Reported.refl (s : State) : s.Reported s := ⟨rfl, rfl, fun _ => id⟩

theorem State.Reported.trans {s t u : State} (first : s.Reported t) (second : t.Reported u) : s.Reported u where
  eq := second.eq.trans (congrArg (fun x : State =>
    { x with host := u.host, sec := { x.sec with sessions := u.sec.sessions }, cap := u.cap, out := u.out }) first.eq)
  alive := second.alive.trans first.alive
  flags i set := second.flags i (first.flags i set)

/-- What reads none of the parts that a report writes reads the same after it. -/
theorem State.Reported.same {β : Type} (g : State → β) {s t : State} (report : s.Reported t)
    (apart : ∀ (u : State) h l c o,
      g { u with host := h, sec := { u.sec with sessions := l }, cap := c, out := o } = g u) : g t = g s :=
  (congrArg g report.eq).trans (apart s _ _ _ _)

theorem State.reported_irq (s : State) (b : Word) : s.Reported (s.irq b) := by
  obtain ⟨o, e⟩ := s.irq_eq b
  rw [e]
  exact ⟨rfl, rfl, fun i set => by rw [BitVec.getLsbD_or, set, Bool.true_or]⟩

/-- The flag of a cause is set. -/
theorem State.irq_flag (s : State) {i : Nat} (low : i < 32) : (s.irq (irqBit i)).host.irqStatus.getLsbD i = true := by
  have own : (irqBit i).getLsbD i = true := by
    rw [irqBit, BitVec.getLsbD_shiftLeft, Nat.sub_self, decide_eq_true low, decide_eq_false (Nat.lt_irrefl i)]
    rfl
  rw [State.irq_host, BitVec.getLsbD_or, own, Bool.or_true]

theorem State.reported_capEvent (s : State) (kind arg : Nat) : s.Reported (s.capEvent kind arg) := by
  obtain ⟨c, e⟩ := s.capEvent_changes kind arg
  rw [e]
  exact ⟨rfl, rfl, fun _ => id⟩

theorem State.reported_queueLocal (s : State) (r : EvtRec) : s.Reported (s.queueLocal r) := by
  unfold State.queueLocal
  split
  · exact State.Reported.trans (t := s.modHost fun h =>
      { h with evt := h.evt ++ [{ r with lostBefore := h.evtDropped }], evtDropped := false })
      ⟨rfl, rfl, fun _ => id⟩ (State.reported_irq _ _)
  · exact ⟨rfl, rfl, fun _ => id⟩

theorem State.reported_eventIf (s : State) (always : Bool) (code inst data : Nat) :
    s.Reported (s.eventIf always code inst data) := by
  unfold State.eventIf
  extract_lets r taken queued
  have local_ : s.Reported taken := by
    unfold taken
    split
    · exact s.reported_queueLocal r
    · exact .refl s
  have net : s.Reported queued := local_.trans ⟨rfl, rfl, fun _ => id⟩
  split
  · exact net.trans (State.reported_capEvent _ _ _)
  · exact net

theorem State.reported_event (s : State) (code inst data : Nat) : s.Reported (s.event code inst data) :=
  s.reported_eventIf false code inst data

theorem State.reported_each {α : Type} {f : State → α → State} (one : ∀ (t : State) x, t.Reported (f t x)) (l : List α)
    (s : State) : s.Reported (s.each l f) :=
  State.each_keeps s.Reported f (fun t x kept => kept.trans (one t x)) l s (.refl s)

/-! ## A fault is raised (R434, R440, R443, R444): it is taken, its axes react, and it is reported. -/

/-- The report of a raise: event FAULT, the notes of the capture unit, and FAULT in IRQ_STATUS. -/
def State.reportFault (s : State) (code inst level : Nat) : State :=
  let min := s.pN Pid.hostEvtFaultMin
  let s := s.eventIf (decide (min ≤ level)) 0x0102 inst (code + level * 65536)
  let s := (s.capEvent 2 code).each (List.range (level + 1)) fun t k => t.capEvent 3 k
  if min ≤ level then s.irq (irqBit 19) else s

theorem State.reported_reportFault (s : State) (code inst level : Nat) : s.Reported (s.reportFault code inst level) := by
  unfold State.reportFault
  extract_lets min noted captured
  have report : s.Reported captured := ((s.reported_eventIf _ _ _ _).trans (State.reported_capEvent _ _ _)).trans
    (State.reported_each (fun t k => t.reported_capEvent 3 k) _ _)
  split
  · exact report.trans (State.reported_irq _ _)
  · exact report

theorem State.reportFault_flag {s : State} {code inst level : Nat} (shown : s.pN Pid.hostEvtFaultMin ≤ level) :
    (s.reportFault code inst level).host.irqStatus.getLsbD 19 = true := by
  have flagged := State.irq_flag (((s.eventIf (decide (s.pN Pid.hostEvtFaultMin ≤ level)) 0x0102 inst
    (code + level * 65536)).capEvent 2 code).each (List.range (level + 1)) fun t k => t.capEvent 3 k)
    (show 19 < 32 by decide)
  rw [State.reportFault, if_pos shown]
  exact flagged

/-- The reactions of the target axes to a raise. -/
def State.reactTo (s : State) (code inst : Nat) (lv : List (Fin 128 × Nat)) : State :=
  s.each lv fun t x => if 1 ≤ x.2 then t.modAxis x.1 (·.react code inst x.2 s.nt s.fc) else t

theorem State.reactTo_changes (s : State) (code inst : Nat) (lv : List (Fin 128 × Nat)) :
    ∃ x, s.reactTo code inst lv = { s with axes := x } := by
  refine State.each_keeps (fun t => ∃ x, t = { s with axes := x }) _ (fun t y kept => ?_) lv s ⟨_, rfl⟩
  obtain ⟨x, rfl⟩ := kept
  split
  · exact ⟨_, rfl⟩
  · exact ⟨_, rfl⟩

/-- Beside its report, a raise changes the fault unit and the axes. -/
theorem State.raiseAt_changes (s : State) (code inst : Nat) (targets : List (Fin 128)) (data dflt : Nat) (fixed : Bool) :
    ∃ f x, ({ s with flt := f, axes := x } : State).Reported (s.raiseAt code inst targets data dflt fixed) := by
  unfold State.raiseAt
  split
  next lv level ovr levels =>
    split
    · exact ⟨_, _, .refl _⟩
    · split
      · exact ⟨_, _, .refl _⟩
      · extract_lets merged preempt firstAx firstCl e la
        split
        next f ok written =>
          extract_lets p f1 f2 taken reacted
          obtain ⟨x, e⟩ := State.reactTo_changes taken code inst lv
          have report := State.reported_reportFault reacted code inst level
          have same : reacted = { s with flt := f2, axes := x } := e
          refine ⟨f2, x, ?_⟩
          rw [← same]
          exact report

/-- What reads none of the parts that a raise or its report writes reads the same after it. -/
theorem State.raiseAt_same {β : Type} (g : State → β) (s : State) (code inst : Nat) (targets : List (Fin 128))
    (data dflt : Nat) (fixed : Bool) (apart : ∀ (u : State) f x h l c o,
      g { u with flt := f, axes := x, host := h, sec := { u.sec with sessions := l }, cap := c, out := o } = g u) :
    g (s.raiseAt code inst targets data dflt fixed) = g s := by
  obtain ⟨f, x, report⟩ := s.raiseAt_changes code inst targets data dflt fixed
  exact (congrArg g report.eq).trans (apart s _ _ _ _ _ _)

@[simp] theorem State.raise_age (s : State) (code inst : Nat) (targets : List (Fin 128)) (data : Nat) :
    (s.raise code inst targets data).age = s.age :=
  s.raiseAt_same State.age code inst targets data _ _ fun _ _ _ _ _ _ _ => rfl

@[simp] theorem State.raise_pwr (s : State) (code inst : Nat) (targets : List (Fin 128)) (data : Nat) :
    (s.raise code inst targets data).pwr = s.pwr :=
  s.raiseAt_same State.pwr code inst targets data _ _ fun _ _ _ _ _ _ _ => rfl

@[simp] theorem State.raise_nt (s : State) (code inst : Nat) (targets : List (Fin 128)) (data : Nat) :
    (s.raise code inst targets data).nt = s.nt :=
  s.raiseAt_same State.nt code inst targets data _ _ fun _ _ _ _ _ _ _ => rfl

end Sys2Proof.Machine

namespace Sys2Proof.Machine

/-! ## The queue, and the end of every command. -/

/-- Settles O52: each clause is the branch of `step`, or of the decoder that spells nothing, that its hypothesis names. -/
theorem stepTakesTheFrontCommand : Obligations.StepTakesTheFrontCommand := by
  unfold Obligations.StepTakesTheFrontCommand
  refine ⟨?front, ?empty, ?word⟩
  case front =>
    intro c rest s queued
    unfold step
    rw [queued]
  case empty =>
    intro s empty
    unfold step
    rw [empty]
  case word => exact fun _ _ _ => rfl

/-- An outcome whose memories are known is a next state. -/
theorem next_of_memoriesAfter {o : Host.Outcome State Fault Refusal} {m : Memories} (h : memoriesAfter o = some m) :
    ∃ t, o = .next t := by
  match o, h with
  | .next t, _ => exact ⟨t, rfl⟩

theorem execMbxResponse_next (m : Fin 16) (tm : Nat) (s : State) : ∃ t, execMbxResponse m tm s = .next t := by
  unfold execMbxResponse
  extract_lets t
  split <;> exact ⟨_, rfl⟩

theorem execMbxDeadline_next (m : Fin 16) (tm : Nat) (s : State) : ∃ t, execMbxDeadline m tm s = .next t := by
  unfold execMbxDeadline
  extract_lets t b
  split
  · exact ⟨_, rfl⟩
  · split
    case' h_4 => split
    all_goals exact ⟨_, rfl⟩

theorem execFrameTick_next (s : State) : ∃ t, execFrameTick s = .next t := by
  unfold execFrameTick
  split <;> exact ⟨_, rfl⟩

theorem execCaptureSample_next (tm : Nat) (s : State) : ∃ t, execCaptureSample tm s = .next t := by
  unfold execCaptureSample
  extract_lets t c g
  split
  · exact ⟨_, rfl⟩
  · split <;> exact ⟨_, rfl⟩

theorem execClearDatagram_next (tm : Nat) (s : State) : ∃ t, execClearDatagram tm s = .next t := by
  unfold execClearDatagram
  extract_lets start
  split
  · exact ⟨_, rfl⟩
  · extract_lets d frame
    split
    · exact ⟨_, rfl⟩
    · split
      · exact ⟨_, rfl⟩
      · split <;> exact ⟨_, rfl⟩

theorem execProtectedDatagram_next (tm : Nat) (s : State) : ∃ t, execProtectedDatagram tm s = .next t := by
  unfold execProtectedDatagram
  extract_lets start
  split
  · exact ⟨_, rfl⟩
  · extract_lets d
    split
    · exact ⟨_, rfl⟩
    · split
      · exact ⟨_, rfl⟩
      · extract_lets u m b seq x
        split <;> exact ⟨_, rfl⟩

theorem execTwinImageCommit_next (tm : Nat) (s : State) : ∃ t, execTwinImageCommit tm s = .next t := by
  unfold execTwinImageCommit
  extract_lets start t due done u
  split
  · exact ⟨_, rfl⟩
  · split
    split
    · split <;> exact ⟨_, rfl⟩
    · exact ⟨_, rfl⟩

theorem execDeepSleepEntry_next (tm : Nat) (s : State) : ∃ t, execDeepSleepEntry tm s = .next t := by
  unfold execDeepSleepEntry
  extract_lets t
  split <;> exact ⟨_, rfl⟩

theorem execFwWatchdog_next (lockstep : Bool) (tm : Nat) (s : State) : ∃ t, execFwWatchdog lockstep tm s = .next t := by
  unfold execFwWatchdog
  extract_lets t stuck dead u l v
  split <;> exact ⟨_, rfl⟩

theorem execSessionIdle_next (sid tm : Nat) (s : State) : ∃ t, execSessionIdle sid tm s = .next t := by
  unfold execSessionIdle
  extract_lets t
  split <;> exact ⟨_, rfl⟩

theorem execPageCheckFail_next (tm : Nat) (s : State) : ∃ t, execPageCheckFail tm s = .next t := by
  unfold execPageCheckFail
  extract_lets t i
  split <;> exact ⟨_, rfl⟩

theorem execCallReset_next (tm : Nat) (s : State) : ∃ t, execCallReset tm s = .next t := by
  unfold execCallReset
  extract_lets t
  split <;> exact ⟨_, rfl⟩

/-- The commands that write an addressed memory are the ones named here; every other one leaves the memories, which
it can only do in a next state. -/
theorem exec_next (c : Instr) (s : State) : ∃ t, exec c s = .next t := by
  cases c with
  | qspiWrite off bs tm => exact ⟨_, rfl⟩
  | qspiQwrite off bs tm => exact ⟨_, rfl⟩
  | registerWrite p off v tm => exact ⟨_, rfl⟩
  | pcieLinkDown tm => exact ⟨_, rfl⟩
  | pciePerst tm => exact ⟨_, rfl⟩
  | mbxRelease p m => exact ⟨_, rfl⟩
  | mbxAutoBusy m tm => exact ⟨_, rfl⟩
  | mbxResponse m tm => exact execMbxResponse_next m tm s
  | mbxDeadline m tm => exact execMbxDeadline_next m tm s
  | piBankWrite p off v tm => exact ⟨_, rfl⟩
  | piStatusUpdate tm => exact ⟨_, rfl⟩
  | secOperSet m tm => exact ⟨_, rfl⟩
  | frameTick => exact execFrameTick_next s
  | captureSample tm => exact execCaptureSample_next tm s
  | clearDatagram tm => exact execClearDatagram_next tm s
  | protectedDatagram tm => exact execProtectedDatagram_next tm s
  | twinImageCommit tm => exact execTwinImageCommit_next tm s
  | deepSleepEntry tm => exact execDeepSleepEntry_next tm s
  | fwWatchdog lockstep tm => exact execFwWatchdog_next lockstep tm s
  | sessionIdle sid tm => exact execSessionIdle_next sid tm s
  | supplyInvalid i tm => exact ⟨_, rfl⟩
  | nresetAssert tm => exact ⟨_, rfl⟩
  | clockMissing tm => exact ⟨_, rfl⟩
  | pageCheckFail tm => exact execPageCheckFail_next tm s
  | callReset tm => exact execCallReset_next tm s
  | junctionSample tj tm => exact ⟨_, rfl⟩
  | _ => exact next_of_memoriesAfter (m := s.memories) (by simp [exec])

/-- Settles O59: a step on an empty queue idles, and any other runs one command, which completes. -/
theorem everyCommandCompletes : Obligations.EveryCommandCompletes := by
  unfold Obligations.EveryCommandCompletes
  refine ⟨exec_next, fun s => ?_⟩
  unfold step
  split
  · exact ⟨s, rfl⟩
  · exact exec_next _ _

/-! ## The first raise of a fault (R434, R440, R443, R444). -/

theorem Axis.react_state (x : Axis) (code inst level nt fc : Nat) : (x.react code inst level nt fc).state = x.state := rfl

/-- An axis takes a higher level and keeps an equal or lower one. -/
theorem Axis.react_level (x : Axis) (code inst level nt fc : Nat) : (x.react code inst level nt fc).rea.level =
    if x.rea.level = 7 ∨ x.rea.level < level then level else x.rea.level := by
  unfold Axis.react
  extract_lets r raised latched
  have kept : latched.level = raised.level := by
    unfold latched
    split <;> rfl
  have taken : raised.level = if x.rea.level = 7 ∨ x.rea.level < level then level else x.rea.level := by
    unfold raised
    split <;> rfl
  exact kept.trans taken

/-- The first fault from L2 on fills an empty latch. -/
theorem Axis.react_first (x : Axis) (code inst nt fc : Nat) {level : Nat} (held : 2 ≤ level) (free : x.rea.first.code = 0) :
    (x.react code inst level nt fc).rea.first.code = code := by
  unfold Axis.react
  extract_lets r raised latched
  have same : raised.first = x.rea.first := by
    unfold raised
    split <;> rfl
  have empty : raised.first.free = true := by rw [same, Latch.free, free]; rfl
  have filled : latched.first.code = code := by
    unfold latched
    rw [if_pos ⟨held, empty⟩]
  exact filled

/-- The log has room for an entry, which takes the next sequence number. -/
theorem FaultSt.write_of_room {f : FaultSt} (e : LogEntry) (room : f.log.length < 256) :
    f.write e = ({ f with log := f.log ++ [{ e with seq := f.nextSeq }], nextSeq := f.nextSeq + 1 }, true) := if_pos room

/-- The fault unit and the entry of the first raise at level L1 or higher of a fault with one target axis. -/
theorem State.raiseAt_of_first {s : State} {code inst data dflt level : Nat} {fixed ovr : Bool}
    {targets : List (Fin 128)} {a : Fin 128} (new : s.faultOn code inst = false) (held : 1 ≤ level)
    (levels : s.raiseLevels code dflt fixed targets = ([(a, level)], level, ovr)) (room : s.flt.log.length < 256) :
    ∃ (f : FaultSt) (e : LogEntry) (p : InForce), s.raiseAt code inst targets data dflt fixed =
        (({ s with flt := f } : State).modAxis a (·.react code inst level s.nt s.fc)).reportFault code inst level ∧
      f.log = s.flt.log ++ [e] ∧ f.inForce = s.flt.inForce ++ [p] ∧ e.seq = s.flt.nextSeq ∧ e.kind = .raised ∧
      e.code = code ∧ e.inst = inst ∧ e.applied = level ∧ e.nt = s.nt ∧
      e.merged = (s.axes[a].rea.level != 7 && decide (level ≤ s.axes[a].rea.level)) ∧ e.data = data ∧
      p.code = code ∧ p.inst = inst ∧ p.level = level ∧ p.targets = [(a.val, level)] ∧ p.seq = some e.seq := by
  have unforced : ¬(s.flt.inForce.any fun x => x.code == code && x.inst == inst) = true := by
    rw [show (s.flt.inForce.any fun x => x.code == code && x.inst == inst) = false from new]
    exact Bool.false_ne_true
  unfold State.raiseAt
  rw [levels]
  simp -zeta only [if_neg unforced]
  rw [if_neg (fun low => absurd low.1 (by omega))]
  extract_lets merged preempt firstAx firstCl e p f1 la f2 taken reacted
  have written : s.flt.write e = _ := FaultSt.write_of_room e room
  have react : reacted = taken.modAxis a (·.react code inst level s.nt s.fc) := if_pos held
  have forced : f1.inForce = s.flt.inForce ++ [p] := by
    unfold f1
    rw [if_pos held, written]
  have logged : f1.log = s.flt.log ++ [{ e with seq := s.flt.nextSeq }] := by
    unfold f1
    rw [if_pos held, written]
  have latched : f2.inForce = f1.inForce ∧ f2.log = f1.log := by
    unfold f2
    split
    · split <;> exact ⟨rfl, rfl⟩
    · exact ⟨rfl, rfl⟩
  have numbered : p.seq = some s.flt.nextSeq := by
    unfold p
    rw [written]
    rfl
  refine ⟨f2, { e with seq := s.flt.nextSeq }, p, ?_, latched.2.trans logged, latched.1.trans forced,
    rfl, rfl, rfl, rfl, rfl, rfl, Bool.or_false _, rfl, rfl, rfl, rfl, rfl, numbered⟩
  exact congrArg (State.reportFault · code inst level) react

/-- Settles O58: the raise writes the fault unit, the axis reacts, and the report leaves both. -/
theorem firstRaiseTakesForce : Obligations.FirstRaiseTakesForce := by
  unfold Obligations.FirstRaiseTakesForce
  intro code inst data dflt fixed ovr targets a level s new held levels room
  obtain ⟨f, e, p, raised, logged, forced, seq, kind, ofCode, ofInst, applied, at_, merged, extra, pair⟩ :=
    State.raiseAt_of_first (data := data) new held levels room
  obtain ⟨pcode, pinst, plevel, ptargets, pseq⟩ := pair
  have report := State.reported_reportFault
    (({ s with flt := f } : State).modAxis a (·.react code inst level s.nt s.fc)) code inst level
  rw [← raised] at report
  have axes : (s.raiseAt code inst targets data dflt fixed).axes = s.axes.set a (s.axes[a].react code inst level s.nt s.fc) :=
    report.same State.axes fun _ _ _ _ _ => rfl
  have own : (s.raiseAt code inst targets data dflt fixed).axes[a] = s.axes[a].react code inst level s.nt s.fc := by
    rw [axes]
    exact vector_set_self _ _ _
  refine ⟨_, e, p, rfl, (report.same (·.flt.log) fun _ _ _ _ _ => rfl).trans logged,
    (report.same (·.flt.inForce) fun _ _ _ _ _ => rfl).trans forced, seq, kind, ofCode, ofInst, applied, at_, merged, extra,
    pcode, pinst, plevel, ptargets, pseq, fun b other => ?others, ?state, ?level, fun two free => ?first,
    fun shown => ?flag, report.same State.mbx fun _ _ _ _ _ => rfl, report.same State.links fun _ _ _ _ _ => rfl,
    report.same State.par fun _ _ _ _ _ => rfl⟩
  case others =>
    rw [axes]
    exact (vector_set_get _ _ _ _).trans (if_neg other.symm)
  case state =>
    rw [own]
    exact Axis.react_state ..
  case level =>
    rw [own]
    exact Axis.react_level ..
  case first =>
    rw [own]
    exact Axis.react_first _ _ _ _ _ two free
  case flag =>
    rw [raised]
    exact State.reportFault_flag shown

end Sys2Proof.Machine

namespace Sys2Proof.Machine

/-! ## What the operations of the safety channels leave alone (R403 to R428). -/

/-- What the safety operations read and never write: the variant, the time, the supplies and domains, the fault unit,
and whether the cross-check is armed. -/
def State.safGround (s : State) : Bool × Nat × PwrSt × FaultSt × Bool := (s.ib, s.nt, s.pwr, s.flt, s.saf.armed)

theorem State.Reported.safGround {s t : State} (report : s.Reported t) : t.safGround = s.safGround :=
  report.same State.safGround fun _ _ _ _ _ => rfl

@[simp] theorem State.event_safGround (s : State) (code inst data : Nat) :
    (s.event code inst data).safGround = s.safGround :=
  (s.reported_event code inst data).safGround

@[simp] theorem State.irq_safGround (s : State) (b : Word) : (s.irq b).safGround = s.safGround :=
  (s.reported_irq b).safGround

@[simp] theorem State.each_safGround {α : Type} {f : State → α → State} (h : ∀ t x, (f t x).safGround = t.safGround)
    (s : State) (l : List α) : (s.each l f).safGround = s.safGround :=
  State.each_same State.safGround f h l s

@[simp] theorem State.ite_safGround {c : Prop} [Decidable c] (s t : State) :
    (if c then s else t).safGround = if c then s.safGround else t.safGround := apply_ite _ _ _ _

@[simp] theorem State.modLink_safGround (s : State) (l : Fin 32) (f : LinkSt → LinkSt) :
    (s.modLink l f).safGround = s.safGround := (rfl)

@[simp] theorem State.modAxis_safGround (s : State) (a : Fin 128) (f : Axis → Axis) :
    (s.modAxis a f).safGround = s.safGround := (rfl)

@[simp] theorem State.emit_safGround (s : State) (o : Out) : (s.emit o).safGround = s.safGround := (rfl)

@[simp] theorem State.modChan_safGround (s : State) (ch : Fin 2) (f : ChanSt → ChanSt) :
    (s.modChan ch f).safGround = s.safGround := (rfl)

@[simp] theorem State.modGrp_safGround (s : State) (ch : Fin 2) (g : Fin 16) (f : GrpSt → GrpSt) :
    (s.modGrp ch g f).safGround = s.safGround := (rfl)

/-- A change of the safety state that leaves the arming leaves the ground. -/
@[simp] theorem State.modSaf_safGround (s : State) (f : SafSt → SafSt) (kept : (f s.saf).armed = s.saf.armed) :
    (s.modSaf f).safGround = s.safGround :=
  congrArg (fun b => (s.ib, s.nt, s.pwr, s.flt, b)) kept

@[simp] theorem State.linkSend_safGround (s : State) (l : Fin 32) (syms : List Sym) :
    (s.linkSend l syms).safGround = s.safGround := (rfl)

@[simp] theorem State.cutTx_safGround (s : State) (l : Fin 32) : (s.cutTx l).safGround = s.safGround := by
  simp [State.cutTx]

@[simp] theorem State.sendKill_safGround (s : State) (l : Fin 32) (mask : BitVec 4) :
    (s.sendKill l mask).safGround = s.safGround := by
  simp [State.sendKill, State.sendKills]

@[simp] theorem State.axesSto_safGround (s : State) (as_ : List (Fin 128)) :
    (s.axesSto as_).safGround = s.safGround := by
  simp [State.axesSto]

@[simp] theorem State.killLinks_safGround (s : State) (ls : List (Fin 32)) :
    (s.killLinks ls).safGround = s.safGround := by
  simp [State.killLinks]

@[simp] theorem State.stoAt_safGround (s : State) (ch : Fin 2) (g : Fin 16) (demand : Bool) :
    (s.stoAt ch g demand).safGround = s.safGround := by
  simp [State.stoAt]

@[simp] theorem State.ss1At_safGround (s : State) (ch : Fin 2) (g : Fin 16) (demand : Bool) :
    (s.ss1At ch g demand).safGround = s.safGround := by
  simp [State.ss1At]
  split <;> simp

@[simp] theorem State.endStop_safGround (s : State) (g : Fin 16) : (s.endStop g).safGround = s.safGround := by
  simp [State.endStop]

@[simp] theorem State.autoRestart_safGround (s : State) : s.autoRestart.safGround = s.safGround := by
  simp [State.autoRestart]

@[simp] theorem State.soUpdate_safGround (s : State) : s.soUpdate.safGround = s.safGround := (rfl)

@[simp] theorem State.safDone_safGround (s : State) : s.safDone.safGround = s.safGround := by
  unfold State.safDone
  extract_lets updated need clear noted c d
  have kept : noted.safGround = s.safGround := by simp [noted, updated]
  split
  · exact kept
  · have told : (noted.modSaf fun k => { k with lastEvt := d }).safGround = noted.safGround :=
      State.modSaf_safGround _ _ rfl
    rw [State.event_safGround, State.irq_safGround, told, kept]

@[simp] theorem State.safEval_safGround (s : State) (ch : Fin 2) : (s.safEval ch).safGround = s.safGround := by
  simp [State.safEval]

@[simp] theorem State.adopt_safGround (s : State) (ch : Fin 2) : (s.adopt ch).safGround = s.safGround := by
  unfold State.adopt
  extract_lets o stopped od
  have kept : stopped.safGround = s.safGround := by
    refine State.each_safGround (fun t g => ?_) _ _
    extract_lets x started
    split <;> simp [started]
  split <;> simp [kept]

/-! ## The cross-check without the supply of the other channel (R404). -/

/-- A device of the IB variant whose PROCESSOR channel runs, without the supply of the other channel. -/
def processorChannelAlone : State :=
  { State.reset with ib := true, pwr := { State.reset.pwr with domains := 0x200, switching := [], supply := 0 } }

theorem processorChannelAlone_runs : processorChannelAlone.chanOn 0 = true := by decide

theorem processorChannelAlone_unsupplied : processorChannelAlone.pwr.supply.getLsbD 4 = false := by decide

/-- Without the supply of the other channel no word of the cross-check arrives. -/
theorem exec_crossCheckReceive_of_no_supply {ch : Fin 2} {valid : Bool} {tm : Nat} {s : State}
    (off : s.pwr.supply.getLsbD 4 = false) : exec (.crossCheckReceive ch valid tm) s = .next (s.adv tm) := by
  change execCrossCheckReceive ch valid tm s = _
  have off' : (s.adv tm).pwr.supply.getLsbD 4 = false := off
  simp only [execCrossCheckReceive, off', Bool.not_false, Bool.or_true, if_true]

/-- Refutes O41: the clause of the received word asks for a running channel alone, and in `processorChannelAlone`
nothing is received, so the cross-check, which the clause says is armed, stays as reset leaves it. -/
theorem not_safetyInputsAndCrossCheck : ¬ Obligations.SafetyInputsAndCrossCheck := by
  unfold Obligations.SafetyInputsAndCrossCheck
  rintro ⟨-, -, -, -, receive, -⟩
  obtain ⟨u, received, -, -, arms, -, -⟩ := receive 0 0 processorChannelAlone processorChannelAlone_runs
  have ignored : exec (.crossCheckReceive 0 true 0) processorChannelAlone = .next (processorChannelAlone.adv 0) :=
    exec_crossCheckReceive_of_no_supply processorChannelAlone_unsupplied
  have same : processorChannelAlone.adv 0 = (u.adopt 0).safDone := Host.Outcome.next.inj (ignored.symm.trans received)
  have ground : processorChannelAlone.safGround = u.safGround :=
    (congrArg State.safGround same).trans ((State.safDone_safGround _).trans (State.adopt_safGround _ _))
  have armed : u.saf.armed = false := (congrArg (fun x : Bool × Nat × PwrSt × FaultSt × Bool => x.2.2.2.2) ground).symm
  exact absurd (arms rfl) (by simp [armed])

end Sys2Proof.Machine

namespace Sys2Proof.Machine

/-! ## Safety stops and limits (R411 to R414). -/

section
variable {s : State} {tm : Nat} {ch : Fin 2} {g : Fin 16} {a : Fin 128}

/-- What holds of one channel holds of one of the two. -/
theorem or_of_channel {hit : Fin 2 → Bool} (ch : Fin 2) (one : hit ch = true) : (hit 0 || hit 1) = true := by
  match ch with
  | 0 => rw [one, Bool.true_or]
  | 1 => rw [one, Bool.or_true]

@[simp] theorem State.modGrp_groups (s : State) (ch : Fin 2) (g : Fin 16) (f : GrpSt → GrpSt) :
    (s.modGrp ch g f).saf.chan[ch].groups = s.saf.chan[ch].groups.set g (f s.saf.chan[ch].groups[g]) :=
  congrArg ChanSt.groups (vector_set_self _ _ _)

@[simp] theorem State.linkSend_saf (s : State) (l : Fin 32) (syms : List Sym) : (s.linkSend l syms).saf = s.saf := rfl

@[simp] theorem State.cutTx_saf (s : State) (l : Fin 32) : (s.cutTx l).saf = s.saf := by
  unfold State.cutTx
  extract_lets x n
  split <;> rfl

@[simp] theorem State.sendKill_saf (s : State) (l : Fin 32) (mask : BitVec 4) : (s.sendKill l mask).saf = s.saf := by
  unfold State.sendKill
  split
  · rw [State.sendKills, State.modLink_saf, State.linkSend_saf, State.cutTx_saf]
  · rfl

@[simp] theorem State.axesSto_saf (s : State) (as_ : List (Fin 128)) : (s.axesSto as_).saf = s.saf :=
  State.each_same State.saf _ (fun t a => t.modAxis_saf a _) _ _

@[simp] theorem State.killLinks_saf (s : State) (ls : List (Fin 32)) : (s.killLinks ls).saf = s.saf :=
  State.each_same State.saf _ (fun t l => (t.modLink l _).sendKill_saf l 15) _ _

/-- STO at a group of a channel sets that group's state alone (R406). -/
theorem State.stoAt_groups (s : State) (ch : Fin 2) (g : Fin 16) (demand : Bool) :
    ∃ x : GrpSt, x.state = .sto ∧
      (s.stoAt ch g demand).saf.chan[ch].groups = s.saf.chan[ch].groups.set g x := by
  unfold State.stoAt
  extract_lets x d was grouped quick
  have chosen : grouped.saf.chan[ch].groups = _ := s.modGrp_groups ch g _
  split
  · exact ⟨_, rfl, chosen⟩
  · have kept : ((quick.axesSto (quick.grpAxes g)).killLinks (quick.grpLinks g)).saf = quick.saf := by
      rw [State.killLinks_saf, State.axesSto_saf]
    exact ⟨_, rfl, (congrArg (fun k : SafSt => k.chan[ch].groups) kept).trans chosen⟩

theorem execSs1Expiry_of_due (on : s.chanOn ch = true) (ss1 : (s.saf.chan[ch].groups[g]).state = .ss1)
    (ended : (s.saf.chan[ch].groups[g]).ends ≤ max s.nt tm) :
    execSs1Expiry ch g tm s = .next ((s.adv tm).stoAt ch g (s.saf.chan[ch].groups[g]).demandOnly).safDone := by
  have due : ((s.adv tm).chanOn ch && ((s.adv tm).saf.chan[ch].groups[g]).state == .ss1 &&
      decide (((s.adv tm).saf.chan[ch].groups[g]).ends ≤ (s.adv tm).nt)) = true := by
    rw [Bool.and_eq_true, Bool.and_eq_true]
    exact ⟨⟨on, beq_iff_eq.mpr ss1⟩, decide_eq_true ended⟩
  unfold execSs1Expiry
  extract_lets t x
  have same : x.demandOnly = s.saf.chan[ch].groups[g].demandOnly := rfl
  exact congrArg Host.Outcome.next
    ((if_pos due).trans (congrArg (fun d => ((s.adv tm).stoAt ch g d).safDone) same))

theorem execSs1Expiry_of_early (early : max s.nt tm < (s.saf.chan[ch].groups[g]).ends) :
    execSs1Expiry ch g tm s = .next (s.adv tm) := by
  have waits : ¬((s.adv tm).chanOn ch && ((s.adv tm).saf.chan[ch].groups[g]).state == .ss1 &&
      decide (((s.adv tm).saf.chan[ch].groups[g]).ends ≤ (s.adv tm).nt)) = true := by
    rw [Bool.and_eq_true, decide_eq_true_eq]
    exact fun due => absurd due.2 (Nat.not_le.mpr early)
  exact congrArg _ (if_neg waits)

theorem execSlsRampEnd_of_due {t0 : Nat} (on : s.chanOn ch = true)
    (asked : (s.saf.chan[ch].groups[g]).slsFrom = some t0)
    (ended : t0 + ms (s.safV ch (Pid.safGSlsRamp g.val)) ≤ max s.nt tm) :
    execSlsRampEnd ch g tm s = .next ((s.adv tm).modGrp ch g fun y => { y with slsOn := true }) := by
  have asked' : ((s.adv tm).saf.chan[ch].groups[g]).slsFrom = some t0 := asked
  have due : ((s.adv tm).chanOn ch &&
      decide (t0 + ms ((s.adv tm).safV ch (Pid.safGSlsRamp g.val)) ≤ (s.adv tm).nt)) = true := by
    rw [Bool.and_eq_true]
    exact ⟨on, decide_eq_true ended⟩
  simp only [execSlsRampEnd, asked']
  exact congrArg _ (if_pos due)

/-- The speed of an axis is checked while its group's SLS is on and it has a limit of its own, or in degraded mode after the
ramp. -/
theorem State.slsLimit_isSome : (s.slsLimit ch a).isSome = true ↔ ∃ g, s.grpOf ch (linkOf a) = some g ∧
    (((s.saf.chan[ch].groups[g]).slsOn = true ∧ s.safV ch (Pid.safASlsLim a.val) ≠ 0) ∨
      (s.saf.chan[ch].degraded = true ∧
        s.saf.chan[ch].degFrom + ms (s.safV ch (Pid.safGSlsRamp g.val)) ≤ s.nt)) := by
  unfold State.slsLimit
  cases s.grpOf ch (linkOf a) with
  | none => simp
  | some g =>
    simp only [Option.some.injEq, exists_eq_left']
    split
    next deg => simp_all
    next deg =>
      split
      next asked => simp_all
      next asked => simp_all

/-- A limit that is checked stays checked as time passes: that of degraded mode only begins (R411, R424). -/
theorem State.slsLimit_isSome_adv (tm : Nat) (limited : (s.slsLimit ch a).isSome = true) :
    ((s.adv tm).slsLimit ch a).isSome = true := by
  obtain ⟨g, group, checked⟩ := State.slsLimit_isSome.mp limited
  exact State.slsLimit_isSome.mpr ⟨g, group, checked.imp id fun degraded =>
    ⟨degraded.1, degraded.2.trans (Nat.le_max_left _ _)⟩⟩

theorem State.monitored_adv_of_limit (tm : Nat) (limit : (s.slsLimit ch a).isSome = true ∨ s.sdiDir ch a ≠ 0) :
    (s.adv tm).monitored ch a = true := by
  unfold State.monitored
  rw [Bool.or_eq_true, Bool.or_eq_true]
  exact .inl (limit.imp (State.slsLimit_isSome_adv tm) fun turns => bne_iff_ne.mpr turns)

theorem State.monitored_adv_of_degraded (tm : Nat) (degraded : s.saf.chan[ch].degraded = true) :
    (s.adv tm).monitored ch a = true := by
  unfold State.monitored
  rw [Bool.or_eq_true]
  exact .inr degraded

theorem State.wordsMissing_of_run (missed : 2 ≤ (s.saf.chan[ch].axes[a]).missRun) : s.wordsMissing ch a = true := by
  unfold State.wordsMissing
  rw [Bool.or_eq_true]
  exact .inl (decide_eq_true missed)

theorem State.wordsMissing_of_late (got : (s.saf.chan[ch].axes[a]).got = true) (ticking : s.frame.ticking = true)
    (on : s.axOn (clusterOf a) = true) (late : s.frame.tick + 10000 ≤ s.nt)
    (old : (s.saf.chan[ch].axes[a]).wordAt + s.tf < s.frame.tick) : s.wordsMissing ch a = true := by
  unfold State.wordsMissing
  extract_lets x
  have missed : (x.got && s.frame.ticking && s.axOn (clusterOf a) &&
      decide (s.frame.tick + 10000 ≤ s.nt ∧ x.wordAt + s.tf < s.frame.tick)) = true := by
    rw [show x.got = true from got, ticking, on]
    exact decide_eq_true ⟨late, old⟩
  rw [missed, Bool.or_true]

theorem execAxisWord_of_missing (safe : s.safOn = true) (missing : (s.adv tm).wordsMissing ch a = true)
    (monitored : (s.adv tm).monitored ch a = true) :
    execAxisWord a tm s = .next ((s.adv tm).axisFault a 0x700E 0) := by
  have hit := or_of_channel (hit := fun ch => (s.adv tm).wordsMissing ch a && (s.adv tm).monitored ch a) ch
    (Bool.and_eq_true _ _ ▸ ⟨missing, monitored⟩)
  exact congrArg _ (if_pos (Bool.and_eq_true _ _ ▸ ⟨safe, hit⟩))

theorem execSlsViolation_of_run (safe : s.safOn = true) (run : 3 ≤ (s.saf.chan[ch].axes[a]).slsRun) :
    execSlsViolation a tm s = .next ((s.adv tm).axisFault a 0x700C (s.violAct a)) := by
  have hit := or_of_channel (hit := fun ch => decide (3 ≤ (s.saf.chan[ch].axes[a]).slsRun)) ch (decide_eq_true run)
  exact congrArg _ (if_pos (Bool.and_eq_true _ _ ▸ ⟨safe, hit⟩))

theorem execSdiViolation_of_run (safe : s.safOn = true) (run : 3 ≤ (s.saf.chan[ch].axes[a]).sdiRun) :
    execSdiViolation a tm s = .next ((s.adv tm).axisFault a 0x700D (s.violAct a)) := by
  have hit := or_of_channel (hit := fun ch => decide (3 ≤ (s.saf.chan[ch].axes[a]).sdiRun)) ch (decide_eq_true run)
  exact congrArg _ (if_pos (Bool.and_eq_true _ _ ▸ ⟨safe, hit⟩))

end

/-- Settles O42: each clause is one branch of its event; of the limits that an axis word is checked against, the one of
degraded mode begins with time and none ends with it. -/
theorem safetyStopsAndLimits : Obligations.SafetyStopsAndLimits := by
  unfold Obligations.SafetyStopsAndLimits
  refine ⟨?expiry, ?early, ?sto, ?ramp, ?word, ?degraded, ?sls, ?sdi, ?limited, ?late⟩
  case expiry => exact fun _ _ _ _ => execSs1Expiry_of_due
  case early => exact fun _ _ _ _ => execSs1Expiry_of_early
  case sto =>
    intro ch g d s
    obtain ⟨x, sto, groups⟩ := s.stoAt_groups ch g d
    rw [groups]
    exact ⟨(congrArg _ (vector_set_self _ _ _)).trans sto,
      fun h other => (vector_set_get _ _ _ _).trans (if_neg other.symm)⟩
  case ramp => exact fun _ _ _ _ _ => execSlsRampEnd_of_due
  case word => exact fun ch a w tm s on => congrArg _ (if_pos on)
  case degraded =>
    exact fun a ch tm s safe missed degraded => execAxisWord_of_missing (ch := ch) safe
      (State.wordsMissing_of_run (s := s.adv tm) missed) (State.monitored_adv_of_degraded tm degraded)
  case sls => exact fun a ch tm s => execSlsViolation_of_run (ch := ch)
  case sdi => exact fun a ch tm s => execSdiViolation_of_run (ch := ch)
  case limited =>
    exact fun a ch tm s safe missed limit => execAxisWord_of_missing (ch := ch) safe
      (State.wordsMissing_of_run (s := s.adv tm) missed) (State.monitored_adv_of_limit tm limit)
  case late =>
    exact fun a ch tm s safe got ticking on late old degraded => execAxisWord_of_missing (ch := ch) safe
      (State.wordsMissing_of_late (s := s.adv tm) got ticking on late old) (State.monitored_adv_of_degraded tm degraded)

end Sys2Proof.Machine

namespace Sys2Proof.Machine

/-! ## Safety telegrams (R418 to R421). -/

section
variable {s : State} {tm : Nat} {ch : Fin 2}

theorem State.modChan_self (s : State) (ch : Fin 2) (f : ChanSt → ChanSt) :
    (s.modChan ch f).saf.chan[ch] = f s.saf.chan[ch] := vector_set_self _ _ _

theorem State.modChan_of_ne (s : State) {ch k : Fin 2} (f : ChanSt → ChanSt) (other : k ≠ ch) :
    (s.modChan ch f).saf.chan[k] = s.saf.chan[k] := (vector_set_get _ _ _ _).trans (if_neg other.symm)

/-- The configuration of a channel is that of its active block. -/
theorem State.safV_congr {t : State} (same : t.saf.chan[ch].block = s.saf.chan[ch].block) (id : Nat) :
    t.safV ch id = s.safV ch id := by
  unfold State.safV
  rw [same]

theorem State.telContent_congr {t : State} (same : t.saf.chan[ch].block = s.saf.chan[ch].block) (b : List Byte)
    (tagged : Bool) : t.telContent ch b tagged = s.telContent ch b tagged := by
  simp only [State.telContent, State.safV_congr same]

theorem State.telTake_of_unknown {b : List Byte} {tagged : Bool} (unknown : s.telContent ch b tagged = none) :
    s.telTake ch b tagged = (s.modChan ch fun c => { c with discards := c.discards + 1 }, false) := by
  simp only [State.telTake, unknown]

theorem State.telKnown_of_none {b : List Byte} {tagged : Bool} (unknown : s.telContent ch b tagged = none) :
    s.telKnown ch b tagged = false := by
  rw [State.telKnown, unknown]
  rfl

theorem State.telKnown_of_new {b : List Byte} {tagged : Bool} {tel : TelSt} (known : s.telContent ch b tagged = some tel)
    (new : s.telWhat ch tel.seq = .new) : s.telKnown ch b tagged = true := by
  rw [State.telKnown, known, Option.any_some, new]
  rfl

@[simp] theorem State.telCopies_safGround (s : State) (net : Nat) (full : Bool) (b : List Byte) :
    (s.telCopies net full b).1.safGround = s.safGround := by
  unfold State.telCopies
  extract_lets seq seen
  split
  · exact State.modSaf_safGround _ _ rfl
  next x _ =>
    split
    · rfl
    · split
      · rfl
      · extract_lets y both t
        have kept : t.safGround = s.safGround := s.modSaf_safGround _ rfl
        have noted : (t.modSaf fun k => seen (seen k 0) 1).safGround = t.safGround := t.modSaf_safGround _ rfl
        rw [State.ite_safGround, noted, ite_self, kept]

@[simp] theorem State.telTake_safGround (s : State) (ch : Fin 2) (b : List Byte) (tagged : Bool) :
    (s.telTake ch b tagged).1.safGround = s.safGround := by
  unfold State.telTake
  split
  · exact State.modChan_safGround ..
  · split
    · exact State.modChan_safGround ..
    · rfl
    · simp

theorem State.chanOn_of_safGround {t : State} (same : t.safGround = s.safGround) : t.chanOn ch = s.chanOn ch := by
  have ib : t.ib = s.ib := congrArg (·.1) same
  have pwr : t.pwr = s.pwr := congrArg (·.2.2.1) same
  simp only [State.chanOn, State.safOn, State.domainOn, ib, pwr]

/-- Both channels run in a device whose safety function is on and whose other supply is there. -/
theorem State.chanOn_one (safe : s.safOn = true) (supplied : s.pwr.supply.getLsbD 4 = true) : s.chanOn 1 = true := by
  have ib : s.ib = true := (Bool.and_eq_true _ _ ▸ safe).1
  simp [State.chanOn, ib, supplied]

/-- A telegram that no channel knows is counted by both (R418). -/
theorem execSafeTelegramCopy_of_unknown {f : RxFrame} {c : Crepra} {v u : State}
    (received : (s.adv tm).takeRx ((s.adv tm).isCrepra 4) = some (f, u)) (read : c = crepraOf (ethHead f.bytes).body)
    (bad : u.tagOk c = false) (refused : v = u.authErr f.port c) (safe : v.safOn = true)
    (processor : v.telContent 0 c.payload false = none) (other : v.telContent 1 c.payload false = none)
    (supplied : v.pwr.supply.getLsbD 4 = true) :
    execSafeTelegramCopy tm s = .next ((v.modChan 0 fun c => { c with discards := c.discards + 1 }).modChan 1
      fun c => { c with discards := c.discards + 1 }) := by
  have first : v.chanOn 0 = true := safe
  have counted : (v.modChan 0 fun c => { c with discards := c.discards + 1 }).chanOn 1 = true :=
    State.chanOn_one (s := v) safe supplied
  have kept : (v.modChan 0 fun c => { c with discards := c.discards + 1 }).telContent 1 c.payload false = none :=
    (State.telContent_congr (congrArg ChanSt.block (State.modChan_of_ne (ch := 0) (k := 1) v _ (by decide))) _ _).trans other
  simp only [execSafeTelegramCopy, received]
  simp only [← read, bad, Bool.false_eq_true, if_false, ← refused, first, counted, State.telKnown_of_none processor,
    State.telKnown_of_none other, Bool.or_false, Bool.and_false, Bool.not_true, State.telTake_of_unknown processor,
    State.telTake_of_unknown kept, if_true, Bool.false_and]

/-- A new telegram is taken by both channels and answered by a report (R419). -/
theorem execSafeTelegramCopy_of_new {tel : TelSt} {f : RxFrame} {c : Crepra} {v w x u : State}
    (received : (s.adv tm).takeRx ((s.adv tm).isCrepra 4) = some (f, u)) (read : c = crepraOf (ethHead f.bytes).body)
    (good : u.tagOk c = true) (seen : v = u.copySeen c.src (netOf f.port)) (safe : v.safOn = true)
    (known : v.telContent 0 c.payload true = some tel) (new : v.telWhat 0 tel.seq = .new)
    (copied : v.telCopies (netOf f.port) (v.telFull c.payload true) c.payload = (w, false))
    (taken : w.telTake 0 c.payload true = (x, true)) (supplied : x.pwr.supply.getLsbD 4 = true) :
    execSafeTelegramCopy tm s =
      .next (((x.telTake 1 c.payload true).1.telEdge v.saf.chan[0]).telReport c.src) := by
  have first : v.chanOn 0 = true := safe
  have copy : w.safGround = v.safGround := by
    rw [← State.telCopies_safGround v (netOf f.port) (v.telFull c.payload true) c.payload, copied]
  have take : x.safGround = w.safGround := by
    rw [← State.telTake_safGround w 0 c.payload true, taken]
  have second : w.chanOn 0 = true := (State.chanOn_of_safGround copy).trans first
  have third : x.chanOn 1 = true :=
    State.chanOn_one ((State.chanOn_of_safGround (ch := 0) (take.trans copy)).trans first) supplied
  simp only [execSafeTelegramCopy, received]
  simp only [← read, good, ← seen, first, safe, State.telKnown_of_new known new, Bool.true_or, Bool.and_true, if_true,
    Bool.not_true, Bool.false_and, Bool.false_eq_true, if_false, copied, second, taken, third]

/-- What one copy that came late leaves in the networks' misses (R421). -/
def SafSt.miss (k : SafSt) (n : Fin 2) (on : Bool) (x : TelCopies) : SafSt :=
  if on then k else { k with missFrom := k.missFrom.set n (some (k.missFrom[n].getD x.tm)) }

/-- What the copies that came late leave. -/
def SafSt.missAll (k : SafSt) (late : List TelCopies) : SafSt :=
  late.foldl (fun k x => (k.miss 0 x.netA x).miss 1 x.netB x) k

/-- Whether the time in which a second copy may come ends. -/
def State.skewOver (s : State) (tm : Nat) (x : TelCopies) : Bool :=
  !x.judged && decide (x.tm + ms (s.safV 0 Pid.safTelSkew) ≤ max s.nt tm)

theorem SafSt.miss_eq (k : SafSt) (n : Fin 2) (on : Bool) (x : TelCopies) :
    k.miss n on x = { k with missFrom := (k.miss n on x).missFrom } := by
  unfold SafSt.miss
  split <;> rfl

theorem SafSt.missAll_eq (k : SafSt) (late : List TelCopies) :
    k.missAll late = { k with missFrom := (k.missAll late).missFrom } := by
  induction late generalizing k with
  | nil => rfl
  | cons x rest ih =>
    have step : k.missAll (x :: rest) = ((k.miss 0 x.netA x).miss 1 x.netB x).missAll rest := rfl
    rw [step, ih, SafSt.miss_eq (k.miss 0 x.netA x), SafSt.miss_eq k]

theorem execTelSkew_eq (tm : Nat) (s : State) : execTelSkew tm s = .next ((s.adv tm).modSaf fun k =>
    { k.missAll (s.saf.copies.filter (s.skewOver tm)) with
      copies := (k.missAll (s.saf.copies.filter (s.skewOver tm))).copies.map
        fun x => { x with judged := x.judged || s.skewOver tm x } }) := rfl

/-- The end of the skew time judges copies and notes what was missed, nothing else. -/
theorem execTelSkew_changes (tm : Nat) (s : State) : execTelSkew tm s = .next { s with nt := max s.nt tm, saf :=
    { s.saf with
      copies := s.saf.copies.map fun x => { x with judged := x.judged || s.skewOver tm x }
      missFrom := (s.saf.missAll (s.saf.copies.filter (s.skewOver tm))).missFrom } } := by
  rw [execTelSkew_eq]
  generalize s.saf.copies.filter (s.skewOver tm) = late
  obtain ⟨m, missed⟩ : ∃ m, s.saf.missAll late = { s.saf with missFrom := m } := ⟨_, s.saf.missAll_eq late⟩
  have missed' : (s.adv tm).saf.missAll late = { s.saf with missFrom := m } := missed
  simp only [State.modSaf, missed, missed']
  rfl

theorem execTelSkew_of_early (early : ∀ x ∈ s.saf.copies, max s.nt tm < x.tm + ms (s.safV 0 Pid.safTelSkew)) :
    execTelSkew tm s = .next (s.adv tm) := by
  have waits : ∀ x ∈ s.saf.copies, s.skewOver tm x = false := fun x member => by
    rw [State.skewOver, decide_eq_false (Nat.not_le.mpr (early x member)), Bool.and_false]
  have late : s.saf.copies.filter (s.skewOver tm) = [] := List.filter_eq_nil_iff.mpr fun x member => by
    simp [waits x member]
  have copies : (s.saf.copies.map fun x => { x with judged := x.judged || s.skewOver tm x }) = s.saf.copies :=
    (List.map_congr_left fun x member => by
      rw [waits x member, Bool.or_false]
      rfl).trans (List.map_id _)
  rw [execTelSkew_changes, late, copies]
  rfl

theorem execTelOneNet_of_due {net : Fin 2} {t0 : Nat} (safe : s.safOn = true) (missing : s.saf.missFrom[net] = some t0)
    (here : s.saf.lost[net] = false) (due : t0 + ms (s.safV 0 Pid.safTelOneNetT) ≤ max s.nt tm) :
    execTelOneNet net tm s = .next (((s.adv tm).modSaf fun k =>
      { k with lost := k.lost.set net true }).safFault 0x7004 0 2 []).enterDegraded.safDone := by
  have missing' : (s.adv tm).saf.missFrom[net] = some t0 := missing
  have ended : ((s.adv tm).safOn && !(s.adv tm).saf.lost[net] &&
      decide (t0 + ms ((s.adv tm).safV 0 Pid.safTelOneNetT) ≤ (s.adv tm).nt)) = true := by
    rw [Bool.and_eq_true, Bool.and_eq_true]
    exact ⟨⟨safe, congrArg not here⟩, decide_eq_true due⟩
  simp only [execTelOneNet, missing']
  exact congrArg _ (if_pos ended)

theorem State.dropCopies_chan (s : State) :
    (s.modSaf fun k => { k with copies := [] }).saf.chan[0] = s.saf.chan[0] := rfl

theorem State.modChan_flt (s : State) (ch : Fin 2) (f : ChanSt → ChanSt) : (s.modChan ch f).flt = s.flt := rfl

theorem State.modChan_axes (s : State) (ch : Fin 2) (f : ChanSt → ChanSt) : (s.modChan ch f).axes = s.axes := rfl

/-- Without a new telegram for TIMEOUT the connection of channel PROCESSOR closes (R420). -/
theorem execTelTimeout_of_due (safe : s.safOn = true) (used : s.safV 0 Pid.safTelUse = 1)
    (known : s.saf.chan[0].telOk = true) (due : s.saf.chan[0].telAt + ms (s.safV 0 Pid.safTelTimeout) ≤ max s.nt tm) :
    ∃ u : State, execTelTimeout tm s = .next (u.safFault 0x7002 0 (u.safV 0 Pid.safTelLossAct) allGroups).safDone ∧
      u.saf.chan[0].telOk = false ∧ u.saf.chan[0].telOpen = false ∧ u.saf.copies = [] ∧ u.flt = s.flt ∧
      u.axes = s.axes := by
  unfold execTelTimeout
  extract_lets t hit close first second closed
  have processor : hit 0 = true := by
    unfold hit
    rw [Bool.and_eq_true, Bool.and_eq_true]
    exact ⟨⟨decide_eq_true used, known⟩, decide_eq_true due⟩
  have kept : closed.saf.chan[0] = close t.saf.chan[0] := by
    have same : second.saf.chan[0] = first.saf.chan[0] := State.modChan_of_ne (ch := 1) (k := 0) _ _ (by decide)
    have own : first.saf.chan[0] = close t.saf.chan[0] :=
      (State.modChan_self ..).trans (if_pos processor)
    exact ((State.dropCopies_chan second).trans same).trans own
  have hits : (t.safOn && (hit 0 || hit 1)) = true := by
    rw [processor, Bool.true_or, Bool.and_true]
    exact safe
  exact ⟨closed, if_pos hits, congrArg ChanSt.telOk kept, congrArg ChanSt.telOpen kept, rfl, rfl, rfl⟩

end

/-- Settles O43: each clause is one branch of its event; the operations of the first channel leave what says whether the
second runs. -/
theorem safetyTelegrams : Obligations.SafetyTelegrams := by
  unfold Obligations.SafetyTelegrams
  refine ⟨?unknown, ?new, ?early, ?missed, ?oneNet, ?timeout, ?skew⟩
  case unknown =>
    intro tm f c v u s received read bad refused safe processor other supplied
    refine ⟨_, execSafeTelegramCopy_of_unknown received read bad refused safe processor other supplied, fun ch => ?_,
      (State.modChan_axes ..).trans (State.modChan_axes ..), (State.modChan_flt ..).trans (State.modChan_flt ..)⟩
    match ch with
    | 0 => exact (State.modChan_of_ne (ch := 1) (k := 0) _ _ (by decide)).trans (State.modChan_self ..)
    | 1 =>
      exact (State.modChan_self ..).trans (congrArg (fun c : ChanSt => { c with discards := c.discards + 1 })
        (State.modChan_of_ne (ch := 0) (k := 1) v _ (by decide)))
  case new => exact fun _ _ _ _ _ _ _ _ _ => execSafeTelegramCopy_of_new
  case early => exact fun _ _ => execTelSkew_of_early
  case missed =>
    intro tm x s one onA offB unjudged due clear
    have late : s.skewOver tm x = true := by
      rw [State.skewOver, unjudged, Bool.not_false, Bool.true_and]
      exact decide_eq_true due
    have missed : (s.saf.missAll [x]).missFrom = (Vector.replicate 2 none).set 1 (some x.tm) := by
      simp [SafSt.missAll, SafSt.miss, onA, offB, clear]
    refine ⟨_, execTelSkew_changes tm s, ?_, ?_, ?_, rfl, rfl⟩
    · simp [one, late]
    · simp [one, late, missed]
    · simp [one, late, missed]
  case oneNet => exact fun _ _ _ _ => execTelOneNet_of_due
  case timeout => exact fun _ _ => execTelTimeout_of_due
  case skew => exact fun tm s => ⟨_, execTelSkew_changes tm s, rfl, rfl⟩

end Sys2Proof.Machine

namespace Sys2Proof.Machine

/-! ## Safety outputs, the temperature of the Benrik die, degraded mode and logins (R422 to R424, R426, R428). -/

section
variable {s : State} {tm : Nat} {n : Fin 2} {x : Int}

/-- The test of a safety output whose result is noted as `y`. -/
def State.soNoted (s : State) (tm : Nat) (n : Fin 2) (y : SoSt) : State :=
  (s.adv tm).modSaf fun k => { k with so := k.so.set n y }

theorem State.soNoted_so (s : State) (tm : Nat) (n : Fin 2) (y : SoSt) : (s.soNoted tm n y).saf.so[n] = y :=
  vector_set_self _ _ _

/-- What the test of a channel leaves of an output. -/
def SoSt.tested (x : SoSt) (ch : Fin 2) (ok : Bool) (next : Nat) : SoSt :=
  if ch = 0 then { x with failP := !ok, nextP := next } else { x with failL := !ok, nextL := next }

/-- The test of an output notes its result and whether both channels failed. -/
theorem execSoTest_of_due {ch : Fin 2} {ok bad : Bool} {y : SoSt} (on : s.chanOn ch = true)
    (due : (if ch = 0 then s.saf.so[n].nextP else s.saf.so[n].nextL) ≤ max s.nt tm)
    (tested : y = s.saf.so[n].tested ch ok (max s.nt tm + if ok then ms (s.safV ch (Pid.safSoTestT n.val)) else ms 100))
    (both : bad = (y.failP && y.failL)) : execSoTest n ch ok false tm s =
      .next (if bad then ((s.soNoted tm n { y with fail := bad }).safFault 0x7006 n.val 0
          (grpsOf ((s.soNoted tm n { y with fail := bad }).safV 0 (Pid.safSoMask n.val)))).safDone
        else if !ok then ((s.soNoted tm n { y with fail := bad }).safFault 0x7005 n.val 2 []).enterDegraded.safDone
        else (s.soNoted tm n { y with fail := bad }).safDone) := by
  unfold execSoTest
  extract_lets t x next z fail noted
  have on' : ¬(!t.chanOn ch) = true := by rw [show t.chanOn ch = true from on]; decide
  have due' : ¬(decide (t.nt < (if ch = 0 then x.nextP else x.nextL)) && !false) = true := by
    have late : ¬t.nt < (if ch = 0 then x.nextP else x.nextL) := Nat.not_lt.mpr due
    rw [decide_eq_false late]
    decide
  have same : z = y := tested.symm
  have failed : fail = bad := (Bool.or_false _).trans ((congrArg (fun z : SoSt => z.failP && z.failL) same).trans both.symm)
  have state : noted = s.soNoted tm n { y with fail := bad } := by
    unfold noted
    rw [same, failed]
    rfl
  rw [if_neg on', if_neg due', failed, state]

theorem execSoTest_of_early {ch : Fin 2} {ok : Bool} (on : s.chanOn ch = true)
    (early : max s.nt tm < (if ch = 0 then s.saf.so[n].nextP else s.saf.so[n].nextL)) :
    execSoTest n ch ok false tm s = .next (s.adv tm) := by
  have on' : (s.adv tm).chanOn ch = true := on
  have early' : (s.adv tm).nt < (if ch = 0 then (s.adv tm).saf.so[n].nextP else (s.adv tm).saf.so[n].nextL) := early
  simp only [execSoTest, on', Bool.not_true, Bool.false_eq_true, if_false, decide_eq_true early', Bool.not_false,
    Bool.and_true, if_true]

/-- The warning of the temperature monitor after a sample (R423). -/
def State.lWarnAfter (s : State) (x : Int) : Bool :=
  if 1250 < x ∨ x < -400 then true else if -350 ≤ x ∧ x ≤ 1200 then false else s.saf.lWarn

/-- A sample of the temperature is noted. -/
def State.lNoted (s : State) (tm : Nat) (x : Int) (warn : Bool) : State :=
  (s.adv tm).modSaf fun k => { k with lTemp := x, lWarn := warn }

/-- A sample outside SAFE, by whether the monitor fails or the limits of SAFE are passed. -/
theorem execLTemp_of_on {mon : Bool} (on : s.chanOn 1 = true) (running : s.pwr.state ≠ .safe) :
    execLTemp x mon tm s = .next
      (if !mon || decide (1400 < x ∨ x < -500) then
        ((s.lNoted tm x (s.lWarnAfter x)).safFault 0x7008 0 0 allGroups).enterSafe.safDone
      else if 1250 < x ∨ x < -400 then
        ((s.lNoted tm x (s.lWarnAfter x)).safFault 0x7007 0 2 []).enterDegraded.safDone
      else (s.lNoted tm x (s.lWarnAfter x)).safDone) := by
  have on' : (!(s.adv tm).chanOn 1) = false := congrArg not on
  have running' : ((s.lNoted tm x (s.lWarnAfter x)).pwr.state == .safe) = false := beq_eq_false_iff_ne.mpr running
  unfold execLTemp
  extract_lets t warn noted
  have same : noted = s.lNoted tm x (s.lWarnAfter x) := rfl
  rw [on', same, running']
  simp only [Bool.false_eq_true, if_false]

theorem State.lWarnAfter_of_outside (outside : 1250 < x ∨ x < -400) : s.lWarnAfter x = true := if_pos outside

theorem State.lWarnAfter_of_well (low : -350 ≤ x) (high : x ≤ 1200) : s.lWarnAfter x = false :=
  (if_neg (by omega)).trans (if_pos ⟨low, high⟩)

theorem State.lWarnAfter_between (between : (-400 ≤ x ∧ x < -350) ∨ (1200 < x ∧ x ≤ 1250)) :
    s.lWarnAfter x = s.saf.lWarn :=
  (if_neg (by omega)).trans (if_neg (by omega))

theorem execLTemp_of_stop {mon : Bool} (on : s.chanOn 1 = true) (running : s.pwr.state ≠ .safe)
    (stop : mon = false ∨ 1400 < x ∨ x < -500) : execLTemp x mon tm s =
      .next ((s.lNoted tm x (s.lWarnAfter x)).safFault 0x7008 0 0 allGroups).enterSafe.safDone := by
  have stops : (!mon || decide (1400 < x ∨ x < -500)) = true := by simpa using stop
  rw [execLTemp_of_on on running, if_pos stops]

theorem execLTemp_of_monitored (on : s.chanOn 1 = true) (running : s.pwr.state ≠ .safe) (low : -500 ≤ x)
    (high : x ≤ 1400) : execLTemp x true tm s = .next (if 1250 < x ∨ x < -400 then
        ((s.lNoted tm x (s.lWarnAfter x)).safFault 0x7007 0 2 []).enterDegraded.safDone
      else (s.lNoted tm x (s.lWarnAfter x)).safDone) := by
  have goes : ¬(!true || decide (1400 < x ∨ x < -500)) = true := by
    rw [decide_eq_false (by omega)]
    decide
  rw [execLTemp_of_on on running, if_neg goes]

theorem execLTemp_of_warning (on : s.chanOn 1 = true) (running : s.pwr.state ≠ .safe) (low : -500 ≤ x)
    (high : x ≤ 1400) (outside : 1250 < x ∨ x < -400) : execLTemp x true tm s =
      .next ((s.lNoted tm x true).safFault 0x7007 0 2 []).enterDegraded.safDone := by
  rw [execLTemp_of_monitored on running low high, if_pos outside, State.lWarnAfter_of_outside outside]

theorem execLTemp_of_inside (on : s.chanOn 1 = true) (running : s.pwr.state ≠ .safe) (low : -400 ≤ x)
    (high : x ≤ 1250) : execLTemp x true tm s = .next (s.lNoted tm x (s.lWarnAfter x)).safDone := by
  rw [execLTemp_of_monitored on running (by omega) (by omega), if_neg (by omega)]

theorem execDegradedExit_of_clear {t0 : Nat} (clear : s.saf.clearFrom = some t0) (safe : s.safOn = true)
    (degraded : s.saf.chan[0].degraded = true) (fine : s.degCause = false) (long : t0 + secs 5 ≤ max s.nt tm) :
    execDegradedExit tm s = .next (((s.adv tm).leaveDegraded.event 0x7082 0
      ((s.safV 0 Pid.safDegradedTmax - (s.adv tm).degUsedNow 0 / 1000000000) * 65536)).safLog 0x08 stOk 0 0 0 0).safDone := by
  have clear' : (s.adv tm).saf.clearFrom = some t0 := clear
  have due : ((s.adv tm).safOn && (s.adv tm).saf.chan[0].degraded && !(s.adv tm).degCause &&
      decide (t0 + secs 5 ≤ (s.adv tm).nt)) = true := by
    rw [Bool.and_eq_true, Bool.and_eq_true, Bool.and_eq_true]
    exact ⟨⟨⟨safe, degraded⟩, congrArg not fine⟩, decide_eq_true long⟩
  simp only [execDegradedExit, clear']
  exact if_pos due

theorem execDegradedExpired_of_over (safe : s.safOn = true) (degraded : s.saf.chan[0].degraded = true)
    (used : secs (s.safV 0 Pid.safDegradedTmax) ≤ (s.adv tm).degUsedNow 0) :
    execDegradedExpired tm s = .next ((((s.adv tm).leaveDegraded.modSaf fun k =>
      { k with expired := true }).safFault 0x700F 0 1 allGroups).safLog 0x09 stOk 0 0 0 0).safDone := by
  have due : ((s.adv tm).safOn && (s.adv tm).saf.chan[0].degraded &&
      decide (secs ((s.adv tm).safV 0 Pid.safDegradedTmax) ≤ (s.adv tm).degUsedNow 0)) = true := by
    rw [Bool.and_eq_true, Bool.and_eq_true]
    exact ⟨⟨safe, degraded⟩, decide_eq_true used⟩
  exact if_pos due

/-- The times used in degraded mode are forgotten. -/
def State.degCleared (s : State) : State :=
  ((s.modChan 0 fun c => { c with degUsed := 0 }).modChan 1 fun c => { c with degUsed := 0 }).modSaf
    fun k => { k with exitAt := none }

theorem State.degCleared_chan (s : State) (ch : Fin 2) :
    s.degCleared.saf.chan[ch] = { s.saf.chan[ch] with degUsed := 0 } := by
  have kept (t : State) : (t.modSaf fun k => { k with exitAt := none }).saf.chan[ch] = t.saf.chan[ch] := rfl
  refine (kept _).trans ?_
  match ch with
  | 0 => exact (State.modChan_of_ne (ch := 1) (k := 0) _ _ (by decide)).trans (State.modChan_self ..)
  | 1 =>
    exact (State.modChan_self ..).trans (congrArg (fun c : ChanSt => { c with degUsed := 0 })
      (State.modChan_of_ne (ch := 0) (k := 1) s _ (by decide)))

theorem execDegradedTimerReset_of_due {t0 : Nat} (left : s.saf.exitAt = some t0)
    (normal : s.saf.chan[0].degraded = false) (long : t0 + secs 3600 ≤ max s.nt tm) :
    execDegradedTimerReset tm s = .next (s.adv tm).degCleared := by
  have left' : (s.adv tm).saf.exitAt = some t0 := left
  have due : (!(s.adv tm).saf.chan[0].degraded && decide (t0 + secs 3600 ≤ (s.adv tm).nt)) = true := by
    rw [Bool.and_eq_true]
    exact ⟨congrArg not normal, decide_eq_true long⟩
  simp only [execDegradedTimerReset, left']
  exact if_pos due

theorem execLoginIdleEnd_of_idle {sid t0 : Nat} {w : Bool} (login : s.saf.login = some (sid, t0, w))
    (idle : t0 + secs 600 ≤ max s.nt tm) :
    execLoginIdleEnd tm s = .next ((s.adv tm).modSaf fun k => { k with login := none }) := by
  have ended : ¬(s.adv tm).nt < t0 + secs 600 := Nat.not_lt.mpr idle
  have login' : (s.adv tm).saf.login = some (sid, t0, w) := login
  simp only [execLoginIdleEnd, State.modSaf, login', Option.filter_some, decide_eq_false ended, Bool.false_eq_true,
    if_false]

theorem execLoginLockoutEnd_of_over {u : Nat} (locked : s.saf.lockedUntil = some u) (ended : u ≤ max s.nt tm) :
    execLoginLockoutEnd tm s = .next ((s.adv tm).modSaf fun k => { k with lockedUntil := none }) := by
  have ended' : ¬(s.adv tm).nt < u := Nat.not_lt.mpr ended
  have locked' : (s.adv tm).saf.lockedUntil = some u := locked
  simp only [execLoginLockoutEnd, State.modSaf, locked', Option.filter_some, decide_eq_false ended', Bool.false_eq_true,
    if_false]

theorem execLoginLockoutEnd_of_early {u : Nat} (locked : s.saf.lockedUntil = some u) (early : max s.nt tm < u) :
    execLoginLockoutEnd tm s = .next (s.adv tm) := by
  have early' : (s.adv tm).nt < u := early
  have locked' : (s.adv tm).saf.lockedUntil = some u := locked
  simp only [execLoginLockoutEnd, State.modSaf, locked', Option.filter_some, decide_eq_true early', if_true]
  rw [← locked']

end

/-- Settles O44: each clause is one branch of its event. -/
theorem safetyOutputsDegradedLogins : Obligations.SafetyOutputsDegradedLogins := by
  unfold Obligations.SafetyOutputsDegradedLogins
  refine ⟨?both, ?one, ?pass, ?hot, ?warm, ?well, ?exit, ?expired, ?forget, ?idle, ?unlock, ?locked, ?blind, ?cold,
    ?between, ?early⟩
  case both =>
    intro n tm s on due failed
    have done := execSoTest_of_due (ok := false) (bad := true) on due rfl (by rw [Bool.and_comm]; exact failed.symm)
    rw [if_pos rfl] at done
    have noted := State.soNoted_so s tm n
    exact ⟨_, done, congrArg SoSt.fail (noted _), congrArg SoSt.failL (noted _), rfl, rfl⟩
  case one =>
    intro n tm s on due passed
    have done := execSoTest_of_due (ch := 0) (ok := false) (bad := false) on due
      (congrArg (fun wait => s.saf.so[n].tested 0 false (max s.nt tm + wait)) (if_neg Bool.false_ne_true).symm)
      (by rw [Bool.and_comm]; exact (congrArg (· && true) passed).symm)
    rw [if_neg Bool.false_ne_true, if_pos (by decide)] at done
    have noted := State.soNoted_so s tm n
    exact ⟨_, done, congrArg SoSt.failP (noted _), congrArg SoSt.fail (noted _), congrArg SoSt.nextP (noted _), rfl⟩
  case pass =>
    intro n tm s on due passed
    have done := execSoTest_of_due (ch := 0) (ok := true) (bad := false) on due rfl rfl
    rw [if_neg Bool.false_ne_true, if_neg (by decide)] at done
    have noted := State.soNoted_so s tm n
    exact ⟨_, done, congrArg SoSt.failP (noted _), congrArg SoSt.fail (noted _), congrArg SoSt.nextP (noted _), rfl⟩
  case hot =>
    intro x tm s on running far
    have warned : s.lWarnAfter x = true := State.lWarnAfter_of_outside (by omega)
    exact (execLTemp_of_stop on running (.inr far)).trans (by rw [warned]; rfl)
  case warm =>
    exact fun x tm s on running warm high => execLTemp_of_warning on running (by omega) high (.inl warm)
  case well =>
    intro x tm s on running low high
    exact (execLTemp_of_inside on running (by omega) (by omega)).trans (by rw [State.lWarnAfter_of_well low high]; rfl)
  case exit => exact fun _ _ _ => execDegradedExit_of_clear
  case expired => exact fun _ _ => execDegradedExpired_of_over
  case forget =>
    exact fun t0 tm s left normal long =>
      ⟨_, execDegradedTimerReset_of_due left normal long, rfl, rfl, (s.adv tm).degCleared_chan⟩
  case idle => exact fun _ _ _ _ _ => execLoginIdleEnd_of_idle
  case unlock => exact fun _ _ _ => execLoginLockoutEnd_of_over
  case locked => exact fun _ _ _ => execLoginLockoutEnd_of_early
  case blind => exact fun x mon tm s on running off => execLTemp_of_stop on running (.inl off)
  case cold =>
    exact fun x tm s on running low cold => execLTemp_of_warning on running low (by omega) (.inr cold)
  case between =>
    intro x tm s on running between
    exact (execLTemp_of_inside on running (by omega) (by omega)).trans (by rw [State.lWarnAfter_between between]; rfl)
  case early => exact fun _ _ _ _ _ => execSoTest_of_early

end Sys2Proof.Machine

namespace Sys2Proof.Machine

/-! ## The SAFETY commands (R408, R426 to R428). -/

theorem fld_drop (p : List Byte) (k i n : Nat) : fld (p.drop k) i n = fld p (k + i) n := by
  rw [fld, fld, List.drop_drop]

/-- A field is its first byte and the field of the other bytes. -/
theorem fld_succ (p : List Byte) (i n : Nat) : fld p i (n + 1) = fld p i 1 + 256 * fld p (i + 1) n := by
  have tail : p.drop (i + 1) = (p.drop i).drop 1 := by rw [List.drop_drop]
  rw [fld, fld, fld, tail]
  cases p.drop i with
  | nil => simp [leNat]
  | cons b rest =>
    rw [List.take_succ_cons, List.take_succ_cons, List.take_zero, List.drop_one, List.tail_cons]
    simp only [leNat, Nat.mul_zero, Nat.add_zero]

/-- A field of four bytes whose value is below 256 is its first byte. -/
theorem fld_four_low {p : List Byte} {i n : Nat} (value : fld p i 4 = n) (low : n < 256) :
    fld p i 1 = n ∧ fld p (i + 1) 3 = 0 := by
  have split : fld p i 4 = fld p i 1 + 256 * fld p (i + 1) 3 := fld_succ p i 3
  omega

theorem leNat_zeros {l : List Byte} (zeros : (l.all fun b => b == 0) = true) : leNat l = 0 := by
  induction l with
  | nil => rfl
  | cons b rest ih =>
    rw [List.all_cons, Bool.and_eq_true, beq_iff_eq] at zeros
    rw [leNat, zeros.1, ih zeros.2]
    rfl

theorem fld_zeros {l : List Byte} (zeros : (l.all fun b => b == 0) = true) (i n : Nat) : fld l i n = 0 :=
  leNat_zeros (List.all_eq_true.mpr fun b member =>
    List.all_eq_true.mp zeros b (List.mem_of_mem_drop (List.mem_of_mem_take member)))

/-- The latest entry of the change log is the one written. -/
theorem State.safLog_last (s : State) (kind result path sid old new : Nat) :
    ∃ e : SafLog, (s.safLog kind result path sid old new).saf.log.getLast? = some e ∧ e.kind = kind ∧
      e.oldCrc = old ∧ e.newCrc = new := by
  refine ⟨⟨s.saf.logCount, s.nt, kind, result % 256, path, sid, old, new⟩, ?_, rfl, rfl, rfl⟩
  unfold State.safLog State.modSaf
  dsimp only
  rw [List.drop_append_of_le_length (by rw [List.length_append, List.length_singleton]; omega)]
  exact List.getLast?_concat ..

section
variable {s t : State} {m : Fin 16} {tm sub n : Nat} {len : Option Nat} {act : State → List Byte → Served}

@[simp] theorem State.answer_saf (s : State) (m : Fin 16) (st d : Nat) (pay : List Byte) :
    (s.answer m st d pay).saf = s.saf := rfl

/-- A SAFETY sub-command that nothing is against and that is done answers OK. -/
theorem serveSafety_done (ready : s.safetyReady m sub n = true) (fits : len = none ∨ len = some n) {pay : List Byte}
    (done : act (s.safetyBegun m tm) (s.mbx[m].payload.drop 4) = .done t pay) :
    s.serveSafety m tm sub len act = t.answer m stOk 0 pay := by
  rw [serveSafety_ready tm len act fits ready, done, State.settle]

theorem serveSafety_failed (ready : s.safetyReady m sub n = true) (fits : len = none ∨ len = some n) {st : Nat}
    (failed : act (s.safetyBegun m tm) (s.mbx[m].payload.drop 4) = .failed t st) :
    s.serveSafety m tm sub len act = t.answer m st 0 [] := by
  rw [serveSafety_ready tm len act fits ready, failed, State.settle]

/-- LOGIN opens the login of the mailbox's session and logs it. -/
def State.loggedIn (s : State) (m : Fin 16) (tm : Nat) (bare : Bool) : State :=
  ((s.safetyBegun m tm).modSaf fun k =>
    { k with login := some (s.mbx[m].sid, max s.nt tm, bare), fails := 0, lockouts := 0 }).safLog 0x03 stOk
      s.mbx[m].owner.logPath s.mbx[m].sid 0 0

/-- The payload of LOGIN is in order. -/
theorem login_inOrder {p : List Byte} (count : fld p 4 4 = n) (low : n ≤ 16)
    (zeros : ((p.drop (8 + n)).all fun b => b == 0) = true) : fld (p.drop 4) 0 1 = n ∧
      ¬(16 < n ∨ fld (p.drop 4) 1 3 ≠ 0 ∨ (((p.drop 4).drop 4).drop n).any (· != 0) = true) := by
  obtain ⟨first, rest⟩ := fld_four_low count (by omega)
  have clean : (((p.drop 4).drop 4).drop n).any (· != 0) = false := by
    rw [List.drop_drop, List.drop_drop, ← Nat.add_assoc, show 4 + 4 = 8 from rfl, List.any_eq_not_all_not]
    simpa using zeros
  rw [fld_drop, fld_drop, clean]
  exact ⟨first, fun bad => bad.elim (by omega) fun bad => bad.elim (absurd rest) Bool.false_ne_true⟩

theorem execLogin_of_match (ready : s.safetyReady m 1 20 = true) (unlocked : s.saf.lockedUntil = none) {bare : Bool}
    (count : fld s.mbx[m].payload 4 4 = n) (low : n ≤ 16)
    (zeros : ((s.mbx[m].payload.drop (8 + n)).all fun b => b == 0) = true)
    (known : (s.saf.password = none ∧ n = 0 ∧ bare = true) ∨
      ∃ salt h, s.saf.password = some (salt, h) ∧ Config.sha256 (salt ++ (s.mbx[m].payload.drop 8).take n) = h ∧
        bare = false) :
    execLogin m tm s = .next ((s.loggedIn m tm bare).answer m stOk 0 []) := by
  obtain ⟨number, inOrder⟩ := login_inOrder count low zeros
  have unlocked' : (s.safetyBegun m tm).saf.lockedUntil = none := unlocked
  refine congrArg Host.Outcome.next (serveSafety_done ready (.inr rfl) ?_)
  dsimp only
  rw [number, if_neg inOrder, unlocked', Option.filter_none]
  rcases known with ⟨none, zero, rfl⟩ | ⟨salt, h, some, hash, rfl⟩
  · have none' : (s.safetyBegun m tm).saf.password = Option.none := none
    simp only [none', zero, if_true]
    rfl
  · have some' : (s.safetyBegun m tm).saf.password = Option.some (salt, h) := some
    simp only [some', List.drop_drop, hash, beq_self_eq_true, if_true]
    rfl

/-- What the answer to a login leaves. -/
theorem loggedIn_answered (s : State) (m : Fin 16) (tm : Nat) (bare : Bool) :
    ((s.loggedIn m tm bare).answer m stOk 0 []).gotAnswer m stOk [] ∧
      ((s.loggedIn m tm bare).answer m stOk 0 []).saf.login = some (s.mbx[m].sid, max s.nt tm, bare) ∧
      ((s.loggedIn m tm bare).answer m stOk 0 []).saf.fails = 0 ∧
      ((s.loggedIn m tm bare).answer m stOk 0 []).saf.lockouts = 0 ∧
      ((((s.loggedIn m tm bare).answer m stOk 0 []).saf.log.getLast?.map fun e => e.kind) = some 3) ∧
      ((s.loggedIn m tm bare).answer m stOk 0 []).saf.chan = s.saf.chan ∧
      ((s.loggedIn m tm bare).answer m stOk 0 []).axes = s.axes := by
  obtain ⟨e, last, kind, -, -⟩ := State.safLog_last ((s.safetyBegun m tm).modSaf fun k =>
    { k with login := some (s.mbx[m].sid, max s.nt tm, bare), fails := 0, lockouts := 0 }) 0x03 stOk
      s.mbx[m].owner.logPath s.mbx[m].sid 0 0
  refine ⟨State.gotAnswer_answer .., rfl, rfl, rfl, ?_, rfl, rfl⟩
  rw [State.answer_saf, State.loggedIn, last, Option.map_some, kind]

theorem execLogout_of_ready (ready : s.safetyReady m 2 0 = true) : execLogout m tm s =
    .next (((s.safetyBegun m tm).modSaf fun k =>
      { k with login := k.login.filter (fun l => l.1 != s.mbx[m].sid) }).answer m stOk 0 []) :=
  congrArg Host.Outcome.next (serveSafety_done ready (.inr rfl) rfl)

/-- The entries of STAGE. -/
def stageEntries (p : List Byte) (n : Nat) : List (List Byte) :=
  (List.range n).map fun i => (p.drop (8 + 12 * i)).take 12

/-- STAGE leaves a staged block. -/
def State.stagedBlock (s : State) (m : Fin 16) (tm : Nat) (b : List (Nat × Nat)) : State :=
  (s.safetyBegun m tm).modSaf fun k => { k with staged := some b }

theorem execStage_of_good (ready : s.safetyReady m 3 (4 + 12 * n) = true) (count : fld s.mbx[m].payload 4 4 = n)
    (some : 1 ≤ n) (few : n ≤ 40)
    (good : ∀ i < n, stageStatus ((s.mbx[m].payload.drop (8 + 12 * i)).take 12) = 0) : execStage m tm s =
      .next ((s.stagedBlock m tm ((stageEntries s.mbx[m].payload n).foldl
        (fun b e => blockPut b (fld e 0 4, fld e 4 4)) (s.saf.staged.getD s.saf.chan[0].block))).answer m stOk 0 []) := by
  have long : s.mbx[m].payload.length = 4 + (4 + 12 * n) := by
    simp only [State.safetyReady, Bool.and_eq_true, beq_iff_eq] at ready
    exact ready.2
  obtain ⟨first, rest⟩ := fld_four_low count (by omega)
  have number : fld (s.mbx[m].payload.drop 4) 0 1 = n := (fld_drop ..).trans first
  have header : ¬(n < 1 ∨ 40 < n ∨ fld (s.mbx[m].payload.drop 4) 1 3 ≠ 0 ∨
      (s.mbx[m].payload.drop 4).length ≠ 4 + 12 * n) := by
    rw [fld_drop, List.length_drop, long]
    omega
  have entries : ((List.range n).map fun i => ((s.mbx[m].payload.drop 4).drop (4 + 12 * i)).take 12) =
      stageEntries s.mbx[m].payload n := by
    refine List.map_congr_left fun i _ => ?_
    rw [List.drop_drop, ← Nat.add_assoc]
  have accepted : ((stageEntries s.mbx[m].payload n).map stageStatus).findIdx? (· != 0) = none := by
    rw [List.findIdx?_eq_none_iff]
    intro st member
    obtain ⟨e, inside, rfl⟩ := List.mem_map.mp member
    obtain ⟨i, low, rfl⟩ := List.mem_map.mp inside
    rw [good i (List.mem_range.mp low)]
    rfl
  refine congrArg Host.Outcome.next (serveSafety_done ready (.inl rfl) ?_)
  dsimp only
  rw [number, if_neg header, entries, accepted]
  rfl

theorem execValidate_of_staged (ready : s.safetyReady m 4 0 = true) {b : List (Nat × Nat)} (staged : s.saf.staged = some b) :
    execValidate m tm s = .next ((s.safetyBegun m tm).answer m stOk 0
      (leBytes 4 (blockCrc 0 b) ++ leBytes 2 (blockCrc 1 b) ++ leBytes 2 0 ++
        leBytes 2 (blockChanges b s.saf.chan[0].block) ++ leBytes 2 0)) := by
  have staged' : (s.safetyBegun m tm).saf.staged = some b := staged
  refine congrArg Host.Outcome.next (serveSafety_done ready (.inr rfl) ?_)
  simp only [staged']
  rfl

theorem State.activateSet_log (s : State) : (s.modSaf fun k => { k with activate := true }).saf.log = s.saf.log := rfl

/-- ACTIVATE is logged and waits for the next tick. -/
def State.activating (s : State) (m : Fin 16) (tm crc : Nat) : State :=
  ((s.safetyBegun m tm).safLog 0x01 stOk s.mbx[m].owner.logPath s.mbx[m].sid s.saf.chan[0].crc crc).modSaf
    fun k => { k with activate := true }

section
variable {b : List (Nat × Nat)} (ready : s.safetyReady m 5 8 = true) (staged : s.saf.staged = some b)
  (zero : fld s.mbx[m].payload 10 2 = 0)
include ready staged zero

theorem execActivate_of_match (crc0 : fld s.mbx[m].payload 4 4 = blockCrc 0 b)
    (crc1 : fld s.mbx[m].payload 8 2 = blockCrc 1 b) (supplied : s.pwr.supply.getLsbD 4 = true)
    (off : ∀ a : Fin 128, s.axes[a].state = .off ∨ s.axes[a].state = .sto) : execActivate m tm s =
      .next ((s.activating m tm (blockCrc 0 b)).answer m stOk 0 (leBytes 4 ((s.frame.fc + 1) % 2 ^ 32))) := by
  have staged' : (s.safetyBegun m tm).saf.staged = some b := staged
  have header : ¬fld (s.mbx[m].payload.drop 4) 6 2 ≠ 0 := by
    rw [fld_drop]
    exact not_not_intro zero
  have same : ¬(fld (s.mbx[m].payload.drop 4) 0 4 ≠ blockCrc 0 b ∨ fld (s.mbx[m].payload.drop 4) 4 2 ≠ blockCrc 1 b ∨
      (!(s.safetyBegun m tm).pwr.supply.getLsbD 4) = true) := by
    rw [fld_drop, fld_drop, show (s.safetyBegun m tm).pwr.supply.getLsbD 4 = true from supplied]
    exact fun bad => bad.elim (absurd crc0) fun bad => bad.elim (absurd crc1) (by decide)
  have still : (allAxes.all fun a => (s.safetyBegun m tm).axes[a].state == .off ||
      (s.safetyBegun m tm).axes[a].state == .sto) = true := List.all_eq_true.mpr fun a _ => by
    rw [Bool.or_eq_true, beq_iff_eq, beq_iff_eq]
    exact off a
  refine congrArg Host.Outcome.next (serveSafety_done ready (.inr rfl) ?_)
  simp only [staged']
  rw [if_neg header, if_neg same, still, Bool.not_true, Bool.and_false, if_neg Bool.false_ne_true]
  rfl

theorem execActivate_of_mismatch (differ : fld s.mbx[m].payload 4 4 ≠ blockCrc 0 b ∨
      fld s.mbx[m].payload 8 2 ≠ blockCrc 1 b ∨ s.pwr.supply.getLsbD 4 = false) :
    execActivate m tm s = .next ((s.safetyBegun m tm).answer m stIntegrity 0 []) := by
  have staged' : (s.safetyBegun m tm).saf.staged = some b := staged
  have header : ¬fld (s.mbx[m].payload.drop 4) 6 2 ≠ 0 := by
    rw [fld_drop]
    exact not_not_intro zero
  have other : fld (s.mbx[m].payload.drop 4) 0 4 ≠ blockCrc 0 b ∨ fld (s.mbx[m].payload.drop 4) 4 2 ≠ blockCrc 1 b ∨
      (!(s.safetyBegun m tm).pwr.supply.getLsbD 4) = true := by
    rw [fld_drop, fld_drop, Bool.not_eq_true']
    exact differ
  refine congrArg Host.Outcome.next (serveSafety_failed ready (.inr rfl) ?_)
  simp only [staged']
  rw [if_neg header, if_pos other]

end

theorem execDiscard_of_ready (ready : s.safetyReady m 6 0 = true) : execDiscard m tm s =
    .next (((s.safetyBegun m tm).modSaf fun k => { k with staged := none, activate := false }).answer m stOk 0 []) :=
  congrArg Host.Outcome.next (serveSafety_done ready (.inr rfl) rfl)

/-- SET_PASSWORD keeps the hash of the salted password and is logged. -/
def State.passwordSet (s : State) (m : Fin 16) (tm : Nat) (salt pw : List Byte) : State :=
  ((({ s.safetyBegun m tm with freeCtr := s.freeCtr + 1 } : State).modSaf fun k =>
    { k with password := some (salt, Config.sha256 (salt ++ pw)) }).safLog 0x02 stOk s.mbx[m].owner.logPath s.mbx[m].sid
      0 0)

theorem execSetPassword_of_good (ready : s.safetyReady m 7 20 = true) (count : fld s.mbx[m].payload 4 4 = n) (long : 8 ≤ n)
    (low : n ≤ 16) (zeros : ((s.mbx[m].payload.drop (8 + n)).all fun b => b == 0) = true)
    (letters : (((s.mbx[m].payload.drop 8).take n).all fun c => decide (0x21 ≤ c.toNat ∧ c.toNat ≤ 0x7E)) = true) :
    execSetPassword m tm s = .next ((s.passwordSet m tm (Config.drbg s.freeCtr 16)
      ((s.mbx[m].payload.drop 8).take n)).answer m stOk 0 []) := by
  obtain ⟨number, inOrder⟩ := login_inOrder count low zeros
  have pw : ((s.mbx[m].payload.drop 4).drop 4).take n = (s.mbx[m].payload.drop 8).take n := by rw [List.drop_drop]
  have header : ¬(n < 8 ∨ 16 < n ∨ fld (s.mbx[m].payload.drop 4) 1 3 ≠ 0 ∨
      (((s.mbx[m].payload.drop 4).drop 4).drop n).any (· != 0) = true ∨
      (!(((s.mbx[m].payload.drop 8).take n).all fun c => decide (0x21 ≤ c.toNat ∧ c.toNat ≤ 0x7E))) = true) := by
    rw [letters]
    simp only [Bool.not_true, Bool.false_eq_true, or_false]
    exact fun bad => bad.elim (by omega) inOrder
  refine congrArg Host.Outcome.next (serveSafety_done ready (.inr rfl) ?_)
  dsimp only
  rw [number, pw, if_neg header]
  rfl

/-- RESET acts when it is one of the sources (R408). -/
theorem execSafetyReset_of_ready (ready : s.safetyReady m 8 4 = true) (zero : fld s.mbx[m].payload 6 2 = 0) :
    execSafetyReset m tm s = .next ((s.adv tm).settle m
      (if !bit (s.safV 0 Pid.safResetSrc) 2 then .failed (s.safetyBegun m tm) stState
      else if ((s.safetyBegun m tm).safReset (grpsOf (fld s.mbx[m].payload 4 2)) 2 s.mbx[m].owner.logPath
            s.mbx[m].sid).1 = true then
          .done ((s.safetyBegun m tm).safReset (grpsOf (fld s.mbx[m].payload 4 2)) 2 s.mbx[m].owner.logPath
            s.mbx[m].sid).2.safDone
        else .failed ((s.safetyBegun m tm).safReset (grpsOf (fld s.mbx[m].payload 4 2)) 2 s.mbx[m].owner.logPath
            s.mbx[m].sid).2.safDone stCause)) := by
  have header : ¬fld (s.mbx[m].payload.drop 4) 2 2 ≠ 0 := by
    rw [fld_drop]
    exact not_not_intro zero
  have groups : fld (s.mbx[m].payload.drop 4) 0 2 = fld s.mbx[m].payload 4 2 := fld_drop ..
  refine congrArg Host.Outcome.next ((serveSafety_ready tm (some 4) _ (.inr rfl) ready).trans
    (congrArg ((s.adv tm).settle m) ?_))
  dsimp only
  rw [if_neg header, groups]
  rfl

theorem State.safReset_of_safe (safe : s.pwr.state = .safe) (gs : List (Fin 16)) (src path sid : Nat) :
    s.safReset gs src path sid = (false, s) := if_pos (beq_iff_eq.mpr safe)

end

/-- Settles O13: each clause is one branch of its sub-command, which acts on the state in which the login's idle time has
begun again. -/
theorem safetyCommandsAct : Obligations.SafetyCommandsAct := by
  unfold Obligations.SafetyCommandsAct
  refine ⟨?bare, ?login, ?logout, ?stage, ?validate, ?activate, ?mismatch, ?discard, ?password, ?noSource, ?safe, ?reset⟩
  case bare =>
    intro m tm s ready unlocked unset zeros
    have count : fld s.mbx[m].payload 4 4 = 0 := (fld_drop ..).symm.trans (fld_zeros zeros 0 4)
    have rest : ((s.mbx[m].payload.drop (8 + 0)).all fun b => b == 0) = true := by
      rw [show 8 + 0 = 4 + 4 from rfl, ← List.drop_drop]
      exact List.all_eq_true.mpr fun b member => List.all_eq_true.mp zeros b (List.mem_of_mem_drop member)
    exact ⟨_, execLogin_of_match ready unlocked count (by omega) rest (.inl ⟨unset, rfl, rfl⟩), loggedIn_answered ..⟩
  case login =>
    exact fun m tm n salt h s ready unlocked set count low zeros hash =>
      ⟨_, execLogin_of_match ready unlocked count low zeros (.inr ⟨salt, h, set, hash, rfl⟩), loggedIn_answered ..⟩
  case logout =>
    intro m tm s ready
    refine ⟨_, execLogout_of_ready ready, State.gotAnswer_answer .., fun l kept => ?_, rfl, rfl, rfl⟩
    obtain ⟨held, other⟩ := Option.filter_eq_some_iff.mp
      (show (s.safetyBegun m tm).saf.login.filter (fun l => l.1 != s.mbx[m].sid) = some l from kept)
    obtain ⟨l0, login, same⟩ := Option.map_eq_some_iff.mp
      (show (s.saf.login.map fun l => if l.1 = s.mbx[m].sid then (l.1, max s.nt tm, l.2.2) else l) = some l from held)
    have other' : l.1 ≠ s.mbx[m].sid := bne_iff_ne.mp other
    have kept : l = l0 := by
      split at same
      next own => exact absurd (same ▸ own) other'
      next => exact same.symm
    exact ⟨kept ▸ login, other'⟩
  case stage =>
    exact fun m tm n s ready count some few good =>
      ⟨_, execStage_of_good ready count some few good, State.gotAnswer_answer .., rfl, rfl, rfl⟩
  case validate =>
    exact fun m tm b s ready staged =>
      ⟨_, execValidate_of_staged ready staged, staged, rfl, rfl, State.gotAnswer_answer ..⟩
  case activate =>
    intro m tm b s ready staged crc0 crc1 zero supplied off
    obtain ⟨e, last, kind, old, new⟩ := State.safLog_last (s.safetyBegun m tm) 0x01 stOk s.mbx[m].owner.logPath
      s.mbx[m].sid s.saf.chan[0].crc (blockCrc 0 b)
    refine ⟨_, execActivate_of_match ready staged zero crc0 crc1 supplied off, State.gotAnswer_answer .., rfl, staged,
      rfl, rfl, ?_⟩
    rw [State.answer_saf, State.activating, State.activateSet_log, last, Option.map_some, kind, old, new]
  case mismatch =>
    exact fun m tm b s ready staged zero differ =>
      ⟨_, execActivate_of_mismatch ready staged zero differ, State.gotAnswer_answer .., rfl, staged, rfl, rfl⟩
  case discard =>
    exact fun m tm s ready => ⟨_, execDiscard_of_ready ready, State.gotAnswer_answer .., rfl, rfl, rfl, rfl⟩
  case password =>
    intro m tm n s ready count long low zeros letters
    obtain ⟨e, last, kind, -, -⟩ := State.safLog_last (({ s.safetyBegun m tm with freeCtr := s.freeCtr + 1 } : State).modSaf
      fun k => { k with password := some (Config.drbg s.freeCtr 16,
        Config.sha256 (Config.drbg s.freeCtr 16 ++ (s.mbx[m].payload.drop 8).take n)) }) 0x02 stOk
      s.mbx[m].owner.logPath s.mbx[m].sid 0 0
    refine ⟨_, Config.drbg s.freeCtr 16, execSetPassword_of_good ready count long low zeros letters,
      State.gotAnswer_answer .., rfl, rfl, ?_, rfl⟩
    rw [State.answer_saf, State.passwordSet, last, Option.map_some, kind]
  case noSource =>
    intro m tm s ready zero off
    have refused : execSafetyReset m tm s = .next ((s.safetyBegun m tm).answer m stState 0 []) := by
      rw [execSafetyReset_of_ready ready zero, off]
      rfl
    exact ⟨_, refused, State.gotAnswer_answer .., rfl, rfl⟩
  case safe =>
    intro m tm s ready zero on safe
    refine (execSafetyReset_of_ready ready zero).trans ?_
    rw [on, State.safReset_of_safe (s := s.safetyBegun m tm) safe]
    rfl
  case reset =>
    intro m tm s u ready zero on done
    refine (execSafetyReset_of_ready ready zero).trans ?_
    rw [on, done]
    rfl

end Sys2Proof.Machine

namespace Sys2Proof.Machine

/-! ## A HELLO from the network that waits for the network's parameters (R487). -/

/-- A HELLO of 88 bytes that mailbox 0 holds for a network, in a device in OPERATE whose network parameter has landed
and is not yet in force. -/
def helloOverNetwork : State :=
  ({ State.reset with
      pwr := { State.reset.pwr with state := .operate, domains := 0xFFFF, verified := true }
      par := { State.reset.par with landed := [0x02000000] } } : State).modMbx 0 fun b =>
    { b with
      owner := .net, state := .executing
      copy := leBytes 2 1 ++ leBytes 2 0x40 ++ leBytes 2 0 ++ leBytes 2 88 ++ leBytes 4 0 ++ leBytes 4 0 ++
        (1 :: List.replicate 87 0) }

theorem helloOverNetwork_waits :
    (helloOverNetwork.mbx[(0 : Fin 16)].owner == .net && helloOverNetwork.rwxClass 0x02) = true := by decide +kernel

theorem helloOverNetwork_inOrder : helloOverNetwork.ready 0 0x40 (isSub 1) 0 = true ∧
    helloOverNetwork.sec.lockedUntil = none ∧ helloOverNetwork.mbx[(0 : Fin 16)].payload.length = 88 ∧
    fld helloOverNetwork.mbx[(0 : Fin 16)].payload 1 3 = 0 ∧ fld helloOverNetwork.mbx[(0 : Fin 16)].payload 6 2 = 0 ∧
    helloOverNetwork.mbx[(0 : Fin 16)].session = 0 ∧ helloOverNetwork.mbx[(0 : Fin 16)].sid = 0 := by
  decide +kernel

/-- A HELLO over a network is not yet carried out while one of the network's parameters is to come into force. -/
theorem execHello_of_waits {m : Fin 16} {s : State} (tm : Nat)
    (waits : (s.mbx[m].owner == .net && s.rwxClass 0x02) = true) : execHello m tm s = .next (s.adv tm) := if_pos waits

/-- Refutes O12: the first clause gives every HELLO in order a session, but in `helloOverNetwork` it waits, and no
session opens. -/
theorem not_sessionCommandsAct : ¬ Obligations.SessionCommandsAct := by
  unfold Obligations.SessionCommandsAct
  rintro ⟨hello, -⟩
  obtain ⟨ready, unlocked, long, zero, low, free, bare⟩ := helloOverNetwork_inOrder
  obtain ⟨t, x, opened, sessions, -⟩ := hello 0 0 helloOverNetwork ready unlocked long zero low free bare
  have waits : helloOverNetwork.adv 0 = t :=
    Host.Outcome.next.inj ((execHello_of_waits 0 helloOverNetwork_waits).symm.trans opened)
  have kept : t.sec.sessions = helloOverNetwork.sec.sessions := by rw [← waits]; rfl
  exact absurd (congrArg List.length (kept.symm.trans sessions)) (by simp)

end Sys2Proof.Machine

namespace Sys2Proof.Machine

/-! ## A change of the device state (R458). -/

theorem State.reported_setDev (s : State) (d : DevState) :
    ((s.modPwr fun p => { p with state := d }).alignWatch).Reported (s.setDev d) :=
  (State.reported_irq _ _).trans (State.reported_event _ _ _ _)

/-- DEV_STATE is set in IRQ_STATUS. -/
theorem State.setDev_flag (s : State) (d : DevState) : (s.setDev d).host.irqStatus.getLsbD 20 = true :=
  (State.reported_event _ _ _ _).flags 20 (State.irq_flag _ (by decide))

theorem State.setDev_pwr (s : State) (d : DevState) : (s.setDev d).pwr = { s.pwr with state := d } :=
  (s.reported_setDev d).same State.pwr fun _ _ _ _ _ => rfl

theorem State.setDev_axes (s : State) (d : DevState) : (s.setDev d).axes = s.axes :=
  (s.reported_setDev d).same State.axes fun _ _ _ _ _ => rfl

theorem mem_allClusters (c : Fin 8) : c ∈ allClusters := by decide +revert

/-! ## The calls of the power class (R459, R461, R463, R471). -/

section
variable {s : State} {m : Fin 16} {tm : Nat}

theorem execPwrOperate_of_config (ready : s.callReady m 0x0800F001 0 = true) (config : s.pwr.state = .config) :
    execPwrOperate m tm s = .next (((s.adv tm).setDev .operate).answer m stOk 0 []) := by
  have config' : (s.adv tm).pwr.state = .config := config
  refine congrArg Host.Outcome.next (serveCall_done ready rfl ?_)
  simp only [config']

theorem execPwrOperate_of_safe (ready : s.callReady m 0x0800F001 0 = true) (safe : s.pwr.state = .safe) :
    execPwrOperate m tm s = .next ((s.adv tm).answer m stState 0 []) := by
  have safe' : (s.adv tm).pwr.state = .safe := safe
  refine congrArg Host.Outcome.next (serveCall_fail ready rfl ?_)
  simp only [safe']

theorem execPwrConfig_of_off (ready : s.callReady m 0x0800F002 0 = true) (operate : s.pwr.state = .operate)
    (off : s.allOff = true) : execPwrConfig m tm s = .next (((s.adv tm).setDev .config).answer m stOk 0 []) := by
  have operate' : (s.adv tm).pwr.state = .operate := operate
  have off' : ¬(!(s.adv tm).allOff) = true := by rw [show (s.adv tm).allOff = true from off]; decide
  refine congrArg Host.Outcome.next (serveCall_done ready rfl ?_)
  rw [if_neg off', operate']

theorem execPwrConfig_of_on (ready : s.callReady m 0x0800F002 0 = true) (on : s.allOff = false) :
    execPwrConfig m tm s = .next ((s.adv tm).answer m stState 0 []) := by
  have on' : (!(s.adv tm).allOff) = true := congrArg not on
  exact congrArg Host.Outcome.next (serveCall_fail ready rfl (if_pos on'))

theorem execPwrReset_of_ready (ready : s.callReady m 0x0800F003 0 = true) :
    execPwrReset m tm s =
      .next (((s.adv tm).modPwr fun p => { p with callReset := some (max s.nt tm) }).answer m stOk 0 []) :=
  congrArg Host.Outcome.next (serveCall_done ready rfl rfl)

/-- A sleep call without flags is accepted when each named cluster sleeps or can sleep and none wakes. -/
theorem execPwrSleep_of_free (ready : s.callReady m 0x0800F004 2 = true) (plain : s.arg m 1 1 = 0)
    (unasked : s.pwr.wakeAt = none) (still : s.pwr.wakeReq = 0)
    (able : ∀ c : Fin 8, bit (s.arg m 0 1) c.val = true → s.asleep c = true ∨ s.canSleep c = true) :
    execPwrSleep m tm s = .next ((((s.adv tm).modPwr fun k =>
      { k with sleepAt := some (s.arg m 0 1, false, false) }).varItem 8 [s.arg m 0 1, 0]).answer m stOk 0 []) := by
  have unasked' : (s.adv tm).pwr.wakeAt = none := unasked
  have none' : (s.adv tm).pwr.wakeReq.toNat &&& fld (callArgs s.mbx[m].payload) 0 1 = 0 := by
    rw [show (s.adv tm).pwr.wakeReq = 0 from still]
    exact Nat.zero_and _
  have plain' : fld (callArgs s.mbx[m].payload) 1 1 = 0 := plain
  have able' : (allClusters.any fun c => bit (fld (callArgs s.mbx[m].payload) 0 1) c.val && !(s.adv tm).asleep c &&
      !(s.adv tm).canSleep c) = false := List.any_eq_false.mpr fun c _ held => by
    simp only [Bool.and_eq_true, Bool.not_eq_true'] at held
    obtain ⟨⟨named, awake⟩, busy⟩ := held
    exact (able c named).elim (fun asleep => Bool.false_ne_true (awake.symm.trans asleep))
      fun can => Bool.false_ne_true (busy.symm.trans can)
  have clear (i : Nat) : bit 0 i = false := by rw [bit, Nat.zero_testBit]
  refine congrArg Host.Outcome.next (serveCall_done ready rfl ?_)
  simp only [plain', unasked', none', able', clear, ne_eq, not_true_eq_false, or_false, Bool.false_eq_true, false_and,
    if_false, show ¬3 < 0 by decide]
  rfl

/-- A sleep call without flags that names a cluster that cannot sleep is refused. -/
theorem execPwrSleep_of_busy {c : Fin 8} (ready : s.callReady m 0x0800F004 2 = true) (plain : s.arg m 1 1 = 0)
    (named : bit (s.arg m 0 1) c.val = true) (awake : s.asleep c = false) (busy : s.canSleep c = false) :
    execPwrSleep m tm s = .next ((s.adv tm).answer m stState 0 []) := by
  have plain' : fld (callArgs s.mbx[m].payload) 1 1 = 0 := plain
  have held : (allClusters.any fun c => bit (fld (callArgs s.mbx[m].payload) 0 1) c.val && !(s.adv tm).asleep c &&
      !(s.adv tm).canSleep c) = true := List.any_eq_true.mpr ⟨c, mem_allClusters c, by
    simp only [Bool.and_eq_true, Bool.not_eq_true']
    exact ⟨⟨named, awake⟩, busy⟩⟩
  have clear (i : Nat) : bit 0 i = false := by rw [bit, Nat.zero_testBit]
  refine congrArg Host.Outcome.next (serveCall_fail ready rfl ?_)
  simp only [plain', held, clear, Bool.false_eq_true, false_and, or_false, show ¬3 < 0 by decide, true_or, if_true,
    if_false]

theorem execPwrWake_of_ready (ready : s.callReady m 0x0800F005 1 = true) : execPwrWake m tm s =
    .next ((((s.adv tm).modPwr fun k => { k with wakeAt := some (k.wakeAt.getD 0 ||| s.arg m 0 1) }).varItem 9
      [s.arg m 0 1]).answer m stOk 0 []) :=
  congrArg Host.Outcome.next (serveCall_done ready rfl rfl)

theorem State.varItem_pwr (s : State) (kind : Nat) (f : List Nat) : (s.varItem kind f).pwr = s.pwr := by
  obtain ⟨w, e⟩ := s.varItem_twin kind f
  rw [e]

theorem State.varItem_axes (s : State) (kind : Nat) (f : List Nat) : (s.varItem kind f).axes = s.axes := by
  obtain ⟨w, e⟩ := s.varItem_twin kind f
  rw [e]

end

/-- Settles O18: each clause is one branch of its call; a change of the device state reports itself and changes no axis. -/
theorem powerCallsAct : Obligations.PowerCallsAct := by
  unfold Obligations.PowerCallsAct
  refine ⟨?operate, ?safe, ?config, ?on, ?reset, ?sleep, ?busy, ?wake⟩
  case operate =>
    exact fun m tm s ready config => ⟨_, execPwrOperate_of_config ready config, State.setDev_pwr _ _,
      State.gotAnswer_answer .., State.setDev_flag _ _, (State.answer_axes ..).trans (State.setDev_axes _ _)⟩
  case safe => exact fun _ _ _ => execPwrOperate_of_safe
  case config =>
    exact fun m tm s ready operate off => ⟨_, execPwrConfig_of_off ready operate off, State.setDev_pwr _ _,
      State.gotAnswer_answer .., State.setDev_flag _ _, (State.answer_axes ..).trans (State.setDev_axes _ _)⟩
  case on => exact fun _ _ _ => execPwrConfig_of_on
  case reset => exact fun _ _ _ => execPwrReset_of_ready
  case sleep =>
    exact fun m tm s ready plain unasked still able => ⟨_, execPwrSleep_of_free ready plain unasked still able,
      State.gotAnswer_answer .., State.varItem_axes .., State.varItem_pwr ..⟩
  case busy => exact fun _ _ _ _ => execPwrSleep_of_busy
  case wake =>
    exact fun m tm s ready => ⟨_, execPwrWake_of_ready ready, State.gotAnswer_answer .., State.varItem_axes ..,
      State.varItem_pwr ..⟩

end Sys2Proof.Machine

namespace Sys2Proof.Machine

/-! ## STO at axes (R406). -/

/-- Every axis that is named stands in STO. -/
theorem State.axesSto_state (s : State) {as_ : List (Fin 128)} {a : Fin 128} (named : a ∈ as_) :
    (s.axesSto as_).axes[a].state = .sto := by
  refine (State.each_change (fun t a => t.axes[a].state) _ (f := fun _ => .sto) (fun t c i => ?_) (fun _ => rfl) a as_
    s).trans (if_pos named)
  dsimp only
  rw [State.modAxis_axes, vector_set_get]
  split <;> rfl

@[simp] theorem State.linkSend_sec (s : State) (l : Fin 32) (syms : List Sym) : (s.linkSend l syms).sec = s.sec := rfl

/-- A kill sequence writes the links and what leaves the device. -/
theorem State.sendKill_changes (s : State) (l : Fin 32) (mask : BitVec 4) :
    ∃ x o, s.sendKill l mask = { s with links := x, out := o } := by
  have cut : ∃ x o, s.cutTx l = { s with links := x, out := o } := by
    unfold State.cutTx
    extract_lets x n
    split <;> exact ⟨_, _, rfl⟩
  obtain ⟨x, o, e⟩ := cut
  unfold State.sendKill
  split
  · rw [State.sendKills, e]
    exact ⟨_, _, rfl⟩
  · exact ⟨_, _, rfl⟩

theorem State.killLinks_changes (s : State) (ls : List (Fin 32)) :
    ∃ x o, s.killLinks ls = { s with links := x, out := o } := by
  refine State.each_keeps (fun t => ∃ x o, t = { s with links := x, out := o }) _ (fun t l kept => ?_) ls s ⟨_, _, rfl⟩
  obtain ⟨x, o, rfl⟩ := kept
  obtain ⟨y, p, e⟩ := (({ s with links := x, out := o } : State).modLink l fun x => { x with killSaf := 15 }).sendKill_changes
    l 15
  rw [e]
  exact ⟨_, _, rfl⟩

theorem State.axesSto_changes (s : State) (as_ : List (Fin 128)) : ∃ x, s.axesSto as_ = { s with axes := x } := by
  refine State.each_keeps (fun t => ∃ x, t = { s with axes := x }) _ (fun t a kept => ?_) as_ s ⟨_, rfl⟩
  obtain ⟨x, rfl⟩ := kept
  exact ⟨_, rfl⟩

theorem mem_allAxes (a : Fin 128) : a ∈ allAxes :=
  List.mem_map.mpr ⟨a.val, List.mem_range.mpr a.isLt, axisNo_val a⟩

theorem fld_header {p : List Byte} {n : Nat} (value : fld p 0 4 = n) (low : n < 256) : fld p 0 1 = n ∧ fld p 1 3 = 0 :=
  fld_four_low value low

theorem fld_one_lt (p : List Byte) (i : Nat) : fld p i 1 < 256 := by
  unfold fld
  cases p.drop i with
  | nil => decide
  | cons b rest =>
    rw [List.take_succ_cons, List.take_zero]
    exact b.isLt

/-! ## The calls of the security classes (R480, R481, R485, R486, R492, R495). -/

section
variable {s : State} {m : Fin 16} {tm : Nat}

theorem execSecFwActivate_of_closed {n : Nat} (ready : s.callReady m 0x8000F001 4 = true) (arg : s.arg m 0 4 = n)
    (low : n ≤ 1) (closed : s.sec.closedOk = true) : execSecFwActivate m tm s = .next ((s.adv tm).settle m
      (if n = 1 ∧ !Config.liveOk (s.sec.slots[fin 2 (by decide) s.sec.running]).image (s.sec.slots[s.sec.other]).image
        then .fail stState
        else .done (if n = 1 then ((s.adv tm).modSec fun k => { k with
            next := some k.other.val, tried := false, dirSeq := k.dirSeq + 1, liveNext := decide (n = 1) }).modAge fun k =>
              { k with restartReq := some (max s.nt tm) }
          else (s.adv tm).modSec fun k => { k with
            next := some k.other.val, tried := false, dirSeq := k.dirSeq + 1, liveNext := decide (n = 1) }))) := by
  obtain ⟨first, rest⟩ := fld_header arg (by omega)
  have header : ¬(1 < n ∨ fld (callArgs s.mbx[m].payload) 1 3 ≠ 0) := by omega
  have closed' : (s.adv tm).sec.closedOk = true := closed
  refine congrArg Host.Outcome.next ((serveCall_ready tm _ _ ready rfl).trans (congrArg ((s.adv tm).settle m) ?_))
  simp only [first, if_neg header, closed', Bool.not_true, Bool.false_eq_true, if_false]
  rfl

theorem execSecFwCommit_of_trial {n : Nat} (ready : s.callReady m 0x8000F002 4 = true) (arg : s.arg m 0 4 = n)
    (low : n ≤ 1) (trial : s.trial = true) : execSecFwCommit m tm s = .next (((s.adv tm).modSec fun k => { k with
      cur := k.running, next := none, tried := false, dirSeq := k.dirSeq + 1, closedOk := false,
      svnMin := if n = 1 then max k.svnMin (k.slots[fin 2 (by decide) k.running]).svn else k.svnMin }).answer m stOk 0
        []) := by
  obtain ⟨first, rest⟩ := fld_header arg (by omega)
  have header : ¬(1 < n ∨ fld (callArgs s.mbx[m].payload) 1 3 ≠ 0) := by omega
  have trial' : (s.adv tm).trial = true := trial
  refine congrArg Host.Outcome.next (serveCall_done ready rfl ?_)
  simp only [first, if_neg header, trial', Bool.not_true, Bool.false_eq_true, if_false]

theorem execSecFwCommit_of_no_trial (ready : s.callReady m 0x8000F002 4 = true) (arg : s.arg m 0 4 = 0)
    (none : s.trial = false) : execSecFwCommit m tm s = .next ((s.adv tm).answer m stState 0 []) := by
  obtain ⟨first, rest⟩ := fld_header arg (by omega)
  have header : ¬(1 < 0 ∨ fld (callArgs s.mbx[m].payload) 1 3 ≠ 0) := by omega
  have none' : (s.adv tm).trial = false := none
  refine congrArg Host.Outcome.next (serveCall_fail ready rfl ?_)
  simp only [first, if_neg header, none', Bool.not_false, if_true]

/-- The change of a line key waits. -/
def State.keyChanging (s : State) (i : Nat) (key : Option (List Byte)) : State :=
  s.modSec fun k => { k with keyChange := k.keyChange ++ [(i, key)] }

theorem execSecLinekeySet_of_good (ready : s.callReady m 0x8000F003 36 = true) (low : s.arg m 0 1 ≤ 3)
    (zero : s.arg m 1 3 = 0) : ∃ f, execSecLinekeySet m tm s =
      .next ((((s.adv tm).keyChanging (s.arg m 0 1) (some ((callArgs s.mbx[m].payload).drop 4))).varItem 6 f).answer m
        stOk 0 []) := by
  have header : ¬(3 < s.arg m 0 1 ∨ s.arg m 1 3 ≠ 0) := by omega
  exact ⟨_, congrArg Host.Outcome.next (serveCall_done ready rfl (if_neg header))⟩

theorem execSecLinekeyClear_of_good (ready : s.callReady m 0x8000F004 4 = true) (low : s.arg m 0 1 ≤ 3)
    (zero : s.arg m 1 3 = 0) : ∃ f, execSecLinekeyClear m tm s =
      .next ((((s.adv tm).keyChanging (s.arg m 0 1) none).varItem 7 f).answer m stOk 0 []) := by
  have header : ¬(3 < s.arg m 0 1 ∨ s.arg m 1 3 ≠ 0) := by omega
  exact ⟨_, congrArg Host.Outcome.next (serveCall_done ready rfl (if_neg header))⟩

theorem State.varItem_sec (s : State) (kind : Nat) (f : List Nat) : (s.varItem kind f).sec = s.sec := by
  obtain ⟨w, e⟩ := s.varItem_twin kind f
  rw [e]

@[simp] theorem State.endSession_operators (s : State) (sid : Nat) :
    (s.endSession sid).sec.operators = s.sec.operators := by
  unfold State.endSession
  split <;> rfl

theorem State.endCred_operators (s : State) (c : Nat) : (s.endCred c).sec.operators = s.sec.operators :=
  State.each_same (·.sec.operators) _ (fun _ _ => State.endSession_operators ..) _ _

theorem State.endCred_axes (s : State) (c : Nat) : (s.endCred c).axes = s.axes :=
  State.each_same State.axes _ (fun _ _ => State.endSession_axes ..) _ _

/-- An operator's credential is set, or erased with a key of zeros. -/
def State.operSet (s : State) (i : Fin 8) (o : Operator) : State :=
  s.modSec fun k => { k with operators := k.operators.set i o }

theorem execSecOperSet_of_good {i : Fin 8} (ready : s.callReady m 0x8000F005 68 = true) (index : s.arg m 0 1 = i.val)
    (zero : s.arg m 1 1 = 0) (rights : s.arg m 2 2 ≤ 31) {erase : Bool}
    (key : (((callArgs s.mbx[m].payload).drop 4).all fun b => b == 0) = erase) : ∃ f, execSecOperSet m tm s =
      .next ((if erase then
          (((s.adv tm).operSet i (if erase then {} else ⟨s.arg m 2 2, (callArgs s.mbx[m].payload).drop 4⟩)).varItem 5
            f).endCred i.val
        else ((s.adv tm).operSet i (if erase then {} else ⟨s.arg m 2 2, (callArgs s.mbx[m].payload).drop 4⟩)).varItem 5
          f).answer m stOk 0 []) := by
  have index' : fld (callArgs s.mbx[m].payload) 0 1 = i.val := index
  have header : ¬(7 < i.val ∨ fld (callArgs s.mbx[m].payload) 1 1 ≠ 0 ∨ 31 < fld (callArgs s.mbx[m].payload) 2 2) := by
    have zero' : fld (callArgs s.mbx[m].payload) 1 1 = 0 := zero
    have rights' : fld (callArgs s.mbx[m].payload) 2 2 ≤ 31 := rights
    omega
  have own : fin 8 (by decide) i.val = i := Fin.ext (val_fin_of_lt _ i.isLt)
  refine ⟨i.val :: s.arg m 2 2 :: ((callArgs s.mbx[m].payload).drop 4).map BitVec.toNat,
    congrArg Host.Outcome.next (serveCall_done ready rfl ?_)⟩
  simp only [index', if_neg header, key, own]
  rfl

theorem execSecDebugUnlock_of_off (ready : s.callReady m 0x8000F006 0 = true) (off : s.allOff = true) :
    execSecDebugUnlock m tm s =
      .next ((((s.adv tm).modSec fun k => { k with jtagOpen := true }).raise 0x8006 0 []).answer m stOk 0 []) := by
  have off' : ¬(!(s.adv tm).allOff) = true := by rw [show (s.adv tm).allOff = true from off]; decide
  exact congrArg Host.Outcome.next (serveCall_done ready rfl (if_neg off'))

theorem execSecTransfer_of_off (ready : s.callReady m 0x8000F008 64 = true) (off : s.allOff = true) :
    execSecTransfer m tm s = .next (((s.adv tm).modSec fun k => { k with
      ownerKey := callArgs s.mbx[m].payload, ownerEpoch := k.ownerEpoch + 1, operators := Vector.replicate 8 {},
      endAll := true }).answer m stOk 0 []) := by
  have off' : ¬(!(s.adv tm).allOff) = true := by rw [show (s.adv tm).allOff = true from off]; decide
  exact congrArg Host.Outcome.next (serveCall_done ready rfl (if_neg off'))

/-- What SEC.RELEASE erases: the owner with its credentials and keys, the saved parameters, and the safety
configuration. -/
def State.released (s : State) : State :=
  ((s.modSec fun k =>
    { k with owned := false, ownerKey := [], ownerEpoch := 0, operators := Vector.replicate 8 {},
             lineKeys := Vector.replicate 4 none, keyChange := [], bundleLast := 0, jtagOpen := true,
             endAll := true }).modPar fun k => { k with flash := none }).modSaf fun k =>
    { k with flash := none, password := none, staged := none,
             chan := k.chan.map fun c =>
               { c with block := [], configured := false, crc := 0, tel := {}, telOpen := false, telOk := false
                        telN := 0, groups := Vector.replicate 16 {} } }

theorem State.released_chan (s : State) (ch : Fin 2) : s.released.saf.chan[ch] = { s.saf.chan[ch] with
    block := [], configured := false, crc := 0, tel := {}, telOpen := false, telOk := false, telN := 0
    groups := Vector.replicate 16 {} } := Vector.getElem_map ..

theorem execSecRelease_of_off (ready : s.callReady m 0x8000F007 0 = true) (off : s.allOff = true) :
    ∃ path sid old, execSecRelease m tm s = .next (((if s.ib then
      ((s.adv tm).released.axesSto allAxes).killLinks allLinks else (s.adv tm).released).safLog 0x06 stOk path sid old
        0).answer m stOk 0 []) := by
  have off' : ¬(!(s.adv tm).allOff) = true := by rw [show (s.adv tm).allOff = true from off]; decide
  exact ⟨_, _, _, congrArg Host.Outcome.next (serveCall_done ready rfl (if_neg off'))⟩

/-- The stop of the axes and links leaves what SEC.RELEASE erased; it puts every axis in STO. -/
theorem released_stopped (s : State) (stop : Bool) :
    ∃ y x o, (if stop then (s.released.axesSto allAxes).killLinks allLinks else s.released) =
      { s.released with axes := y, links := x, out := o } ∧ (stop = false → y = s.axes) ∧
      (stop = true → ∀ a : Fin 128, y[a].state = .sto) := by
  cases stop with
  | false => exact ⟨s.axes, s.links, s.out, rfl, fun _ => rfl, fun no => absurd no (by decide)⟩
  | true =>
    obtain ⟨x, o, e⟩ := (s.released.axesSto allAxes).killLinks_changes allLinks
    obtain ⟨y, f⟩ := s.released.axesSto_changes allAxes
    refine ⟨y, x, o, ?_, fun no => absurd no (by decide), fun _ a => ?_⟩
    · rw [if_pos rfl, e, f]
    · have stopped := s.released.axesSto_state (mem_allAxes a)
      rw [f] at stopped
      exact stopped

/-! ## The calls of the ageing unit (R510 to R513). -/

theorem clusterTest_idle (idle : ∀ k : Fin 8, s.age.clt[k] = none) : s.age.clt.toList.any Option.isSome = false := by
  refine List.any_eq_false.mpr fun x member => ?_
  obtain ⟨i, low, rfl⟩ := Vector.mem_iff_getElem.mp (Vector.mem_toList_iff.mp member)
  rw [show s.age.clt[i] = none from idle ⟨i, low⟩]
  exact Bool.false_ne_true

section
variable {c : Fin 8} (ready : s.callReady m 0x0A00F001 4 = true) (arg : s.arg m 0 4 = c.val)
  (idle : ∀ k : Fin 8, s.age.clt[k] = none)
include ready arg idle

theorem execAgeClusterTest_of_off (off : (clusterAxes c).all s.axOff = true) : execAgeClusterTest m tm s =
    .next (((s.adv tm).modAge fun k =>
      { k with clt := k.clt.set c (some ⟨max s.nt tm, m.val⟩) }).modMbx m fun b => { b with wait := .call 0x0A00F001 }) := by
  obtain ⟨first, rest⟩ := fld_header arg (by omega)
  have header : ¬(7 < c.val ∨ fld (callArgs s.mbx[m].payload) 1 3 ≠ 0) := by omega
  have own : fin 8 (by decide) c.val = c := Fin.ext (val_fin_of_lt _ c.isLt)
  have off' : (clusterAxes c).all (s.adv tm).axOff = true := off
  refine congrArg Host.Outcome.next (serveCall_wait ready (clusterTest_idle (s := s.adv tm) idle) ?_)
  simp only [first, if_neg header, own, off', Bool.not_true, Bool.false_eq_true, if_false]
  rfl

theorem execAgeClusterTest_of_on (on : (clusterAxes c).all s.axOff = false) :
    execAgeClusterTest m tm s = .next ((s.adv tm).answer m stState 0 []) := by
  obtain ⟨first, rest⟩ := fld_header arg (by omega)
  have header : ¬(7 < c.val ∨ fld (callArgs s.mbx[m].payload) 1 3 ≠ 0) := by omega
  have own : fin 8 (by decide) c.val = c := Fin.ext (val_fin_of_lt _ c.isLt)
  have on' : (clusterAxes c).all (s.adv tm).axOff = false := on
  refine congrArg Host.Outcome.next (serveCall_fail ready (clusterTest_idle (s := s.adv tm) idle) ?_)
  simp only [first, if_neg header, own, on', Bool.not_false, if_true]

end

/-- The loop of a port begins: the port is shut off from its network. -/
def State.loopBegun (s : State) (port : Fin 4) (mode m : Nat) : State :=
  ((s.modNet fun n => { n with ports := n.ports.set port { n.ports[port] with looped := true } }).fwdOkSet).modAge
    fun k => { k with loop := some ⟨port.val, mode, s.nt, m⟩ }

/-- The two bytes of an argument. -/
theorem fld_port_mode {p : List Byte} {i a b : Nat} (value : fld p i 4 = a + 256 * b) (lowA : a < 256) (lowB : b < 256) :
    fld p i 1 = a ∧ fld p (i + 1) 1 = b ∧ fld p (i + 2) 2 = 0 := by
  have outer : fld p i 4 = fld p i 1 + 256 * fld p (i + 1) 3 := fld_succ p i 3
  have inner : fld p (i + 1) 3 = fld p (i + 1) 1 + 256 * fld p (i + 2) 2 := fld_succ p (i + 1) 2
  have small : fld p i 1 < 256 := fld_one_lt p i
  have small' : fld p (i + 1) 1 < 256 := fld_one_lt p (i + 1)
  omega

theorem val_other (port : Fin 4) : (fin 2 (by decide) (1 - netOf port.val) : Fin 2).val = 1 - netOf port.val :=
  val_fin_of_lt _ (by omega)

/-- A port loop begins while the other network carries both its links and the time. -/
theorem execAgePortLoop_of_free {mode : Nat} {port : Fin 4} (ready : s.callReady m 0x0A00F002 4 = true)
    (arg : s.arg m 0 4 = port.val + 256 * mode) (low : 1 ≤ mode) (high : mode ≤ 2) (idle : s.age.loop = none)
    (linkA : (s.net.ports[fin 4 (by decide) (2 * (1 - netOf port.val))]).link = true)
    (linkB : (s.net.ports[fin 4 (by decide) (2 * (1 - netOf port.val) + 1)]).link = true)
    (timed : (s.net.units[fin 2 (by decide) (1 - netOf port.val)]).state = .locked ∨
      (s.net.units[fin 2 (by decide) (1 - netOf port.val)]).state = .locking ∨
      (s.net.units[fin 2 (by decide) (1 - netOf port.val)]).state = .master)
    (spare : s.net.driver ≠ netOf port.val ∨ s.pN Pid.ptpSource = 2) : execAgePortLoop m tm s =
      .next (((s.adv tm).loopBegun port mode m.val).modMbx m fun b => { b with wait := .call 0x0A00F002 }) := by
  obtain ⟨first, second, third⟩ := fld_port_mode arg (by omega) (by omega)
  have second' : fld (callArgs s.mbx[m].payload) 1 1 = mode := second
  have header : ¬(3 < port.val ∨ mode < 1 ∨ 2 < mode ∨ fld (callArgs s.mbx[m].payload) 2 2 ≠ 0) := by
    have third' : fld (callArgs s.mbx[m].payload) 2 2 = 0 := third
    omega
  have own : fin 4 (by decide) port.val = port := Fin.ext (val_fin_of_lt _ port.isLt)
  have idle' : (s.adv tm).age.loop.isSome = false := congrArg Option.isSome idle
  have open_ : ¬((!((s.net.ports[fin 4 (by decide) (2 * (1 - netOf port.val))]).link &&
        (s.net.ports[fin 4 (by decide) (2 * (1 - netOf port.val) + 1)]).link) ||
      !((s.net.units[fin 2 (by decide) (1 - netOf port.val)]).state == .locked ||
        (s.net.units[fin 2 (by decide) (1 - netOf port.val)]).state == .locking ||
        (s.net.units[fin 2 (by decide) (1 - netOf port.val)]).state == .master) ||
      (s.net.driver == netOf port.val && s.pN Pid.ptpSource != 2)) = true) := by
    rw [linkA, linkB]
    simp only [Bool.and_true, Bool.not_true, Bool.false_or, Bool.or_eq_true, Bool.not_eq_true', Bool.and_eq_true,
      Bool.or_eq_false_iff, beq_eq_false_iff_ne, beq_iff_eq, bne_iff_ne, ne_eq]
    tauto
  refine congrArg Host.Outcome.next (serveCall_wait ready idle' ?_)
  simp only [first, second', if_neg header, val_other, own]
  exact if_neg open_

/-- The scale and the friction of an axis begin anew. -/
def State.ageingReset (s : State) (a : Fin 128) : State :=
  s.modAge fun k =>
    { k with axes := k.axes.set a
               { s.age.axes[a] with k := 1, keSum := 0, keN := 0, fricFrom := none, fricSum := 0, fricN := 0 }
             items := k.items.filter fun x => !((x.kind == 9 || x.kind == 10) && x.inst == a.val) }

theorem execAgeAxisReset_of_axis {a : Fin 128} (ready : s.callReady m 0x0A00F003 4 = true) (arg : s.arg m 0 4 = a.val) :
    execAgeAxisReset m tm s = .next (((s.adv tm).ageingReset a).answer m stOk 0 []) := by
  obtain ⟨first, rest⟩ := fld_header arg (by omega)
  have header : ¬(127 < a.val ∨ fld (callArgs s.mbx[m].payload) 1 3 ≠ 0) := by omega
  refine congrArg Host.Outcome.next (serveCall_done ready rfl ?_)
  simp only [first, if_neg header, axisNo_val]
  rfl

theorem execAgeFwRestart_of_ready (ready : s.callReady m 0x0A00F004 0 = true) : execAgeFwRestart m tm s =
    .next (((s.adv tm).modAge fun k => { k with restartReq := some (max s.nt tm) }).answer m stOk 0 []) :=
  congrArg Host.Outcome.next (serveCall_done ready rfl rfl)

end

/-- Settles O19: each clause is one branch of its call. -/
theorem securityAndAgeingCallsAct : Obligations.SecurityAndAgeingCallsAct := by
  unfold Obligations.SecurityAndAgeingCallsAct
  refine ⟨?activate, ?commit, ?noTrial, ?keySet, ?keyClear, ?oper, ?debug, ?release, ?transfer, ?test, ?testOn, ?loop,
    ?axis, ?restart, ?live, ?commitKeep, ?erase⟩
  case activate =>
    intro m tm s ready arg closed
    refine (execSecFwActivate_of_closed ready arg (by decide) closed).trans ?_
    rw [if_neg (by simp)]
    rfl
  case commit =>
    intro m tm s ready arg trial
    exact execSecFwCommit_of_trial ready arg (by decide) trial
  case noTrial => exact fun _ _ _ => execSecFwCommit_of_no_trial
  case keySet =>
    intro m tm s ready low zero
    obtain ⟨f, done⟩ := execSecLinekeySet_of_good (tm := tm) ready low zero
    exact ⟨_, done, State.gotAnswer_answer .., State.varItem_axes .., State.varItem_sec ..⟩
  case keyClear =>
    intro m tm s ready low zero
    obtain ⟨f, done⟩ := execSecLinekeyClear_of_good (tm := tm) ready low zero
    exact ⟨_, done, State.gotAnswer_answer .., State.varItem_axes .., State.varItem_sec ..⟩
  case oper =>
    intro m tm i s ready index zero rights key
    obtain ⟨f, done⟩ := execSecOperSet_of_good (tm := tm) ready index zero rights key
    simp only [Bool.false_eq_true, if_false] at done
    have kept := State.varItem_sec ((s.adv tm).operSet i ⟨s.arg m 2 2, (callArgs s.mbx[m].payload).drop 4⟩) 5 f
    exact ⟨_, done, State.gotAnswer_answer .., State.varItem_axes .., congrArg SecSt.operators kept,
      (congrArg SecSt.sessions kept).trans rfl⟩
  case debug => exact fun _ _ _ => execSecDebugUnlock_of_off
  case release =>
    intro m tm s ready off
    obtain ⟨path, sid, old, done⟩ := execSecRelease_of_off (tm := tm) ready off
    obtain ⟨y, x, o, stopped, still, sto⟩ := released_stopped (s.adv tm) s.ib
    rw [stopped] at done
    refine ⟨_, done, State.gotAnswer_answer .., rfl, rfl, rfl, rfl, rfl, rfl, rfl, rfl, rfl, fun ch => ?_,
      fun i => Vector.getElem_replicate .., still, sto⟩
    have chan := (s.adv tm).released_chan ch
    exact ⟨congrArg ChanSt.block chan, fun g => (congrArg (fun c : ChanSt => c.groups[g].state) chan).trans
      (congrArg GrpSt.state (Vector.getElem_replicate ..))⟩
  case transfer => exact fun _ _ _ => execSecTransfer_of_off
  case test => exact fun _ _ _ _ => execAgeClusterTest_of_off
  case testOn => exact fun _ _ _ _ => execAgeClusterTest_of_on
  case loop =>
    intro m tm mode port s ready arg low high idle linkA linkB timed spare
    refine ⟨_, execAgePortLoop_of_free ready arg low high idle linkA linkB timed spare, ?_, ?_, ?_, rfl, rfl⟩
    · exact congrArg NetPort.looped (vector_set_self _ _ _)
    · exact congrArg Mbx.wait (vector_set_self _ _ _)
    · exact (congrArg Mbx.hidden (vector_set_self _ _ _)).trans (hidden_of_callReady ready)
  case axis =>
    intro m tm a s ready arg
    exact ⟨_, execAgeAxisReset_of_axis ready arg, State.gotAnswer_answer .., rfl, congrArg AgeAx.k (vector_set_self _ _ _),
      congrArg AgeAx.keN (vector_set_self _ _ _), congrArg AgeAx.fricN (vector_set_self _ _ _),
      fun b other => (vector_set_get _ _ _ _).trans (if_neg other.symm)⟩
  case restart => exact fun _ _ _ => execAgeFwRestart_of_ready
  case live =>
    intro m tm s ready arg closed
    refine ⟨_, execSecFwActivate_of_closed ready arg (by decide) closed, fun ok => ?_, fun bad => ?_⟩
    · rw [ok, if_neg (by simp)]
      rfl
    · rw [bad, if_pos (by simp)]
      rfl
  case commitKeep =>
    intro m tm s ready arg trial
    exact execSecFwCommit_of_trial ready arg (by decide) trial
  case erase =>
    intro m tm i s ready index zero rights key
    obtain ⟨f, done⟩ := execSecOperSet_of_good (tm := tm) ready index zero rights key
    refine ⟨_, done, State.gotAnswer_answer .., (State.endCred_axes ..).trans (State.varItem_axes ..), ?_⟩
    exact (State.endCred_operators ..).trans (congrArg SecSt.operators (State.varItem_sec ..))

end Sys2Proof.Machine

namespace Sys2Proof.Machine

/-! ## Resets and supplies (R449, R452, R454, R455, R471). -/

/-- A switch of a domain writes the domains and those that switch. -/
theorem State.domOn_changes (s : State) (d : Nat) :
    ∃ x w, s.domOn d = { s with pwr := { s.pwr with domains := x, switching := w } } := by
  unfold State.domOn
  split
  · exact ⟨_, _, rfl⟩
  · exact ⟨_, _, rfl⟩

/-- What reads no domain reads the same after a switch. -/
theorem State.domOn_same {β : Type} (g : State → β) (s : State) (d : Nat)
    (apart : ∀ (u : State) x w, g { u with pwr := { u.pwr with domains := x, switching := w } } = g u) :
    g (s.domOn d) = g s := by
  obtain ⟨x, w, e⟩ := s.domOn_changes d
  rw [e, apart]

theorem State.domOn_domains {s : State} {d : Nat} (off : s.pwr.domains.getLsbD d = false) :
    (s.domOn d).pwr.domains = s.pwr.domains ||| (1#16 <<< d) := by
  rw [State.domOn, if_neg (by rw [off]; exact Bool.false_ne_true)]
  rfl

section
variable {s : State} {tm : Nat} {i : Fin 16}

/-- A supply is no longer valid. -/
def State.supplyGone (s : State) (tm : Nat) (i : Nat) : State :=
  (s.adv tm).modPwr fun p => { p with supply := p.supply &&& ~~~(1#16 <<< i) }

/-- A supply becomes valid; the last one that is needed begins the start-up. -/
def PwrSt.supplied (p : PwrSt) (i now : Nat) : PwrSt :=
  let q := { p with supply := p.supply ||| (1#16 <<< i) }
  if q.reqOk && !p.reqOk then { q with t0 := now } else q

theorem PwrSt.supplied_eq (p : PwrSt) (i now : Nat) :
    ∃ t0, p.supplied i now = { p with supply := p.supply ||| (1#16 <<< i), t0 := t0 } := by
  unfold PwrSt.supplied
  extract_lets q
  split
  · exact ⟨now, rfl⟩
  · exact ⟨p.t0, rfl⟩

theorem execSupplyValid_eq (i : Fin 16) (tm : Nat) (s : State) :
    execSupplyValid i tm s = .next { s.adv tm with pwr := s.pwr.supplied i.val (max s.nt tm) } := rfl

/-- What the loss of a supply that was valid does. -/
theorem execSupplyInvalid_of_valid (valid : s.pwr.supply.getLsbD i.val = true) : execSupplyInvalid i tm s =
    .next (if i.val = 0 then (s.supplyGone tm i.val).powerOn
      else if i.val ≤ 3 then (s.supplyGone tm i.val).deviceReset 2 i.val
      else if i.val = 4 then (s.supplyGone tm i.val).vsafLost
      else if i.val = 5 then (s.supplyGone tm i.val).visoLost
      else if s.pwr.bankReq.getLsbD (i.val - 6) then (s.supplyGone tm i.val).deviceReset 2 (4 + (i.val - 6))
      else s.supplyGone tm i.val) := by
  have valid' : ¬(!(s.adv tm).pwr.supply.getLsbD i.val) = true := by
    rw [show (s.adv tm).pwr.supply.getLsbD i.val = true from valid]
    decide
  exact congrArg Host.Outcome.next (if_neg valid')

theorem execSupplyInvalid_of_absent (absent : s.pwr.supply.getLsbD i.val = false) :
    execSupplyInvalid i tm s = .next (s.supplyGone tm i.val) :=
  congrArg Host.Outcome.next (if_pos (congrArg not absent))

/-- The loss of a supply that every bank needs resets the device. -/
theorem execSupplyInvalid_of_core (some : 1 ≤ i.val) (core : i.val ≤ 3) (valid : s.pwr.supply.getLsbD i.val = true) :
    execSupplyInvalid i tm s = .next ((s.supplyGone tm i.val).deviceReset 2 i.val) := by
  rw [execSupplyInvalid_of_valid valid, if_neg (by omega), if_pos core]

theorem execSupplyInvalid_of_bank (bank : 6 ≤ i.val) (valid : s.pwr.supply.getLsbD i.val = true) :
    execSupplyInvalid i tm s = .next (if s.pwr.bankReq.getLsbD (i.val - 6) then
      (s.supplyGone tm i.val).deviceReset 2 (4 + (i.val - 6)) else s.supplyGone tm i.val) := by
  rw [execSupplyInvalid_of_valid valid, if_neg (by omega), if_neg (by omega), if_neg (by omega), if_neg (by omega)]

theorem execNresetRelease_of_low (low : s.pwr.nReset = false) : execNresetRelease tm s =
    .next ((s.adv tm).modPwr fun p => { p with nReset := true, resetAt := max s.nt tm }) := by
  have low' : ¬(s.adv tm).pwr.nReset = true := by
    rw [show (s.adv tm).pwr.nReset = false from low]
    exact Bool.false_ne_true
  exact congrArg Host.Outcome.next (if_neg low')

/-- The release of nRESET_OUT: the straps are sampled and the reset is logged. -/
def State.strapped (s : State) (pos claim : Bool) (f : FaultSt) : State :=
  { s with
    pwr := { s.pwr with resetOut := true, strapPos := b2n pos, strapClaim := claim, pinPos := b2n pos, pinClaim := claim }
    flt := f }

/-- The first domains are switched on. -/
def State.firstDomains (s : State) : State := (((s.domOn 10).domOn 11).domOn 8).domOn 14

theorem State.firstDomains_domains {s : State} (off : s.pwr.domains = 0) : s.firstDomains.pwr.domains = 0x4D00 := by
  have one : (s.domOn 10).pwr.domains = 0x400 := by
    rw [State.domOn_domains (by rw [off]; decide), off]
    decide
  have two : ((s.domOn 10).domOn 11).pwr.domains = 0xC00 := by
    rw [State.domOn_domains (by rw [one]; decide), one]
    decide
  have three : (((s.domOn 10).domOn 11).domOn 8).pwr.domains = 0xD00 := by
    rw [State.domOn_domains (by rw [two]; decide), two]
    decide
  rw [State.firstDomains, State.domOn_domains (by rw [three]; decide), three]
  decide

theorem State.firstDomains_same {β : Type} (g : State → β) (s : State)
    (apart : ∀ (u : State) x w, g { u with pwr := { u.pwr with domains := x, switching := w } } = g u) :
    g s.firstDomains = g s := by
  rw [State.firstDomains, State.domOn_same g _ _ apart, State.domOn_same g _ _ apart, State.domOn_same g _ _ apart,
    State.domOn_same g _ _ apart]

theorem execResetOutRelease_of_due {pos claim : Bool} (reset : s.pwr.state = .reset) (supplied : s.pwr.reqOk = true)
    (high : s.pwr.nReset = true) (held : s.pwr.resetOut = false) (long : s.pwr.origin + us 500 ≤ max s.nt tm) :
    ∃ f, execResetOutRelease pos claim tm s = .next ((s.adv tm).strapped pos claim f).firstDomains := by
  have due : ((s.adv tm).pwr.state == .reset && (s.adv tm).pwr.reqOk && (s.adv tm).pwr.nReset && !(s.adv tm).pwr.resetOut &&
      decide ((s.adv tm).pwr.origin + us 500 ≤ (s.adv tm).nt)) = true := by
    simp only [Bool.and_eq_true]
    exact ⟨⟨⟨⟨beq_iff_eq.mpr reset, supplied⟩, high⟩, congrArg not held⟩, decide_eq_true long⟩
  exact ⟨_, if_pos due⟩

theorem execCallReset_of_due {t0 : Nat} (asked : s.pwr.callReset = some t0) (due : t0 + ms 1 ≤ max s.nt tm) :
    execCallReset tm s = .next ((s.adv tm).deviceReset 3 0) := by
  have asked' : (s.adv tm).pwr.callReset = some t0 := asked
  simp only [execCallReset, asked']
  exact congrArg Host.Outcome.next (if_pos due)

end

/-- Settles O45: each clause is one branch of its event, or what `deviceReset` writes. -/
theorem resetsAndSupplies : Obligations.ResetsAndSupplies := by
  unfold Obligations.ResetsAndSupplies
  refine ⟨?valid, ?always, ?core, ?vsaf, ?absent, ?assert, ?release, ?clock, ?reset, ?straps, ?call, ?bank, ?spare, ?viso⟩
  case valid =>
    intro i tm s
    obtain ⟨t0, e⟩ := s.pwr.supplied_eq i.val (max s.nt tm)
    exact ⟨_, execSupplyValid_eq i tm s, rfl, congrArg PwrSt.supply e, (congrArg PwrSt.state e).trans rfl,
      (congrArg PwrSt.domains e).trans rfl⟩
  case always => exact fun tm s valid => execSupplyInvalid_of_valid (i := 0) valid
  case core => exact fun _ _ _ => execSupplyInvalid_of_core
  case vsaf => exact fun tm s valid => execSupplyInvalid_of_valid (i := 4) valid
  case absent => exact fun i tm s absent => ⟨_, execSupplyInvalid_of_absent absent, rfl, rfl, rfl⟩
  case assert => exact fun _ _ => rfl
  case release => exact fun _ _ => execNresetRelease_of_low
  case clock => exact fun _ _ => rfl
  case reset =>
    refine fun cause detail s => ⟨rfl, rfl, rfl, rfl, rfl, rfl, rfl, rfl, rfl, fun a => ?_⟩
    have fresh : (Vector.replicate 128 ({} : Axis))[a].state = .off := congrArg Axis.state (Vector.getElem_replicate ..)
    exact (congrArg Axis.state (Vector.getElem_map ..)).trans fresh.symm
  case straps =>
    intro pos claim tm s reset supplied high held long off
    obtain ⟨f, done⟩ := execResetOutRelease_of_due (pos := pos) (claim := claim) reset supplied high held long
    exact ⟨_, done, State.firstDomains_same (·.pwr.resetOut) _ fun _ _ _ => rfl,
      State.firstDomains_same (·.pwr.strapPos) _ fun _ _ _ => rfl,
      State.firstDomains_same (·.pwr.strapClaim) _ fun _ _ _ => rfl, State.firstDomains_domains off,
      (State.firstDomains_same (·.pwr.state) _ fun _ _ _ => rfl).trans reset,
      State.firstDomains_same State.axes _ fun _ _ _ => rfl⟩
  case call => exact fun _ _ _ => execCallReset_of_due
  case bank =>
    exact fun i tm s bank valid needed => (execSupplyInvalid_of_bank bank valid).trans
      (congrArg Host.Outcome.next (if_pos needed))
  case spare =>
    exact fun i tm s bank valid spare => (execSupplyInvalid_of_bank bank valid).trans
      (congrArg Host.Outcome.next (if_neg (by rw [spare]; exact Bool.false_ne_true)))
  case viso => exact fun tm s valid => execSupplyInvalid_of_valid (i := 5) valid

end Sys2Proof.Machine

namespace Sys2Proof.Machine

/-! ## The steps of bring-up (R355, R455 to R460, R478, R479). -/

/-- A domain that was on stays on when others are switched on. -/
theorem State.domOn_keeps {s : State} {k : Nat} (d : Nat) (on : s.pwr.domains.getLsbD k = true) :
    (s.domOn d).pwr.domains.getLsbD k = true := by
  by_cases was : s.pwr.domains.getLsbD d = true
  · rw [State.domOn, if_pos was]
    exact on
  · rw [State.domOn_domains (Bool.eq_false_iff.mpr was), BitVec.getLsbD_or, on, Bool.true_or]

theorem State.domOn_self (s : State) {d : Nat} (low : d < 16) : (s.domOn d).pwr.domains.getLsbD d = true := by
  by_cases was : s.pwr.domains.getLsbD d = true
  · rw [State.domOn, if_pos was]
    exact was
  · have own : (1#16 <<< d).getLsbD d = true := by
      rw [BitVec.getLsbD_shiftLeft, Nat.sub_self, decide_eq_true low, decide_eq_false (Nat.lt_irrefl d)]
      rfl
    rw [State.domOn_domains (Bool.eq_false_iff.mpr was), BitVec.getLsbD_or, own, Bool.or_true]

/-- Every domain that is named is switched on. -/
theorem State.each_domOn_on (l : List Nat) (s : State) {d : Nat} (low : d < 16) (named : d ∈ l) :
    (s.each l State.domOn).pwr.domains.getLsbD d = true := by
  induction l generalizing s with
  | nil => exact absurd named List.not_mem_nil
  | cons k rest ih =>
    rcases List.mem_cons.mp named with rfl | later
    · exact State.each_keeps (fun t => t.pwr.domains.getLsbD d = true) State.domOn (fun t k on => State.domOn_keeps k on)
        rest _ (s.domOn_self low)
    · exact ih (s.domOn k) later

theorem State.each_domOn_same {β : Type} (g : State → β) (l : List Nat) (s : State)
    (apart : ∀ (u : State) x w, g { u with pwr := { u.pwr with domains := x, switching := w } } = g u) :
    g (s.each l State.domOn) = g s :=
  State.each_same g State.domOn (fun t d => State.domOn_same g t d apart) l s

section
variable {s : State} {tm : Nat}

theorem execForwardingStart_of_reset (reset : s.pwr.state = .reset) (out : s.pwr.resetOut = true)
    (netA : s.domainOn 10 = true) (netB : s.domainOn 11 = true) (due : s.pwr.origin + ms 2 ≤ max s.nt tm) :
    execForwardingStart tm s = .next ((s.adv tm).forwardOn.setDev .boot) := by
  have begins : ((s.adv tm).pwr.resetOut && ((s.adv tm).domainOn 10 && (s.adv tm).domainOn 11) &&
      decide ((s.adv tm).pwr.origin + ms 2 ≤ (s.adv tm).nt)) = true := by
    simp only [Bool.and_eq_true]
    exact ⟨⟨out, netA, netB⟩, decide_eq_true due⟩
  exact (if_pos (beq_iff_eq.mpr reset)).trans (congrArg Host.Outcome.next (if_pos begins))

theorem execForwardingStart_of_awake (running : s.pwr.state ≠ .reset) (shut : s.pwr.forwarding = false)
    (netA : s.domainOn 10 = true) (netB : s.domainOn 11 = true) (due : s.pwr.deep.forwardDue (max s.nt tm) = true) :
    execForwardingStart tm s = .next (s.adv tm).forwardOn := by
  have begins : ((s.adv tm).domainOn 10 && (s.adv tm).domainOn 11 && !(s.adv tm).pwr.forwarding &&
      (s.adv tm).pwr.deep.forwardDue (s.adv tm).nt) = true := by
    simp only [Bool.and_eq_true]
    exact ⟨⟨⟨netA, netB⟩, congrArg not shut⟩, due⟩
  exact (if_neg (fun reset => running (beq_iff_eq.mp reset))).trans (congrArg Host.Outcome.next (if_pos begins))

theorem execBootVerify_of_boot (boot : s.pwr.state = .boot) (fresh : s.pwr.verified = false) (core : s.domainOn 8 = true)
    (flash : s.domainOn 14 = true) : execBootVerify tm s = .next (((s.adv tm).modSec SecSt.select).modPwr fun p =>
      { p with verified := s.sec.select.bootable }) := by
  have begins : ((s.adv tm).pwr.state == .boot && !(s.adv tm).pwr.verified && (s.adv tm).domainOn 8 &&
      (s.adv tm).domainOn 14) = true := by
    simp only [Bool.and_eq_true]
    exact ⟨⟨⟨beq_iff_eq.mpr boot, congrArg not fresh⟩, core⟩, flash⟩
  exact if_pos begins

theorem execPageCheckFail_of_boot (boot : s.pwr.state = .boot) (verified : s.pwr.verified = true) :
    execPageCheckFail tm s = .next (State.deviceReset ((s.adv tm).modSec fun k => { k with
      dirSeq := k.dirSeq + 1
      slots := k.slots.set (fin 2 (by decide) k.running)
        { k.slots[fin 2 (by decide) k.running] with bad := true } }) 3 0) := by
  have checks : ((s.adv tm).pwr.verified && (s.adv tm).pwr.state == .boot) = true := by
    rw [Bool.and_eq_true]
    exact ⟨verified, beq_iff_eq.mpr boot⟩
  exact if_pos checks

/-- What ristretto service begins with: the network parameters, the ticks, and its domains. -/
def State.ristrettoBegun (s : State) : State :=
  let u := (s.restoreClasses (fun c => c == 0x30 || c == 0x31)).fwdOkSet
  ((u.modPwr fun p => { p with ristrettoT := (u.nt - p.origin) / 1000 }).startTicks.setDev .ristretto).each
    ([9, 12, 13, 15] ++ List.range 8) State.domOn

theorem execRistretto_of_due (boot : s.pwr.state = .boot) (verified : s.pwr.verified = true)
    (due : s.pwr.origin + ms 30 ≤ max s.nt tm) : ∃ w, execRistretto tm s =
      .next (if w.sec.rollback then w.raise 0x8002 0 [] else w) ∧
      w = if (s.adv tm).ristrettoBegun.sec.fallback then (s.adv tm).ristrettoBegun.raise 0x8001 0 []
        else (s.adv tm).ristrettoBegun := by
  have begins : ((s.adv tm).pwr.state == .boot && (s.adv tm).pwr.verified &&
      decide ((s.adv tm).pwr.origin + ms 30 ≤ (s.adv tm).nt)) = true := by
    rw [Bool.and_eq_true, Bool.and_eq_true]
    exact ⟨⟨beq_iff_eq.mpr boot, verified⟩, decide_eq_true due⟩
  exact ⟨_, if_pos begins, rfl⟩

/-- The restore of parameter classes writes the parameters alone. -/
theorem State.restoreClasses_changes (s : State) (hit : Nat → Bool) : ∃ x, s.restoreClasses hit = { s with par := x } := by
  unfold State.restoreClasses
  split
  · split
    · exact ⟨_, rfl⟩
    · exact ⟨_, rfl⟩
  · exact ⟨_, rfl⟩

/-- What neither domains nor reports are read from is, once ristretto service begins, what the ticks and the device state
leave. -/
theorem State.ristrettoBegun_same {β : Type} (g : State → β) (s : State)
    (apart : ∀ (u : State) x w, g { u with pwr := { u.pwr with domains := x, switching := w } } = g u)
    (silent : ∀ (u : State) h l c o,
      g { u with host := h, sec := { u.sec with sessions := l }, cap := c, out := o } = g u) :
    ∃ x a b, g s.ristrettoBegun = g ((({ s with
      par := x
      pwr := { s.pwr with
        fwdOkA := a, fwdOkB := b, ristrettoT := (s.nt - s.pwr.origin) / 1000, state := .ristretto } } : State).startTicks
          ).alignWatch) := by
  obtain ⟨x, e⟩ := s.restoreClasses_changes fun c => c == 0x30 || c == 0x31
  unfold State.ristrettoBegun
  rw [e]
  exact ⟨x, _, _, (State.each_domOn_same g _ _ apart).trans ((State.reported_setDev _ _).same g silent)⟩

theorem execFullService_of_ready (state : s.pwr.state = .ristretto) (restored : s.par.restored = true)
    (safe : s.ib = false ∨ s.saf.armed = true) (tried : (s.adv tm).linksTried = true) : execFullService tm s =
      .next (((s.adv tm).modPwr fun p => { p with fullT := (max s.nt tm - p.origin) / 1000 }).setDev
        (if s.pN Pid.pwrStartState = 1 ∧ s.par.restoreBad = false then .operate else .config)) := by
  have begins : ((s.adv tm).pwr.state == .ristretto && (s.adv tm).par.restored &&
      (!(s.adv tm).ib || (s.adv tm).saf.armed) && (s.adv tm).linksTried) = true := by
    simp only [Bool.and_eq_true, Bool.or_eq_true, Bool.not_eq_true']
    exact ⟨⟨⟨beq_iff_eq.mpr state, restored⟩, safe⟩, tried⟩
  refine (if_pos begins).trans (congrArg (fun d => Host.Outcome.next (((s.adv tm).modPwr fun p =>
    { p with fullT := (max s.nt tm - p.origin) / 1000 }).setDev d)) ?_)
  refine if_congr (and_congr Iff.rfl ?_) rfl rfl
  rw [Bool.not_eq_true']
  rfl

/-- A domain that has switched for its time is found among those that switch. -/
theorem domainReady_found {i t0 : Nat} (member : (i, t0) ∈ s.pwr.switching) (due : t0 + switchTime i ≤ max s.nt tm) :
    ∃ t1, (i, t1) ∈ s.pwr.switching ∧ t1 + switchTime i ≤ max s.nt tm ∧
      ((s.adv tm).pwr.switching.find? fun x => x.1 == i && decide (x.2 + switchTime i ≤ (s.adv tm).nt)) = some (i, t1) := by
  have found : ((s.adv tm).pwr.switching.find? fun x => x.1 == i &&
      decide (x.2 + switchTime i ≤ (s.adv tm).nt)).isSome = true :=
    List.find?_isSome.mpr ⟨(i, t0), member, by rw [beq_self_eq_true, Bool.true_and]; exact decide_eq_true due⟩
  obtain ⟨⟨j, t1⟩, first⟩ := Option.isSome_iff_exists.mp found
  have hit := List.find?_some first
  rw [Bool.and_eq_true, beq_iff_eq, decide_eq_true_eq] at hit
  obtain ⟨rfl, ended⟩ := hit
  exact ⟨t1, List.mem_of_find?_eq_some first, ended, first⟩

/-- A domain other than a cluster's is ready. -/
theorem execDomainReady_of_high {i : Fin 16} {t0 : Nat} (high : 8 ≤ i.val) (member : (i.val, t0) ∈ s.pwr.switching)
    (due : t0 + switchTime i.val ≤ max s.nt tm) : execDomainReady i tm s = .next ((s.adv tm).modPwr fun p =>
      { p with switching := p.switching.filter fun x => x.1 != i.val }) := by
  obtain ⟨t1, -, -, found⟩ := domainReady_found member due
  simp only [execDomainReady, found]
  rw [dif_neg (by omega)]

/-- A cluster's domain is ready, and so are its axes, links and pin. -/
theorem execDomainReady_of_cluster {c : Fin 8} {i : Fin 16} {t0 : Nat} (own : i.val = c.val)
    (member : (c.val, t0) ∈ s.pwr.switching) (due : t0 + switchTime c.val ≤ max s.nt tm) :
    ∃ t1, (c.val, t1) ∈ s.pwr.switching ∧ t1 + switchTime c.val ≤ max s.nt tm ∧
      execDomainReady i tm s = .next (State.axReady ((s.adv tm).modPwr fun p =>
        { p with switching := p.switching.filter fun x => x.1 != c.val }) c t1) := by
  obtain ⟨t1, inside, ended, found⟩ := domainReady_found member due
  refine ⟨t1, inside, ended, ?_⟩
  simp only [execDomainReady, own, found]
  rw [dif_pos c.isLt]

theorem State.forwardOn_eq (s : State) : s.forwardOn = { s with pwr := { s.pwr with
    forwarding := true, fwdOkA := s.netOpen 0, fwdOkB := s.netOpen 1 } } := rfl

end

/-- Settles O46: each clause is one branch of its event; the last steps of bring-up report, switch domains on, and leave
what neither touches. -/
theorem bringUpSteps : Obligations.BringUpSteps := by
  unfold Obligations.BringUpSteps
  refine ⟨?forward, ?awake, ?verify, ?page, ?begin, ?restore, ?full, ?ready, ?cluster, ?ristretto, ?fwd⟩
  case forward => exact fun _ _ => execForwardingStart_of_reset
  case awake => exact fun _ _ => execForwardingStart_of_awake
  case verify => exact fun _ _ => execBootVerify_of_boot
  case page => exact fun _ _ => execPageCheckFail_of_boot
  case begin =>
    intro tm s boot verified due first forward
    have apart {β : Type} (g : State → β) := State.ristrettoBegun_same g (s.adv tm)
    obtain ⟨w, done, chosen⟩ := execRistretto_of_due boot verified due
    obtain ⟨_, _, _, fallback⟩ := apart (·.sec.fallback) (fun _ _ _ => rfl) fun _ _ _ _ _ => rfl
    obtain ⟨_, _, _, rollback⟩ := apart (·.sec.rollback) (fun _ _ _ => rfl) fun _ _ _ _ _ => rfl
    obtain ⟨_, _, _, state⟩ := apart (·.pwr.state) (fun _ _ _ => rfl) fun _ _ _ _ _ => rfl
    obtain ⟨_, _, _, time⟩ := apart (·.pwr.ristrettoT) (fun _ _ _ => rfl) fun _ _ _ _ _ => rfl
    obtain ⟨_, _, _, ticking⟩ := apart (·.frame.ticking) (fun _ _ _ => rfl) fun _ _ _ _ _ => rfl
    obtain ⟨_, _, _, tick⟩ := apart (·.frame.tick) (fun _ _ _ => rfl) fun _ _ _ _ _ => rfl
    obtain ⟨_, _, _, flt⟩ := apart State.flt (fun _ _ _ => rfl) fun _ _ _ _ _ => rfl
    have fallback' : ¬(s.adv tm).ristrettoBegun.sec.fallback = true := by
      rw [fallback.trans first]
      exact Bool.false_ne_true
    have rollback' : ¬(s.adv tm).ristrettoBegun.sec.rollback = true := by
      rw [rollback.trans forward]
      exact Bool.false_ne_true
    rw [chosen, if_neg fallback', if_neg rollback'] at done
    refine ⟨_, done, state, ticking, time, tick, flt, fun i named => ?_⟩
    have listed : ∀ i ∈ [9, 12, 13, 15, 0, 1, 2, 3, 4, 5, 6, 7], i < 16 ∧ i ∈ [9, 12, 13, 15] ++ List.range 8 := by decide
    exact State.each_domOn_on _ _ (listed i named).1 (listed i named).2
  case restore =>
    intro tm s state fresh
    have begins : ((s.adv tm).pwr.state == .ristretto && !(s.adv tm).par.restored) = true := by
      rw [Bool.and_eq_true]
      exact ⟨beq_iff_eq.mpr state, congrArg not fresh⟩
    exact congrArg Host.Outcome.next (if_pos begins)
  case full =>
    exact fun tm s state restored safe tried => ⟨_, execFullService_of_ready state restored safe tried,
      State.setDev_axes _ _, (State.reported_setDev _ _).same State.par fun _ _ _ _ _ => rfl, State.setDev_pwr _ _,
      State.setDev_flag _ _⟩
  case ready => exact fun _ _ _ _ => execDomainReady_of_high
  case cluster => exact fun tm t0 c s => execDomainReady_of_cluster rfl
  case ristretto =>
    intro tm s boot verified due
    obtain ⟨w, done, chosen⟩ := execRistretto_of_due boot verified due
    exact ⟨_, _, w, done, rfl, rfl, chosen⟩
  case fwd => exact fun s => ⟨rfl, rfl, s.forwardOn_eq⟩

end Sys2Proof.Machine

namespace Sys2Proof.Machine

/-! ## What the twin links carry (R384, R387, R390 to R393). -/

section
variable {s : State} {tm : Nat}

/-- A device that is not ACTIVE sends its return block on both links. -/
theorem execTwinSnapshot_of_other (due : (s.adv tm).snapDue = true) (other : s.twin.state ≠ .active) :
    ∃ b, execTwinSnapshot tm s = .next ((((s.adv tm).modTwin fun k =>
      { k with snapTick := some s.frame.tick }).emit (.twin 2 b)).emit (.twin 3 b)) := by
  have due' : ¬(!(s.adv tm).snapDue) = true := by rw [due]; decide
  have other' : ((s.adv tm).twin.state != .active) = true := bne_iff_ne.mpr other
  exact ⟨_, (if_neg due').trans (if_pos other')⟩

theorem execTwinSnapshot_of_active {b : List Byte} {u : State} (due : (s.adv tm).snapDue = true)
    (active : s.twin.state = .active) (paired : s.paired = true) (whole : s.twin.split = false)
    (built : ((s.adv tm).modTwin fun k => { k with snapTick := some s.frame.tick }).buildImage = (b, u))
    (still : u.twin.split = false) : execTwinSnapshot tm s =
      .next ((u.emit (.twin 0 (framed (leBytes 2 s.frame.fc ++ linkWords 0 b)))).emit
        (.twin 1 (framed (leBytes 2 s.frame.fc ++ linkWords 1 b)))) := by
  have due' : ¬(!(s.adv tm).snapDue) = true := by rw [due]; decide
  unfold execTwinSnapshot
  extract_lets t v burst block
  have active' : ¬(v.twin.state != .active) = true := by
    rw [show v.twin.state = .active from active]
    decide
  have sends : (v.paired && !(v.twin.split && decide (v.frame.fc % 2 = 1))) = true := by
    rw [show v.paired = true from paired, show v.twin.split = false from whole]
    rfl
  have built' : v.buildImage = (b, u) := built
  have still' : ¬u.twin.split = true := by rw [still]; exact Bool.false_ne_true
  rw [if_neg due', if_neg active', if_pos sends, built']
  exact congrArg Host.Outcome.next (if_neg still')

theorem execTwinBurstReceive_of_on {k : Fin 2} {fc : Nat} {bytes : List Byte} (on : s.domainOn 15 = true)
    (pair : s.twin.state ≠ .solo) : execTwinBurstReceive k fc bytes tm s = .next ((s.adv tm).modTwin fun t => { t with
      half := t.half.set k (some (fc % 65536, bytes)), halfAt := t.halfAt.set k (max s.nt tm), dry := t.dry.set k 0 }) := by
  have takes : ¬(!(s.adv tm).domainOn 15 || (s.adv tm).twin.state == .solo) = true := by
    rw [show (s.adv tm).domainOn 15 = true from on, Bool.not_true, Bool.false_or, beq_iff_eq]
    exact pair
  exact congrArg Host.Outcome.next (if_neg takes)

/-- An image may be taken in this frame. -/
def State.imageDue (s : State) (tm : Nat) : Prop :=
  s.domainOn 15 = true ∧ s.frame.ticking = true ∧ s.receives = true ∧ s.frame.tick + 1500 ≤ max s.nt tm ∧
    s.twin.comTick ≠ some s.frame.tick

/-- The image of this frame is looked at. -/
def State.imageLooked (s : State) (tm : Nat) : State :=
  (s.adv tm).modTwin fun k => { k with comTick := some s.frame.tick }

/-- What has come of the image is no longer held. -/
def State.dropHalves (s : State) : State := s.modTwin fun k => { k with half := Vector.replicate 2 none }

theorem imageDue_iff : s.imageDue tm ↔ ¬(!(s.adv tm).domainOn 15 || !(s.adv tm).frame.ticking || !(s.adv tm).receives ||
    decide ((s.adv tm).nt < (s.adv tm).frame.tick + 1500) || (s.adv tm).twin.comTick == some (s.adv tm).frame.tick) =
      true := by
  simp only [Bool.or_eq_true, Bool.not_eq_true', decide_eq_true_eq, beq_iff_eq, not_or, Bool.not_eq_false, Nat.not_lt,
    and_assoc]
  exact Iff.rfl

theorem execTwinImageCommit_of_not_due (early : ¬s.imageDue tm) : execTwinImageCommit tm s = .next (s.adv tm) :=
  if_pos (Classical.not_not.mp fun waits => early (imageDue_iff.mpr waits))

/-- While both links carry the image it is due in every frame. -/
theorem imageLooked_every (whole : s.twin.split = false) :
    (!((s.imageLooked tm).twin.split && decide ((s.imageLooked tm).frame.fc % 2 = 1))) = true := by
  rw [show (s.imageLooked tm).twin.split = false from whole]
  rfl

section
variable (due : s.imageDue tm) (whole : s.twin.split = false)
include due whole

/-- No image, or not a whole one, has come. -/
theorem execTwinImageCommit_of_none {any : Bool} (arrived : (s.imageLooked tm).arrived = (none, any)) :
    execTwinImageCommit tm s = .next ((s.imageLooked tm).imageMissed any true).dropHalves := by
  unfold execTwinImageCommit
  extract_lets t u every done v
  have look : u = s.imageLooked tm := rfl
  have sends : every = true := imageLooked_every whole
  rw [if_neg (imageDue_iff.mp due), look, arrived, sends]
  rfl

/-- An image has come that does not fit. -/
theorem execTwinImageCommit_of_bad {b : List Byte} {any : Bool} (arrived : (s.imageLooked tm).arrived = (some b, any))
    (bad : (s.imageLooked tm).imageOk b = false) :
    execTwinImageCommit tm s = .next ((s.imageLooked tm).imageMissed true true).dropHalves := by
  unfold execTwinImageCommit
  extract_lets t u every done v
  have look : u = s.imageLooked tm := rfl
  have sends : every = true := imageLooked_every whole
  rw [if_neg (imageDue_iff.mp due), look, arrived, sends]
  exact if_neg (by rw [bad]; decide)

/-- An image that fits is adopted by a device that is not ACTIVE. -/
theorem execTwinImageCommit_of_fits {b : List Byte} {any : Bool} (arrived : (s.imageLooked tm).arrived = (some b, any))
    (fits : (s.imageLooked tm).imageOk b = true) (passive : s.twin.state ≠ .active) :
    execTwinImageCommit tm s = .next ((s.imageLooked tm).adoptImage b).dropHalves := by
  unfold execTwinImageCommit
  extract_lets t u every done v
  have look : u = s.imageLooked tm := rfl
  have sends : every = true := imageLooked_every whole
  have same : v = s.imageLooked tm := if_neg fun active => passive (beq_iff_eq.mp active)
  rw [if_neg (imageDue_iff.mp due), look, arrived, sends]
  refine (if_pos (by rw [fits]; rfl)).trans ?_
  rw [same]
  rfl

end

/-- A return block that a STANDBY device takes shows its partner. -/
theorem execTwinReturnBlock_of_standby {k : Fin 2} {pair : Bool} {bytes : List Byte} (on : s.domainOn 15 = true)
    (standby : s.twin.state = .standby) (len : bytes.length = 32) :
    ∃ up fresh sent items, execTwinReturnBlock k pair bytes tm s = .next ((s.adv tm).modTwin fun t =>
      { t with dry := t.dry.set k 0, retGot := true, retMiss := 0
               partner := if fld bytes 0 1 ≤ 4 then fld bytes 0 1 else 5, retFc := fld bytes 4 4
               retUp := up, retFresh := fresh, bulkSent := sent, items := items }) := by
  have takes : ¬(!(s.adv tm).domainOn 15 || (s.adv tm).twin.state == .solo || bytes.length ≠ 32) = true := by
    rw [show (s.adv tm).domainOn 15 = true from on, show (s.adv tm).twin.state = .standby from standby, len]
    decide
  unfold execTwinReturnBlock
  extract_lets t st fc was u v
  have other : u.twin.state = .standby := standby
  rw [if_neg takes, other]
  exact ⟨_, _, _, _, rfl⟩

theorem execTwinReturnBlock_of_length {k : Fin 2} {pair : Bool} {bytes : List Byte} (len : bytes.length ≠ 32) :
    execTwinReturnBlock k pair bytes tm s = .next (s.adv tm) :=
  if_pos (by rw [decide_eq_true len, Bool.or_true])

end

/-- Settles O39: each clause is one branch of its event. -/
theorem twinTransfer : Obligations.TwinTransfer := by
  unfold Obligations.TwinTransfer
  refine ⟨?other, ?active, ?burst, ?fits, ?missing, ?block, ?length, ?bad, ?early⟩
  case other =>
    intro tm s due other
    obtain ⟨b, done⟩ := execTwinSnapshot_of_other due other
    exact ⟨_, b, done, by simp, rfl, rfl, rfl⟩
  case active => exact fun _ _ _ _ => execTwinSnapshot_of_active
  case burst => exact fun _ _ _ _ _ => execTwinBurstReceive_of_on
  case fits =>
    rintro tm b any u s on ticking receives time fresh rfl arrived whole fits passive
    exact execTwinImageCommit_of_fits ⟨on, ticking, receives, time, fresh⟩ whole arrived fits passive
  case missing =>
    rintro tm any u s on ticking receives time fresh rfl arrived whole
    exact execTwinImageCommit_of_none ⟨on, ticking, receives, time, fresh⟩ whole arrived
  case block =>
    intro k pair bytes tm s on standby len
    obtain ⟨up, fresh, sent, items, done⟩ := execTwinReturnBlock_of_standby (k := k) (pair := pair) (tm := tm) on standby len
    exact ⟨_, done, rfl, rfl, rfl, rfl, vector_set_self _ _ _, rfl⟩
  case length => exact fun _ _ _ _ _ => execTwinReturnBlock_of_length
  case bad =>
    rintro tm b any u s on ticking receives time fresh rfl arrived whole bad
    exact execTwinImageCommit_of_bad ⟨on, ticking, receives, time, fresh⟩ whole arrived bad
  case early =>
    intro tm s cause
    refine execTwinImageCommit_of_not_due ?_
    rintro ⟨on, ticking, receives, time, fresh⟩
    rcases cause with off | still | deaf | early | taken
    · exact Bool.false_ne_true (off.symm.trans on)
    · exact Bool.false_ne_true (still.symm.trans ticking)
    · exact Bool.false_ne_true (deaf.symm.trans receives)
    · exact absurd time (Nat.not_le.mpr early)
    · exact fresh taken

end Sys2Proof.Machine

namespace Sys2Proof.Machine

/-! ## The changes of the twin's state (R384, R387, R392, R394 to R398). -/

/-- A change of the twin's state is one field and its report. -/
theorem State.reported_twinTo (s : State) (d : TwinState) :
    (s.modTwin fun k => { k with state := d }).Reported (s.twinTo d) := by
  unfold State.twinTo
  split
  next same =>
    obtain rfl := beq_iff_eq.mp same
    exact .refl s
  next => exact (State.reported_irq _ _).trans (State.reported_event _ _ _ _)

theorem State.twinTo_twin (s : State) (d : TwinState) : (s.twinTo d).twin = { s.twin with state := d } :=
  (s.reported_twinTo d).same State.twin fun _ _ _ _ _ => rfl

theorem State.twinTo_axes (s : State) (d : TwinState) : (s.twinTo d).axes = s.axes :=
  (s.reported_twinTo d).same State.axes fun _ _ _ _ _ => rfl

theorem State.twinTo_flt (s : State) (d : TwinState) : (s.twinTo d).flt = s.flt :=
  (s.reported_twinTo d).same State.flt fun _ _ _ _ _ => rfl

/-- What a device that becomes ACTIVE does after the change of its state: it chooses its epoch, forgets its partner's
image and drives its links. -/
def State.activated (s : State) : State :=
  let s := s.chooseEpoch.modTwin fun k =>
    { k with resign := false, resignSent := false, resigned := false, items := [], carried := [], bulk := false, bulkSent := 0,
             retMiss := 0, retRun := 0, startFrom := none, axSig := Vector.replicate 128 [] }
  { s with links := s.links.map fun x =>
      if x.state == .up then { x with slotCfg := x.slotCfg.map fun c => { c with ok := true, due := false }, dtAcked := true }
      else x }

theorem State.becomeActive_eq (s : State) : s.becomeActive = (s.twinTo .active).activated := by
  unfold State.becomeActive State.activated
  rfl

theorem State.activated_flt (s : State) : s.activated.flt = s.flt := (rfl)

theorem State.activated_failovers (s : State) : s.activated.twin.failovers = s.twin.failovers := (rfl)

theorem State.becomeActive_flt (s : State) : s.becomeActive.flt = s.flt := by
  rw [State.becomeActive_eq, State.activated_flt, State.twinTo_flt]

theorem State.becomeActive_failovers (s : State) : s.becomeActive.twin.failovers = s.twin.failovers := by
  rw [State.becomeActive_eq, State.activated_failovers, State.twinTo_twin]

section
variable {s : State} {tm : Nat}

theorem execPartnerLost_of_missing (active : s.twin.state = .active) (missed : 8 ≤ s.twin.retMiss)
    (new : s.faultOn 0xB002 0 = false) :
    execPartnerLost tm s = .next (((s.adv tm).modTwin fun k => { k with partner := 5 }).raise 0xB002 0 []) := by
  have lost : ((s.adv tm).twin.state == .active && decide (8 ≤ (s.adv tm).twin.retMiss) && !(s.adv tm).faultOn 0xB002 0) =
      true := by
    rw [Bool.and_eq_true, Bool.and_eq_true]
    exact ⟨⟨beq_iff_eq.mpr active, decide_eq_true missed⟩, congrArg not new⟩
  exact congrArg Host.Outcome.next (if_pos lost)

theorem execTwinLink_of_dry {k : Fin 2} (pair : s.twin.state ≠ .solo) (whole : s.twin.split = false)
    (dry : 4 ≤ s.twin.dry[k]) (other : s.twin.dry[(1 : Fin 2) - k] < 4) : execTwinLink k tm s =
      .next (((s.adv tm).modTwin fun t => { t with split := true, splitGood := 0 }).raise 0xB005 0 []) := by
  have splits : ((s.adv tm).twin.state != .solo && !(s.adv tm).twin.split && decide (4 ≤ (s.adv tm).twin.dry[k]) &&
      decide ((s.adv tm).twin.dry[(1 : Fin 2) - k] < 4)) = true := by
    rw [Bool.and_eq_true, Bool.and_eq_true, Bool.and_eq_true]
    exact ⟨⟨⟨bne_iff_ne.mpr pair, congrArg not whole⟩, decide_eq_true dry⟩, decide_eq_true other⟩
  exact congrArg Host.Outcome.next (if_pos splits)

theorem execSplitEnd_of_good (split : s.twin.split = true) (good : 16 ≤ s.twin.splitGood) :
    execSplitEnd tm s = .next ((s.adv tm).modTwin fun t => { t with split := false, splitGood := 0 }) := by
  have ends : ((s.adv tm).twin.split && decide (16 ≤ (s.adv tm).twin.splitGood)) = true := by
    rw [Bool.and_eq_true]
    exact ⟨split, decide_eq_true good⟩
  exact congrArg Host.Outcome.next (if_pos ends)

/-- A takeover is counted, and the tracking unit's outputs wait for no one. -/
def State.takeoverCounted (s : State) : State :=
  (s.modTwin fun k => { k with failovers := count32 k.failovers, partner := 5 }).modTrk fun k => { k with out := [] }

theorem State.takeoverCounted_twin (s : State) :
    s.takeoverCounted.twin = { s.twin with failovers := count32 s.twin.failovers, partner := 5 } := rfl

theorem State.takeoverCounted_flt (s : State) : s.takeoverCounted.flt = s.flt := rfl

theorem State.takeoverCounted_out (s : State) : s.takeoverCounted.trk.out = [] := rfl

/-- A STANDBY device has taken over. -/
def State.tookOver (s : State) : State := s.becomeActive.takeoverCounted

theorem State.tookOver_facts (s : State) : s.tookOver.twin.state = .active ∧
    s.tookOver.twin.failovers = count32 s.twin.failovers ∧ s.tookOver.trk.out = [] ∧ s.tookOver.flt = s.flt := by
  unfold State.tookOver
  rw [State.takeoverCounted_twin, State.takeoverCounted_flt, State.becomeActive_state, State.becomeActive_failovers,
    State.becomeActive_flt]
  exact ⟨rfl, rfl, State.takeoverCounted_out _, rfl⟩

section
variable (standby : s.twin.state = .standby) (ticking : s.frame.ticking = true)
  (time : s.frame.tick + 1500 ≤ max s.nt tm) (up : s.upLinks ≠ [])
include standby ticking time up

theorem takeover_due (cause : (s.twin.resigned || s.upLinks.all (s.adv tm).leaseGone) = true) :
    ((s.adv tm).twin.state == .standby && (s.adv tm).frame.ticking &&
      decide ((s.adv tm).frame.tick + 1500 ≤ (s.adv tm).nt) && !(s.adv tm).upLinks.isEmpty &&
      ((s.adv tm).twin.resigned || (s.adv tm).upLinks.all (s.adv tm).leaseGone)) = true := by
  have some : (!s.upLinks.isEmpty) = true := by
    rw [Bool.not_eq_true', List.isEmpty_eq_false_iff]
    exact up
  simp only [Bool.and_eq_true]
  exact ⟨⟨⟨⟨beq_iff_eq.mpr standby, ticking⟩, decide_eq_true time⟩, some⟩, cause⟩

/-- The partner has resigned. -/
theorem execTakeover_of_resigned (resigned : s.twin.resigned = true) : ∃ data,
    execTakeover tm s = .next ((s.adv tm).tookOver.event 0xB082 0 data) := by
  refine ⟨_, (if_pos (takeover_due standby ticking time up (by rw [resigned, Bool.true_or]))).trans
    (congrArg Host.Outcome.next (congrArg (State.event · 0xB082 0 _) (if_pos resigned)))⟩

/-- The leases of the partner are gone. -/
theorem execTakeover_of_lost (resigned : s.twin.resigned = false)
    (gone : (s.upLinks.all (s.adv tm).leaseGone) = true) : execTakeover tm s =
      .next (((s.adv tm).tookOver.raise 0xB001 0 []).event 0xB082 0 (((s.adv tm).tookOver.raise 0xB001 0 []).fc +
        ((s.adv tm).tookOver.raise 0xB001 0 []).twin.epoch * 2 ^ 32)) := by
  have stays : ¬(s.adv tm).twin.resigned = true := by
    rw [show (s.adv tm).twin.resigned = false from resigned]
    exact Bool.false_ne_true
  unfold execTakeover
  extract_lets t links resign active counted quiet told
  have raised : told = (s.adv tm).tookOver.raise 0xB001 0 [] := if_neg stays
  have none : b2n resign * 2 ^ 56 = 0 := by
    rw [show resign = false from resigned]
    exact Nat.zero_mul _
  refine (if_pos (takeover_due standby ticking time up (by rw [resigned, gone, Bool.false_or]))).trans ?_
  rw [none, raised, Nat.add_zero]

end

theorem execTakeover_of_dark (dark : s.upLinks = []) : execTakeover tm s = .next (s.adv tm) := by
  have waits : ¬((s.adv tm).twin.state == .standby && (s.adv tm).frame.ticking &&
      decide ((s.adv tm).frame.tick + 1500 ≤ (s.adv tm).nt) && !(s.adv tm).upLinks.isEmpty &&
      ((s.adv tm).twin.resigned || (s.adv tm).upLinks.all (s.adv tm).leaseGone)) = true := by
    rw [show (s.adv tm).upLinks = [] from dark, List.isEmpty_nil, Bool.not_true, Bool.and_false, Bool.false_and]
    exact Bool.false_ne_true
  exact if_neg waits

section
variable {t0 : Nat} (syncing : s.twin.state = .syncing) (from_ : s.twin.startFrom = some t0)
  (late : t0 + ms (s.pN Pid.twinStartWait) ≤ max s.nt tm)
include syncing from_ late

theorem execTwinStartWait_of_late : execTwinStartWait tm s = .next
    (if s.pwr.strapPos = 0 then (s.adv tm).becomeActive
      else if !s.faultOn 0xB009 0 then (s.adv tm).raise 0xB009 0 [] else s.adv tm) := by
  have syncing' : ¬((s.adv tm).twin.state != .syncing) = true := by
    rw [show (s.adv tm).twin.state = .syncing from syncing]
    decide
  have from' : (s.adv tm).twin.startFrom = some t0 := from_
  have late' : decide (t0 + ms ((s.adv tm).pN Pid.twinStartWait) ≤ (s.adv tm).nt) = true := decide_eq_true late
  unfold execTwinStartWait
  simp only [from', late', if_neg syncing', Bool.or_true, if_true, Bool.true_and]
  rfl

end

theorem execPairSynced_of_ready (syncing : s.twin.state = .syncing) (bulk : s.twin.bulkDone = true)
    (run : 32 ≤ s.twin.commitRun) (pair : s.twin.pairOk = true) :
    execPairSynced tm s = .next ((s.adv tm).twinTo .standby) := by
  have ready : ((s.adv tm).twin.state == .syncing && (s.adv tm).twin.bulkDone && decide (32 ≤ (s.adv tm).twin.commitRun) &&
      (s.adv tm).twin.pairOk) = true := by
    rw [Bool.and_eq_true, Bool.and_eq_true, Bool.and_eq_true]
    exact ⟨⟨⟨beq_iff_eq.mpr syncing, bulk⟩, decide_eq_true run⟩, pair⟩
  exact congrArg Host.Outcome.next (if_pos ready)

theorem execImageStale_of_old (standby : s.twin.state = .standby) (old : s.pN Pid.twinStaleMax ≤ s.twin.noCommit) :
    execImageStale tm s = .next (((s.adv tm).twinTo .isolated).raise 0xB007 0 []) := by
  have stale : ((s.adv tm).twin.state == .standby &&
      decide ((s.adv tm).pN Pid.twinStaleMax ≤ (s.adv tm).twin.noCommit)) = true := by
    rw [Bool.and_eq_true]
    exact ⟨beq_iff_eq.mpr standby, decide_eq_true old⟩
  exact congrArg Host.Outcome.next (if_pos stale)

theorem execLeaseSplit_of_split (standby : s.twin.state = .standby) (split : 4 ≤ s.twin.splitLease)
    (new : s.faultOn 0xB004 0 = false) : execLeaseSplit tm s = .next ((s.adv tm).raise 0xB004 0 []) := by
  have hit : ((s.adv tm).twin.state == .standby && decide (4 ≤ (s.adv tm).twin.splitLease) &&
      !(s.adv tm).faultOn 0xB004 0) = true := by
    rw [Bool.and_eq_true, Bool.and_eq_true]
    exact ⟨⟨beq_iff_eq.mpr standby, decide_eq_true split⟩, congrArg not new⟩
  exact congrArg Host.Outcome.next (if_pos hit)

theorem execTrkDiverged_of_diff (standby : s.twin.state = .standby) (diff : 4 ≤ s.twin.trkDiff)
    (new : s.faultOn 0xB008 0 = false) : execTrkDiverged tm s = .next ((s.adv tm).raise 0xB008 0 []) := by
  have hit : ((s.adv tm).twin.state == .standby && decide (4 ≤ (s.adv tm).twin.trkDiff) &&
      !(s.adv tm).faultOn 0xB008 0) = true := by
    rw [Bool.and_eq_true, Bool.and_eq_true]
    exact ⟨⟨beq_iff_eq.mpr standby, decide_eq_true diff⟩, congrArg not new⟩
  exact congrArg Host.Outcome.next (if_pos hit)

end

/-- Settles O40: each clause is one branch of its event; a change of the twin's state is one field and its report. -/
theorem twinStateEvents : Obligations.TwinStateEvents := by
  unfold Obligations.TwinStateEvents
  refine ⟨?lost, ?dryA, ?dryB, ?splitEnd, ?resigned, ?dark, ?first, ?second, ?synced, ?twinTo, ?stale, ?lease, ?trk,
    ?takeover⟩
  case lost => exact fun _ _ => execPartnerLost_of_missing
  case dryA => exact fun tm s => execTwinLink_of_dry (k := 0)
  case dryB => exact fun tm s => execTwinLink_of_dry (k := 1)
  case splitEnd => exact fun _ _ => execSplitEnd_of_good
  case resigned =>
    intro tm s standby ticking time up resigned
    obtain ⟨data, done⟩ := execTakeover_of_resigned standby ticking time up resigned
    obtain ⟨state, failovers, out, flt⟩ := (s.adv tm).tookOver_facts
    have twin : ((s.adv tm).tookOver.event 0xB082 0 data).twin = (s.adv tm).tookOver.twin := State.event_twin ..
    refine ⟨_, done, (congrArg TwinSt.state twin).trans state, (congrArg TwinSt.failovers twin).trans failovers,
      ((State.reported_event _ _ _ _).same (·.trk.out) fun _ _ _ _ _ => rfl).trans out,
      ((State.reported_event _ _ _ _).same State.flt fun _ _ _ _ _ => rfl).trans flt⟩
  case dark => exact fun tm s _ dark => execTakeover_of_dark dark
  case first =>
    exact fun tm t0 s syncing first from_ late => (execTwinStartWait_of_late syncing from_ late).trans
      (congrArg Host.Outcome.next (if_pos first))
  case second =>
    intro tm t0 s syncing second from_ late new
    rw [show exec (.twinStartWait tm) s = _ from execTwinStartWait_of_late syncing from_ late, second,
      if_neg (by decide), new]
    rfl
  case synced => exact fun _ _ => execPairSynced_of_ready
  case twinTo => exact fun d s => ⟨s.twinTo_twin d, s.twinTo_axes d⟩
  case stale => exact fun _ _ => execImageStale_of_old
  case lease => exact fun _ _ => execLeaseSplit_of_split
  case trk => exact fun _ _ => execTrkDiverged_of_diff
  case takeover =>
    exact fun tm s standby ticking time up resigned gone =>
      ⟨(s.adv tm).tookOver, execTakeover_of_lost standby ticking time up resigned gone, (s.adv tm).tookOver_facts⟩

end Sys2Proof.Machine

namespace Sys2Proof.Machine

/-! ## The Percolator (R375, R467 to R470). -/

/-- A rule that fired: its clusters, its wake of the firmware and its source. -/
abbrev FiredRule := Fin 32 × Nat × Bool × Nat

/-- What a rule makes of a sample, with those that have fired before it. -/
def percRule (acc : State × List FiredRule) (r : Fin 32) : State × List FiredRule :=
  let (t, l) := acc
  let w := t.pwr.ruleWord[r]
  match t.ruleLevel w with
  | none => acc
  | some (lv, hidden) =>
    let (x, n) := (t.pwr.rules[r]).sample w lv hidden
    let (x, fire) := x.matches w n t.nt
    let t := t.modPwr fun p => { p with rules := p.rules.set r x }
    (t, if fire then l ++ [(r, rClusters w, rFw w, srcBit (rKind w))] else l)

/-- The rules that WAKE frames fire. -/
def State.wakeRules (s : State) : List (Fin 32) := allRules.filter fun r => rKind s.pwr.ruleWord[r] == 4

/-- What the WAKE frames since the last sample fire. -/
def State.wokenRules (s : State) : List FiredRule :=
  s.pwr.wakeFrames.flatMap fun f => s.wakeRules.map fun r =>
    (r, rClusters s.pwr.ruleWord[r] &&& f.1, rFw s.pwr.ruleWord[r] && bit f.2 0, 8)

/-- The sample takes the WAKE frames, the trips and the changes of the dozing stages. -/
def State.percTaken (s : State) : State :=
  s.modPwr fun p =>
    { p with wakeFrames := [], aonTrip := 0, zchg := Vector.replicate 32 0, lastSample := s.nt,
             wakeIgn := (List.replicate (if s.wakeRules.isEmpty then s.pwr.wakeFrames.length else 0) ()).foldl
               (fun n _ => count32 n) p.wakeIgn }

section
variable {s : State} {tm : Nat}

theorem execPercolatorSample_of_due {t : State} {l : List FiredRule} (due : s.pwr.lastSample + us 100 ≤ max s.nt tm)
    (sampled : allRules.foldl percRule (s.adv tm, []) = (t, l)) : execPercolatorSample tm s =
      .next (t.percTaken.fireRules (allRules.flatMap fun r => (l ++ t.wokenRules).filter (·.1 == r))) := by
  have due' : ¬(s.adv tm).nt < (s.adv tm).pwr.lastSample + us 100 := Nat.not_lt.mpr due
  unfold execPercolatorSample
  extract_lets u one
  have same : allRules.foldl one (u, []) = (t, l) := sampled
  rw [if_neg due', same]
  rfl

theorem execPercolatorSample_of_early (early : max s.nt tm < s.pwr.lastSample + us 100) :
    execPercolatorSample tm s = .next (s.adv tm) := by
  have early' : (s.adv tm).nt < (s.adv tm).pwr.lastSample + us 100 := early
  unfold execPercolatorSample
  extract_lets u one
  exact if_pos early'

/-- A rule's sample writes the state of the rules alone. -/
theorem percRule_changes (acc : State × List FiredRule) (r : Fin 32) :
    ∃ x l, percRule acc r = ({ acc.1 with pwr := { acc.1.pwr with rules := x } }, l) := by
  obtain ⟨t, l⟩ := acc
  unfold percRule
  dsimp only
  split
  · exact ⟨_, _, rfl⟩
  · exact ⟨_, _, rfl⟩

theorem percRules_changes (rs : List (Fin 32)) (acc : State × List FiredRule) :
    ∃ x l, rs.foldl percRule acc = ({ acc.1 with pwr := { acc.1.pwr with rules := x } }, l) := by
  induction rs generalizing acc with
  | nil => exact ⟨_, _, rfl⟩
  | cons r rest ih =>
    obtain ⟨x, l, e⟩ := percRule_changes acc r
    obtain ⟨y, k, f⟩ := ih (percRule acc r)
    rw [List.foldl_cons, f, e]
    exact ⟨_, _, rfl⟩

/-- Rules whose sources never match leave the sample as it is. -/
theorem percRules_of_idle (rs : List (Fin 32)) (idle : ∀ r : Fin 32, s.ruleLevel s.pwr.ruleWord[r] = none) :
    rs.foldl percRule (s, []) = (s, []) := by
  refine List.foldl_fixed' (fun r => ?_) rs
  unfold percRule
  simp only [idle r]

theorem State.wakeRules_of_none (none : ∀ r : Fin 32, rKind s.pwr.ruleWord[r] ≠ 4) : s.wakeRules = [] :=
  List.filter_eq_nil_iff.mpr fun r _ wakes => none r (beq_iff_eq.mp wakes)

theorem State.wokenRules_of_none (none : ∀ r : Fin 32, rKind s.pwr.ruleWord[r] ≠ 4) : s.wokenRules = [] := by
  rw [State.wokenRules, State.wakeRules_of_none none]
  simp only [List.map_nil, List.flatMap_eq_nil_iff, implies_true]

theorem execPercTimer_of_due {r : Fin 32} (timer : rKind s.pwr.ruleWord[r] = 5)
    (due : (s.pwr.rules[r]).timerFrom + secs s.pwr.timerS[fin 4 (by decide) (rIdx s.pwr.ruleWord[r])] ≤ max s.nt tm) :
    execPercTimer r tm s = .next (State.fireRules ((s.adv tm).modPwr fun p => { p with
      rules := p.rules.set r { p.rules[r] with
        timerFrom := (s.pwr.rules[r]).timerFrom + secs s.pwr.timerS[fin 4 (by decide) (rIdx s.pwr.ruleWord[r])] } })
      [(r, rClusters s.pwr.ruleWord[r], rFw s.pwr.ruleWord[r], 8)]) := if_pos ⟨timer, due⟩

/-- A silent rule that fires is not reported, whatever number notes its cause. -/
theorem State.percNotified_of_silent {r : Fin 32} (s : State) (n x : Nat) (silent : rEvent s.pwr.ruleWord[r] = false) :
    (if rEvent (s.modPwr fun p => { p with wakeCause := n }).pwr.ruleWord[r] then
      (s.modPwr fun p => { p with wakeCause := n }).event 0x0881 0 x else s.modPwr fun p => { p with wakeCause := n }) =
      s.modPwr fun p => { p with wakeCause := n } :=
  if_neg (Bool.eq_false_iff.mp silent)

/-- A rule without an event fires: the cause is noted, and its clusters wake. -/
theorem State.fireRules_of_silent {r : Fin 32} (cl src : Nat) (fw : Bool) (silent : rEvent s.pwr.ruleWord[r] = false) :
    s.fireRules [(r, cl, fw, src)] = (s.modPwr fun p =>
      { p with wakeCause := r.val + 32 + src * 256 + cl * 65536 + b2n fw * 2 ^ 24 }).percWake cl fw := by
  simp only [State.fireRules, State.each, List.foldl_cons, List.foldl_nil, List.any_cons, List.any_nil, Nat.zero_or,
    Bool.or_false]
  generalize r.val + 32 + src * 256 + cl * 65536 + b2n fw * 2 ^ 24 = n
  exact congrArg (State.percWake · cl fw) (s.percNotified_of_silent n _ silent)

end

/-- Settles O48: a sample writes the state of the rules and takes what came since the last one. -/
theorem percolatorRules : Obligations.PercolatorRules := by
  unfold Obligations.PercolatorRules
  refine ⟨?idle, ?timer, ?other, ?fire, ?early, ?sample⟩
  case idle =>
    intro tm s due quiet
    have sampled := percRules_of_idle (s := s.adv tm) allRules fun r => (quiet r).1
    have done := execPercolatorSample_of_due due sampled
    have nothing : (allRules.flatMap fun r => (([] : List FiredRule) ++ (s.adv tm).wokenRules).filter (·.1 == r)) = [] := by
      rw [State.wokenRules_of_none (s := s.adv tm) fun r => (quiet r).2]
      simp only [List.append_nil, List.filter_nil, List.flatMap_eq_nil_iff, implies_true]
    rw [nothing] at done
    refine ⟨_, done, rfl, rfl, rfl, rfl, rfl, rfl, fun none => ?_⟩
    change (List.replicate (if (s.adv tm).wakeRules.isEmpty then s.pwr.wakeFrames.length else 0) ()).foldl _ _ = _
    rw [none, List.length_nil, ite_self, List.replicate_zero, List.foldl_nil]
    rfl
  case timer => exact fun _ _ _ => execPercTimer_of_due
  case other => exact fun r tm s other => if_neg fun timer => other timer.1
  case fire => exact fun r cl src fw s silent => ⟨_, State.fireRules_of_silent cl src fw silent, rfl, rfl⟩
  case early => exact fun _ _ early => execPercolatorSample_of_early early
  case sample =>
    intro tm s due
    obtain ⟨x, l, sampled⟩ := percRules_changes allRules (s.adv tm, [])
    exact ⟨_, _, execPercolatorSample_of_due due sampled, rfl, rfl, rfl, rfl, rfl⟩

end Sys2Proof.Machine

namespace Sys2Proof.Machine

/-! ## Margins: the items that the ageing unit tracks (R506). -/

/-- The same state with other items of margin. -/
def State.withItems (s : State) (l : List Margin) : State := s.modAge fun k => { k with items := l }

theorem State.margin_withItems (s : State) (kind inst : Nat) (v : Rat) :
    ∃ l, s.margin kind inst v = s.withItems l := by
  by_cases known : (s.age.items.any fun x => x.kind == kind && x.inst == inst) = true
  · exact ⟨_, congrArg (fun k => { s with age := k }) (if_pos known)⟩
  · exact ⟨_, congrArg (fun k => { s with age := k }) (if_neg known)⟩

theorem State.replanned_withItems (s : State) (kind inst : Nat) : ∃ l, s.replanned kind inst = s.withItems l := ⟨_, rfl⟩

section
variable {s : State} {l : List Margin}

theorem State.withItems_pget (id : Nat) : (s.withItems l).pget id = s.pget id := (rfl)
theorem State.withItems_pN (id : Nat) : (s.withItems l).pN id = s.pN id := s.withItems_pget id

end

/-! ## The supply (R500, R501). -/

/-- The AVS law: the next voltage of the core supply for a slack, in mV (R500). -/
def State.avsNext (s : State) (slack : Int) : Nat :=
  if slack < (s.pN Pid.ageAvsSlackTgt : Int) ∧ s.age.vdd < s.pN Pid.ageAvsVmax then
    min (s.age.vdd + 5) (s.pN Pid.ageAvsVmax)
  else if !decide (slack < (s.pN Pid.ageAvsSlackTgt : Int)) && decide ((s.pN Pid.ageAvsSlackTgt : Int) + 20 < slack ∧
      750 < s.age.vdd ∧ s.age.vddAt + ms 1000 ≤ s.nt) then s.age.vdd - 5
  else s.age.vdd

/-- A voltage's margin, and new plans when the voltage moved, write items alone. -/
theorem State.avsSettled_withItems (s : State) (m : Rat) (still : Prop) [Decidable still] :
    ∃ l, (if still then s.margin 2 0 m else ((s.margin 2 0 m).replanned 1 0).replanned 2 0) = s.withItems l := by
  obtain ⟨l, e⟩ := s.margin_withItems 2 0 m
  by_cases h : still
  · exact ⟨l, (if_pos h).trans e⟩
  · rw [if_neg h, e]
    exact ⟨_, rfl⟩

section
variable {s : State} {x : Int} {tm : Nat}

/-- A slack is taken, the law's voltage is set, and a supply at its limit that lacks slack is reported. -/
theorem execAvsUpdate_of_on (full : s.fullService = true) (on : s.pN Pid.ageAvsEnable ≠ 0)
    (serving : s.pwr.state ≠ .service) :
    ∃ t, execAvsUpdate x tm s = .next (if x < (s.pN Pid.ageAvsSlackTgt : Int) ∧ s.age.vdd = s.pN Pid.ageAvsVmax then
        t.raise 0x9002 0 [] else t) ∧ t.age.vdd = (s.adv tm).avsNext x ∧ t.age.slack = x ∧
      t.out = s.out ++ [.avs ((s.adv tm).avsNext x)] ∧ t.flt = s.flt := by
  have full' : ¬(!(s.adv tm).fullService) = true := by
    rw [show (s.adv tm).fullService = true from full]
    exact Bool.false_ne_true
  unfold execAvsUpdate
  extract_lets u tgt vmax v slackTaken up down w set told next
  rw [if_neg full']
  obtain ⟨k, taken⟩ : ∃ k, slackTaken = (u.modAge fun k => { k with slack := x }).withItems k :=
    State.margin_withItems _ _ _ _
  have law : w = (s.adv tm).avsNext x := by
    unfold w up down
    rw [taken]
    rfl
  have off : ¬(slackTaken.pN Pid.ageAvsEnable = 0 ∨ (slackTaken.pwr.state == DevState.service) = true) := by
    rw [taken, State.withItems_pN]
    exact fun h => h.elim on fun service => serving (beq_iff_eq.mp service)
  obtain ⟨l, settled⟩ : ∃ l, next = (set.emit (.avs w)).withItems l := State.avsSettled_withItems _ _ _
  have unset : (set.emit (.avs w)).age.vdd = w ∧ (set.emit (.avs w)).age.slack = x ∧
      (set.emit (.avs w)).out = s.out ++ [.avs w] ∧ (set.emit (.avs w)).flt = s.flt := by
    unfold set
    rw [taken]
    exact ⟨rfl, rfl, rfl, rfl⟩
  rw [if_neg off, ← law]
  exact ⟨next, rfl, settled ▸ unset⟩

theorem State.avsNext_rise (short : x < (s.pN Pid.ageAvsSlackTgt : Int)) (below : s.age.vdd < s.pN Pid.ageAvsVmax) :
    s.avsNext x = min (s.age.vdd + 5) (s.pN Pid.ageAvsVmax) := if_pos ⟨short, below⟩

theorem State.avsNext_of_limit (atLimit : s.age.vdd = s.pN Pid.ageAvsVmax) (short : x < (s.pN Pid.ageAvsSlackTgt : Int)) :
    s.avsNext x = s.age.vdd := by
  unfold State.avsNext
  rw [if_neg fun rise => absurd atLimit rise.2.ne, decide_eq_true short, Bool.not_true, Bool.false_and, if_neg Bool.false_ne_true]

/-- With slack enough the voltage goes down when all of R500's conditions hold, and stays otherwise. -/
theorem State.avsNext_of_slack (enough : ¬x < (s.pN Pid.ageAvsSlackTgt : Int)) : s.avsNext x =
    if (s.pN Pid.ageAvsSlackTgt : Int) + 20 < x ∧ 750 < s.age.vdd ∧ s.age.vddAt + ms 1000 ≤ s.nt then s.age.vdd - 5
    else s.age.vdd := by
  unfold State.avsNext
  rw [if_neg fun rise => enough rise.1, decide_eq_false enough, Bool.not_false, Bool.true_and]
  simp only [decide_eq_true_eq]

variable {mv : Nat}

/-- The droops of the last second, one of this moment among them. -/
abbrev State.droopsAt (s : State) (tm : Nat) : List Nat := within (secs 1) (max s.nt tm) (max s.nt tm :: s.age.droopAt)

/-- Droops noted among other items stay what they are, and so do the stagger and the faults. -/
theorem State.droopAt_noted (s : State) (d : List Nat) (l : List Margin) :
    let t := (s.modAge fun a => { a with droopAt := d }).withItems l
    t.age.droopAt = d ∧ t.age.stagger = s.age.stagger ∧ t.flt = s.flt := ⟨rfl, rfl, rfl⟩

/-- A droop beyond DROOP_MAX is kept among those of the last second; a third of them doubles the stagger and is reported. -/
theorem execSupplyDroop_of_deep (deep : s.pN Pid.ageDroopMax < mv) : ∃ k l, execSupplyDroop mv tm s = .next
    (if 3 ≤ (s.droopsAt tm).length then
      (((s.adv tm).modAge fun a => { a with droopAt := [], stagger := 2 * a.stagger }).withItems k).raise 0x0105 0 []
    else ((s.adv tm).modAge fun a => { a with droopAt := s.droopsAt tm }).withItems l) := by
  obtain ⟨l, noted⟩ := (s.adv tm).margin_withItems 3 0 (mv : Rat)
  unfold execSupplyDroop
  extract_lets u v droops doubled
  have noted : v = (s.adv tm).withItems l := noted
  have droops_eq : droops = s.droopsAt tm := by
    unfold droops
    rw [noted]
    rfl
  have deep' : v.pN Pid.ageDroopMax < mv := by
    rw [noted]
    exact deep
  obtain ⟨k, settled⟩ := doubled.replanned_withItems 3 0
  rw [if_pos deep', settled, ← droops_eq]
  unfold doubled
  rw [noted, ← apply_ite Host.Outcome.next]
  exact ⟨k, l, rfl⟩

theorem execSupplyDroop_of_small (small : mv ≤ s.pN Pid.ageDroopMax) :
    execSupplyDroop mv tm s = .next ((s.adv tm).margin 3 0 (mv : Rat)) := by
  obtain ⟨l, noted⟩ := (s.adv tm).margin_withItems 3 0 (mv : Rat)
  unfold execSupplyDroop
  extract_lets u v droops doubled
  refine if_neg ?_
  rw [show v = (s.adv tm).withItems l from noted]
  exact Nat.not_lt.mpr small

/-! ## The eye of a link (R502). -/

/-- An eye is noted with its time and as an item of margin. -/
def State.eyeNoted (s : State) (l : Fin 32) (eye : Nat) : State :=
  (s.modLink l fun y => { y with eyeAt := some s.nt }).margin 4 l.val (eye : Rat)

theorem State.eyeNoted_pN (s : State) (l : Fin 32) (eye id : Nat) : (s.eyeNoted l eye).pN id = s.pN id := by
  obtain ⟨k, noted⟩ := (s.modLink l fun y => { y with eyeAt := some s.nt }).margin_withItems 4 l.val (eye : Rat)
  rw [State.eyeNoted, noted, State.withItems_pN]
  exact State.pget_modLink rfl id

theorem State.eyeNoted_nt (s : State) (l : Fin 32) (eye : Nat) : (s.eyeNoted l eye).nt = s.nt := by
  obtain ⟨k, noted⟩ := (s.modLink l fun y => { y with eyeAt := some s.nt }).margin_withItems 4 l.val (eye : Rat)
  rw [State.eyeNoted, noted]
  rfl

/-- An eye is not taken: the link is not UP, or it was measured within the last second and no violation was seen. -/
def State.eyeSkipped (s : State) (l : Fin 32) (viol : Bool) (tm : Nat) : Bool :=
  s.links[l].state != .up || (!viol && s.links[l].eyeAt.any fun t => decide (max s.nt tm < t + secs 1))

variable {l : Fin 32} {eye set : Nat} {viol : Bool}

theorem State.eyeSkipped_of_first (up : s.links[l].state = .up) (now : viol = true ∨ s.links[l].eyeAt = none) :
    s.eyeSkipped l viol tm = false := by
  rw [State.eyeSkipped, up, bne_self_eq_false, Bool.false_or]
  rcases now with violated | first
  · rw [violated, Bool.not_true, Bool.false_and]
  · rw [first, Option.any_none, Bool.and_false]

theorem State.eyeSkipped_of_old (up : s.links[l].state = .up)
    (old : (s.links[l].eyeAt.any fun t => decide (max s.nt tm < t + secs 1)) = false) : s.eyeSkipped l viol tm = false := by
  rw [State.eyeSkipped, up, bne_self_eq_false, Bool.false_or, old, Bool.and_false]

/-- A fixed setting stays what a link uses. -/
theorem execEyeTune_of_fixed (taken : s.eyeSkipped l viol tm = false) (fixed : s.pN (Pid.lnkEq l.val) = set)
    (not255 : set ≠ 255) : execEyeTune l eye viol tm s = .next (((s.adv tm).eyeNoted l eye).modLink l
      fun y => { y with eye := eye, eq := set, eyeLow := none, eqTrial := none }) := by
  unfold execEyeTune
  extract_lets u x w v now
  have now_eq : now = set := ((s.adv tm).eyeNoted_pN l eye _).trans fixed
  rw [now_eq]
  exact (if_neg (Bool.eq_false_iff.mp taken)).trans (if_pos not255)

/-- The time since which the eye of a link is below EYE_MIN. -/
def State.eyeLowFrom (s : State) (l : Fin 32) (eye now : Nat) : Option Nat :=
  if eye < s.pN Pid.ageEyeMin then some (s.links[l].eyeLow.getD now) else none

/-- A setting on trial stays when the eye grew by 3, and otherwise the one before it comes back. -/
theorem execEyeTune_of_trial {prev pe : Nat} (taken : s.eyeSkipped l false tm = false)
    (tuned : s.pN (Pid.lnkEq l.val) = 255) (trial : s.links[l].eqTrial = some (prev, pe)) :
    execEyeTune l eye false tm s = if pe + 3 ≤ eye then
      .next ((((s.adv tm).eyeNoted l eye).modLink l fun y =>
        { y with eye := eye, eqTrial := none, eqTried := [prev], eyeLow := s.eyeLowFrom l eye (max s.nt tm) }).replanned 4 l.val)
    else .next (((s.adv tm).eyeNoted l eye).modLink l fun y =>
      { y with eqTrial := none, eqTried := y.eq :: y.eqTried, eq := prev, eye := pe }) := by
  unfold execEyeTune
  extract_lets u x w v now minE low
  have now_eq : now = 255 := ((s.adv tm).eyeNoted_pN l eye _).trans tuned
  have minE_eq : minE = s.pN Pid.ageEyeMin := (s.adv tm).eyeNoted_pN l eye _
  have low_eq : low = s.eyeLowFrom l eye (max s.nt tm) := by
    unfold low
    rw [minE_eq, show v.nt = max s.nt tm from (s.adv tm).eyeNoted_nt l eye]
    rfl
  have trial' : x.eqTrial = some (prev, pe) := trial
  rw [now_eq, low_eq, trial']
  exact (if_neg (Bool.eq_false_iff.mp taken)).trans (if_neg fun h => h rfl)

/-- An eye that is large enough starts no trial. -/
theorem execEyeTune_of_good (taken : s.eyeSkipped l viol tm = false) (tuned : s.pN (Pid.lnkEq l.val) = 255)
    (trial : s.links[l].eqTrial = none) (good : s.pN Pid.ageEyeMin ≤ eye) :
    execEyeTune l eye viol tm s = .next (((s.adv tm).eyeNoted l eye).modLink l fun y =>
      { y with eye := eye, eyeLow := none, eqTried := [] }) := by
  unfold execEyeTune
  extract_lets u x w v now minE low back noted due
  have now_eq : now = 255 := ((s.adv tm).eyeNoted_pN l eye _).trans tuned
  have minE_eq : minE = s.pN Pid.ageEyeMin := (s.adv tm).eyeNoted_pN l eye _
  have low_eq : low = none := by
    unfold low
    rw [minE_eq]
    exact if_neg (Nat.not_lt.mpr good)
  have trial' : x.eqTrial = none := trial
  have undue : (!due) = true := by
    unfold due
    rw [low_eq]
    rfl
  have noted_eq : noted = v.modLink l fun y => { y with eye := eye, eyeLow := none, eqTried := [] } := by
    unfold noted
    rw [low_eq]
    rfl
  rw [now_eq, trial', undue, Bool.true_or, noted_eq]
  exact (if_neg (Bool.eq_false_iff.mp taken)).trans (if_neg fun h => h rfl)

/-! ## The junction temperature (R452, R498, R499). -/

/-- The time since which a temperature is above a limit, in 0.1 degrees. -/
def hotFrom (limit x : Int) (since : Option Nat) (now : Nat) : Option Nat :=
  if limit < x then some (since.getD now) else none

theorem hotFrom_of_le {limit : Int} (cool : x ≤ limit) (since : Option Nat) (now : Nat) : hotFrom limit x since now = none :=
  if_neg (Int.not_lt.mpr cool)

/-- A temperature that is only now above a limit has not been so for any time. -/
theorem not_long_hotFrom {limit : Int} {d : Nat} (now : Nat) (pos : 0 < d) :
    (hotFrom limit x none now).any (fun t => decide (t + d ≤ now)) = false := by
  unfold hotFrom
  split
  · exact decide_eq_false (by simp only [Option.getD_none]; omega)
  · rfl

/-- A sample of the junction temperature is taken with what the crystal measured. -/
def State.junctionTaken (s : State) (x : Int) : State :=
  s.modAge fun k =>
    { k with tj := x, hist := histAdd k.hist x 1000000, tjWarn := decide (s.pI 16 Pid.ageTjWarn * 10 < x),
             tjHot := hotFrom 1250 x k.tjHot s.nt, tjVery := hotFrom 1500 x k.tjVery s.nt,
             xtalSum := k.xtalSum + (s.net.rate : Rat), xtalN := k.xtalN + 1 }

/-- A sample within the crystal's hour, with no temperature above a limit for its time, reports at most the warning. -/
theorem execJunctionSample_of_brief (counting : s.age.xtalN + 1 < 3600000)
    (hot : (hotFrom 1250 x s.age.tjHot (max s.nt tm)).any (fun t => decide (t + ms 10 ≤ max s.nt tm)) = false)
    (very : (hotFrom 1500 x s.age.tjVery (max s.nt tm)).any (fun t => decide (t + ms 1 ≤ max s.nt tm)) = false) :
    execJunctionSample x tm s = .next (if s.pI 16 Pid.ageTjWarn * 10 < x ∧ (!s.age.tjWarn) = true then
      ((s.adv tm).junctionTaken x).raise 0x0103 0 [] else (s.adv tm).junctionTaken x) := by
  unfold execJunctionSample
  extract_lets u warn hotT veryT was taken ppm far warned hour counted told hotTold
  have counting' : taken.age.xtalN < 3600000 := counting
  have counted_eq : counted = taken := if_pos counting'
  have told_nt : told.nt = max s.nt tm := by
    unfold told
    rw [counted_eq]
    split
    · exact taken.raise_nt _ _ _ _
    · rfl
  have hotTold_eq : hotTold = told := by
    unfold hotTold
    rw [told_nt, show hotT.any _ = false from hot, Bool.false_and]
    exact if_neg Bool.false_ne_true
  rw [hotTold_eq, told_nt, show veryT.any _ = false from very, if_neg Bool.false_ne_true]
  unfold told
  rw [counted_eq]
  rfl

theorem execLifeFlush_of_due (due : s.age.flushAt + secs 86400 ≤ max s.nt tm) : execLifeFlush tm s =
    .next ((s.adv tm).modAge fun k =>
      { k with flushAt := max s.nt tm, flashHist := k.hist, flashAx := k.axes.map AgeAx.hist }) :=
  congrArg Host.Outcome.next (if_pos due)

end

/-- Settles O49: each event's equation, in the case of the clause. -/
theorem supplyEyeAndTemperature : Obligations.SupplyEyeAndTemperature := by
  unfold Obligations.SupplyEyeAndTemperature
  refine ⟨?rise, ?limit, ?third, ?small, ?fixed, ?reverted, ?warned, ?cool, ?flush, ?lower, ?hold, ?droop, ?kept, ?good, ?hot⟩
  case rise =>
    rintro x v tm s full on serving rfl short below
    obtain ⟨t, done, vdd, slack, out, flt⟩ := execAvsUpdate_of_on (x := x) (tm := tm) full on serving
    rw [if_neg fun h => absurd h.2 below.ne] at done
    have next : (s.adv tm).avsNext x = _ := State.avsNext_rise short below
    rw [next] at vdd out
    exact ⟨t, done, vdd, slack, out, flt⟩
  case limit =>
    rintro x v tm s full on serving rfl short atLimit
    obtain ⟨t, done, vdd, slack, out, flt⟩ := execAvsUpdate_of_on (x := x) (tm := tm) full on serving
    rw [if_pos ⟨short, atLimit⟩] at done
    have next : (s.adv tm).avsNext x = _ := State.avsNext_of_limit atLimit short
    exact ⟨t, done, vdd.trans next, flt⟩
  case third =>
    intro mv tm s deep third
    obtain ⟨k, l, done⟩ := execSupplyDroop_of_deep (tm := tm) deep
    rw [if_pos third] at done
    exact ⟨_, done, rfl, rfl, rfl⟩
  case small => exact fun mv tm s => execSupplyDroop_of_small
  case fixed =>
    exact fun l eye tm set viol s up fixed not255 now => execEyeTune_of_fixed (State.eyeSkipped_of_first up now) fixed not255
  case reverted =>
    intro l eye tm prev pe s up tuned trial worse old
    exact (execEyeTune_of_trial (State.eyeSkipped_of_old up old) tuned trial).trans (if_neg (Nat.not_le.mpr worse))
  case warned =>
    intro x tm s counting above quiet cool
    have done := execJunctionSample_of_brief (x := x) (tm := tm) counting
      (by rw [hotFrom_of_le cool]; rfl) (by rw [hotFrom_of_le (by omega)]; rfl)
    rw [quiet, if_pos ⟨above, Bool.not_false⟩] at done
    exact ⟨_, done, rfl, decide_eq_true above, rfl, rfl, rfl⟩
  case cool =>
    intro x tm s counting below cool
    have done := execJunctionSample_of_brief (x := x) (tm := tm) counting
      (by rw [hotFrom_of_le cool]; rfl) (by rw [hotFrom_of_le (by omega)]; rfl)
    rw [if_neg fun h => absurd h.1 (Int.not_lt.mpr below)] at done
    exact ⟨_, done, rfl, decide_eq_false (Int.not_lt.mpr below), rfl, rfl⟩
  case flush => exact fun tm s => execLifeFlush_of_due
  case lower =>
    rintro x tm v s full on serving rfl ample above waited
    have enough : ¬x < (s.pN Pid.ageAvsSlackTgt : Int) := by omega
    obtain ⟨t, done, vdd, slack, out, flt⟩ := execAvsUpdate_of_on (x := x) (tm := tm) full on serving
    rw [if_neg fun h => enough h.1] at done
    have next : (s.adv tm).avsNext x = _ :=
      (State.avsNext_of_slack (s := s.adv tm) enough).trans (if_pos ⟨ample, above, waited⟩)
    rw [next] at vdd out
    exact ⟨t, done, vdd, slack, out, flt⟩
  case hold =>
    rintro x tm v s full on serving rfl least still
    have enough : ¬x < (s.pN Pid.ageAvsSlackTgt : Int) := Int.not_lt.mpr least
    obtain ⟨t, done, vdd, slack, out, flt⟩ := execAvsUpdate_of_on (x := x) (tm := tm) full on serving
    rw [if_neg fun h => enough h.1] at done
    have stays : ¬((s.pN Pid.ageAvsSlackTgt : Int) + 20 < x ∧ 750 < s.age.vdd ∧ s.age.vddAt + ms 1000 ≤ max s.nt tm) := by
      omega
    have next : (s.adv tm).avsNext x = _ := (State.avsNext_of_slack (s := s.adv tm) enough).trans (if_neg stays)
    rw [next] at vdd out
    exact ⟨t, done, vdd, slack, out, flt⟩
  case droop =>
    intro mv tm s deep fewer
    obtain ⟨k, l, done⟩ := execSupplyDroop_of_deep (tm := tm) deep
    rw [if_neg (Nat.not_le.mpr fewer)] at done
    exact ⟨_, done, State.droopAt_noted _ _ _⟩
  case kept =>
    rintro l eye _ tm prev pe s up tuned trial rfl better old
    exact (execEyeTune_of_trial (State.eyeSkipped_of_old up old) tuned trial).trans (if_pos better)
  case good =>
    exact fun l eye viol tm s up tuned trial good old => execEyeTune_of_good (State.eyeSkipped_of_old up old) tuned trial good
  case hot =>
    intro x tm s above counting warned hot very
    have done := execJunctionSample_of_brief (x := x) (tm := tm) counting
      (by rw [hot]; exact not_long_hotFrom _ (by decide)) (by rw [very]; exact not_long_hotFrom _ (by decide))
    rw [warned, if_neg fun h => Bool.false_ne_true h.2] at done
    have since : hotFrom 1250 x s.age.tjHot (max s.nt tm) = some (max s.nt tm) := by
      rw [hot]
      exact if_pos (by omega)
    have sinceVery : hotFrom 1500 x s.age.tjVery (max s.nt tm) = some (max s.nt tm) := by
      rw [very]
      exact if_pos above
    exact ⟨_, done, rfl, since, sinceVery, rfl, rfl⟩

end Sys2Proof.Machine

namespace Sys2Proof.Machine

/-! ## A network session that is told of the end of SERVICE (R379, R513 to R515). -/

/-- A device in SERVICE with a firmware that it can boot, and a network session that subscribed to SERVICE's event. -/
def leavingService : State :=
  { State.reset with
    pwr := { State.reset.pwr with state := .service }
    sec := { State.reset.sec with
      slots := State.reset.sec.slots.set 0 { good := true }
      sessions := [{ id := 1, mbx := 0, owner := .net, subs := [{ code := 0x0104, inst := 0 }] }] } }

theorem leavingService_due : leavingService.pwr.state = .service ∧ leavingService.age.fwStuck = false ∧
    leavingService.sec.bootable = true ∧ leavingService.age.serviceFrom + ms 60 ≤ max leavingService.nt (ms 60) := by
  decide +kernel

theorem leavingService_own : leavingService.sec.fallback = false ∧ leavingService.sec.rollback = false := ⟨rfl, rfl⟩

/-- The records that wait for the sessions, after a step. -/
def sessionRecords : Host.Outcome State Fault Refusal → Option (List (List EvtRec))
  | .next s => some (s.sec.sessions.map Session.evts)
  | _ => none

theorem sessionRecords_leavingService : sessionRecords (.next leavingService) = some [[]] := by decide +kernel

/-- The event that reports the end of SERVICE waits for the session. -/
theorem sessionRecords_execServiceLeave :
    (sessionRecords (execServiceLeave (ms 60) leavingService)).map (·.map List.length) = some [1] := by decide +kernel

/-- Refutes O51: the last clause leaves the security unit's sessions as they were, but event SERVICE at the end of SERVICE
waits for the session of `leavingService` that subscribed to it. -/
theorem not_firmwareAndSessions : ¬ Obligations.FirmwareAndSessions := by
  unfold Obligations.FirmwareAndSessions
  rintro ⟨-, -, -, -, -, -, leave⟩
  obtain ⟨service, running, bootable, due⟩ := leavingService_due
  obtain ⟨own, kept⟩ := leavingService_own
  obtain ⟨u, v, left, silent, -, sec, -⟩ := leave (ms 60) leavingService service running bootable due
  rw [own, if_neg Bool.false_ne_true] at silent
  rw [kept, if_neg Bool.false_ne_true, silent] at left
  have records : sessionRecords (.next u) = sessionRecords (.next leavingService) :=
    congrArg some (congrArg (fun k : SecSt => k.sessions.map Session.evts) sec)
  have told := sessionRecords_execServiceLeave
  rw [show execServiceLeave (ms 60) leavingService = .next u from left, records, sessionRecords_leavingService] at told
  exact absurd told (by decide)

end Sys2Proof.Machine

namespace Sys2Proof.Machine

/-! ## The ageing of an axis: its derating and its Ke scale (R503, R504). -/

theorem State.replannedIf_withItems (s : State) (kind inst : Nat) (still : Prop) [Decidable still] :
    ∃ l, (if still then s else s.replanned kind inst) = s.withItems l := by
  by_cases h : still
  · exact ⟨s.age.items, if_pos h⟩
  · exact ⟨_, if_neg h⟩

/-- The ageing data of one axis is set. -/
def State.setAgeAx (s : State) (a : Fin 128) (y : AgeAx) : State := s.modAge fun k => { k with axes := k.axes.set a y }

theorem State.setAgeAx_self (s : State) (a : Fin 128) (y : AgeAx) : (s.setAgeAx a y).age.axes[a] = y :=
  vector_set_self ..

theorem State.setAgeAx_of_ne (s : State) {a b : Fin 128} (y : AgeAx) (ne : b ≠ a) :
    (s.setAgeAx a y).age.axes[b] = s.age.axes[b] := by
  exact (vector_set_get ..).trans (if_neg ne.symm)

section
variable {s : State} {a : Fin 128} {tm : Nat}

/-- The derating that the temperature of a bridge and its life ask for. -/
def State.derateGoal (s : State) (a : Fin 128) : Rat :=
  rmin (match s.bridgeTemp a with
    | some x => s.derateT x
    | none => 1) (derateH (lifeOf s.age.axes[a].hist (s.pN Pid.ageBridgeLife)))

theorem execDerateUpdate_of_runs (runs : s.fwRuns = true) (drives : s.drives = true) :
    ∃ t y, execDerateUpdate a tm s = .next t ∧ t.age.axes = ((s.adv tm).setAgeAx a y).age.axes ∧
      y.f = (if (s.adv tm).derateGoal a < s.age.axes[a].f then (s.adv tm).derateGoal a
        else rmin ((s.adv tm).derateGoal a)
          (s.age.axes[a].f + (((max s.nt tm - s.age.axes[a].fAt : Nat) : Rat) / 1000000000) / 100)) ∧
      y.fAt = max s.nt tm := by
  have goes : ¬(!(s.adv tm).fwRuns || !(s.adv tm).drives) = true := by
    rw [show (s.adv tm).fwRuns = true from runs, show (s.adv tm).drives = true from drives]
    exact Bool.false_ne_true
  unfold execDerateUpdate
  extract_lets u x ft fh goal rise f again first y set next
  rw [if_neg goes]
  obtain ⟨l, e⟩ : ∃ l, next = set.withItems l := set.replannedIf_withItems 7 a.val _
  refine ⟨_, y, rfl, ?_, rfl, rfl⟩
  have kept : next.age.axes = set.age.axes := by rw [e]; rfl
  split
  · exact (congrArg AgeSt.axes (next.raise_age _ _ _ _)).trans kept
  · exact kept

/-- The Ke scale that the measured mean asks for, at most 0.01 from the one in force. -/
def AgeAx.nextK (x : AgeAx) : Rat :=
  clampRat (x.k - 1 / 100) (x.k + 1 / 100) (clampRat (7 / 10) 1 (x.keSum / (x.keN : Rat)))

theorem execKeScaleUpdate_of_due (runs : s.fwRuns = true) (drives : s.drives = true)
    (due : s.age.axes[a].kAt + secs 3600 ≤ max s.nt tm) (measured : s.age.axes[a].keN ≠ 0) :
    ∃ t y, execKeScaleUpdate a tm s = .next t ∧ t.age.axes = ((s.adv tm).setAgeAx a y).age.axes ∧
      y.k = s.age.axes[a].nextK ∧ y.keN = 0 ∧ y.kAt = max s.nt tm := by
  have goes : ¬(!(s.adv tm).fwRuns || !(s.adv tm).drives || decide ((s.adv tm).nt < s.age.axes[a].kAt + secs 3600) ||
      decide (s.age.axes[a].keN = 0)) = true := by
    rw [show (s.adv tm).fwRuns = true from runs, show (s.adv tm).drives = true from drives,
      decide_eq_false (show ¬(s.adv tm).nt < _ from Nat.not_lt.mpr due), decide_eq_false measured]
    exact Bool.false_ne_true
  unfold execKeScaleUpdate
  extract_lets u x mean goal k set noted
  obtain ⟨j, noted_eq⟩ : ∃ j, noted = set.withItems j := set.margin_withItems 9 a.val mean
  obtain ⟨l, next_eq⟩ := noted.replannedIf_withItems 9 a.val (k = x.k)
  refine ⟨_, { x with k := k, kAt := u.nt, keSum := 0, keN := 0 }, if_neg goes, ?_, rfl, rfl, rfl⟩
  rw [next_eq, noted_eq]
  rfl

theorem execKeScaleUpdate_of_undue (undue : s.fwRuns = false ∨ s.drives = false ∨
    max s.nt tm < s.age.axes[a].kAt + secs 3600 ∨ s.age.axes[a].keN = 0) : execKeScaleUpdate a tm s = .next (s.adv tm) := by
  refine if_pos ?_
  simp only [Bool.or_eq_true, decide_eq_true_eq, Bool.not_eq_true']
  rcases undue with idle | other | early | none
  · exact .inl (.inl (.inl idle))
  · exact .inl (.inl (.inr other))
  · exact .inl (.inr early)
  · exact .inr none

/-! ## The daily update (R506, R507). -/

/-- The items of a day, each with its next state and whether it is reported. -/
def State.dayOf (u : State) : List (Margin × Margin × Bool) := u.age.items.map fun x => (x, u.dailyItem x)

/-- A day ends: its items take their next states, and those that are short are reported. -/
def State.dayEnded (u : State) (now : Nat) : State :=
  State.each (u.modAge fun k => { k with items := u.dayOf.map fun x => x.2.1, lastDaily := now })
    (u.dayOf.filter fun x => x.2.2) fun t x => t.raise 0x9001 0 [] (x.1.kind + x.1.inst * 256)

/-- The margins of a day: the device's life, the life of the bridges, what the input elements measured, and the friction. -/
def State.dayMeasured (s : State) : State :=
  let s := s.margin 6 0 (lifeOf s.age.hist 175200)
  let s := s.each (allAxes.filter fun a => s.motType a.val ≠ 0) fun t a =>
    t.margin 7 a.val (lifeOf t.age.axes[a].hist (t.pN Pid.ageBridgeLife))
  let s := s.each ((List.range 16).filter fun i => s.fio.cmd.getLsbD i) fun t i =>
    let (v, t) := t.drawRat
    t.margin 8 i v
  s.each ((allAxes.filter fun a => (0 : Nat) < (s.age.axes[a]).fricN)) fun t a =>
    let x := t.age.axes[a]
    let t := t.margin 10 a.val (x.fricSum / (x.fricN : Rat))
    t.modAge fun k => { k with axes := k.axes.set a { x with fricSum := 0, fricN := 0 } }

theorem execDailyUpdate_of_due (runs : s.fwRuns = true) (due : s.age.lastDaily + secs 86400 ≤ max s.nt tm) :
    execDailyUpdate tm s = .next ((s.adv tm).dayMeasured.dayEnded (s.adv tm).dayMeasured.nt) := by
  have goes : ¬(!(s.adv tm).fwRuns || decide ((s.adv tm).nt < (s.adv tm).age.lastDaily + secs 86400)) = true := by
    have due' : ¬(s.adv tm).nt < (s.adv tm).age.lastDaily + secs 86400 := Nat.not_lt.mpr due
    rw [show (s.adv tm).fwRuns = true from runs, decide_eq_false due']
    exact Bool.false_ne_true
  exact if_neg goes

theorem execDailyUpdate_of_early (early : max s.nt tm < s.age.lastDaily + secs 86400) :
    execDailyUpdate tm s = .next (s.adv tm) := by
  refine if_pos ?_
  rw [decide_eq_true (show (s.adv tm).nt < (s.adv tm).age.lastDaily + secs 86400 from early), Bool.or_true]

/-- The measuring of a day writes the ageing unit and draws measurements. -/
theorem State.dayMeasured_same {β : Type} (g : State → β) (s : State) (apart : ∀ (u : State) k c,
    g { u with age := k, freeCtr := c } = g u) : g s.dayMeasured = g s := by
  have margin (t : State) (kind inst : Nat) (v : Rat) : g (t.margin kind inst v) = g t := apart t _ t.freeCtr
  unfold State.dayMeasured
  extract_lets life bridges inputs
  calc g (inputs.each _ _) = g inputs := State.each_same g _ (fun t a => apart t _ t.freeCtr) _ _
    _ = g bridges := State.each_same g _ (fun t i => apart t _ _) _ _
    _ = g life := State.each_same g _ (fun t a => margin t _ _ _) _ _
    _ = g s := margin s _ _ _

/-- Without motors, inputs and measured friction a day's margin is the device's life. -/
theorem State.dayMeasured_of_none (none : ∀ b : Fin 128, s.motType b.val = 0 ∧ s.age.axes[b].fricN = 0)
    (off : s.fio.cmd = 0) : s.dayMeasured = s.margin 6 0 (lifeOf s.age.hist 175200) := by
  obtain ⟨l, e⟩ := s.margin_withItems 6 0 (lifeOf s.age.hist 175200)
  unfold State.dayMeasured
  extract_lets life bridges inputs
  have life_eq : life = s.withItems l := e
  have motors : (allAxes.filter fun b => life.motType b.val ≠ 0) = [] := by
    rw [life_eq]
    exact List.filter_eq_nil_iff.mpr fun b _ motor => of_decide_eq_true motor (none b).1
  have bridges_eq : bridges = life := by
    unfold bridges
    rw [motors, State.each_nil]
  have inputs_eq : inputs = life := by
    unfold inputs
    rw [bridges_eq, show life.fio.cmd = 0#16 by rw [life_eq]; exact off]
    simp only [BitVec.getLsbD_zero, List.filter_false, State.each_nil]
  have friction : (allAxes.filter fun b => (0 : Nat) < inputs.age.axes[b].fricN) = [] := by
    rw [inputs_eq, life_eq]
    exact List.filter_eq_nil_iff.mpr fun b _ some =>
      absurd (none b).2 (Nat.pos_iff_ne_zero.mp (of_decide_eq_true some))
  rw [friction, State.each_nil, inputs_eq]

/-! ## The engine's tests (R508 to R510). -/

theorem State.sliceRepeat_of_none (none : ∀ c : Fin 8, s.age.etest[c] = none) : s.sliceRepeat = Option.none :=
  List.find?_eq_none.mpr fun c _ repeats => by simp [none c] at repeats

/-- A slice that passes, with none to repeat, goes to the next one, and the last ends a cycle. -/
theorem execEngineTestSlice_of_pass (ticking : s.frame.ticking = true) (full : s.fullService = true)
    (none : ∀ c : Fin 8, s.age.etest[c] = none) (fits : (s.adv tm).sliceFits = true) :
    execEngineTestSlice true tm s = .next ((s.adv tm).modAge fun k =>
      { k with slice := if s.age.slice + 1 = 1024 then 0 else s.age.slice + 1,
               cycles := if s.age.slice + 1 = 1024 then count32 k.cycles else k.cycles, sliceTick := some s.frame.tick }) := by
  have goes : ¬(!(s.adv tm).frame.ticking || !(s.adv tm).fullService || !(s.adv tm).sliceFits) = true := by
    rw [show (s.adv tm).frame.ticking = true from ticking, show (s.adv tm).fullService = true from full, fits]
    exact Bool.false_ne_true
  unfold execEngineTestSlice
  extract_lets u again noted
  have again_eq : again = Option.none := State.sliceRepeat_of_none (s := s.adv tm) none
  rw [again_eq]
  exact if_neg goes

/-- A cluster is isolated. -/
def State.isolate (s : State) (c : Fin 8) : State :=
  s.modAge fun k => { k with isolated := k.isolated ||| (1#8 <<< c.val), mcFail := k.mcFail &&& ~~~(1#8 <<< c.val) }

variable {c : Fin 8}

/-- A cluster with no slice to repeat is isolated for its microcode. -/
theorem execEngineTest_of_untried (untried : s.age.etest[c] = none) (failed : s.age.mcFail.getLsbD c.val = true) :
    execEngineTest c tm s = .next (((s.adv tm).isolate c).raise 0x9005 c.val (clusterAxes c)) := by
  unfold execEngineTest
  extract_lets u e done bad rest
  have e_eq : e = none := untried
  have bad_eq : bad = true := by
    unfold bad
    rw [show u.age.mcFail.getLsbD c.val = true from failed, Bool.or_true]
  have rest_eq : rest = u := by
    unfold rest done
    rw [e_eq]
    exact if_neg Bool.false_ne_true
  rw [bad_eq, rest_eq]
  exact congrArg Host.Outcome.next (if_pos rfl)

/-- Three tries end the repeats of a slice, and two failures among them, or the microcode's, isolate the cluster. -/
theorem execEngineTest_of_tried {e : EtestSt} (running : s.age.etest[c] = some e) (tried : 3 ≤ e.tries) :
    execEngineTest c tm s = .next (if (decide (2 ≤ e.fails) || s.age.mcFail.getLsbD c.val) = true then
      (((s.adv tm).modAge fun k => { k with etest := k.etest.set c none }).isolate c).raise 0x9005 c.val (clusterAxes c)
    else (s.adv tm).modAge fun k => { k with etest := k.etest.set c none }) := by
  unfold execEngineTest
  extract_lets u was done bad rest
  have was_eq : was = some e := running
  have bad_eq : bad = (decide (2 ≤ e.fails) || s.age.mcFail.getLsbD c.val) := by
    unfold bad
    rw [was_eq]
    simp only [Option.any_some, tried, true_and]
    rfl
  have rest_eq : rest = u.modAge fun k => { k with etest := k.etest.set c none } := by
    unfold rest done
    rw [was_eq]
    exact if_pos (decide_eq_true tried)
  rw [bad_eq, rest_eq]
  rfl

/-- A cluster's test ends: its result is put off, and a pass ends its isolation. -/
def State.clusterTested (s : State) (c : Fin 8) : State :=
  (s.modAge fun k => { k with clt := k.clt.set c none }).modAge fun k =>
    { k with isolated := k.isolated &&& ~~~(1#8 <<< c.val), mcFail := k.mcFail &&& ~~~(1#8 <<< c.val),
             etest := k.etest.set c none }

theorem State.clusterTested_isolated (s : State) (c : Fin 8) : (s.clusterTested c).age.isolated.getLsbD c.val = false := by
  change (s.age.isolated &&& ~~~(1#8 <<< c.val)).getLsbD c.val = false
  rw [BitVec.getLsbD_and, BitVec.getLsbD_not, BitVec.getLsbD_shiftLeft]
  simp

theorem execClusterTestDone_of_running {x : CltSt} {fail : Bool} {item : Nat} (running : s.age.clt[c] = some x) :
    execClusterTestDone c fail item tm s = .next (State.callDone
      (if fail then (s.adv tm).modAge fun k => { k with clt := k.clt.set c none } else (s.adv tm).clusterTested c)
      0x0A00F001 stOk (leBytes 1 (b2n fail) ++ leBytes 1 (if fail then item else 0))) := by
  have running' : ¬((s.adv tm).age.clt[c].isNone) = true := by
    rw [show (s.adv tm).age.clt[c] = some x from running]
    exact Bool.false_ne_true
  exact if_neg running'

/-- A port's loop is ended. -/
def State.portUnlooped (s : State) (i : Fin 4) : State :=
  ((s.modNet fun n => { n with ports := n.ports.set i { n.ports[i] with looped := false } }).fwdOkSet).modAge fun k =>
    { k with loop := none }

theorem execPortLoopDone_of_over {errors sum : Nat} {x : LoopSt} (running : s.age.loop = some x)
    (ended : x.since + ms (s.pN Pid.netBypassLead) ≤ max s.nt tm) : execPortLoopDone errors sum tm s =
      .next (((s.adv tm).portUnlooped (fin 4 (by decide) x.port)).callDone 0x0A00F002 stOk
        (leBytes 4 errors ++ leBytes 4 (if x.mode = 2 then sum else 0))) := by
  have running' : (s.adv tm).age.loop = some x := running
  unfold execPortLoopDone
  extract_lets u
  rw [show u.age.loop = some x from running']
  exact if_neg (Nat.not_lt.mpr ended)

end

/-- Settles O50: each event's equation, in the case of the clause. -/
theorem ageingUpdatesAndTests : Obligations.AgeingUpdatesAndTests := by
  unfold Obligations.AgeingUpdatesAndTests
  refine ⟨?derate, ?scale, ?early, ?quiet, ?slice, ?cycle, ?bad, ?good, ?microcode, ?passed, ?loop, ?unscaled, ?isolated,
    ?repaired, ?failed, ?day⟩
  case derate =>
    intro a tm s runs drives
    obtain ⟨t, y, done, axes, f, fAt⟩ := execDerateUpdate_of_runs (a := a) (tm := tm) runs drives
    refine ⟨t, _, done, rfl, ?_, ?_, fun b ne => ?_⟩
    · rw [axes, State.setAgeAx_self]
      exact f
    · rw [axes, State.setAgeAx_self]
      exact fAt
    · rw [axes, State.setAgeAx_of_ne _ _ ne]
      rfl
  case scale =>
    intro a tm s runs drives due measured
    obtain ⟨t, y, done, axes, k, keN, kAt⟩ := execKeScaleUpdate_of_due (a := a) (tm := tm) runs drives due measured
    refine ⟨t, done, ?_, ?_, ?_, fun b ne => ?_⟩
    · rw [axes, State.setAgeAx_self]
      exact k
    · rw [axes, State.setAgeAx_self]
      exact keN
    · rw [axes, State.setAgeAx_self]
      exact kAt
    · rw [axes, State.setAgeAx_of_ne _ _ ne]
      rfl
  case early => exact fun tm s => execDailyUpdate_of_early
  case quiet =>
    rintro tm _ s _ runs due none off rfl rfl
    have measured : (s.adv tm).dayMeasured = (s.adv tm).margin 6 0 (lifeOf s.age.hist 175200) :=
      State.dayMeasured_of_none none off
    refine (execDailyUpdate_of_due runs due).trans ?_
    rw [(s.adv tm).dayMeasured_same State.nt fun _ _ _ => rfl, measured]
    rfl
  case slice =>
    intro tm s ticking full none fits more
    have done := execEngineTestSlice_of_pass ticking full none fits
    simp only [if_neg more] at done
    exact done
  case cycle =>
    intro tm s ticking full none fits last
    have done := execEngineTestSlice_of_pass ticking full none fits
    simp only [if_pos last] at done
    exact done
  case bad => exact fun c tm s => rfl
  case good => exact fun c tm s => rfl
  case microcode => exact fun c tm s => execEngineTest_of_untried
  case passed =>
    intro c item tm x s running
    exact ⟨_, execClusterTestDone_of_running (fail := false) running, rfl, vector_set_self ..,
      State.clusterTested_isolated _ c⟩
  case loop =>
    intro errors sum tm x s running ended
    exact ⟨_, execPortLoopDone_of_over running ended, congrArg NetPort.looped (vector_set_self ..), rfl, rfl, rfl⟩
  case unscaled => exact fun a tm s => execKeScaleUpdate_of_undue
  case isolated =>
    intro c e tm s running tried failed
    have done := execEngineTest_of_tried (tm := tm) running tried
    rw [decide_eq_true failed, Bool.true_or, if_pos rfl] at done
    exact done
  case repaired =>
    intro c e tm s running tried few sound
    have done := execEngineTest_of_tried (tm := tm) running tried
    rw [decide_eq_false (Nat.not_le.mpr few), sound, Bool.or_self, if_neg Bool.false_ne_true] at done
    exact done
  case failed => exact fun c x item tm s running => execClusterTestDone_of_running (fail := true) running
  case day =>
    intro tm s runs due
    have now : (s.adv tm).dayMeasured.nt = max s.nt tm := (s.adv tm).dayMeasured_same State.nt fun _ _ _ => rfl
    have done := execDailyUpdate_of_due runs due
    rw [now] at done
    exact ⟨_, _, done, rfl, (s.adv tm).dayMeasured_same State.axes fun _ _ _ => rfl,
      (s.adv tm).dayMeasured_same State.flt fun _ _ _ => rfl⟩

end Sys2Proof.Machine
